-- ==== Sys2Proof/Word.lean ====
section
/-! DEFINITION. The machine's plainest words: bytes, octet strings and sparse tables. -/

namespace Sys2Proof

/-- One octet (R60: every value of the dictionary is carried as octets). -/
abbrev Byte := BitVec 8

/-- An octet string. -/
abbrev Bytes := List Byte

/-- A sparse table over numbered items: strictly rising keys, and no entry that holds the table's
default value (the reading and writing operations stand in Machine/Tab.lean). -/
abbrev Tab (α : Type) := List (Nat × α)

end Sys2Proof
end

