-- ==== Sys2Proof/Syntax.lean ====
section
/-! DEFINITION. The commands of the block: one constructor for every row of spec/opcode_table.json, with the
operands that the chapters of the spec give the step. -/

namespace Sys2Proof

/-- The roles of a session (R63). `nobody` is the role of a window that grants none (R100). -/
inductive Role where
  | nobody | owner | manager | tenant | observer
  deriving DecidableEq, Repr

/-- The four logic dies (Table 1-1). -/
inductive Die where
  | n | c0 | c1 | s
  deriving DecidableEq, Repr

/-- Who writes an object or starts an action: the session's number, its role, and the instance a Tenant
session is bound to (R63). -/
structure Caller where
  sess : Nat
  role : Role
  inst : Nat
  deriving DecidableEq, Repr

/-- The way an operation reaches the dictionary (Table 2-3). -/
inductive Route where
  | dtls | udp | window (w : Nat) | pf | vf (n : Nat)
  deriving DecidableEq, Repr

/-- The Balmuene header of a request and where the datagram came from (Table 2-6, R99). `body` is the number of
octets that follow the header in the datagram; `assoc` is the DTLS association, 0 for plain UDP. -/
structure Header where
  version : Nat
  session : Nat
  seq : Nat
  length : Nat
  body : Nat
  addr : Nat
  port : Nat
  assoc : Nat
  deriving DecidableEq, Repr

/-- How one dictionary operation arrives: a Balmuene datagram, or an operation on an object window (R100),
named by its session number. -/
inductive Via where
  | balmuene (h : Header)
  | window (w : Nat)
  deriving DecidableEq, Repr

/-- One item of a Get, Put or Stage (Table 2-8): `len` is its Length field, `value` the octets present, in network
order (R7). -/
structure Item where
  index : Nat
  sub : Nat
  typ : Nat
  present : Bool
  sel : Nat
  len : Nat
  value : Bytes
  deriving DecidableEq, Repr

/-- A page of direct registers whose write REGISTER_WRITE carries (R18): an object window, the time page of a reader,
the fast I/O page or the basket slots of an instance, a core's kinst, the MSI-X table of a function, or
another page. -/
inductive RegPage where
  | window (w : Nat)
  | time (reader : Nat)
  | fio (inst : Nat)
  | basketIn (inst : Nat)
  | kinst (core : Nat)
  | msix (fn : Nat)
  | other (page : Nat)
  deriving DecidableEq, Repr

/-- A received PTP message (R115 to R117), times in units of 2^−16 ns. `seq` is its sequenceId. -/
inductive PtpMsg where
  /-- Sync: two-step flag, originTimestamp in ns since the epoch, correctionField. -/
  | sync (seq : Nat) (twoStep : Bool) (origin : Int) (correction : Int)
  | followUp (seq : Nat) (origin : Int) (correction : Int)
  /-- Announce of a master. -/
  | announce (priority1 clockClass accuracy variance priority2 identity stepsRemoved : Nat)
      (utcOffset : Int) (utcValid leap61 leap59 : Bool)
  | pdelayReq (seq : Nat) (identity : Nat) (correction : Int)
  /-- Pdelay_Resp: one-step with the turnaround in its correction, or two-step with the request receipt time. -/
  | pdelayResp (seq : Nat) (twoStep : Bool) (t2 : Int) (correction : Int)
  | pdelayRespFollowUp (seq : Nat) (t3 : Int) (correction : Int)
  | delayReq (seq : Nat) (identity : Nat)
  | delayResp (seq : Nat) (t4 : Int) (correction : Int)
  /-- A management message: GET of data set number, or another action. -/
  | management (seq : Nat) (get : Bool) (dataset : Nat)
  /-- A message that uses a feature Table 3-3 marks "No". -/
  | unsupported
  deriving DecidableEq, Repr

/-- A received IRIG-B frame (R118, R119): the code 0 to 7, framing and parity, the TAI or UTC or local second that its
fields name within the year, the year if the code carries one, and the IEEE 1344 fields. -/
structure IrigFrame where
  code : Nat
  modulated : Bool
  framingError : Bool
  parityError : Bool
  secondOfYear : Nat
  year : Option Nat
  leapPending : Bool
  leapNegative : Bool
  localOffset : Int
  quality : Nat
  deriving DecidableEq, Repr

/-- The Xosyn header (Table 6-1) without its Version and Kind. -/
structure XosynHead where
  protection : Bool
  pathB : Bool
  delayValid : Bool
  broadcast : Bool
  priority : Nat
  unassigned : Bool
  hopsLeft : Nat
  destination : Nat
  source : Nat
  flow : Nat
  sequence : Nat
  pathDelay : Nat
  deriving DecidableEq, Repr

/-- One link of an Lsa: far serial, cost, local port, delay valid, LinkDelayTx in units of 2^−8 ns (Table 6-6). -/
structure LsaMsgLink where
  far : Nat
  cost : Nat
  port : Nat
  valid : Bool
  delay : Nat
  deriving DecidableEq, Repr

/-- A received Lsa (Table 6-6). -/
structure LsaMsg where
  serial : Nat
  seq : Nat
  priority : Nat
  address : Option Nat
  request : Nat
  offer : Nat
  links : List LsaMsgLink
  deriving DecidableEq, Repr

/-- A FlowSetup body (Table 6-8) without its Op. -/
structure FlowMsg where
  rate : Nat
  burst : Nat
  hops : List Nat
  cause : Nat
  refusedAt : Nat
  deriving DecidableEq, Repr

/-- A Time body (Table 6-9); the time is a TIME number. -/
structure TimeMsg where
  st : Nat
  clockClass : Nat
  errorLog2 : Nat
  depth : Nat
  origin : Nat
  deriving DecidableEq, Repr

/-- A PondReport body (Table 6-2, kind 0x9). -/
structure ReportMsg where
  seq : Nat
  health : Nat
  share : Nat
  used : Nat
  held : List Nat
  inUse : List Nat
  deriving DecidableEq, Repr

/-- A place of the key MRAM that is found not to pass its check (Table 17-1): the record of a slot or vault record in a
bank, a copy of JournalEpoch, of the ownership record or of the boot record. -/
inductive MramPlace where
  | journal (n bank : Nat)
  | epoch (copy : Nat)
  | ownership (copy : Nat)
  | boot (copy : Nat)
  deriving DecidableEq, Repr

/-- How a client shows itself in a DTLS handshake (R91, R615): not at all, by a certificate with the SHA-384 of its public
key, or by the identity of a pre-shared key. -/
inductive DtlsClient where
  | anonymous
  | cert (key : Bytes)
  | psk (identity : Bytes)
  deriving DecidableEq, Repr

/-- The units that enter a sleep state when they have been idle (Table 18-6) and that no other command puts to sleep. -/
inductive SleepUnit where
  | pipeline | l3Bank | hbmStack | linkGroup
  deriving DecidableEq, Repr

/-- One record of a Digest message (Table 12-4). -/
structure DigestRec where
  inst : Nat
  faulted : Bool
  localReading : Bool
  ferryPending : Bool
  joining : Bool
  tag : Nat
  scan : Nat
  image : Nat
  output : Nat
  deriving DecidableEq, Repr

/-- A Beat body (Table 12-3); the times are TIME numbers. -/
structure BeatMsg where
  time : Nat
  paddle : Nat
  shed : Nat
  eligible : Bool
  faultEligible : Bool
  suspect : Bool
  releaseCause : Bool
  selfTestFail : Bool
  revertSuspended : Bool
  expires : Nat
  deriving DecidableEq, Repr

/-- A ResyncData body (Op 13 of Table 12-2): the entries of segment 0 as their octets. -/
structure ResyncMsg where
  inst : Nat
  segment : Nat
  segments : Nat
  scan : Nat
  offset : Nat
  timerClock : Nat
  entries : List Bytes
  data : Bytes
  deriving DecidableEq, Repr

/-- A Trigger message body (Table 9-9); the crossing is a TIME number, the age in units of 2^−8 ns. -/
structure TriggerMsg where
  unit : Nat
  domain : Nat
  cause : Nat
  interpolated : Bool
  locked : Bool
  record : Nat
  crossing : Nat
  age : Nat
  st : Nat
  errorLog2 : Nat
  deriving DecidableEq, Repr

/-- The commands (spec/opcode_table.json), each after its row. -/
inductive Instr where
  /-- LINK_GROUP_DEGRADED (R24): A link of a multi-link UCIe group fails retraining; the module continues on the remaining links, raises an event and reports Degraded. -/
  | linkGroupDegraded (group : Fin 5) (link : Fin 4)
  /-- LINK_GROUP_FAILED (R25): All N-die to C-die links, or a C-die to S-die link, fail; the module reports Fault and the affected scan processors stop with safe outputs. -/
  | linkGroupFailed (group : Fin 5)
  /-- POND_CREATE_CHILD (R44): PondCreateChild creates a user pond with the written selector under the addressed pond, refused outside instance or user ponds or beyond depth 8. -/
  | pondCreateChild (who : Caller) (pond : Nat) (value : Nat)
  /-- POND_DELETE (R51): PondDelete deletes an empty user pond with no children. -/
  | pondDelete (who : Caller) (pond : Nat) (value : Nat)
  /-- POND_MOVE (R47): PondMove atomically moves a range of items of one kind from the addressed pond to a destination pond, or moves none. -/
  | pondMove (who : Caller) (pond : Nat) (value : Nat)
  /-- POND_ENERGY_SHARE_WRITE (R49): A write of PondEnergyShare is applied only if the committed sums of the pond and its parent stay within their shares. -/
  | pondEnergyShareWrite (who : Caller) (pond : Nat) (value : Nat)
  /-- OPEN (R712): A Balmuene Open is checked for duplicates, reserved byte, role, route, credential, instance and free session, and opens a session. -/
  | openSession (h : Header) (route : Route) (role : Nat) (reserved : Nat) (sel : Nat)
  /-- CLOSE (R97): A Balmuene Close ends the session with its stage set, timed commit and segment buffer. -/
  | close (h : Header)
  /-- KEEPALIVE (R97): A Balmuene Keepalive restarts the session's idle timeout. -/
  | keepalive (h : Header)
  /-- GET (R95): A Get reads 1 to 64 items in order, each with its own code, returning pending or in-force values. -/
  | get (via : Via) (active : Bool) (items : List Item)
  /-- PUT (R67): A Put writes items in order and independently, each taking effect by its apply class or being refused. -/
  | put (via : Via) (items : List Item)
  /-- STAGE (R70): A Stage checks role, lock, type, range and reserved bits of each item and records it with the object's version in the stage set. -/
  | stage (via : Via) (items : List Item)
  /-- COMMIT (R72): A Commit with the Now mode rechecks every staged entry and versions and applies all at one commit instant or none. -/
  | commit (via : Via)
  /-- COMMIT_AT (R74): A Commit with the At mode checks domain and time and holds the checked set as the session's timed commit. -/
  | commitAt (via : Via) (dom : Nat) (time : Nat)
  /-- DISCARD (R75): A Discard withdraws a held timed commit and empties the session's stage set. -/
  | discard (via : Via)
  /-- DESCRIBE (R95): A Describe returns type, apply class, attributes, access, limits, default and name of one object. -/
  | describe (via : Via) (item : Item)
  /-- READ_SEGMENT (R95): A ReadSegment returns a byte range of a large BLOB object. -/
  | readSegment (via : Via) (item : Item) (offset : Nat) (count : Nat)
  /-- WRITE_SEGMENT (R95): A WriteSegment builds a BLOB in the session buffer and takes effect when it writes the object's last byte. -/
  | writeSegment (via : Via) (item : Item) (offset : Nat)
  /-- SESSION_TIMEOUT (R97): A session idle for BalmueneSessionTimeout ends with its stage set and timed commit. -/
  | sessionTimeout (sess : Nat)
  /-- QUIESCE_COMPLETE (R77): Every block quiesced for a commit has finished its quiesce; the values are applied and the blocks resume. -/
  | quiesceComplete (sess : Nat)
  /-- QUIESCE_TIMEOUT (R79): A block has not finished its quiesce 10 ms after the commit started it; the commit is refused and all blocks resume with previous values. -/
  | quiesceTimeout (sess : Nat)
  /-- TIMED_COMMIT_APPLY (R76): The domain reaches a held timed commit's named time; entries are rechecked and applied, or an event from 0xE03 reports the failure. -/
  | timedCommitApply (sess : Nat)
  /-- CONFIG_SAVE (R84): ConfigSave writes the persistent set with CRC-32C and a new sequence number into the older configuration copy. -/
  | configSave (who : Caller) (value : Nat)
  /-- CONFIG_SAVE_DONE (R84): A configuration save ends and ConfigSaveStatus becomes done or failed. -/
  | configSaveDone (ok : Bool)
  /-- CONFIG_RESTORE_DEFAULTS (R670): ConfigRestoreDefaults makes the next module restart ignore and invalidate both saved copies. -/
  | configRestoreDefaults (who : Caller) (value : Nat)
  /-- LOCAL_WINDOW_BINDING (R89): A LocalWindowBinding write rebinds a window's role, ending its session and stage set, refused while the window is busy. -/
  | localWindowBinding (who : Caller) (w : Nat) (value : Nat)
  /-- WIN_CONTROL_COLLISION (R101): A write of WinControl while Busy is 1 is ignored and sets Collision. -/
  | winControlCollision (w : Nat) (value : Nat)
  /-- WINDOW_COMPLETION (R102): A window operation ends, sets Done and the code, and raises the completion event if requested. -/
  | windowCompletion (w : Nat)
  /-- REGISTER_WRITE (R18): A write to a direct register without behaviour of its own stores the value, ignoring reserved bits. -/
  | registerWrite (page : RegPage) (offset : Nat) (value : Nat)
  /-- SHORE_REF_LOST (R106): No shore reference edge for 200 ns; the S-die switches to the backup oscillator and every enabled domain enters RefFault. -/
  | shoreRefLost 
  /-- SHORE_REF_RETURN (R107): After 10 ms of good edges the S-die returns to the shore reference at a tick boundary and domains leave RefFault. -/
  | shoreRefReturn 
  /-- PTP_MESSAGE_RECEIVE (R117): A PTP message of an enabled instance is received; valid offset measurements drive qualification, lock and correction. -/
  | ptpMessageReceive (d : Fin 8) (port : Fin 256) (msg : PtpMsg)
  /-- PTP_SOURCE_LOST (R117): Announce or Sync timeouts lose the PTP source; the domain enters Holdover or FreeRun. -/
  | ptpSourceLost (d : Fin 8)
  /-- SOURCE_SWITCH (R114): A higher-priority source has stayed qualified for 10 s and becomes the active source, treated as a return of reference. -/
  | sourceSwitch (d : Fin 8)
  /-- HOLDOVER_LIMIT_EXCEEDED (R129): EstimatedError grows above HoldoverLimit; the domain enters HoldoverBeyond and raises an event. -/
  | holdoverLimitExceeded (d : Fin 8)
  /-- PPS_IN_EDGE (R120): A PPS_IN edge gives a measurement or is counted as an outlier. -/
  | ppsInEdge 
  /-- IRIG_FRAME (R119): An IRIG-B frame is decoded and labels the PPS_IN edge, or is discarded on a parity or framing error. -/
  | irigFrame (frame : IrigFrame) (marker : Nat)
  /-- PPS_IN_TIMEOUT (R120): No PPS_IN edge for 1.5 s loses source 2. -/
  | ppsInTimeout 
  /-- LEAP_SECOND (R119): At the leap instant the module changes TaiUtcOffset. -/
  | leapSecond (d : Fin 8)
  /-- STEP_APPLY (R133): An announced step is applied at the second boundary at least 1 s after announcement and StepCount increments. -/
  | stepApply (d : Fin 8)
  /-- DOMAIN_SET_TIME (R136): DomainSetTime schedules a step to the written value at the next second boundary at least 10 ms ahead. -/
  | domainSetTime (who : Caller) (d : Fin 8) (time : Nat)
  /-- DOMAIN_STEP (R136): DomainStep announces a step of the written amount on a domain without an active source. -/
  | domainStep (who : Caller) (d : Fin 8) (amount : Int)
  /-- DOMAIN_STEP_TO_REFERENCE (R136): DomainStepToReference announces a step of the measured offset to the active source. -/
  | domainStepToReference (who : Caller) (d : Fin 8) (value : Nat)
  /-- DOMAIN_STEP_CANCEL (R133): DomainStepCancel withdraws a pending step. -/
  | domainStepCancel (who : Caller) (d : Fin 8) (value : Nat)
  /-- DOMAIN_ENABLE (R148): A DomainEnable write enables a domain from zero in FreeRun or disables it, discarding its state and timed commits. -/
  | domainEnable (who : Caller) (d : Fin 8) (value : Nat)
  /-- PAIR_OFFSET_MEASURE (R122): Once per second each module measures its domain offset from the peer and steers if it is the worse one. -/
  | pairOffsetMeasure (d : Fin 8) (offset : Int) (peerState : Nat) (peerTrim : Bool)
  /-- GTC_LO_READ (R138): A read of GtcLo latches GtcHi and GtcFlags for the reader. -/
  | gtcLoRead (reader : Nat)
  /-- DOM_SEC_LO_READ (R138): A read of DomSecLo latches every register of that domain block at one GTC instant. -/
  | domSecLoRead (reader : Nat) (d : Fin 8)
  /-- SNAP_ALL_TRIGGER (R138): Writing Trigger latches the GTC and all eight domains at one instant and sets Ready. -/
  | snapAllTrigger (reader : Nat)
  /-- PG_ARM (R141): PgArm 1 arms a pulse generator after time, ownership, pin, lock and width checks. -/
  | pgArm (who : Caller) (n : Fin 32)
  /-- PG_DISARM (R143): PgArm 2 disarms the generator within 1 µs, letting an active pulse complete. -/
  | pgDisarm (who : Caller) (n : Fin 32)
  /-- PG_EDGE (R140): A generator's leading edge falls at PgStart + n × PgPeriod of its domain. -/
  | pgEdge (n : Fin 32)
  /-- PG_PULSE_END (R140): The active level of a generator pulse ends after PgWidth. -/
  | pgPulseEnd (n : Fin 32)
  /-- PPS_OUT_EDGE (R144): PPS_OUT asserts at each integer second of its domain for PpsOutWidth, subject to state squelch. -/
  | ppsOutEdge (k : Fin 2)
  /-- PPS_OUT_PULSE_END (R144): A PPS_OUT pulse ends after PpsOutWidth. -/
  | ppsOutPulseEnd (k : Fin 2)
  /-- PORT_ENABLE (R156): PortEnable brings a port into bring-up after family and energy checks, or disables it. -/
  | portEnable (who : Caller) (n : Fin 256) (value : Nat)
  /-- PORT_MODE (R151): A PortMode write changes the port's mode, width and FEC default after family and ownership checks. -/
  | portMode (who : Caller) (n : Fin 256) (value : Nat)
  /-- PORT_FEC (R152): A PortFec write selects the FEC listed for the mode in force. -/
  | portFec (who : Caller) (n : Fin 256) (value : Nat)
  /-- LINK_UP (R160): A port whose PCS and FEC have been aligned without fault for LinkUpHold enters Up. -/
  | linkUp (n : Fin 256) (since : Nat)
  /-- LINK_FAULT (R160): A PCS loss of lock, FEC alignment loss or fault sequence takes the port out of Up, discarding its queues. -/
  | linkFault (n : Fin 256) (remote : Bool)
  /-- SIGNAL_LOSS_SLEEP (R162): An enabled port with no signal for 1 s enters Sleep. -/
  | signalLossSleep (n : Fin 256) (since : Nat)
  /-- SIGNAL_DETECT (R162): The signal detector of a sleeping or faulted port sees signal and the port enters Training. -/
  | signalDetect (n : Fin 256)
  /-- TRAINING_RESTART (R163): A port still Training at twice its bound raises an event and restarts training. -/
  | trainingRestart (n : Fin 256)
  /-- FEC_DEGRADED (R164): The pre-FEC symbol error ratio over 1 s exceeds 10^-4 and FecDegraded is set, or clears. -/
  | fecDegraded (n : Fin 256) (ratio : Nat)
  /-- PORT_RESET (R166): PortReset 1 takes the port out of Up, reinitialises MAC, PCS and FEC and restarts bring-up. -/
  | portReset (who : Caller) (n : Fin 256)
  /-- PORT_RESET_FORCED (R167): PortReset 2 resets a port even when its lanes are in use by a running instance. -/
  | portResetForced (who : Caller) (n : Fin 256)
  /-- FRAME_RECEIVE (R172): A frame is received, stamped, checked, copied to the local path and switched through the pipeline stages. -/
  | frameReceive (n : Fin 256) (octets : Bytes)
  /-- FRAME_TRANSMIT (R174): At the end of a frame the transmitter starts the next frame from the highest eligible queue. -/
  | frameTransmit (n : Fin 256)
  /-- LPI_ENTER (R176): A port whose queues have been empty for 20 µs under the LPI conditions enters transmit low-power idle. -/
  | lpiEnter (n : Fin 256)
  /-- LPI_WAKE (R176): A frame arriving during LPI waits the wake time Tw and then transmits. -/
  | lpiWake (n : Fin 256)
  /-- DOWNSHIFT_REQUEST (R179): Utilisation below 10 % for 100 ms, or a thermal request, sends a ShiftRequest to 50 Gbit/s. -/
  | downshiftRequest (n : Fin 256) (thermal : Bool)
  /-- UPSHIFT_REQUEST (R180): Utilisation above 40 % for 1 ms or a stream admission sends a ShiftRequest to 100 Gbit/s. -/
  | upshiftRequest (n : Fin 256)
  /-- SHIFT_REQUEST (R181): A received ShiftRequest is accepted or declined, with crossing requests resolved by lower fabric address. -/
  | shiftRequest (n : Fin 256) (txn : Nat) (target : Nat) (source : Nat) (admitted : Nat)
  /-- SHIFT_ACCEPT (R182): A received ShiftAccept makes the end finish its frame, send a ShiftMarker and switch its transmitter. -/
  | shiftAccept (n : Fin 256) (txn : Nat)
  /-- SHIFT_DECLINE (R179): A received ShiftDecline ends the shift attempt. -/
  | shiftDecline (n : Fin 256) (txn : Nat) (cause : Nat)
  /-- SHIFT_MARKER (R182): A received ShiftMarker switches the receiver to the stored adaptation state. -/
  | shiftMarker (n : Fin 256) (txn : Nat) (aligned : Bool)
  /-- SHIFT_TX_RESUME (R182): 10 µs after a switch the transmitter resumes sending held frames. -/
  | shiftTxResume (n : Fin 256)
  /-- SHIFT_ALIGN_FAIL (R183): A direction not aligned 100 µs after its marker takes the port out of Up and brings it up at 100 Gbit/s. -/
  | shiftAlignFail (n : Fin 256)
  /-- PORT_COUNTER_SNAPSHOT (R185): PortCounterSnapshot copies every counter of the port into its snapshot set at one GTC instant. -/
  | portCounterSnapshot (who : Caller) (n : Fin 256) (value : Nat)
  /-- ALL_PORT_SNAPSHOT (R185): AllPortSnapshot snapshots all 256 ports at one GTC instant. -/
  | allPortSnapshot (who : Caller) (value : Nat)
  /-- PORT_COUNTER_CLEAR (R188): PortCounterClear clears the live counters and the snapshot set together. -/
  | portCounterClear (who : Caller) (n : Fin 256) (value : Nat)
  /-- FILTER_ENTRY_WRITE (R171): A MAC filter entry write takes effect between two frames, refused for a duplicate address. -/
  | filterEntryWrite (who : Caller) (n : Fin 256) (slot : Fin 16) (value : Nat)
  /-- OCTET_PLL_LOCK_LOSS (R190): An octet PLL loses lock, takes its ports out of Up and restarts bring-up after relock. -/
  | octetPllLockLoss (k : Fin 32)
  /-- OCTET_PLL_STOP (R151): The octet PLL stops 1 ms after its last lane goes Off. -/
  | octetPllStop (k : Fin 32)
  /-- STREAM_ADMIT (R204): Writing a stream entry with Admitted 1 runs the admission checks and admits it within 2 µs. -/
  | streamAdmit (who : Caller) (e : Fin 2048) (value : Bytes)
  /-- ADMISSION_SHIFT_WAIT (R205): An admission waiting up to 10 ms for an upshift is checked again at 100 Gbit/s or refused. -/
  | admissionShiftWait (e : Fin 2048)
  /-- STREAM_WITHDRAW (R207): Writing Admitted 0 withdraws a stream entry and releases its bandwidth and reserve charge. -/
  | streamWithdraw (who : Caller) (e : Fin 2048) (value : Bytes)
  /-- LEARN (R216): A queued learn inserts, refreshes or moves a learning table entry, or is skipped. -/
  | learn (pipeline : Fin 8)
  /-- SKIMMER_SWEEP (R218): Once per SkimmerInterval the skimmer clears hit bits and removes stale learned entries. -/
  | skimmerSweep 
  /-- STATIC_MAC_WRITE (R221): Writing a static slot with Valid 1 places its entry in the learning table. -/
  | staticMacWrite (who : Caller) (slot : Fin 16384) (value : Bytes)
  /-- SOUNDING_PASS (R230): The sounding engine compares every table row with its HBM shadow and reports rows that differ on two passes. -/
  | soundingPass 
  /-- DROP_EVENT (R223): At most once per second a changed drop counter raises an event with the drops since the last one. -/
  | dropEvent (counter : Nat)
  /-- SHAPER_RATE_WRITE (R225): A ShaperRate write keeps the accrued level and accrues at the new rate from its GTC instant. -/
  | shaperRateWrite (who : Caller) (n : Fin 256) (q : Fin 6) (value : Nat)
  /-- RED_SUPERVISION_SEND (R231): A redundancy group sends a supervision frame every RedLifeCheckInterval. -/
  | redSupervisionSend (g : Fin 32)
  /-- RED_NODE_FORGET (R231): A node table source not seen for RedForgetTime is forgotten. -/
  | redNodeForget (g : Fin 32) (address : Nat)
  /-- XOSYN_HELLO_SEND (R241): Each enabled module sends a Hello on every Up port of PortKind 1 every HelloInterval. -/
  | xosynHelloSend (n : Fin 256)
  /-- XOSYN_HELLO (R241): A received Hello sets the neighbour TwoWay, Init or Foreign. -/
  | xosynHello (n : Fin 256) (serial : Nat) (fabricId : Nat) (address : Option Nat) (seen : Bool)
  /-- NEIGHBOUR_TIMEOUT (R241): No Hello for 3 × HelloInterval makes the neighbour Down. -/
  | neighbourTimeout (n : Fin 256)
  /-- DELAY_REQ_SEND (R242): Each end of a TwoWay link sends a DelayReq every DelayInterval and records t1. -/
  | delayReqSend (n : Fin 256)
  /-- DELAY_REQ (R242): A received DelayReq is answered with a DelayResp carrying t2 and the one-step residence. -/
  | delayReq (n : Fin 256) (source : Option Nat) (seq : Nat)
  /-- DELAY_RESP (R243): A received DelayResp gives a delay measurement that updates the link delay mean or counts as an outlier. -/
  | delayResp (n : Fin 256) (t2 : Nat) (residence : Nat) (seq : Nat)
  /-- LSA_ORIGINATE (R244): A module originates its Lsa on a change of link, cost, address or delay, or every 30 s. -/
  | lsaOriginate 
  /-- LSA (R244): A received Lsa with a higher LsaSeq replaces the stored one and is flooded. -/
  | lsa (n : Fin 256) (head : XosynHead) (msg : LsaMsg)
  /-- LSA_AGE_OUT (R244): An Lsa not refreshed for 120 s is removed. -/
  | lsaAgeOut (serial : Nat)
  /-- ADDRESS_DECIDE (R247): Within 10 ms of an Lsa change the root decides addresses and broadcasts AddressAssign for each change. -/
  | addressDecide 
  /-- ADDRESS_ASSIGN (R248): A received AddressAssign grants an address or takes it away with Cause 1. -/
  | addressAssign (serial : Nat) (address : Option Nat) (cause : Nat)
  /-- ROUTE_COMPUTE (R249): Routes are recomputed within 20 ms of a database change, atomically per destination. -/
  | routeCompute 
  /-- FLOW_ENABLE (R252): Writing a FlowEntry with Enable 1 checks it and sets up the flow's paths, or waits for Member. -/
  | flowEnable (who : Caller) (f : Fin 1024) (value : Bytes)
  /-- FLOW_DISABLE (R252): Writing Enable 0 releases both paths of the flow. -/
  | flowDisable (who : Caller) (f : Fin 1024) (value : Bytes)
  /-- FLOW_SETUP (R253): A received FlowSetup Setup is checked at a transit or destination module and forwarded, acknowledged or refused. -/
  | flowSetup (n : Fin 256) (head : XosynHead) (msg : FlowMsg)
  /-- FLOW_ACK (R253): A received Ack completes a path at the origin and installs charges along the way. -/
  | flowAck (n : Fin 256) (head : XosynHead) (msg : FlowMsg)
  /-- FLOW_REFUSE (R254): A received Refuse releases the path and recomputes once without the refusing element. -/
  | flowRefuse (n : Fin 256) (head : XosynHead) (msg : FlowMsg)
  /-- FLOW_RELEASE (R257): A received Release removes a transit entry and releases its bandwidth and reserve. -/
  | flowRelease (n : Fin 256) (head : XosynHead) (msg : FlowMsg)
  /-- FLOW_SETUP_TIMEOUT (R254): A path with no Ack within 100 ms is refused with cause 8. -/
  | flowSetupTimeout (f : Fin 1024) (pathB : Bool)
  /-- FLOW_DATA (R256): A FlowData frame at the sink is presented to stage 5 as received on the stream's port, first copy only. -/
  | flowData (n : Fin 256) (head : XosynHead) (carried : Bytes)
  /-- TIME_SEND (R258): A member offering TD_d broadcasts a Time message every 125 ms. -/
  | timeSend (d : Fin 8)
  /-- TIME (R258): A received Time message gives a source 3 measurement. -/
  | time (source : Nat) (d : Fin 8) (offer : TimeMsg) (pathDelay : Nat) (valid : Bool)
  /-- FABRIC_SOURCE_LOST (R258): Three missing Time intervals lose source 3. -/
  | fabricSourceLost (d : Fin 8) (address : Nat)
  /-- POND_REPORT_SEND (R259): A member broadcasts a PondReport every ReportInterval and on a State change. -/
  | pondReportSend 
  /-- POND_REPORT (R259): A received PondReport updates the fabric pond aggregate. -/
  | pondReport (source : Nat) (msg : ReportMsg)
  /-- MEMBER_STALE (R259): A report older than 3 × ReportInterval sets Stale. -/
  | memberStale (address : Nat)
  /-- DATAGRAM (R250): A Datagram addressed to the module is delivered to DatagramRing, or forwarded on its route. -/
  | datagram (n : Fin 256) (head : XosynHead) (payload : Bytes)
  /-- SINK_ENTRY_WRITE (R256): A SinkEntry write names a (Source, Flow) and its stream entry, refused for duplicates. -/
  | sinkEntryWrite (who : Caller) (k : Fin 2048) (value : Bytes)
  /-- SINK_PATH_SILENT (R264): One path of a sink silent for 10 ms while the other delivers raises an event. -/
  | sinkPathSilent (k : Fin 2048) (pathB : Bool)
  /-- INTAKE_FRAME (R275): An intake copy is validated and its ASDUs or blocks are judged for lateness and placed on the grid. -/
  | intakeFrame 
  /-- HORIZON_CLOSE (R286): The domain reaches t + H + 24 µs and the open entries of instant t close as missing. -/
  | horizonClose (e : Fin 2048)
  /-- INTAKE_ENABLE (R273): IntakeEnable 1 binds a stream after the binding checks; 0 unbinds it. -/
  | intakeEnable (who : Caller) (e : Fin 2048) (value : Nat)
  /-- INTAKE_KEY_SLOTS (R278): An IntakeKeySlots write names the stream's key slots between two frames. -/
  | intakeKeySlots (who : Caller) (e : Fin 2048) (value : Nat)
  /-- STREAM_SILENT (R295): A bound stream with no placement for 1 ms or 10 periods becomes Silent or Rejecting. -/
  | streamSilent (e : Fin 2048)
  /-- FILTER_OUTPUT (R315): `c` is a filter channel: standard s as s, wavefront w as 2^16 + w (Table 16-2). -/
  | filterOutput (c : Nat)
  /-- PHASOR_OUTPUT (R325): A phasor and, for trackers, frequency record is produced from source outputs. -/
  | phasorOutput (p : Fin 2048)
  /-- FILTER_INPUT (R302): A FilterInput write switches the channel's slot from the next instant and restarts settling. -/
  | filterInput (who : Caller) (c : Nat) (value : Nat)
  /-- FILTER_ENABLE (R303): FilterEnable 1 starts a channel with cleared memory after its checks; 0 stops it. -/
  | filterEnable (who : Caller) (c : Nat) (value : Nat)
  /-- FILTER_SCALE (R313): A FilterScale write applies to outputs after its effective GTC. -/
  | filterScale (who : Caller) (c : Nat) (value : Bytes)
  /-- FIR_SET_WRITE (R312): A FirSet write loads coefficients, refused while the set is named by a running channel unless Corrupt. -/
  | firSetWrite (who : Caller) (k : Fin 64) (value : Bytes)
  /-- PHASOR_ENABLE (R325): PhasorEnable 1 starts a phasor channel after its ordered checks. -/
  | phasorEnable (who : Caller) (p : Fin 2048) (value : Nat)
  /-- TRACKER_ENABLE (R327): TrackerEnable 1 starts a frequency tracker on enabled reference phasors. -/
  | trackerEnable (who : Caller) (t : Fin 64) (value : Nat)
  /-- CHAIN_ECC_ERROR (R329): An uncorrectable SRAM error restarts a channel or marks a FIR set Corrupt. -/
  | chainEccError (corrected : Bool) (fir : Bool) (n : Nat)
  /-- CHAIN_SCRUB_PASS (R329): A chain scrub pass completes, raising an event if it took over 100 ms. -/
  | chainScrubPass (micros : Nat)
  /-- UNIT_ARM (R348): UnitArm 1 checks and arms a trigger unit, binding its HBM pages and entering Filling. -/
  | unitArm (who : Caller) (u : Fin 64)
  /-- UNIT_DISARM (R370): UnitArm 2 disarms the unit at once. -/
  | unitDisarm (who : Caller) (u : Fin 64)
  /-- UNIT_DISARM_AFTER_FREEZE (R370): UnitArm 3 disarms the unit after its open record freezes. -/
  | unitDisarmAfterFreeze (who : Caller) (u : Fin 64)
  /-- TRIGGER_DECIDE (R344): A condition completes its hold and the unit decides a trigger, opening or extending a record and acting on it. -/
  | triggerDecide (u : Fin 64)
  /-- UNIT_SOFT_TRIGGER (R336): UnitSoftTrigger decides a software trigger at the write's effective GTC. -/
  | unitSoftTrigger (who : Caller) (u : Fin 64) (value : Nat)
  /-- RECORD_FREEZE (R349): When every source has stored the end instant the record freezes and the next slot becomes active. -/
  | recordFreeze (u : Fin 64)
  /-- RECORD_LOCK (R353): RecordControl 1 locks a frozen slot. -/
  | recordLock (who : Caller) (u : Fin 64) (slot : Fin 256)
  /-- RECORD_UNLOCK (R353): RecordControl 2 unlocks a slot. -/
  | recordUnlock (who : Caller) (u : Fin 64) (slot : Fin 256)
  /-- RECORD_RELEASE (R353): RecordControl 3 empties a frozen or locked slot. -/
  | recordRelease (who : Caller) (u : Fin 64) (slot : Fin 256)
  /-- RIPPLE_EDGE (R358): An asserting edge of the line, or its return. -/
  | rippleEdge (line : Fin 8) (asserted : Bool)
  /-- RIPPLE_RELEASE (R357): A ripple line asserted by this module is released after RippleWidth. -/
  | rippleRelease (line : Fin 8)
  /-- RIPPLE_STUCK (R359): A line asserted for more than 1 ms is Stuck and ignored until deasserted for 1 ms. -/
  | rippleStuck (line : Fin 8)
  /-- TRIGGER (R361): A received Trigger message is offered to matching Remote units and placed by path delay and Age. -/
  | trigger (n : Fin 256) (head : XosynHead) (msg : TriggerMsg)
  /-- EXPORT_REQUEST (R367): ExportRequest writes a frozen record as a COMTRADE CFF file at ExportTarget. -/
  | exportRequest (who : Caller) (value : Nat)
  /-- EXPORT_DONE (R367): The export under way ends; failed says that the file could not be written. -/
  | exportDone (failed : Bool)
  /-- ACQ_ECC_ERROR (R368): An uncorrectable HBM error in a record sets Suspect and raises an event. -/
  | acqEccError (corrected : Bool) (u : Fin 64) (slot : Fin 256)
  /-- LOCKSTEP_MISMATCH (R378): A core compare difference puts the scan processor in Fault and its instances Faulted. -/
  | lockstepMismatch (p : Fin 32)
  /-- SP_RECOVER (R379): SpRecover runs the self-test of a faulted scan processor. -/
  | spRecover (who : Caller) (p : Fin 32) (value : Nat)
  /-- SP_SELF_TEST_DONE (R379): The self-test ends within 5 ms with the processor Ready or Failed. -/
  | spSelfTestDone (p : Fin 32) (pass : Bool)
  /-- SP_ECC_ERROR (R380): An error in code or data memory, in the region of an instance. -/
  | spEccError (p : Fin 32) (corrected : Bool) (code : Bool) (inst : Fin 256)
  /-- SP_SCRUB_PASS (R380): A scan processor scrub pass completes, with an event if over 100 ms. -/
  | spScrubPass (p : Fin 32) (micros : Nat)
  /-- PROGRAM_LOAD (R384): ProgramLoad reads and checks an image, making it the program or the ferry candidate. -/
  | programLoad (who : Caller) (inst : Fin 256) (address : Nat)
  /-- PROGRAM_LOAD_DONE (R384): A program load ends within 5 ms with its code in ProgramStatus. -/
  | programLoadDone (inst : Fin 256)
  /-- COLD_START (R386): ScanControl 1 cold-starts an instance after the ordered start checks. -/
  | coldStart (who : Caller) (inst : Fin 256)
  /-- WARM_START (R386): ScanControl 2 warm-starts an instance from its retained copy. -/
  | warmStart (who : Caller) (inst : Fin 256)
  /-- STOP (R388): ScanControl 3 stops the instance at its next boundary with safe outputs. -/
  | stopCmd (who : Caller) (inst : Fin 256)
  /-- IMAGE_FREEZE (R30): At F_k the engine freezes and copies the input image and basket into data memory and releases the job. -/
  | imageFreeze (inst : Fin 256)
  /-- OVERRUN (R397): A scan exceeds its budget or deadline; it is stopped, discarded and the instance Faulted. -/
  | overrun (inst : Fin 256)
  /-- SCAN_BOUNDARY (R399): At B_k the engine commits the scan's record, applies B-class values and switches ferries. -/
  | scanBoundary (inst : Fin 256)
  /-- AUTO_RESTART (R398): A Faulted instance makes a warm start by itself 10 ms after the fault within its limit. -/
  | autoRestart (inst : Fin 256)
  /-- FERRY_SWITCH (R410): FerrySwitch makes a program switch pending at the named scan number. -/
  | ferrySwitch (who : Caller) (inst : Fin 256) (scan : Nat)
  /-- FERRY_CANCEL (R410): FerryCancel withdraws a pending switch and discards the candidate. -/
  | ferryCancel (who : Caller) (inst : Fin 256) (value : Nat)
  /-- ADDI (R424): Adds a sign-extended immediate. -/
  | addi (inst : Fin 256) (d a : Fin 32) (imm : Fin 65536)
  /-- ANDI (R424): ANDs a zero-extended immediate. -/
  | andi (inst : Fin 256) (d a : Fin 32) (imm : Fin 65536)
  /-- ORI (R424): ORs a zero-extended immediate. -/
  | ori (inst : Fin 256) (d a : Fin 32) (imm : Fin 65536)
  /-- XORI (R424): XORs a zero-extended immediate. -/
  | xori (inst : Fin 256) (d a : Fin 32) (imm : Fin 65536)
  /-- SHI_SLL (R425): Shifts left by an immediate amount. -/
  | shiSll (inst : Fin 256) (d a : Fin 32) (amount : Fin 64)
  /-- SHI_SRL (R425): Shifts right with zero fill by an immediate amount. -/
  | shiSrl (inst : Fin 256) (d a : Fin 32) (amount : Fin 64)
  /-- SHI_SRA (R425): Shifts right with sign fill by an immediate amount. -/
  | shiSra (inst : Fin 256) (d a : Fin 32) (amount : Fin 64)
  /-- CMPI (R424): Sets flags from a register minus an immediate. -/
  | cmpi (inst : Fin 256) (a : Fin 32) (imm : Fin 65536)
  /-- MOVI (R424): Loads a sign-extended immediate. -/
  | movi (inst : Fin 256) (d : Fin 32) (imm : Fin 65536)
  /-- CATI (R424): Shifts a register left 16 and appends an immediate. -/
  | cati (inst : Fin 256) (d a : Fin 32) (imm : Fin 65536)
  /-- LDB (R421): Loads a sign-extended byte. -/
  | ldb (inst : Fin 256) (d a : Fin 32) (imm : Fin 65536)
  /-- LDBU (R421): Loads a zero-extended byte. -/
  | ldbu (inst : Fin 256) (d a : Fin 32) (imm : Fin 65536)
  /-- LDH (R421): Loads a sign-extended halfword. -/
  | ldh (inst : Fin 256) (d a : Fin 32) (imm : Fin 65536)
  /-- LDHU (R421): Loads a zero-extended halfword. -/
  | ldhu (inst : Fin 256) (d a : Fin 32) (imm : Fin 65536)
  /-- LDW (R421): Loads a sign-extended word. -/
  | ldw (inst : Fin 256) (d a : Fin 32) (imm : Fin 65536)
  /-- LDWU (R421): Loads a zero-extended word. -/
  | ldwu (inst : Fin 256) (d a : Fin 32) (imm : Fin 65536)
  /-- LDD (R421): Loads a doubleword. -/
  | ldd (inst : Fin 256) (d a : Fin 32) (imm : Fin 65536)
  /-- FLDW (R421): Loads 4 bytes into an F register. -/
  | fldw (inst : Fin 256) (d a : Fin 32) (imm : Fin 65536)
  /-- STB (R421): Stores a byte. -/
  | stb (inst : Fin 256) (d a : Fin 32) (imm : Fin 65536)
  /-- STH (R421): Stores a halfword. -/
  | sth (inst : Fin 256) (d a : Fin 32) (imm : Fin 65536)
  /-- STW (R421): Stores a word. -/
  | stw (inst : Fin 256) (d a : Fin 32) (imm : Fin 65536)
  /-- STD (R421): Stores a doubleword. -/
  | std (inst : Fin 256) (d a : Fin 32) (imm : Fin 65536)
  /-- FSTW (R421): Stores an F register. -/
  | fstw (inst : Fin 256) (d a : Fin 32) (imm : Fin 65536)
  /-- B (R420): Branches when its condition holds. -/
  | bCmd (inst : Fin 256) (cond : Fin 16) (offset : Fin 4194304)
  /-- BL (R420): Branches and saves the return address in G31. -/
  | bl (inst : Fin 256) (offset : Fin 67108864)
  /-- JR (R438): Jumps to a register address, optionally linking. -/
  | jr (inst : Fin 256) (d a : Fin 32)
  /-- BZ (R420): Branches when a register is zero. -/
  | bz (inst : Fin 256) (a : Fin 32) (offset : Fin 2097152)
  /-- BNZ (R420): Branches when a register is nonzero. -/
  | bnz (inst : Fin 256) (a : Fin 32) (offset : Fin 2097152)
  /-- ADD (R424): Adds two registers. -/
  | add (inst : Fin 256) (d a b : Fin 32)
  /-- SUB (R424): Subtracts two registers. -/
  | sub (inst : Fin 256) (d a b : Fin 32)
  /-- ADDS (R424): Adds with saturation. -/
  | adds (inst : Fin 256) (d a b : Fin 32)
  /-- SUBS (R424): Subtracts with saturation. -/
  | subs (inst : Fin 256) (d a b : Fin 32)
  /-- NEG (R424): Negates a register. -/
  | neg (inst : Fin 256) (d a : Fin 32)
  /-- NEGS (R424): Negates with saturation. -/
  | negs (inst : Fin 256) (d a : Fin 32)
  /-- ABS (R424): Takes the absolute value. -/
  | abs (inst : Fin 256) (d a : Fin 32)
  /-- ABSS (R424): Takes the absolute value with saturation. -/
  | abss (inst : Fin 256) (d a : Fin 32)
  /-- CMP (R424): Sets flags from the difference of two registers. -/
  | cmp (inst : Fin 256) (a b : Fin 32)
  /-- MUL (R424): Multiplies, keeping the low 64 bits. -/
  | mul (inst : Fin 256) (d a b : Fin 32)
  /-- MULS (R424): Multiplies with saturation. -/
  | muls (inst : Fin 256) (d a b : Fin 32)
  /-- MULH (R424): Gives the high 64 bits of the signed product. -/
  | mulh (inst : Fin 256) (d a b : Fin 32)
  /-- MULHU (R424): Gives the high 64 bits of the unsigned product. -/
  | mulhu (inst : Fin 256) (d a b : Fin 32)
  /-- DIV (R426): Divides signed, rounding toward zero. -/
  | div (inst : Fin 256) (d a b : Fin 32)
  /-- DIVU (R426): Divides unsigned. -/
  | divu (inst : Fin 256) (d a b : Fin 32)
  /-- REM (R426): Gives the signed remainder. -/
  | rem (inst : Fin 256) (d a b : Fin 32)
  /-- REMU (R426): Gives the unsigned remainder. -/
  | remu (inst : Fin 256) (d a b : Fin 32)
  /-- AND (R424): ANDs two registers. -/
  | andCmd (inst : Fin 256) (d a b : Fin 32)
  /-- OR (R424): ORs two registers. -/
  | orCmd (inst : Fin 256) (d a b : Fin 32)
  /-- XOR (R424): XORs two registers. -/
  | xor (inst : Fin 256) (d a b : Fin 32)
  /-- ANDN (R424): ANDs with the complement of a register. -/
  | andn (inst : Fin 256) (d a b : Fin 32)
  /-- NOT (R424): Complements a register. -/
  | notCmd (inst : Fin 256) (d a : Fin 32)
  /-- SLL (R425): Shifts left by a register amount. -/
  | sll (inst : Fin 256) (d a b : Fin 32)
  /-- SRL (R425): Shifts right with zero fill by a register amount. -/
  | srl (inst : Fin 256) (d a b : Fin 32)
  /-- SRA (R425): Shifts right with sign fill by a register amount. -/
  | sra (inst : Fin 256) (d a b : Fin 32)
  /-- MIN (R424): Gives the signed smaller value. -/
  | minCmd (inst : Fin 256) (d a b : Fin 32)
  /-- MAX (R424): Gives the signed larger value. -/
  | maxCmd (inst : Fin 256) (d a b : Fin 32)
  /-- MINU (R424): Gives the unsigned smaller value. -/
  | minu (inst : Fin 256) (d a b : Fin 32)
  /-- MAXU (R424): Gives the unsigned larger value. -/
  | maxu (inst : Fin 256) (d a b : Fin 32)
  /-- SEXT8 (R424): Sign-extends the low byte. -/
  | sext8 (inst : Fin 256) (d a : Fin 32)
  /-- SEXT16 (R424): Sign-extends the low halfword. -/
  | sext16 (inst : Fin 256) (d a : Fin 32)
  /-- SEXT32 (R424): Sign-extends the low word. -/
  | sext32 (inst : Fin 256) (d a : Fin 32)
  /-- ZEXT8 (R424): Zero-extends the low byte. -/
  | zext8 (inst : Fin 256) (d a : Fin 32)
  /-- ZEXT16 (R424): Zero-extends the low halfword. -/
  | zext16 (inst : Fin 256) (d a : Fin 32)
  /-- ZEXT32 (R424): Zero-extends the low word. -/
  | zext32 (inst : Fin 256) (d a : Fin 32)
  /-- SAT16 (R424): Limits to the 16-bit signed range. -/
  | sat16 (inst : Fin 256) (d a : Fin 32)
  /-- SAT32 (R424): Limits to the 32-bit signed range. -/
  | sat32 (inst : Fin 256) (d a : Fin 32)
  /-- CLZ (R424): Counts leading zero bits. -/
  | clz (inst : Fin 256) (d a : Fin 32)
  /-- SEL (R424): Selects one of two registers by a condition. -/
  | sel (inst : Fin 256) (cond : Fin 16) (d a b : Fin 32)
  /-- FADD (R427): Adds binary32 values. -/
  | fadd (inst : Fin 256) (d a b : Fin 32)
  /-- FSUB (R427): Subtracts binary32 values. -/
  | fsub (inst : Fin 256) (d a b : Fin 32)
  /-- FMUL (R427): Multiplies binary32 values. -/
  | fmul (inst : Fin 256) (d a b : Fin 32)
  /-- FDIV (R427): Divides binary32 values. -/
  | fdiv (inst : Fin 256) (d a b : Fin 32)
  /-- FSQRT (R427): Takes a binary32 square root. -/
  | fsqrt (inst : Fin 256) (d a : Fin 32)
  /-- FMIN (R429): Gives the smaller binary32 value. -/
  | fmin (inst : Fin 256) (d a b : Fin 32)
  /-- FMAX (R429): Gives the larger binary32 value. -/
  | fmax (inst : Fin 256) (d a b : Fin 32)
  /-- FABS (R428): Clears the sign bit. -/
  | fabs (inst : Fin 256) (d a : Fin 32)
  /-- FNEG (R428): Inverts the sign bit. -/
  | fneg (inst : Fin 256) (d a : Fin 32)
  /-- FMOV (R428): Copies an F register. -/
  | fmov (inst : Fin 256) (d a : Fin 32)
  /-- FEQ (R427): Compares for equality quietly. -/
  | feq (inst : Fin 256) (d a b : Fin 32)
  /-- FLT (R427): Compares less than. -/
  | flt (inst : Fin 256) (d a b : Fin 32)
  /-- FLE (R427): Compares less than or equal. -/
  | fle (inst : Fin 256) (d a b : Fin 32)
  /-- FCLASS (R427): Classifies a binary32 value. -/
  | fclass (inst : Fin 256) (d a : Fin 32)
  /-- FCVTFL (R427): Converts a signed integer to binary32. -/
  | fcvtfl (inst : Fin 256) (d a : Fin 32)
  /-- FCVTFLU (R427): Converts an unsigned integer to binary32. -/
  | fcvtflu (inst : Fin 256) (d a : Fin 32)
  /-- FCVTLF (R430): Converts binary32 to integer rounding to nearest even. -/
  | fcvtlf (inst : Fin 256) (d a : Fin 32)
  /-- FCVTLFZ (R430): Converts binary32 to integer rounding toward zero. -/
  | fcvtlfz (inst : Fin 256) (d a : Fin 32)
  /-- FMVGF (R428): Moves F register bits to a G register. -/
  | fmvgf (inst : Fin 256) (d a : Fin 32)
  /-- FMVFG (R428): Moves G register bits to an F register. -/
  | fmvfg (inst : Fin 256) (d a : Fin 32)
  /-- FRNDN (R427): Rounds to an integral value, nearest even. -/
  | frndn (inst : Fin 256) (d a : Fin 32)
  /-- FRNDZ (R427): Rounds to an integral value toward zero. -/
  | frndz (inst : Fin 256) (d a : Fin 32)
  /-- FRNDM (R427): Rounds to an integral value toward minus infinity. -/
  | frndm (inst : Fin 256) (d a : Fin 32)
  /-- FRNDP (R427): Rounds to an integral value toward plus infinity. -/
  | frndp (inst : Fin 256) (d a : Fin 32)
  /-- FMADD (R427): Fused a × b + c. -/
  | fmadd (inst : Fin 256) (d a b c : Fin 32)
  /-- FMSUB (R427): Fused a × b − c. -/
  | fmsub (inst : Fin 256) (d a b c : Fin 32)
  /-- FNMSUB (R427): Fused −(a × b) + c. -/
  | fnmsub (inst : Fin 256) (d a b c : Fin 32)
  /-- FNMADD (R427): Fused −(a × b) − c. -/
  | fnmadd (inst : Fin 256) (d a b c : Fin 32)
  /-- CADD (R432): Adds complex pairs. -/
  | cadd (inst : Fin 256) (d a b : Fin 32)
  /-- CSUB (R432): Subtracts complex pairs. -/
  | csub (inst : Fin 256) (d a b : Fin 32)
  /-- CMUL (R432): Multiplies complex pairs. -/
  | cmul (inst : Fin 256) (d a b : Fin 32)
  /-- CMULC (R432): Multiplies by a complex conjugate. -/
  | cmulc (inst : Fin 256) (d a b : Fin 32)
  /-- CSCL (R432): Scales a complex pair. -/
  | cscl (inst : Fin 256) (d a b : Fin 32)
  /-- CABS (R432): Takes a complex magnitude. -/
  | cabs (inst : Fin 256) (d a : Fin 32)
  /-- CARG (R432): Takes a complex angle. -/
  | carg (inst : Fin 256) (d a : Fin 32)
  /-- CROT (R432): Rotates a complex pair by an angle. -/
  | crot (inst : Fin 256) (d a b : Fin 32)
  /-- CPOL (R432): Forms a complex pair from magnitude and angle. -/
  | cpol (inst : Fin 256) (d a b : Fin 32)
  /-- IENT (R433): Gives the data offset of an image entry header. -/
  | ient (inst : Fin 256) (d a : Fin 32)
  /-- IELT (R435): Gives the offset of an image element, or 0 with Z set. -/
  | ielt (inst : Fin 256) (d a b : Fin 32)
  /-- IQUAL (R435): Gives the offset of an element's quality word, or 0 with Z set. -/
  | iqual (inst : Fin 256) (d a b : Fin 32)
  /-- QCLS (R436): Classifies a quality word. -/
  | qcls (inst : Fin 256) (d a selector : Fin 32)
  /-- TDIFF (R437): Subtracts two memory TIME values. -/
  | tdiff (inst : Fin 256) (d a b : Fin 32)
  /-- TADD (R437): Adds an offset to a memory TIME value. -/
  | tadd (inst : Fin 256) (d a b : Fin 32)
  /-- NOP (R420): Does nothing. -/
  | nop (inst : Fin 256)
  /-- ENDSCAN (R438): Ends the scan; the engine reads outputs and computes OutputDigest. -/
  | endscan (inst : Fin 256)
  /-- RDSR (R419): Reads a special register. -/
  | rdsr (inst : Fin 256) (d sr : Fin 32)
  /-- WRSR (R419): Writes a special register. -/
  | wrsr (inst : Fin 256) (a sr : Fin 32)
  /-- CLRF (R419): Clears the sticky flags. -/
  | clrf (inst : Fin 256)
  /-- ABORT (R423): Ends the scan and makes the instance Faulted with cause Access. -/
  | abort (inst : Fin 256)
  /-- ILLEGAL_INSTRUCTION (R423): An illegal instruction or access fault makes the instance Faulted with cause Access. -/
  | illegalInstruction (inst : Fin 256)
  /-- RETAINED_STORE_WAIT (R422): A store into the retained block waits until the retained copy has read the address. -/
  | retainedStoreWait (inst : Fin 256)
  /-- PAIR_ENABLE (R446): PairEnable 1 starts pair formation; 0 stops it. -/
  | pairEnable (who : Caller) (value : Nat)
  /-- PAIR_HELLO_SEND (R446): A pair Hello is sent every 100 ms and on change. -/
  | pairHelloSend 
  /-- PAIR_HELLO (R446): A received pair Hello forms the pair or sets Conflict. -/
  | pairHello (port : Fin 256) (seq : Nat) (serial : Nat) (pairId : Nat) (role : Nat) (beat : Nat) (dom : Nat)
  /-- PAIR_ISOLATED (R446): No pair message for four beats makes the pair Isolated, and 3 s more Searching. -/
  | pairIsolated 
  /-- BEAT (R463): With the renewal request of each C-die. -/
  | beat (c0 : Bool) (c1 : Bool)
  /-- BEAT_RECEIVE (R467): A received Beat updates the peer's paddle state, eligibility and ExpiresAt. -/
  | beatReceive (port : Fin 256) (seq : Nat) (msg : BeatMsg)
  /-- DIGEST_SEND (R450): After the scan ends and B_k − 20 µs the module sends its digest record. -/
  | digestSend 
  /-- DIGEST (R449): A received Digest message supplies peer records and may raise scan numbers. -/
  | digest (port : Fin 256) (seq : Nat) (records : List DigestRec)
  /-- DIGEST_COMPARE (R452): At B_k − 3 µs each module assigns the paired scan an outcome and commits or empties its record. -/
  | digestCompare (inst : Fin 256)
  /-- STATUS_SEND (R478): A Status is sent every ReportInterval and on a State change. -/
  | statusSend 
  /-- STATUS (R478): A received Status updates the pair pond aggregate. -/
  | status (port : Fin 256) (seq : Nat) (msg : ReportMsg)
  /-- LEASE_EXPIRY (R462): The GTC reaches the lease's converted expiry and authority ends. -/
  | leaseExpiry 
  /-- CLAIM (R466): With the reading of CLAIM_IN_N, true for asserted. -/
  | claim (claimIn : Bool)
  /-- CLAIM_SAMPLE (R466): 200 ns after asserting, CLAIM_IN_N is sampled and the claim is gained, dropped or held. -/
  | claimSample (claimIn : Bool)
  /-- CLAIM_IN_ASSERTED (R467): A holder's CLAIM_IN_N becomes asserted; ROLE_SEL B releases, A keeps the paddle. -/
  | claimInAsserted 
  /-- CLAIM_LINE_FAULT (R468): CLAIM_IN_N has been deasserted since a GTC. -/
  | claimLineFault (since : Nat)
  /-- RELEASE_CAUSE (R470): A release cause makes the holder send Release naming the next beat and stop renewing. -/
  | releaseCause 
  /-- RELEASE (R466): A received Release lets the standby claim at the named instant. -/
  | release (port : Fin 256) (seq : Nat) (instant : Nat) (cause : Nat)
  /-- OFFER (R472): A received Offer is answered Accept or Refuse by the standby. -/
  | offer (port : Fin 256) (seq : Nat) (instant : Nat) (cause : Nat)
  /-- ACCEPT (R472): A received Accept makes the holder release at H. -/
  | accept (port : Fin 256) (seq : Nat) (instant : Nat) (cause : Nat)
  /-- REFUSE (R472): A received Refuse keeps the paddle with the holder. -/
  | refuse (port : Fin 256) (seq : Nat) (instant : Nat) (cause : Nat)
  /-- TAKE_REQUEST (R475): A received TakeRequest is answered by an Offer or Refuse. -/
  | takeRequest (port : Fin 256) (seq : Nat) (instant : Nat) (cause : Nat)
  /-- TAKE_BACK (R475): The preferred standby eligible for RevertHold with enough agreed scans sends TakeRequest. -/
  | takeBack 
  /-- HANDOVER_INSTANT (R472): The domain reaches H and the holder releases or keeps the paddle. -/
  | handoverInstant 
  /-- PADDLE_HAND_OVER (R476): PaddleCommand 1 starts a planned handover to the peer. -/
  | paddleHandOver (who : Caller)
  /-- PADDLE_TAKE (R476): PaddleCommand 2 sends TakeRequest. -/
  | paddleTake (who : Caller)
  /-- CLEAR_SUSPECT (R476): PaddleCommand 3 clears Suspect. -/
  | clearSuspect (who : Caller)
  /-- CLEAR_REVERT_SUSPENDED (R476): PaddleCommand 4 clears RevertSuspended. -/
  | clearRevertSuspended (who : Caller)
  /-- PAIR_JOIN (R460): PairJoin 1 asks for resynchronisation of a Joining or Diverged instance. -/
  | pairJoin (who : Caller) (inst : Fin 256)
  /-- RESYNC_DATA (R459): Received ResyncData replaces the instance's data, TimerClock and queued entries. -/
  | resyncData (port : Fin 256) (seq : Nat) (msg : ResyncMsg)
  /-- RESYNC_ABANDON (R459): A resynchronisation not complete by F_(m+1) − 1 µs is abandoned and retried. -/
  | resyncAbandon (inst : Fin 256)
  /-- FERRY_PROPOSE (R480): A received FerryPropose is accepted and made pending, or cancelled. -/
  | ferryPropose (port : Fin 256) (seq : Nat) (inst : Fin 256) (scan : Nat) (tag : Nat)
  /-- FERRY_ACCEPT (R480): A received FerryAccept makes the proposer's switch pending. -/
  | ferryAccept (port : Fin 256) (seq : Nat) (inst : Fin 256) (scan : Nat) (tag : Nat)
  /-- FERRY_CANCEL_MESSAGE (R480): A received FerryCancel withdraws a pending switch. -/
  | ferryCancelMessage (port : Fin 256) (seq : Nat) (inst : Fin 256) (scan : Nat) (tag : Nat)
  /-- START_PROPOSE (R461): A received StartPropose cold-starts the instance at scan n and answers StartAccept. -/
  | startPropose (port : Fin 256) (seq : Nat) (inst : Fin 256) (mode : Nat) (scan : Nat) (tag : Nat)
  /-- START_ACCEPT (R461): A received StartAccept before F_n − 100 µs lets the proposer cold-start at n. -/
  | startAccept (port : Fin 256) (seq : Nat) (inst : Fin 256) (mode : Nat) (scan : Nat) (tag : Nat)
  /-- SELF_TEST_FAIL (R477): A continuous self-test fails, sets SelfTestFail and may be a hard cause. -/
  | selfTestFail (test : Fin 6)
  /-- FIO_ENTRY_EXECUTE (R494): A queue entry reaches its GTC instant and drives its pin, or is Held. -/
  | fioEntryExecute (pin : Fin 48)
  /-- HELD_ENTRY_DISCARD (R500): A Held entry unresolved at T + 2 × LeaseTime is discarded. -/
  | heldEntryDiscard (pin : Fin 48)
  /-- FQ_SUBMIT (R501): FqSubmit submits a host entry to the schedule queue after its ordered checks. -/
  | fqSubmit (inst : Fin 256)
  /-- FQ_SUBMIT_COLLISION (R501): FqSubmit written while Busy is ignored and sets Collision. -/
  | fqSubmitCollision (inst : Fin 256)
  /-- FIO_INPUT_EDGE (R502): With the first sample at the new level, in half nanoseconds of the GTC. -/
  | fioInputEdge (pin : Fin 48) (high : Bool) (sample : Nat)
  /-- CHATTER_CLEAR (R502): Chatter clears after 10 ms within the edge limit. -/
  | chatterClear (pin : Fin 48)
  /-- READBACK_FAULT (R503): A driven pin read back different for 100 ns sets ReadbackFault; 1 ms agreement clears it. -/
  | readbackFault (pin : Fin 48) (differs : Bool)
  /-- FIO_CLASS_WRITE (R490): A FioClass or FioPolarity change applies via its quiesce, safe state and withdrawn entries. -/
  | fioClassWrite (who : Caller) (pin : Fin 48) (polarity : Bool) (value : Nat)
  /-- LS_CONVERSION (R505): The samples A and B of LS_00 to LS_15. -/
  | lsConversion (samples : List (Nat × Nat))
  /-- LS_CALIBRATE_ZERO (R511): LsCalibrate 1 starts a zero calibration. -/
  | lsCalibrateZero (who : Caller) (m : Fin 16)
  /-- LS_CALIBRATE_SPAN (R511): LsCalibrate 2 starts a span calibration. -/
  | lsCalibrateSpan (who : Caller) (m : Fin 16)
  /-- LS_CALIBRATION_DONE (R512): After 4,096 conversions the calibration is accepted and applied or ends refused. -/
  | lsCalibrationDone (m : Fin 16)
  /-- TCS_DELAY_EXPIRY (R513): A supervision state held for Delay sets or clears TcsAlarm. -/
  | tcsDelayExpiry (m : Fin 16)
  /-- INSTANCE_CREATE (R520): InstanceCreate creates PI_i with an empty pond. -/
  | instanceCreate (who : Caller) (value : Nat)
  /-- INSTANCE_DELETE (R521): InstanceDelete returns items, discards the program and rings and ends sessions. -/
  | instanceDelete (who : Caller) (value : Nat)
  /-- VF_INSTANCE (R524): A VfInstance write binds or unbinds a virtual function. -/
  | vfInstance (who : Caller) (n : Fin 256) (value : Nat)
  /-- FUNCTION_LEVEL_RESET (R526): An FLR abandons DMA, disables host rings, empties the basket and ends the window session. -/
  | functionLevelReset (fn : Fin 256)
  /-- RING_PROD (R529): A host RingProd write publishes produced slots, ignored when it would overfill. -/
  | ringProd (inst : Fin 256) (ring : Fin 10) (value : Nat)
  /-- RING_CONS (R528): A host RingCons write frees consumed slots, ignored beyond RingProd. -/
  | ringCons (inst : Fin 256) (ring : Fin 10) (value : Nat)
  /-- RING_COMMAND (R530): RingCommand 1 drops the rest of the current packet. -/
  | ringCommand (inst : Fin 256) (ring : Fin 10) (value : Nat)
  /-- RING_STATUS_KNOCK (R529): Knocking Overrun clears it. -/
  | ringStatusKnock (inst : Fin 256) (ring : Fin 10) (value : Nat)
  /-- RING_CONFIG (R535): A RingConfig write enables or disables a packet ring. -/
  | ringConfig (who : Caller) (inst : Fin 256) (ring : Fin 8) (value : Bytes)
  /-- TX_PACKET_SEND (R537): The module takes a transmit packet from a ring and sends or rejects it. -/
  | txPacketSend (inst : Fin 256) (ring : Fin 4) (dma : Bytes)
  /-- RESET_DRAIN (R538): ResetCommand 1 starts a drain reset of the instance. -/
  | resetDrain (who : Caller) (inst : Fin 256)
  /-- RESET_SQUASH (R538): ResetCommand 2 starts a squash reset of the instance. -/
  | resetSquash (who : Caller) (inst : Fin 256)
  /-- RESET_COMPLETE (R539): When all reset work ends the instance is emptied and Stopped and ResetStatus is set. -/
  | resetComplete (inst : Fin 256)
  /-- DRAIN_LIMIT_EXPIRY (R540): A drain unfinished at DrainLimit squashes its remaining work. -/
  | drainLimitExpiry (inst : Fin 256)
  /-- HBM_BIND_HOST (R552): HbmBind Op 1 binds pages as Host for an instance. -/
  | hbmBindHost (who : Caller) (inst : Nat) (count : Nat) (first : Nat)
  /-- HBM_BIND_MANAGER (R552): HbmBind Op 2 binds module pond pages as Manager. -/
  | hbmBindManager (who : Caller) (count : Nat) (first : Nat)
  /-- HBM_UNBIND (R553): HbmBind Op 3 unbinds Host or Manager pages within 10 µs. -/
  | hbmUnbind (who : Caller) (count : Nat) (first : Nat)
  /-- HBM_RETIRE (R552): HbmBind Op 4 retires pages until the next power-on. -/
  | hbmRetire (who : Caller) (count : Nat) (first : Nat)
  /-- PROTECTION_VIOLATION (R556): A host access without right is not performed and raises an access fault and event. -/
  | protectionViolation (core : Fin 16) (virt : Bool) (write : Bool) (addr : Nat)
  /-- DMA_VIOLATION (R557): A PCIe DMA write outside its ring pages is discarded and counted. -/
  | dmaViolation (inst : Fin 256) (ring : Fin 8) (addr : Nat) (data : Bytes)
  /-- READ_SHARED (R559): A core's ReadShared is served by the home directory in order. -/
  | readShared (core : Fin 16) (line : Nat)
  /-- READ_UNIQUE (R559): A core's ReadUnique gives the line exclusive, invalidating others. -/
  | readUnique (core : Fin 16) (line : Nat) (store : Option (Nat × Bytes))
  /-- UPGRADE (R559): An Upgrade invalidates other holders of a shared line. -/
  | upgrade (core : Fin 16) (line : Nat) (store : Option (Nat × Bytes))
  /-- WRITEBACK (R560): A Writeback carries dirty data to the directory and is acknowledged. -/
  | writeback (core : Fin 16) (line : Nat) (arrived : Bool)
  /-- CLEAN_EVICT (R559): A CleanEvict removes a holder without data. -/
  | cleanEvict (core : Fin 16) (line : Nat) (arrived : Bool)
  /-- IO_READ (R559): An I/O agent reads the current value of a line. -/
  | ioRead (line : Nat)
  /-- IO_WRITE (R559): An I/O agent writes a line, invalidating holders. -/
  | ioWrite (line : Nat) (offset : Nat) (data : Bytes)
  /-- SNOOP (R561): A snoop reaches a core, answered with data, WritebackInFlight or NotHeld. -/
  | snoop (core : Fin 16) (line : Nat)
  /-- HBM_ECC_ERROR (R565): An uncorrectable HBM or L3 word is poisoned and counted. -/
  | hbmEccError (addr : Nat) (l3 : Bool)
  /-- HBM_ECC_CORRECTED (R564): A corrected error is counted and the word rewritten in the background. -/
  | hbmEccCorrected (addr : Nat) (l3 : Bool) (checkBit : Bool)
  /-- DIRECTORY_ECC_ERROR (R566): An uncorrectable directory entry is rebuilt by snooping every cache. -/
  | directoryEccError (line : Nat)
  /-- HBM_SCRUB_PASS (R568): Every HbmScrubSpacing a scrub pass checks 128 pages of one stack. -/
  | hbmScrubPass (micros : Nat)
  /-- L3_SCRUB_PASS (R568): Every L3ScrubSpacing a scrub pass covers one C-die's L3 and directory. -/
  | l3ScrubPass (die : Fin 2) (micros : Nat)
  /-- EVENT_RAISE_IN_DIE (R582): A die stamps an event into its buffer, or drops it by fill level. -/
  | eventRaiseInDie (die : Die) (source : Fin 4096) (code : Nat) (kind : Nat) (num : Nat) (detail : Nat)
  /-- EVENT_RELEASE (R580): The controller releases the next event in key order to queues, pins and recorder. -/
  | eventRelease (markN : Nat) (markC0 : Nat) (markC1 : Nat) (markS : Nat)
  /-- DIE_SILENT (R583): A die's watermark more than 100 µs behind excludes it from the merge. -/
  | dieSilent (die : Die) (mark : Nat)
  /-- DIE_READMIT (R583): A die whose watermark is within 10 µs is readmitted. -/
  | dieReadmit (die : Die) (mark : Nat)
  /-- EQ_COALESCE_TIMEOUT (R588): CoalesceTime after the first unsignalled entry the queue's interrupt is sent. -/
  | eqCoalesceTimeout (q : Fin 256)
  /-- EQ_KICK (R588): EqKick sends the interrupt now for unsignalled entries. -/
  | eqKick (q : Fin 256)
  /-- EQ_CONFIG (R586): An EqConfig Enable write checks, binds and clears an event queue, or stops it. -/
  | eqConfig (who : Caller) (q : Fin 256) (value : Bytes)
  /-- EVT_PIN_PULSE_END (R589): An event output pin in pulse mode deasserts after Width. -/
  | evtPinPulseEnd (k : Fin 4)
  /-- EVT_PIN_ACK (R589): EvtPinAck 1 deasserts a latched event pin. -/
  | evtPinAck (who : Caller) (k : Fin 4) (value : Nat)
  /-- EVENT_RAISE (R590): EventRaise raises a software-defined event in the S-die. -/
  | eventRaise (who : Caller) (value : Bytes)
  /-- RECORDER_WRITE (R591): The recorder takes an event from its input queue and writes or merges a record. -/
  | recorderWrite 
  /-- RECORDER_CRC_PASS (R596): Once per hour every record's CRC is checked and failures marked Suspect. -/
  | recorderCrcPass 
  /-- OPERATING_SECONDS_SAVE (R594): At least every 60 s OperatingSeconds and PowerCycles are written to MRAM. -/
  | operatingSecondsSave 
  /-- RECORDER_FREEZE (R597): RecorderFreeze 1 freezes the log for the session. -/
  | recorderFreeze (who : Caller)
  /-- RECORDER_UNFREEZE (R597): RecorderFreeze 2 unfreezes the log and takes held events. -/
  | recorderUnfreeze (who : Caller)
  /-- FREEZE_LIMIT_EXPIRY (R597): A freeze held for FreezeLimit ends. -/
  | freezeLimitExpiry 
  /-- RECORDER_CLEAR (R598): RecorderClear empties the log and writes RecorderCleared. -/
  | recorderClear (who : Caller) (value : Nat)
  /-- IMAGE_BOOT (R606): At power-on the ROM checks and starts the preferred or other boot image. -/
  | imageBoot 
  /-- BOOT_CONFIRM (R606): BootConfirm sets the booted image's UnconfirmedStarts to 0. -/
  | bootConfirm (who : Caller) (value : Nat)
  /-- SECURITY_VERSION_ADVANCE (R609): SecurityVersionAdvance blows rollback fuses up to v. -/
  | securityVersionAdvance (who : Caller) (value : Nat)
  /-- OWNER_BOOT_KEY_PROGRAM (R610): OwnerBootKeyProgram fuses a key hash into the lowest unused bank. -/
  | ownerBootKeyProgram (who : Caller) (value : Bytes)
  /-- OWNER_BOOT_KEY_REVOKE (R610): OwnerBootKeyRevoke blows a bank's revoke fuse. -/
  | ownerBootKeyRevoke (who : Caller) (value : Nat)
  /-- MEASURE_EXTEND (R611): MeasureExtend extends MC_4 to MC_7 with a digest. -/
  | measureExtend (who : Caller) (value : Bytes)
  /-- RECOVERY_BLOCK (R608): RecoveryBlock erases and writes a 32 KiB block of the recovery target image. -/
  | recoveryBlock (who : Caller) (b : Fin 3072) (value : Bytes)
  /-- RECOVERY_RESTART (R608): RecoveryRestart performs a power-on reset. -/
  | recoveryRestart (who : Caller) (value : Nat)
  /-- OWNER_CLAIM (R613): OwnerClaim with the right ClaimCode pins the session key as Owner and sets Owned. -/
  | ownerClaim (who : Caller) (value : Bytes)
  /-- OWNER_RELEASE (R614): OwnerRelease sluices, clears credentials and sets Unowned. -/
  | ownerRelease (who : Caller) (value : Nat)
  /-- CREDENTIAL_ENTRY (R616): A CredentialEntry write changes a credential and ends sessions it authenticated. -/
  | credentialEntry (who : Caller) (n : Fin 32) (value : Bytes)
  /-- CREDENTIAL_SECRET (R615): CredentialSecret stores a PSK secret as a vault record. -/
  | credentialSecret (who : Caller) (n : Fin 32) (value : Bytes)
  /-- KEY_LOAD (R620): KeyLoad stages a new key into the alternate journal bank and verifies it. -/
  | keyLoad (who : Caller) (slot : Fin 64) (value : Bytes)
  /-- KEY_LOAD_DONE (R620): A key load ends within 2 ms with PendingState verified or failed. -/
  | keyLoadDone (slot : Fin 64) (readBack : Bool)
  /-- KEY_COMMIT (R621): KeyCommit 1 commits the staged key and duplicates it into the other bank. -/
  | keyCommit (who : Caller) (slot : Fin 64) (after : Fin 1000001)
  /-- KEY_DISCARD (R621): KeyCommit 2 discards the staged record. -/
  | keyDiscard (who : Caller) (slot : Fin 64)
  /-- KEY_ERASE (R621): KeyErase erases both banks and the working copies of a slot. -/
  | keyErase (who : Caller) (slot : Fin 64) (value : Nat)
  /-- JOURNAL_CHECK_PASS (R619): An hourly pass checks both banks and rewrites a bad copy from the good one. -/
  | journalCheckPass (bad : List MramPlace)
  /-- SLUICE (R623): A tamper cause or command erases every key, bumps JournalEpoch and starts a sluice reset. -/
  | sluice (cause : Fin 5)
  /-- SLUICE_COMMAND (R623): SluiceCommand trips a sluice with cause Command. -/
  | sluiceCommand (who : Caller) (value : Nat)
  /-- TAMPER_STATUS_KNOCK (R625): Knocking TamperStatus clears latched causes no longer present. -/
  | tamperStatusKnock (who : Caller) (value : Nat)
  /-- ATTEST_M_SECRET (R626): AttestMSecret stores the class M secret by load and commit. -/
  | attestMSecret (who : Caller) (value : Bytes)
  /-- ATTEST_M_CHALLENGE (R626): AttestMChallenge stores a nonce for the session. -/
  | attestMChallenge (who : Caller) (value : Bytes)
  /-- ATTEST_M_RESPONSE (R626): A read of AttestMResponse forms class M evidence for the session's nonce. -/
  | attestMResponse (who : Caller)
  /-- ATTEST_P_GENERATE (R627): AttestPGenerate draws a new class P key and signs its statement. -/
  | attestPGenerate (who : Caller) (value : Nat)
  /-- ATTEST_P_CHALLENGE (R626): AttestPChallenge stores a nonce for the session. -/
  | attestPChallenge (who : Caller) (value : Bytes)
  /-- ATTEST_P_QUOTE (R626): A read of AttestPQuote forms a signed class P quote. -/
  | attestPQuote (who : Caller)
  /-- HAMPER_TICK (R645): Every 100 µs the hamper evaluates supply, energy and thresholds and changes the shed level; the power of each rail since the last tick, in mW. -/
  | hamperTick (rails : List Nat)
  /-- HOLDUP_CONVERSION (R639): HOLDUP_SENSE is converted at 10 kS/s and HoldupVoltage updated. -/
  | holdupConversion (code : Fin 65536)
  /-- SHED_CORE_GATE (R645): 5 ms after level 2 the hamper power-gates cores whose kinst is still Valid. -/
  | shedCoreGate 
  /-- HOLDUP_CALIBRATE_ZERO (R642): HoldupCalibrate 1 starts a zero calibration. -/
  | holdupCalibrateZero (who : Caller)
  /-- HOLDUP_CALIBRATE_SPAN (R642): HoldupCalibrate 2 starts a span calibration. -/
  | holdupCalibrateSpan (who : Caller)
  /-- HOLDUP_CALIBRATION_DONE (R642): After 4,096 conversions the hold-up calibration is applied or refused. -/
  | holdupCalibrationDone 
  /-- MODULE_SLEEP_ENTER (R652): ModuleSleep 1 enters shore-only without a supply loss. -/
  | moduleSleepEnter (who : Caller)
  /-- MODULE_SLEEP_LEAVE (R652): ModuleSleep 2 leaves shore-only by a shore wake. -/
  | moduleSleepLeave (who : Caller)
  /-- THERMAL_SAMPLE (R653): Every 100 µs the sensors are read: the highest temperature of each logic die and HBM stack, in m°C. -/
  | thermalSample (temps : List Int)
  /-- THROTTLE_STEP (R653): Every 1 ms in HostThrottle host frequency falls by 200 MHz. -/
  | throttleStep 
  /-- THERMAL_DOWNSHIFT_STEP (R653): Every 10 ms in Downshift one more fabric port gets a downshift request. -/
  | thermalDownshiftStep 
  /-- THERMAL_TRIP (R654): Tj at or above 155 °C asserts THERMTRIP_N and enters shed level 3. -/
  | thermalTrip 
  /-- THERMAL_TRIP_SHORE (R654): 20 ms after a thermal trip the module enters shed level 4. -/
  | thermalTripShore 
  /-- POWER_ON_RESET (R662): A power-on reset starts, by PORST_N or by VDD_SHORE, and pins go to their reset states. -/
  | powerOnReset (supply : Bool)
  /-- POWER_ON_RESET_END (R661): PORST_N sampled deasserted ends the reset at GTC 0 and starts the boot flow; ROLE_SEL is latched, and `bad` are the places of the key MRAM found not to pass their check. -/
  | powerOnResetEnd (roleB : Bool) (bad : List MramPlace)
  /-- RAIL_CHECK_RETRY (R664): Every 100 ms the boot flow rechecks rails out of tolerance; bit r stands for rail r. -/
  | railCheckRetry (outside : Nat)
  /-- FAST_DIES_UP (R666): The fast dies are powered, locked and trained and their firmware loaded. -/
  | fastDiesUp 
  /-- MANAGER_STARTED (R666): Manager stages are loaded and measured, journals opened and the manager starts. -/
  | managerStarted 
  /-- CONFIG_LOAD (R669): The saved configuration is applied group by group and BootState becomes Running. -/
  | configLoad 
  /-- WRST_N (R671): WRST_N asserted for 1 µs starts a warm reset. -/
  | wrstN 
  /-- MODULE_RESET_WARM (R673): ModuleReset 1 starts a warm reset. -/
  | moduleResetWarm (who : Caller)
  /-- MODULE_RESET_POWER_ON (R673): ModuleReset 2 makes a power-on reset when no instance runs and the module holds no paddle. -/
  | moduleResetPowerOn (who : Caller)
  /-- MODULE_RESET_FORCED (R673): ModuleReset 3 makes the power-on reset regardless. -/
  | moduleResetForced (who : Caller)
  /-- WARM_RESET_DONE (R671): The manager restarts on HC_00 and Balmuene accepts sessions. -/
  | warmResetDone 
  /-- SHORE_WAKE (R674): A shore wake repowers and restarts the fast dies, reloading part of the configuration. -/
  | shoreWake 
  /-- SREF_CHECK (R693): Every 1 ms the N-die checks SREF and updates SrefState. -/
  | srefCheck (edges : Bool) (ppm : Int)
  /-- PE_PERST_N (R696): PE_PERST_N asserted resets the endpoint's configuration space as a PF FLR. -/
  | pePerstN (asserted : Bool)
  /-- BOOT_FLASH_BLOCK (R700): BootFlashBlock erases and programs a 32 KiB block of the other image. -/
  | bootFlashBlock (who : Caller) (b : Fin 3072) (value : Bytes)
  /-- BOOT_FLASH_VERIFY (R700): BootFlashVerify checks the other image and writes its Status. -/
  | bootFlashVerify (who : Caller) (value : Nat)
  /-- MB0_TARGET_WRITE (R702): A write to the MB_0 target registers sets the pointer and writable registers. -/
  | mb0TargetWrite (pointer : Fin 256) (data : Bytes)
  /-- POWER_FAIL (R643): A write to MB_0 register 0x05 sets or clears the power-fail notice. -/
  | powerFail (value : Nat)
  /-- WAKE (R652): A write of 1 to MB_0 register 0x06 leaves shore-only. -/
  | wake (value : Nat)
  /-- BOARD_CONTROLLER_WRITE (R703): On a change of BootState or Status the module writes them to the board controller. -/
  | boardControllerWrite (ack : Bool)
  /-- MB1_RECORD_SEND (R704): The module writes its pair status record to the peer every 100 ms and to the rack monitor every 1 s. -/
  | mb1RecordSend (monitor : Bool) (ack : Bool)
  /-- MB1_RECORD_RECEIVE (R704): A received MB_1 status record is kept in Mb1PeerRecord. -/
  | mb1RecordReceive (pointer : Fin 256) (data : Bytes)
  /-- ARBITRATION_LOST (R705): The module loses I²C arbitration, releases the bus and may answer as target. -/
  | arbitrationLost (bus : Fin 2) (monitor : Bool) (asTarget : Option (Nat × Bytes))
  /-- MB_RETRY (R706): After bus free and back-off the module retries a message, dropping it after eight attempts. -/
  | mbRetry (bus : Fin 2) (ack : Bool)
  /-- MB_BUS_RECOVERY (R707): A line held low for 35 ms is released with nine clocks and a STOP. -/
  | mbBusRecovery (bus : Fin 2) (sclHigh : Bool)
  /-- UNIT_SLEEP_ENTRY (R650): An ingress pipeline, L3 bank, HBM stack or UCIe link group whose idle time runs out enters its clock-gated, self-refresh or link-sleep state. -/
  | unitSleepEntry (unit : SleepUnit) (n : Nat)
  /-- PRE_FREEZE_WAKE (R651): Before a freeze instant the scan engine wakes the scan processor, the UCIe link groups and the HBM stacks that the scan uses. -/
  | preFreezeWake (inst : Fin 256)
  /-- SGMII_SPEED_CHANGE (R150): The external PHY reports a new speed in SGMII in-band status; the MAC rate in force changes and the module raises an event if admitted bandwidth exceeds the new limit. -/
  | sgmiiSpeedChange (n : Fin 256) (speed : Nat)
  /-- PTP_MESSAGE_SEND (R115): At its configured intervals a PTP instance sends Sync, Announce or Pdelay_Req on its ports. -/
  | ptpMessageSend (d : Fin 8) (port : Fin 256) (kind : Nat)
  /-- DTLS_HANDSHAKE (R91): A received DTLS handshake flight is answered with the cookie exchange and establishes or fails a DTLS association. -/
  | dtlsHandshake (addr : Nat) (port : Nat) (assoc : Nat) (cookie : Bool) (client : DtlsClient) (ok : Bool)
  /-- DTLS_ASSOCIATION_END (R97): A DTLS association ends and every Balmuene session on it ends with its stage set and timed commit. -/
  | dtlsAssociationEnd (assoc : Nat)
  /-- PAIRED_START_TIMEOUT (R461): No StartAccept has arrived by F_n − 100 µs, so the proposer starts the instance alone at the next scan. -/
  | pairedStartTimeout (inst : Fin 256)
  /-- FERRY_PROPOSE_TIMEOUT (R480): No FerryAccept has arrived before B_(n−2), so the proposer withdraws its switch and sends FerryCancel. -/
  | ferryProposeTimeout (inst : Fin 256)
  /-- RELEASE_INSTANT (R470): PairDomain reaches the beat named in the holder's Release, and the holder's authority ends. -/
  | releaseInstant 
  /-- SELF_TEST_RECOVER (R477): An authority self-test passes on ten consecutive runs, which ends its hard cause and raises a recovered event. -/
  | selfTestRecover (test : Fin 6)
  /-- TAMPER_CAUSE_CLEAR (R625): A present tamper cause, such as SLUICE_N low or the supply out of range, goes away, which lets its latched bit be knocked and ends a held sluice. -/
  | tamperCauseClear (cause : Fin 5)
  /-- MGMT_LINK_CHANGE (R697): The management MAC link comes up or goes down, which starts or stops Balmuene service and raises an event from 0xE04. -/
  | mgmtLinkChange (state : Fin 4)
  /-- PCIE_LINK_CHANGE (R695): The PCIe link trains, changes width or rate, or goes down, which raises an event from 0xE00. -/
  | pcieLinkChange (width : Nat) (rate : Nat)
  /-- MSIX_VECTOR_UNMASK (R588): A host unmasks an MSI-X vector that has its pending bit set, and the interrupt is sent. -/
  | msixVectorUnmask (fn : Fin 256) (vector : Fin 64)
  /-- RIPPLE_STUCK_CLEAR (R359): A Stuck ripple line has been deasserted for 1 ms and is no longer ignored, with a released event. -/
  | rippleStuckClear (line : Fin 8)
  /-- BOOT_FLASH_BLOCK_DONE (R700): An erase and program of a boot flash block ends, up to 200 ms after it began, and raises a completion event with its code. -/
  | bootFlashBlockDone (ok : Bool)
  /-- BOOT_FLASH_VERIFY_DONE (R700): A verification of the other image ends, up to 300 ms after it began, and writes its Status to ImageInfo. -/
  | bootFlashVerifyDone 
  /-- FUNCTION_LEVEL_RESET_DONE (R526): A Function Level Reset completes within 1 ms; VfState leaves 'in Function Level Reset' and its event queues are written again. -/
  | functionLevelResetDone (fn : Fin 256)
  /-- OCTET_PLL_LOCKED (R190): An octet PLL achieves lock, and bring-up of the octet's ports starts or restarts. -/
  | octetPllLocked (k : Fin 32)
  /-- KEY_COMMIT_DONE (R621): The second bank of a committed key is rewritten, SingleCopy clears and the journal action ends within 2 ms. -/
  | keyCommitDone (slot : Fin 64)
  deriving DecidableEq, Repr

end Sys2Proof
end

