-- ==== Sys2Proof/Decode.lean ====
section
/-! DEFINITION. Reading a command from a word. No row of spec/opcode_table.json gives bits: the commands arrive as
operations on objects, as frames and as events of the hardware, and none has a word of its own. The words of the scan
instruction set, which the spec does encode (R421, R422), are program data and are read in Machine/IsaWords.lean. -/

namespace Sys2Proof

/-- The command that a word of the table spells: none, since the table gives no row any bits. -/
def decodeTableWord (_nbits _w : Nat) : Option Instr := none

end Sys2Proof
end

