-- ==== Sys2Proof/Machine/Bits.lean ====
section
/-! DEFINITION. Bit fields, byte orders, two's complement and rounding: the number helpers of the chapters. -/

namespace Sys2Proof.Machine

/-- Bits [lo + w − 1 : lo] of `n` (R6). -/
def field (n lo w : Nat) : Nat := n / 2 ^ lo % 2 ^ w

/-- `n` with bits [lo + w − 1 : lo] replaced by those of `v`. -/
def setField (n lo w v : Nat) : Nat :=
  n % 2 ^ lo + (v % 2 ^ w) * 2 ^ lo + n / 2 ^ (lo + w) * 2 ^ (lo + w)

/-- The two's complement value of the low `w` bits of `n`. -/
def toInt (w n : Nat) : Int :=
  if n % 2 ^ w < 2 ^ (w - 1) then (n % 2 ^ w : Nat) else ((n % 2 ^ w : Nat) : Int) - (2 ^ w : Nat)

/-- The low `w` bits of the two's complement pattern of `i`. -/
def ofInt (w : Nat) (i : Int) : Nat := (i % ((2 ^ w : Nat) : Int)).toNat

/-- The number an octet string spells, most significant octet first (network order, R7). -/
def ofBE (b : Bytes) : Nat := b.foldl (fun a x => a * 256 + x.toNat) 0

/-- The number an octet string spells, least significant octet first (R7). -/
def ofLE (b : Bytes) : Nat := b.foldr (fun x a => a * 256 + x.toNat) 0

/-- The `k` low octets of `n`, least significant first. -/
def toLE : Nat → Nat → Bytes
  | 0, _ => []
  | k + 1, n => BitVec.ofNat 8 n :: toLE k (n / 256)

/-- The `k` low octets of `n`, most significant first. -/
def toBE (k n : Nat) : Bytes := (toLE k n).reverse

/-- The octet at place `i`, 0 beyond the end. -/
def byteAt (b : Bytes) (i : Nat) : Nat := ((b[i]?).getD 0).toNat

/-- The octets from place `i`, `n` of them; places beyond the end read 0. -/
def slice (b : Bytes) (i n : Nat) : Bytes :=
  let t := (b.drop i).take n
  t ++ List.replicate (n - t.length) 0

/-- The little-endian number in octets `i` to `i + n − 1`. -/
def leAt (b : Bytes) (i n : Nat) : Nat := ofLE (slice b i n)

/-- The network-order number in octets `i` to `i + n − 1`. -/
def beAt (b : Bytes) (i n : Nat) : Nat := ofBE (slice b i n)

/-- `b` with its octets from place `i` on replaced by those of `v`. -/
def splice (b : Bytes) (i : Nat) (v : Bytes) : Bytes := b.take i ++ v ++ b.drop (i + v.length)

/-- `n` cut off at `m`: a counter that saturates (R542). -/
def satAt (m n : Nat) : Nat := if m < n then m else n

/-- A 32-bit counter that saturates at 0xFFFF_FFFF. -/
def sat32 (n : Nat) : Nat := satAt 0xFFFFFFFF n

/-- `i` held within ±`b`. -/
def clampInt (b : Nat) (i : Int) : Int := if (b : Int) < i then b else if i < -(b : Int) then -(b : Int) else i

/-- The quotient of `a` by `b` rounded to the nearest integer, exact halves to the even one (R710). -/
def roundDiv (a : Int) (b : Nat) : Int :=
  let q := a / (b : Int)
  let r := a % (b : Int)
  if 2 * r < b then q else if (b : Int) < 2 * r then q + 1 else if q % 2 = 0 then q else q + 1

/-- The quotient rounded up. -/
def ceilDiv (a : Nat) (b : Nat) : Nat := (a + b - 1) / b

/-- The quotient of integers rounded up, for a positive divisor. -/
def ceilDivInt (a : Int) (b : Nat) : Int := -((-a) / (b : Int))

/-- The octets are well-formed UTF-8 (R61): `k` continuation octets are still due, and the first of them lies
between `lo` and `hi`. -/
def utf8From : Nat → Nat → Nat → Bytes → Bool
  | 0, _, _, [] => true
  | _ + 1, _, _, [] => false
  | 0, _, _, x :: r =>
    let n := x.toNat
    if n < 0x80 then utf8From 0 0 0 r
    else if 0xC2 ≤ n ∧ n ≤ 0xDF then utf8From 1 0x80 0xBF r
    else if n = 0xE0 then utf8From 2 0xA0 0xBF r
    else if n = 0xED then utf8From 2 0x80 0x9F r
    else if 0xE1 ≤ n ∧ n ≤ 0xEF then utf8From 2 0x80 0xBF r
    else if n = 0xF0 then utf8From 3 0x90 0xBF r
    else if 0xF1 ≤ n ∧ n ≤ 0xF3 then utf8From 3 0x80 0xBF r
    else if n = 0xF4 then utf8From 3 0x80 0x8F r
    else false
  | k + 1, lo, hi, x :: r =>
    if lo ≤ x.toNat ∧ x.toNat ≤ hi then utf8From k 0x80 0xBF r else false

def utf8 (b : Bytes) : Bool := utf8From 0 0 0 b

/-- A binary32 pattern is a NaN or an infinity (R61). -/
def f32NotFinite (n : Nat) : Bool := field n 23 8 == 0xFF

/-- A binary32 pattern lies between two patterns of positive values, or, when the lower one is negative, between it and its
negation. −0 counts as 0. -/
def f32Within (n lo hi : Nat) : Bool :=
  if 2 ^ 31 ≤ lo then decide (n % 2 ^ 31 ≤ hi)
  else let m := if n = 2 ^ 31 then 0 else n
    decide (lo ≤ m) && decide (m ≤ hi)

/-- The numbers from `a`, `n` of them. -/
def numbersFrom (a : Nat) : Nat → List Nat
  | 0 => []
  | n + 1 => a :: numbersFrom (a + 1) n

/-- The smallest `e` at most `k` with `n ≤ 2^e`, for a `k` large enough. -/
def log2Ceil (n : Nat) : Nat := if n ≤ 1 then 0 else (n - 1).log2 + 1

end Sys2Proof.Machine
end

