-- ==== Sys2Proof/Machine/Float.lean ====
section
/-! DEFINITION. IEEE 754 arithmetic on bit patterns: exact integers, rounded once (R306, R427 to R432). -/

namespace Sys2Proof.Machine

/-- A binary interchange format: precision and exponent width. -/
structure Fmt where
  p : Nat
  w : Nat
  deriving DecidableEq, Repr

def f32 : Fmt := ⟨24, 8⟩
def f64 : Fmt := ⟨53, 11⟩

/-- The bits of an infinity without sign. -/
def Fmt.inf (f : Fmt) : Nat := (2 ^ f.w - 1) * 2 ^ (f.p - 1)

/-- The weight of the sign bit. -/
def Fmt.sign (f : Fmt) : Nat := 2 ^ (f.p + f.w - 1)

/-- The canonical NaN (R428). -/
def Fmt.nan (f : Fmt) : Nat := f.inf + 2 ^ (f.p - 2)

/-- The binary exponent of the smallest subnormal, negated. -/
def Fmt.k (f : Fmt) : Nat := 2 ^ (f.w - 1) + f.p - 3

def Fmt.mag (f : Fmt) (a : Nat) : Nat := a % f.sign
def Fmt.neg (f : Fmt) (a : Nat) : Bool := decide (f.sign ≤ a % (2 * f.sign))
def Fmt.isNan (f : Fmt) (a : Nat) : Bool := decide (f.inf < f.mag a)
def Fmt.isInf (f : Fmt) (a : Nat) : Bool := f.mag a == f.inf
def Fmt.isZero (f : Fmt) (a : Nat) : Bool := f.mag a == 0
/-- A NaN with its quiet bit 0. -/
def Fmt.isSnan (f : Fmt) (a : Nat) : Bool := f.isNan a && !a.testBit (f.p - 2)

/-- The magnitude of a finite value in units of the smallest subnormal. -/
def Fmt.units (f : Fmt) (a : Nat) : Nat :=
  let e := f.mag a / 2 ^ (f.p - 1)
  let m := a % 2 ^ (f.p - 1)
  if e = 0 then m else (m + 2 ^ (f.p - 1)) * 2 ^ (e - 1)

/-- The value of a finite pattern in units of the smallest subnormal. -/
def Fmt.val (f : Fmt) (a : Nat) : Int := if f.neg a then -(f.units a : Int) else f.units a

/-- The sticky flags: invalid, division by zero, overflow, underflow, inexact. -/
def flNV : Nat := 1
def flDZ : Nat := 2
def flOF : Nat := 4
def flUF : Nat := 8
def flNX : Nat := 16

def Fmt.signed (f : Fmt) (neg : Bool) (m : Nat) : Nat := if neg then m + f.sign else m

/-- Round num / den units to nearest even: the magnitude bits and the flags; tininess is detected after rounding. -/
def Fmt.round (f : Fmt) (neg : Bool) (num den : Nat) : Nat × Nat :=
  let fl := num / den
  let k := if fl < 2 ^ f.p then 0 else fl.log2 - (f.p - 1)
  let q := (roundDiv num (den * 2 ^ k)).toNat
  let bits := if k = 0 then q else k * 2 ^ (f.p - 1) + q
  let inexact := num % (den * 2 ^ k) != 0
  if f.inf ≤ bits then (f.signed neg f.inf, flOF + flNX)
  else
    let tiny := fl < 2 ^ (f.p - 1) ∧ 4 * num < (2 ^ (f.p + 1) - 1) * den
    (f.signed neg bits, if inexact then (if tiny then flUF + flNX else flNX) else 0)

/-- Round an integer count of units over `den`; an exact zero takes the sign `zneg`. -/
def Fmt.roundInt (f : Fmt) (v : Int) (den : Nat) (zneg : Bool) : Nat × Nat :=
  if v = 0 then (f.signed zneg 0, 0) else f.round (decide (v < 0)) v.natAbs den

/-- The canonical NaN with FNV where an input signals or the operation is invalid. -/
def Fmt.nanOf (f : Fmt) (invalid : Bool) (l : List Nat) : Nat × Nat := (f.nan, if invalid || l.any f.isSnan then flNV else 0)

def Fmt.add (f : Fmt) (a b : Nat) : Nat × Nat :=
  if f.isNan a ∨ f.isNan b then f.nanOf false [a, b]
  else if f.isInf a then (if f.isInf b ∧ f.neg a ≠ f.neg b then f.nanOf true [] else (f.signed (f.neg a) f.inf, 0))
  else if f.isInf b then (f.signed (f.neg b) f.inf, 0)
  else f.roundInt (f.val a + f.val b) 1 (f.neg a && f.neg b)

def Fmt.flip (f : Fmt) (a : Nat) : Nat := if f.neg a then f.mag a else f.mag a + f.sign

def Fmt.sub (f : Fmt) (a b : Nat) : Nat × Nat := if f.isNan b then f.nanOf false [a, b] else f.add a (f.flip b)

def Fmt.mul (f : Fmt) (a b : Nat) : Nat × Nat :=
  let s := f.neg a != f.neg b
  if f.isNan a ∨ f.isNan b then f.nanOf false [a, b]
  else if (f.isInf a ∧ f.isZero b) ∨ (f.isZero a ∧ f.isInf b) then f.nanOf true []
  else if f.isInf a ∨ f.isInf b then (f.signed s f.inf, 0)
  else f.roundInt (f.val a * f.val b) (2 ^ f.k) s

def Fmt.div (f : Fmt) (a b : Nat) : Nat × Nat :=
  let s := f.neg a != f.neg b
  if f.isNan a ∨ f.isNan b then f.nanOf false [a, b]
  else if (f.isInf a ∧ f.isInf b) ∨ (f.isZero a ∧ f.isZero b) then f.nanOf true []
  else if f.isInf a then (f.signed s f.inf, 0)
  else if f.isInf b then (f.signed s 0, 0)
  else if f.isZero b then (f.signed s f.inf, flDZ)
  else if f.isZero a then (f.signed s 0, 0)
  else f.round s (f.units a * 2 ^ f.k) (f.units b)

/-- a × b + c with one rounding. -/
def Fmt.fma (f : Fmt) (a b c : Nat) : Nat × Nat :=
  let s := f.neg a != f.neg b
  let bad := (f.isInf a && f.isZero b) || (f.isZero a && f.isInf b)
  if bad then f.nanOf true [a, b, c]
  else if f.isNan a ∨ f.isNan b ∨ f.isNan c then f.nanOf false [a, b, c]
  else if f.isInf a ∨ f.isInf b then
    (if f.isInf c ∧ f.neg c ≠ s then f.nanOf true [] else (f.signed s f.inf, 0))
  else if f.isInf c then (f.signed (f.neg c) f.inf, 0)
  else f.roundInt (f.val a * f.val b + f.val c * (2 ^ f.k : Nat)) (2 ^ f.k) (s && f.neg c)

/-- The square root; enough further bits with a sticky one decide the rounding. -/
def Fmt.sqrt (f : Fmt) (a : Nat) : Nat × Nat :=
  if f.isNan a then f.nanOf false [a]
  else if f.isZero a then (a % (2 * f.sign), 0)
  else if f.neg a then f.nanOf true []
  else if f.isInf a then (f.inf, 0)
  else
    let n := f.units a * 2 ^ f.k * 2 ^ (2 * (f.p + 2))
    let r := Nat.sqrt n
    f.round false (2 * r + (if r * r = n then 0 else 1)) (2 ^ (f.p + 3))

/-- Quiet order of two patterns: none with a NaN. -/
def Fmt.cmp (f : Fmt) (a b : Nat) : Option Ordering :=
  if f.isNan a ∨ f.isNan b then none
  else
    let v (x : Nat) : Int := if f.neg x then -(f.mag x : Int) else f.mag x
    some (compare (v a) (v b))

/-- An exact rational num / den (den > 0) rounded to a format. -/
def Fmt.ofRat (f : Fmt) (num : Int) (den : Nat) : Nat × Nat := f.roundInt (num * (2 ^ f.k : Nat)) den false

/-- Convert between formats, rounding once. -/
def Fmt.convert (f g : Fmt) (a : Nat) : Nat × Nat :=
  if f.isNan a then g.nanOf false (if f.isSnan a then [g.inf + 1] else [])
  else if f.isInf a then (g.signed (f.neg a) g.inf, 0)
  else if f.isZero a then (g.signed (f.neg a) 0, 0)
  else g.round (f.neg a) (f.units a * 2 ^ g.k) (2 ^ f.k)

/-- The integer nearest num / den by a mode: 0 nearest even, 1 toward zero, 2 toward −∞, 3 toward +∞. -/
def roundMode (mode : Nat) (num : Int) (den : Nat) : Int :=
  match mode with
  | 0 => roundDiv num den
  | 1 => num.tdiv (den : Int)
  | 2 => num / (den : Int)
  | _ => ceilDivInt num den

/-- The finite value as an integer by a rounding mode, and whether it was exact. -/
def Fmt.toInt (f : Fmt) (mode a : Nat) : Int × Bool :=
  (roundMode mode (f.val a) (2 ^ f.k), f.units a % 2 ^ f.k == 0)

/-! ### Elementary functions, to nearest (R432) -/

/-- The working precision in bits. -/
def fnBits : Nat := 512

/-- Σ (−1)^i x^(2i+1) / (2i+1) over integers with unit `one`: the arctangent of x / one, for |x| ≤ one / 2. -/
def atanSeries (one x2 : Int) : Nat → Nat → Int → Int
  | 0, _, _ => 0
  | n + 1, i, t => if t = 0 then 0 else t / ((2 * i + 1 : Nat) : Int) - atanSeries one x2 n (i + 1) (t * x2 / one)

/-- The arctangent of num / den at `b` bits, for 0 ≤ num ≤ den: three halvings of the angle and the series. -/
def atanUnits (b : Nat) (num den : Nat) : Int :=
  let one : Int := 2 ^ b
  let half (x : Int) : Int :=
    -- tan(θ/2) = x / (1 + √(1 + x²))
    x * one / (one + (Nat.sqrt (((one * one + x * x).toNat))))
  let x := half (half (half ((num : Int) * one / den)))
  8 * atanSeries one (x * x / one) (b + 8) 0 x

/-- π at `b` bits (Machin). -/
def piUnits (b : Nat) : Int :=
  let one : Int := 2 ^ (b + 16)
  (4 * (4 * atanSeries one (one / 25) (b + 24) 0 (one / 5) - atanSeries one (one / 57121) (b + 24) 0 (one / 239))) / 2 ^ 16

/-- The power series of the sine or cosine from term `t` of number `i`. -/
def trigSeries (one x2 : Int) : Nat → Nat → Int → Int
  | 0, _, _ => 0
  | n + 1, i, t => if t = 0 then 0 else t - trigSeries one x2 n (i + 2) (t * x2 / one / (((i + 1) * (i + 2) : Nat) : Int))

/-- Sine and cosine at `b` bits of num / den radians. -/
def sinCosUnits (b : Nat) (num : Int) (den : Nat) : Int × Int :=
  let one : Int := 2 ^ b
  let two : Int := 2 * piUnits (b + 200)
  -- reduce at 200 further bits
  let x := (num * 2 ^ (b + 200) / den) % two / 2 ^ 200
  let y := x / 16
  let x2 := y * y / one
  let s0 := trigSeries one x2 (b + 8) 1 y
  let c0 := trigSeries one x2 (b + 8) 0 one
  let dbl (z : Int × Int) : Int × Int := (2 * z.1 * z.2 / one, (z.2 * z.2 - z.1 * z.1) / one)
  dbl (dbl (dbl (dbl (s0, c0))))

/-- The sine and cosine of a finite binary64 value, each to nearest. -/
def sin64 (a : Nat) : Nat :=
  if f64.isZero a then a
  else
    let extra := 2 * (f64.k - (f64.units a).log2)
    let b := fnBits + extra
    (f64.ofRat (sinCosUnits b (f64.val a) (2 ^ f64.k)).1 (2 ^ b)).1

def cos64 (a : Nat) : Nat := (f64.ofRat (sinCosUnits fnBits (f64.val a) (2 ^ f64.k)).2 (2 ^ fnBits)).1

/-- The angle of (x, y) at `b` bits, for values not both zero. -/
def angleUnits (b : Nat) (y x : Int) : Int :=
  let ay := y.natAbs
  let ax := x.natAbs
  let q : Int := if ay ≤ ax then atanUnits b ay ax else piUnits b / 2 - atanUnits b ax ay
  let h := if 0 ≤ x then q else piUnits b - q
  if 0 ≤ y then h else -h

/-- atan2 of two finite or infinite binary64 values to nearest in a format. -/
def atan2Of (g : Fmt) (y x : Nat) : Nat :=
  let sy := f64.neg y
  let sx := f64.neg x
  let pi (n d : Nat) : Nat := g.signed sy ((g.ofRat (piUnits fnBits * n) (d * 2 ^ fnBits)).1)
  if f64.isNan y ∨ f64.isNan x then g.nan
  else if f64.isInf y then (if f64.isInf x then (if sx then pi 3 4 else pi 1 4) else pi 1 2)
  else if f64.isInf x then (if sx then pi 1 1 else g.signed sy 0)
  else if f64.isZero y then (if sx then pi 1 1 else g.signed sy 0)
  else if f64.isZero x then pi 1 2
  else
    let uy := f64.units y
    let ux := f64.units x
    let b := fnBits + (ux.log2 - uy.log2)
    (g.ofRat (angleUnits b (f64.val y) (f64.val x)) (2 ^ b)).1

end Sys2Proof.Machine
end

