-- ==== Sys2Proof/Config.lean ====
section
/-! DEFINITION. What the spec leaves open: constants and functions without a body. Nothing in Lean can evaluate
them, so a statement that holds, holds whatever they are. Each is named in a row of the assumption log. -/

namespace Sys2Proof.Config

/-- A fresh free value: the k-th one taken. -/
opaque freeNat : Nat → Nat

/-- The value set at manufacture in a factory object (R82, R711), by the object's number. -/
opaque factoryNum : Nat → Nat

/-- The octets set at manufacture in a factory BLOB or STR, by the object's number. -/
opaque factoryBytes : Nat → Bytes

/-- The wake time Tw of IEEE 802.3 for a port mode, in ns (R176). -/
opaque lpiWake : Nat → Nat

/-- The IEC 62351-6 authentication extension of a frame, from its destination address on: key identifier, initialisation
vector, the octets signed and the tag; none without an extension (R276). -/
opaque authTag : Bytes → Option (Nat × Bytes × Bytes × Bytes)

/-- The binary32 result of the chain where a binary64 value lies beyond binary32 (R306), by that value. -/
opaque beyondF32 : Nat → Nat

/-- The decimal text of a binary64 value in a COMTRADE file (R366), by its pattern. -/
opaque decimalText : Nat → Bytes

/-- The octets that manufacture left in a 32 KiB block of an image region, by device × 3072 + block. -/
opaque flashBlock : Nat → Bytes

/-- The four Ovmond keys of the boot ROM (Table 17-1), uncompressed points. -/
opaque romKey : Nat → Bytes

/-- ECDSA P-384 with SHA-384 (FIPS 186-5): whether a signature over a message verifies under a public key. -/
opaque ecdsaVerify : Bytes → Bytes → Bytes → Bool

/-- The signature over a message by a private key, with the DRBG draw that gives its nonce. -/
opaque ecdsaSign : Bytes → Bytes → Nat → Bytes

/-- The factory identity key of the module, which is never readable (R603). -/
opaque factoryPrivate : Bytes

/-- The private key and the public point of a P-384 key pair, by the DRBG draw (R627). -/
opaque keyPair : Nat → Bytes × Bytes

/-- The 16 octets of a ClaimCode, by the DRBG draw (R612, R613). -/
opaque claimCode : Nat → Bytes

end Sys2Proof.Config
end

