-- ==== Sys2Proof/Machine/Crypto.lean ====
section
/-! DEFINITION. The algorithms of the named standards that the chapters use: SHA-2 (FIPS 180-4), HMAC (FIPS 198-1), AES
(FIPS 197), GCM (NIST SP 800-38D), key wrap with padding (RFC 5649) and the KDF in counter mode (SP 800-108). -/

namespace Sys2Proof.Machine

/-! ### SHA-2 -/

def rotR (w n k : Nat) : Nat := n / 2 ^ k + n % 2 ^ k * 2 ^ (w - k)

/-- The parameters of a SHA-2 function: word width, the rotation counts, the round constants. -/
structure Sha where
  w : Nat
  big0 : Nat × Nat × Nat
  big1 : Nat × Nat × Nat
  small0 : Nat × Nat × Nat
  small1 : Nat × Nat × Nat
  k : List Nat

def sha256K : List Nat :=
  [0x428A2F98, 0x71374491, 0xB5C0FBCF, 0xE9B5DBA5, 0x3956C25B, 0x59F111F1, 0x923F82A4, 0xAB1C5ED5,
  0xD807AA98, 0x12835B01, 0x243185BE, 0x550C7DC3, 0x72BE5D74, 0x80DEB1FE, 0x9BDC06A7, 0xC19BF174,
  0xE49B69C1, 0xEFBE4786, 0x0FC19DC6, 0x240CA1CC, 0x2DE92C6F, 0x4A7484AA, 0x5CB0A9DC, 0x76F988DA,
  0x983E5152, 0xA831C66D, 0xB00327C8, 0xBF597FC7, 0xC6E00BF3, 0xD5A79147, 0x06CA6351, 0x14292967,
  0x27B70A85, 0x2E1B2138, 0x4D2C6DFC, 0x53380D13, 0x650A7354, 0x766A0ABB, 0x81C2C92E, 0x92722C85,
  0xA2BFE8A1, 0xA81A664B, 0xC24B8B70, 0xC76C51A3, 0xD192E819, 0xD6990624, 0xF40E3585, 0x106AA070,
  0x19A4C116, 0x1E376C08, 0x2748774C, 0x34B0BCB5, 0x391C0CB3, 0x4ED8AA4A, 0x5B9CCA4F, 0x682E6FF3,
  0x748F82EE, 0x78A5636F, 0x84C87814, 0x8CC70208, 0x90BEFFFA, 0xA4506CEB, 0xBEF9A3F7, 0xC67178F2]

def sha512K : List Nat :=
  ([0x428A2F98D728AE22, 0x7137449123EF65CD, 0xB5C0FBCFEC4D3B2F, 0xE9B5DBA58189DBBC,
  0x3956C25BF348B538, 0x59F111F1B605D019, 0x923F82A4AF194F9B, 0xAB1C5ED5DA6D8118,
  0xD807AA98A3030242, 0x12835B0145706FBE, 0x243185BE4EE4B28C, 0x550C7DC3D5FFB4E2,
  0x72BE5D74F27B896F, 0x80DEB1FE3B1696B1, 0x9BDC06A725C71235, 0xC19BF174CF692694,
  0xE49B69C19EF14AD2, 0xEFBE4786384F25E3, 0x0FC19DC68B8CD5B5, 0x240CA1CC77AC9C65,
  0x2DE92C6F592B0275, 0x4A7484AA6EA6E483, 0x5CB0A9DCBD41FBD4, 0x76F988DA831153B5,
  0x983E5152EE66DFAB, 0xA831C66D2DB43210, 0xB00327C898FB213F, 0xBF597FC7BEEF0EE4,
  0xC6E00BF33DA88FC2, 0xD5A79147930AA725, 0x06CA6351E003826F, 0x142929670A0E6E70,
  0x27B70A8546D22FFC, 0x2E1B21385C26C926, 0x4D2C6DFC5AC42AED, 0x53380D139D95B3DF,
  0x650A73548BAF63DE, 0x766A0ABB3C77B2A8, 0x81C2C92E47EDAEE6, 0x92722C851482353B]) ++
  ([0xA2BFE8A14CF10364, 0xA81A664BBC423001, 0xC24B8B70D0F89791, 0xC76C51A30654BE30,
  0xD192E819D6EF5218, 0xD69906245565A910, 0xF40E35855771202A, 0x106AA07032BBD1B8,
  0x19A4C116B8D2D0C8, 0x1E376C085141AB53, 0x2748774CDF8EEB99, 0x34B0BCB5E19B48A8,
  0x391C0CB3C5C95A63, 0x4ED8AA4AE3418ACB, 0x5B9CCA4F7763E373, 0x682E6FF3D6B2B8A3,
  0x748F82EE5DEFB2FC, 0x78A5636F43172F60, 0x84C87814A1F0AB72, 0x8CC702081A6439EC,
  0x90BEFFFA23631E28, 0xA4506CEBDE82BDE9, 0xBEF9A3F7B2C67915, 0xC67178F2E372532B,
  0xCA273ECEEA26619C, 0xD186B8C721C0C207, 0xEADA7DD6CDE0EB1E, 0xF57D4F7FEE6ED178,
  0x06F067AA72176FBA, 0x0A637DC5A2C898A6, 0x113F9804BEF90DAE, 0x1B710B35131C471B,
  0x28DB77F523047D84, 0x32CAAB7B40C72493, 0x3C9EBE0A15C9BEBC, 0x431D67C49C100D4C,
  0x4CC5D4BECB3E42B6, 0x597F299CFC657E2A, 0x5FCB6FAB3AD6FAEC, 0x6C44198C4A475817])

def sha256P : Sha := ⟨32, (2, 13, 22), (6, 11, 25), (7, 18, 3), (17, 19, 10), sha256K⟩
def sha512P : Sha := ⟨64, (28, 34, 39), (14, 18, 41), (1, 8, 7), (19, 61, 6), sha512K⟩

def Sha.rot3 (p : Sha) (r : Nat × Nat × Nat) (x : Nat) : Nat :=
  rotR p.w x r.1 ^^^ rotR p.w x r.2.1 ^^^ rotR p.w x r.2.2

/-- Two rotations and a shift. -/
def Sha.sigma (p : Sha) (r : Nat × Nat × Nat) (x : Nat) : Nat :=
  rotR p.w x r.1 ^^^ rotR p.w x r.2.1 ^^^ (x / 2 ^ r.2.2)

/-- The message schedule: `n` words are still due; the 16 last words, newest first. -/
def Sha.schedule (p : Sha) : Nat → List Nat → List Nat
  | 0, _ => []
  | n + 1, l =>
    let g (i : Nat) := (l[i]?).getD 0
    let x := (p.sigma p.small1 (g 1) + g 6 + p.sigma p.small0 (g 14) + g 15) % 2 ^ p.w
    x :: p.schedule n (x :: l.take 15)

/-- One round on the eight working words. -/
def Sha.round (p : Sha) (h : List Nat) (kw : Nat × Nat) : List Nat :=
  match h with
  | [a, b, c, d, e, f, g, i] =>
    let m := 2 ^ p.w
    let ch := (e &&& f) ^^^ ((m - 1 - e) &&& g)
    let t1 := i + p.rot3 p.big1 e + ch + kw.1 + kw.2
    let maj := (a &&& b) ^^^ (a &&& c) ^^^ (b &&& c)
    [(t1 + p.rot3 p.big0 a + maj) % m, a, b, c, (d + t1) % m, e, f, g]
  | _ => h

def Sha.words (p : Sha) (b : Bytes) : List Nat :=
  (List.range 16).map fun i => ofBE ((b.drop (i * (p.w / 8))).take (p.w / 8))

def Sha.block (p : Sha) (h : List Nat) (b : Bytes) : List Nat :=
  let w0 := p.words b
  let w := w0 ++ p.schedule (p.k.length - 16) w0.reverse
  List.zipWith (fun x y => (x + y) % 2 ^ p.w) h ((p.k.zip w).foldl p.round h)

def Sha.blocks (p : Sha) : Nat → List Nat → Bytes → List Nat
  | 0, h, _ => h
  | n + 1, h, b => p.blocks n (p.block h (b.take (2 * p.w))) (b.drop (2 * p.w))

/-- The hash of octets from initial words, cut to `n` octets. -/
def Sha.hash (p : Sha) (h0 : List Nat) (n : Nat) (b : Bytes) : Bytes :=
  let size := 2 * p.w
  let zeros := (2 * size - (b.length + 1 + p.w / 4) % size) % size
  let m := b ++ [0x80] ++ List.replicate zeros 0 ++ toBE (p.w / 4) (8 * b.length)
  ((p.blocks (m.length / size) h0 m).flatMap fun x => toBE (p.w / 8) x).take n

def sha256 (b : Bytes) : Bytes :=
  sha256P.hash [0x6A09E667, 0xBB67AE85, 0x3C6EF372, 0xA54FF53A, 0x510E527F, 0x9B05688C, 0x1F83D9AB, 0x5BE0CD19] 32 b

def sha384 (b : Bytes) : Bytes :=
  sha512P.hash [0xCBBB9D5DC1059ED8, 0x629A292A367CD507, 0x9159015A3070DD17, 0x152FECD8F70E5939,
  0x67332667FFC00B31, 0x8EB44A8768581511, 0xDB0C2E0D64F98FA7, 0x47B5481DBEFA4FA4] 48 b

/-- HMAC over a hash with blocks of `size` octets. -/
def hmacOf (hash : Bytes → Bytes) (size : Nat) (key msg : Bytes) : Bytes :=
  let k := if size < key.length then hash key else key
  let k := k ++ List.replicate (size - k.length) 0
  hash (k.map (· ^^^ 0x5C) ++ hash (k.map (· ^^^ 0x36) ++ msg))

def hmacSha256 (key msg : Bytes) : Bytes := hmacOf sha256 64 key msg
def hmacSha384 (key msg : Bytes) : Bytes := hmacOf sha384 128 key msg

/-- The KDF in counter mode of SP 800-108r1 with HMAC-SHA-384 (R612): `n` octets. -/
def kdf (root label context : Bytes) (n : Nat) : Bytes :=
  ((List.range (ceilDiv n 48)).flatMap fun i =>
    hmacSha384 root (toBE 4 (i + 1) ++ label ++ [0] ++ context ++ toBE 4 (8 * n))).take n

/-! ### AES -/

/-- Multiplication by x in the field of AES. -/
def xtime (a : Nat) : Nat := if a < 128 then 2 * a else (2 * a) % 256 ^^^ 0x1B

/-- Multiplication in the field of AES, over the low `n` bits of `b`. -/
def gfMul : Nat → Nat → Nat → Nat
  | 0, _, _ => 0
  | n + 1, a, b => (if b % 2 = 1 then a else 0) ^^^ gfMul n (xtime a) (b / 2)

/-- a to the power 254: the inverse, 0 for 0. -/
def gfInv (a : Nat) : Nat :=
  let m := gfMul 8
  let a2 := m a a
  let a4 := m a2 a2
  let a8 := m a4 a4
  let a16 := m a8 a8
  let a32 := m a16 a16
  let a64 := m a32 a32
  let a128 := m a64 a64
  m a2 (m a4 (m a8 (m a16 (m a32 (m a64 a128)))))

def rotL8 (x k : Nat) : Nat := (x * 2 ^ k) % 256 + x / 2 ^ (8 - k)

def subByte (x : Nat) : Nat :=
  let y := gfInv x
  y ^^^ rotL8 y 1 ^^^ rotL8 y 2 ^^^ rotL8 y 3 ^^^ rotL8 y 4 ^^^ 0x63

/-- The inverse of `subByte`. -/
def invSubByte (x : Nat) : Nat := gfInv (rotL8 x 1 ^^^ rotL8 x 3 ^^^ rotL8 x 6 ^^^ 0x05)

/-- The key schedule: `n` words are still due; the words so far, newest first; `nk` words of key. -/
def expandKey (nk : Nat) : Nat → Nat → List (List Nat) → List (List Nat)
  | 0, _, l => l
  | n + 1, rcon, l =>
    let i := l.length
    let prev := l.headD []
    let t := if i % nk = 0 then
        (match prev with
          | [a, b, c, d] => [subByte b ^^^ rcon, subByte c, subByte d, subByte a]
          | x => x)
      else if 6 < nk ∧ i % nk = 4 then prev.map subByte else prev
    let w := List.zipWith (· ^^^ ·) ((l[nk - 1]?).getD []) t
    expandKey nk n (if i % nk = 0 then xtime rcon else rcon) (w :: l)

def chunks4 : Nat → List Nat → List (List Nat)
  | 0, _ => []
  | n + 1, l => l.take 4 :: chunks4 n (l.drop 4)

/-- The round keys of a key of 16 or 32 octets, 16 numbers each. -/
def roundKeys (key : Bytes) : List (List Nat) :=
  let nk := key.length / 4
  let words := (expandKey nk (4 * (nk + 7) - nk) 1 (chunks4 nk (key.map BitVec.toNat)).reverse).reverse
  (List.range (nk + 7)).map fun r => ((words.drop (4 * r)).take 4).flatten

def xorL (a b : List Nat) : List Nat := List.zipWith (· ^^^ ·) a b

/-- Entry (5 i) mod 16 comes to place i: the rows shift left; with 13 they shift right. -/
def shiftRows (step : Nat) (l : List Nat) : List Nat := (List.range 16).map fun i => l.getD ((step * i) % 16) 0

def mixColumn (m : List Nat) (c : List Nat) : List Nat :=
  (List.range 4).map fun i =>
    (List.range 4).foldl (fun a j => a ^^^ gfMul 8 (c.getD j 0) (m.getD ((j + 4 - i) % 4) 0)) 0

def mixColumns (m : List Nat) (l : List Nat) : List Nat := (chunks4 4 l).flatMap (mixColumn m)

def aesRounds : List (List Nat) → List Nat → List Nat
  | [], st => st
  | [k], st => xorL (shiftRows 5 (st.map subByte)) k
  | k :: ks, st => aesRounds ks (xorL (mixColumns [2, 3, 1, 1] (shiftRows 5 (st.map subByte))) k)

/-- AES of one block. -/
def aesBlock (key b : Bytes) : Bytes :=
  match roundKeys key with
  | [] => b
  | k :: ks => (aesRounds ks (xorL (b.map BitVec.toNat) k)).map (BitVec.ofNat 8)

def aesInvRounds : List (List Nat) → List Nat → List Nat
  | [], st => st
  | [k], st => xorL ((shiftRows 13 st).map invSubByte) k
  | k :: ks, st => aesInvRounds ks (mixColumns [14, 11, 13, 9] (xorL ((shiftRows 13 st).map invSubByte) k))

/-- The inverse of AES of one block. -/
def aesInvBlock (key b : Bytes) : Bytes :=
  match (roundKeys key).reverse with
  | [] => b
  | k :: ks => (aesInvRounds ks (xorL (b.map BitVec.toNat) k)).map (BitVec.ofNat 8)

/-! ### GCM -/

/-- Multiplication in the field of GHASH: `n` bits of `x` from the most significant one on. -/
def ghMul : Nat → Nat → Nat → Nat
  | 0, _, _ => 0
  | n + 1, x, v =>
    (if x.testBit n then v else 0) ^^^ ghMul n x (if v % 2 = 1 then v / 2 ^^^ (0xE1 * 2 ^ 120) else v / 2)

def ghash (h : Nat) : Nat → Bytes → Nat → Nat
  | 0, _, y => y
  | n + 1, b, y => ghash h n (b.drop 16) (ghMul 128 (y ^^^ beAt b 0 16) h)

def pad16 (b : Bytes) : Bytes := b ++ List.replicate ((16 - b.length % 16) % 16) 0

/-- The counter block of a 96-bit IV. -/
def gcmCounter (iv : Bytes) (k : Nat) : Bytes := iv ++ toBE 4 k

def ctrXor (key iv : Bytes) : Nat → Nat → Bytes → Bytes
  | 0, _, _ => []
  | n + 1, k, b =>
    List.zipWith (· ^^^ ·) (b.take 16) (aesBlock key (gcmCounter iv k)) ++ ctrXor key iv n (k + 1) (b.drop 16)

def gcmCrypt (key iv b : Bytes) : Bytes := ctrXor key iv (ceilDiv b.length 16) 2 b

/-- The GCM tag over associated data and ciphertext. -/
def gcmTag (key iv aad c : Bytes) : Bytes :=
  let h := ofBE (aesBlock key (List.replicate 16 0))
  let m := pad16 aad ++ pad16 c ++ toBE 8 (8 * aad.length) ++ toBE 8 (8 * c.length)
  List.zipWith (· ^^^ ·) (toBE 16 (ghash h (m.length / 16) m 0)) (aesBlock key (gcmCounter iv 1))

/-- AES-GMAC: the tag over a message alone. -/
def aesGmac (key iv msg : Bytes) : Bytes := gcmTag key iv msg []

/-! ### Key wrap with padding (RFC 5649) -/

/-- One step of unwrapping: the running block A and the list of 8-octet blocks. -/
def unwrapStep (key : Bytes) (n t : Nat) (a : Nat) (r : List Bytes) : Nat × List Bytes :=
  let i := if t % n = 0 then n else t % n
  let b := aesInvBlock key (toBE 8 (a ^^^ t) ++ (r[i - 1]?).getD [])
  (ofBE (b.take 8), r.set (i - 1) (b.drop 8))

def unwrapSteps (key : Bytes) (n : Nat) : Nat → Nat → List Bytes → Nat × List Bytes
  | 0, a, r => (a, r)
  | t + 1, a, r => unwrapSteps key n t (unwrapStep key n (t + 1) a r).1 (unwrapStep key n (t + 1) a r).2

/-- The octets wrapped in `c` under a key, or none when the check fails. -/
def keyUnwrap (key c : Bytes) : Option Bytes :=
  let n := c.length / 8 - 1
  if c.length % 8 ≠ 0 ∨ n = 0 then none
  else
    let (a, p) := if n = 1 then
        let b := aesInvBlock key c
        (ofBE (b.take 8), b.drop 8)
      else
        let (a, r) := unwrapSteps key n (6 * n) (ofBE (c.take 8))
          ((List.range n).map fun i => (c.drop (8 * (i + 1))).take 8)
        (a, r.flatten)
    let m := a % 2 ^ 32
    if a / 2 ^ 32 = 0xA65959A6 ∧ 8 * (n - 1) < m ∧ m ≤ 8 * n ∧ (p.drop m).all (· == 0) then some (p.take m) else none

end Sys2Proof.Machine
end

