-- ==== Sys2Proof/Machine/Od.lean ====
section
/-! DEFINITION. The numbers of the dictionary's objects, index × 256 + subindex, under the names the
object tables of the chapters give them (R13, R16). An object of an item array is its first number plus the
item's place in the array. -/

namespace Sys2Proof.Machine.Od

/-! Table 19-8 of 19_startup.md. -/
def partNumber : Nat := 0x100000
def stepping : Nat := 0x100001
def serialNumber : Nat := 0x100002
def baseMacAddress : Nat := 0x100003
def orderingCode : Nat := 0x100004
def moduleReset : Nat := 0x101000
def lastResetKind : Nat := 0x101001
def lastResetCause : Nat := 0x101002
def bootState : Nat := 0x101003
def bootTimeline : Nat := 0x101004
def warmResets : Nat := 0x101005
def shoreWakes : Nat := 0x101006
def configLoadRefusals : Nat := 0x101007
def configLoadLastRefused : Nat := 0x101008
def configLoadGtc : Nat := 0x101009
/-! Table 2-5 of 02_object_dictionary.md. -/
def dictRevision : Nat := 0x102000
def dictObjectCount : Nat := 0x102001
def configLockMask : Nat := 0x103000
def balmueneEnable : Nat := 0x104000
def balmuenePort : Nat := 0x104001
def balmuenePlainObserver : Nat := 0x104002
def balmueneSessionTimeout : Nat := 0x104003
def balmueneRequestRate : Nat := 0x104004
def balmueneSessionsOpen : Nat := 0x104005
def mgmtIpv4Address : Nat := 0x104100
def mgmtIpv4Prefix : Nat := 0x104101
def mgmtIpv4Gateway : Nat := 0x104102
def balmueneRequests : Nat := 0x104200
def balmueneRefusals : Nat := 0x104201
def balmueneDuplicates : Nat := 0x104202
def balmueneDropped : Nat := 0x104203
def balmueneHandshakeFailures : Nat := 0x104204
def configSave : Nat := 0x105000
def configSaveStatus : Nat := 0x105001
def configSequence : Nat := 0x105002
def configLoadedFrom : Nat := 0x105003
def configRestoreDefaults : Nat := 0x105004
def localWindowBinding : Nat := 0x106000
def localWindowBinding106001 : Nat := 0x106001
/-! Table 15-9 of 15_host_memory.md. -/
def hcState : Nat := 0x110000
def hcFrequency : Nat := 0x110100
def hcHardwareErrors : Nat := 0x110200
def hcViolations : Nat := 0x110300
/-! Table 15-10 of 15_host_memory.md. -/
def hbmScrubSpacing : Nat := 0x111000
def l3ScrubSpacing : Nat := 0x111001
def managerPages : Nat := 0x111002
def hbmCorrected : Nat := 0x111100
def hbmCheckBitCorrected : Nat := 0x111200
def hbmUncorrectable : Nat := 0x111300
def hbmScrubPassTime : Nat := 0x111400
def l3Corrected : Nat := 0x111500
def l3CheckBitCorrected : Nat := 0x111600
def l3Uncorrectable : Nat := 0x111700
def directoryBackInvalidations : Nat := 0x111800
def coherenceCrossings : Nat := 0x111900
def directoryRecovered : Nat := 0x111A00
def protectionViolations : Nat := 0x111B00
def hbmBind : Nat := 0x112000
def hbmPageInfo : Nat := 0x118000
/-! Table 20-12 of 20_package_pins.md. -/
def srefState : Nat := 0x120000
def mgmtMode : Nat := 0x121000
def mgmtLinkState : Nat := 0x121001
def pcieLinkState : Nat := 0x121100
def bootFlashBlock : Nat := 0x122000
def bootFlashVerify : Nat := 0x123000
def bootFlashInfo : Nat := 0x123001
def mbSpeed : Nat := 0x124000
def mb0TargetAddress : Nat := 0x124100
def mb0BoardController : Nat := 0x124101
def mb1RackMonitor : Nat := 0x124102
def mbArbitrationLost : Nat := 0x124200
def mbDropped : Nat := 0x124300
def mbBusRecoveries : Nat := 0x124400
def mb1PeerRecord : Nat := 0x124500
/-! Table 3-11 of 03_time.md. -/
def gtcNow : Nat := 0x200000
def shoreRefState : Nat := 0x200001
def shoreRefLossCount : Nat := 0x200002
def ppsInEdge : Nat := 0x201000
def irigFormat : Nat := 0x201001
def irig1344 : Nat := 0x201002
def irigTimescale : Nat := 0x201003
def irigYear : Nat := 0x201004
def ppsInState : Nat := 0x201008
def irigState : Nat := 0x201009
def irigFramesDiscarded : Nat := 0x20100A
def domainEnable : Nat := 0x210000
def domainRole : Nat := 0x210001
def sourcePriority : Nat := 0x210002
def ptpProfile : Nat := 0x210003
def ptpDomainNumber : Nat := 0x210004
def ptpClockType : Nat := 0x210005
def ptpPortMask : Nat := 0x210006
def ptpIntervals : Nat := 0x210007
def ptpPriority : Nat := 0x210008
def ptpSlaveOnly : Nat := 0x210009
def taiUtcOffset : Nat := 0x21000A
def slewLimit : Nat := 0x21000B
def stepThreshold : Nat := 0x21000C
def lockThreshold : Nat := 0x21000D
def holdoverErrorRate : Nat := 0x21000E
def holdoverLimit : Nat := 0x21000F
def pairTrim : Nat := 0x210010
def fabricSource : Nat := 0x210011
/-! Table 3-12 of 03_time.md. -/
def domainQuality : Nat := 0x220000
def domainTime : Nat := 0x220001
def measuredOffset : Nat := 0x220002
def domainRate : Nat := 0x220003
def estimatedError : Nat := 0x220004
def holdoverSeconds : Nat := 0x220005
def stepCount : Nat := 0x220006
def stepPendingGtc : Nat := 0x220007
def pairOffset : Nat := 0x220008
def grandmasterIdentity : Nat := 0x220009
def lockLossCount : Nat := 0x22000A
/-! Table 3-13 of 03_time.md. -/
def domainSetTime : Nat := 0x230000
def domainStep : Nat := 0x230001
def domainStepToReference : Nat := 0x230002
def domainStepCancel : Nat := 0x230003
/-! Table 3-14 of 03_time.md. -/
def pgDomain : Nat := 0x240000
def pgTarget : Nat := 0x240001
def pgStart : Nat := 0x240002
def pgPeriod : Nat := 0x240003
def pgWidth : Nat := 0x240004
def pgCount : Nat := 0x240005
def pgPolarity : Nat := 0x240006
def pgEvents : Nat := 0x240007
def pgRequireLock : Nat := 0x240008
def pgArm : Nat := 0x240009
def pgState : Nat := 0x24000A
def pgEdges : Nat := 0x24000B
/-! Table 3-15 of 03_time.md. -/
def ppsOutDomain : Nat := 0x250000
def ppsOutWidth : Nat := 0x250001
def ppsOutSquelch : Nat := 0x250002
/-! Table 4-8 of 04_ports.md. -/
def portEnable : Nat := 0x300000
def portMode : Nat := 0x300001
def portFec : Nat := 0x300002
def portAutoneg : Nat := 0x300003
def portKind : Nat := 0x300004
def portProtection : Nat := 0x300005
def maxFrameSize : Nat := 0x300006
def lpiEnable : Nat := 0x300007
def lpiPartnerAgreed : Nat := 0x300008
def downshiftEnable : Nat := 0x300009
def linkUpHold : Nat := 0x30000A
def portMacAddress : Nat := 0x30000B
def portReset : Nat := 0x300010
def portCounterSnapshot : Nat := 0x300011
def portCounterClear : Nat := 0x300012
/-! Table 4-9 of 04_ports.md. -/
def portState : Nat := 0x310000
def portRate : Nat := 0x310001
def portFaultFlags : Nat := 0x310002
def utilisation : Nat := 0x310003
def linkUpGtc : Nat := 0x310004
def linkDownCount : Nat := 0x310005
def shiftCount : Nat := 0x310006
def shiftFailures : Nat := 0x310007
def trainingRestarts : Nat := 0x310008
/-! Table 4-10 of 04_ports.md. -/
def rxOctets : Nat := 0x320000
def rxFrames : Nat := 0x320001
def rxUnicast : Nat := 0x320002
def rxFcsErrors : Nat := 0x320005
def rxUndersize : Nat := 0x320006
def rxFragments : Nat := 0x320007
def rxOversizeTruncated : Nat := 0x320008
def rxOversizeDiscards : Nat := 0x320009
def rxMacControlDiscards : Nat := 0x32000A
def rxXosynMisplaced : Nat := 0x32000B
def rxLocalDelivered : Nat := 0x32000C
def rxLocalDrops : Nat := 0x32000D
def rxSizeBin : Nat := 0x32000E
def fecCorrected : Nat := 0x320015
def fecUncorrectable : Nat := 0x320016
def lpiTransitions : Nat := 0x320017
def txOctets : Nat := 0x320020
def txFrames : Nat := 0x320021
def txUnicast : Nat := 0x320022
def txStomped : Nat := 0x320025
def txLinkDownDiscards : Nat := 0x320026
def txQueueFrames : Nat := 0x320028
/-! Table 4-11 of 04_ports.md. -/
def snapshotCounter : Nat := 0x330000
def snapshotGtc : Nat := 0x330030
def snapshotSeq : Nat := 0x330031
/-! Table 4-12 of 04_ports.md. -/
def filterEntry : Nat := 0x340000
def filterControl : Nat := 0x340010
/-! Table 4-13 of 04_ports.md. -/
def laneTxInvert : Nat := 0x350000
def laneRxInvert : Nat := 0x350001
def laneTxPreset : Nat := 0x350002
def laneState : Nat := 0x350003
def laneEyeHeight : Nat := 0x350004
def lanePreFecSer : Nat := 0x350005
/-! Table 4-14 of 04_ports.md. -/
def octetFamily : Nat := 0x360000
def octetPllState : Nat := 0x360001
def octetPllLockLoss : Nat := 0x360002
def allPortSnapshot : Nat := 0x370000
/-! Table 5-11 of 05_forwarding.md. -/
def skimmerInterval : Nat := 0x400000
def agingEnable : Nat := 0x400001
def dynamicThresholdShift : Nat := 0x400002
def protectionShare : Nat := 0x400003
def learnedEntries : Nat := 0x400004
def learnFailures : Nat := 0x400005
def stationMoves : Nat := 0x400006
def sharedCellsUsed : Nat := 0x400007
def reserveCellsUsed : Nat := 0x400008
def reserveCharged : Nat := 0x400009
def reserveOverflows : Nat := 0x40000A
def protectionBufferDrops : Nat := 0x40000B
def soundingEnable : Nat := 0x401000
def soundingShadowBase : Nat := 0x401001
def soundingPassGtc : Nat := 0x401002
def soundingDifferences : Nat := 0x401003
def soundingLastRow : Nat := 0x401004
/-! Table 5-12 of 05_forwarding.md. -/
def redMode : Nat := 0x402000
def redPortA : Nat := 0x402001
def redPortB : Nat := 0x402002
def redRole : Nat := 0x402003
def redSanMask : Nat := 0x402004
def redLifeCheckInterval : Nat := 0x402005
def redForgetTime : Nat := 0x402006
def redState : Nat := 0x402007
def redNodes : Nat := 0x402008
def redWrongLanA : Nat := 0x402009
def redWrongLanB : Nat := 0x40200A
def redDuplicates : Nat := 0x40200B
def redNodeTableFull : Nat := 0x40200C
/-! Table 5-13 of 05_forwarding.md. -/
def streamEntry : Nat := 0x420000
def streamCounters : Nat := 0x430000
/-! Table 5-14 of 05_forwarding.md. -/
def portForwardState : Nat := 0x440000
def portDefaultVlan : Nat := 0x440001
def portDefaultPriority : Nat := 0x440002
def pcpMap : Nat := 0x440003
def cutThrough : Nat := 0x440004
def learnLimit : Nat := 0x440005
def learnLimitAction : Nat := 0x440006
def policerEnable : Nat := 0x440007
def policerRate : Nat := 0x440008
def policerBurst : Nat := 0x440009
def floodRate : Nat := 0x44000A
def floodBurst : Nat := 0x44000B
def learnedOnPort : Nat := 0x44000C
def admittedRxBandwidth : Nat := 0x44000D
def admittedTxBandwidth : Nat := 0x44000E
def policerDrops : Nat := 0x450000
def floodPolicerDrops : Nat := 0x450001
def bufferDrops : Nat := 0x450002
def vlanDrops : Nat := 0x450003
def stateDrops : Nat := 0x450004
def learnLimitDrops : Nat := 0x450005
def unadmittedStreamFrames : Nat := 0x450006
/-! Table 5-15 of 05_forwarding.md. -/
def shaperRate : Nat := 0x460000
def shaperBurst : Nat := 0x460010
def shaperLevel : Nat := 0x460020
def shaperEnable : Nat := 0x460030
def shaperOverhead : Nat := 0x460031
/-! Table 5-6 of 05_forwarding.md. -/
def staticMacEntry : Nat := 0x470000
/-! R221 of 05_forwarding.md. -/
def portMask : Nat := 0x490000
/-! Table 5-3 of 05_forwarding.md. -/
def vlanEntry : Nat := 0x4A0000
def vlanEntry4A0001 : Nat := 0x4A0001
def vlanEntry4A0002 : Nat := 0x4A0002
def vlanEntry4A0100 : Nat := 0x4A0100
/-! Table 6-13 of 06_xosyn_fabric.md. -/
def fabricEnable : Nat := 0x4C0000
def fabricId : Nat := 0x4C0001
def fabricAddressRequest : Nat := 0x4C0002
def rootPriority : Nat := 0x4C0003
def helloInterval : Nat := 0x4C0004
def hopLimit : Nat := 0x4C0005
def delayInterval : Nat := 0x4C0006
def reportInterval : Nat := 0x4C0007
def timeOffer : Nat := 0x4C0008
def fabricState : Nat := 0x4C0100
def fabricAddress : Nat := 0x4C0101
def rootSerial : Nat := 0x4C0102
def fabricMembers : Nat := 0x4C0103
def staleMembers : Nat := 0x4C0104
def lsaChanges : Nat := 0x4C0105
def transitFlows : Nat := 0x4C0106
def xosynMalformed : Nat := 0x4C0107
def hopLimitDrops : Nat := 0x4C0108
def noRouteDrops : Nat := 0x4C0109
def flowDrops : Nat := 0x4C010A
def rpfDrops : Nat := 0x4C010B
/-! Table 6-14 of 06_xosyn_fabric.md. -/
def linkCost : Nat := 0x4D0000
def linkAsymmetry : Nat := 0x4D0001
def neighbourState : Nat := 0x4D0002
def neighbourAddress : Nat := 0x4D0003
def neighbourSerial : Nat := 0x4D0004
def linkDelayRx : Nat := 0x4D0005
def linkDelayTx : Nat := 0x4D0006
def linkDelayJitter : Nat := 0x4D0007
def delayOutliers : Nat := 0x4D0008
/-! Table 6-15 of 06_xosyn_fabric.md. -/
def flowEntry : Nat := 0x4E0000
def flowStatus : Nat := 0x4E1000
/-! Table 6-16 of 06_xosyn_fabric.md. -/
def sinkEntry : Nat := 0x4F0000
def sinkCounters : Nat := 0x4F1000
/-! Table 7-11 of 07_sv_intake.md. -/
def intakeStandardLoad : Nat := 0x500000
def intakeWavefrontLoad : Nat := 0x500001
def intakeFrameLoad : Nat := 0x500002
def intakeBoundStreams : Nat := 0x500003
def intakeKeyedStreams : Nat := 0x500004
def intakeStreamConfig : Nat := 0x510000
def intakeChannelMap : Nat := 0x520000
def intakeStreamCounters : Nat := 0x530000
def intakeSvId : Nat := 0x540000
def intakeKeySlots : Nat := 0x550000
def intakeStreamStatus : Nat := 0x560000
def intakeEnable : Nat := 0x570000
def intakeSlotSource : Nat := 0x580000
def intakeWavefrontSlotSource : Nat := 0x584000
/-! Table 8-11 of 08_filter_chain.md. -/
def chainStandardLoad : Nat := 0x600000
def chainWavefrontLoad : Nat := 0x600001
def chainStandardFirLoad : Nat := 0x600002
def chainWavefrontFirLoad : Nat := 0x600003
def chainPhasorLoad : Nat := 0x600004
def chainEccCorrected : Nat := 0x600005
def chainEccUncorrectable : Nat := 0x600006
def chainScrubPassTime : Nat := 0x600007
def firSet : Nat := 0x601000
def firSetStatus : Nat := 0x601100
def filterConfig : Nat := 0x610000
def filterInput : Nat := 0x620000
def filterScale : Nat := 0x630000
def filterEnable : Nat := 0x640000
def filterStatus : Nat := 0x650000
def detectorConfig : Nat := 0x660000
def phasorConfig : Nat := 0x670000
def phasorEnable : Nat := 0x671000
def phasorLatest : Nat := 0x672000
def trackerConfig : Nat := 0x680000
def trackerEnable : Nat := 0x680100
def trackerLatest : Nat := 0x680200
def filterLatest : Nat := 0x690000
/-! Table 9-12 of 09_acquisition.md. -/
def acqPagesBound : Nat := 0x700000
def acqCaptureLoad : Nat := 0x700001
def remoteTriggersReceived : Nat := 0x700002
def remoteTriggersDiscarded : Nat := 0x700003
def acqEccCorrected : Nat := 0x700004
def acqEccUncorrectable : Nat := 0x700005
/-! Table 9-13 of 09_acquisition.md. -/
def triggerConfig : Nat := 0x710000
def captureList : Nat := 0x720000
def captureConfig : Nat := 0x730000
def unitArm : Nat := 0x740000
def unitSoftTrigger : Nat := 0x740001
def unitState : Nat := 0x740002
def unitTriggers : Nat := 0x740003
def unitRecords : Nat := 0x740004
def missedTriggers : Nat := 0x740005
def lateTriggers : Nat := 0x740006
def lastDeadTime : Nat := 0x740007
def maxDeadTime : Nat := 0x740008
def lastTriggerTime : Nat := 0x740009
def unitPages : Nat := 0x74000A
/-! Table 9-15 of 09_acquisition.md. -/
def recordInfo : Nat := 0x750000
def recordControl : Nat := 0x760000
/-! Table 9-16 of 09_acquisition.md. -/
def rippleDriveEnable : Nat := 0x780000
def rippleWidth : Nat := 0x780100
def rippleState : Nat := 0x780200
def rippleEdges : Nat := 0x780300
def rippleStuckCount : Nat := 0x780400
def exportRequest : Nat := 0x790000
def exportTarget : Nat := 0x790001
def exportLimit : Nat := 0x790002
def exportFloat : Nat := 0x790003
def exportRate : Nat := 0x790004
def exportStatus : Nat := 0x790005
def exportLength : Nat := 0x790006
/-! Table 10-15 of 10_scan_engine.md. -/
def scanIsaRevision : Nat := 0x800000
def spState : Nat := 0x800100
def spUtilisation : Nat := 0x800200
def spRecover : Nat := 0x800300
def spLockstepErrors : Nat := 0x800400
def spEccCorrected : Nat := 0x800500
def spCodeFree : Nat := 0x800600
def spDataFree : Nat := 0x800700
/-! Table 10-14 of 10_scan_engine.md. -/
def scanProcessor : Nat := 0x810000
def scanDomain : Nat := 0x810001
def scanPeriod : Nat := 0x810002
def alignMargin : Nat := 0x810003
def arrivalAllowance : Nat := 0x810004
def autoRestartLimit : Nat := 0x810005
def programLoad : Nat := 0x820000
def programStatus : Nat := 0x820001
def programId : Nat := 0x820002
def programVersion : Nat := 0x820003
def programBudget : Nat := 0x820004
def programDigest : Nat := 0x820005
def imageBytes : Nat := 0x820006
def scanControl : Nat := 0x830000
def instanceState : Nat := 0x830001
def scanNumber : Nat := 0x830002
def lastBoundaryGtc : Nat := 0x830003
def faultCause : Nat := 0x830004
def overruns : Nat := 0x830005
def lastExecCycles : Nat := 0x830006
def maxExecCycles : Nat := 0x830007
def lateCommits : Nat := 0x830008
def droppedCommits : Nat := 0x830009
def autoRestarts : Nat := 0x83000A
def scansRun : Nat := 0x83000B
def imageDigest : Nat := 0x83000C
def outputDigest : Nat := 0x83000D
def pendingImages : Nat := 0x83000E
def ferrySwitch : Nat := 0x840000
def ferryCancel : Nat := 0x840001
def ferryState : Nat := 0x840002
def ferryStatus : Nat := 0x840003
def retainedState : Nat := 0x850000
def retainedScan : Nat := 0x850001
def retainedCrcFailures : Nat := 0x850002
/-! Table 12-14 of 12_redundant_pair.md. -/
def pairEnable : Nat := 0x900000
def pairId : Nat := 0x900001
def pairPortA : Nat := 0x900002
def pairPortB : Nat := 0x900003
def pairDomain : Nat := 0x900004
def pairBeat : Nat := 0x900005
def leaseTime : Nat := 0x900006
def pairPreferred : Nat := 0x900007
def revertHold : Nat := 0x900008
def revertScans : Nat := 0x900009
def mismatchLimit : Nat := 0x90000A
def autoResync : Nat := 0x90000B
def reportInterval90000C : Nat := 0x90000C
def peerSerialExpected : Nat := 0x90000D
def paddleCommand : Nat := 0x901000
def pairState : Nat := 0x910000
def pairHealth : Nat := 0x910001
def paddleState : Nat := 0x910002
def leaseExpiry : Nat := 0x910003
def peerSerial : Nat := 0x910004
def pairRole : Nat := 0x910005
def handovers : Nat := 0x910006
def failovers : Nat := 0x910007
def claimConflicts : Nat := 0x910008
def lastGap : Nat := 0x910009
def handoverLateEntries : Nat := 0x91000A
/-! Table 12-15 of 12_redundant_pair.md. -/
def pairMember : Nat := 0x920000
def instancePairState : Nat := 0x920001
def agreedRun : Nat := 0x920002
def imageMismatches : Nat := 0x920003
def outputMismatches : Nat := 0x920004
def unconfirmedScans : Nat := 0x920005
def resyncs : Nat := 0x920006
def lastMismatchScan : Nat := 0x920007
def pairJoin : Nat := 0x920008
def localOutputDiffers : Nat := 0x920009
/-! Table 13-9 of 13_local_io.md. -/
def fioQueueEntries : Nat := 0xA00000
def fioQueueFull : Nat := 0xA00001
def fioDuplicateRecords : Nat := 0xA00002
def fioStepShifted : Nat := 0xA00003
def fioHeldDiscards : Nat := 0xA00004
def fioClass : Nat := 0xA10000
def fioPolarity : Nat := 0xA10100
def fioSafeLevel : Nat := 0xA10200
def fioInFilter : Nat := 0xA10300
def fioChatterLimit : Nat := 0xA10400
def fioLevelWord : Nat := 0xA11000
def fioFlags : Nat := 0xA11100
def fioEdges : Nat := 0xA11200
def fioLastEdgeGtc : Nat := 0xA11300
def fioReadbackFaults : Nat := 0xA11400
def fioEntriesExecuted : Nat := 0xA11500
/-! Table 13-10 of 13_local_io.md. -/
def lsEnable : Nat := 0xA30000
def lsDivider : Nat := 0xA30100
def lsAverage : Nat := 0xA30200
def lsRailLow : Nat := 0xA30300
def lsRailHigh : Nat := 0xA30400
def lsSettleTolerance : Nat := 0xA30500
def lsValue : Nat := 0xA31000
def lsFlags : Nat := 0xA31100
def lsRaw : Nat := 0xA31200
def lsFlaggedConversions : Nat := 0xA31300
def lsBreaks : Nat := 0xA31400
def lsCalibrate : Nat := 0xA32000
def lsCalReference : Nat := 0xA32100
def lsCalNoiseMax : Nat := 0xA32200
def lsCalStatus : Nat := 0xA32300
def tcsConfig : Nat := 0xA40000
def tcsEnable : Nat := 0xA40100
def tcsState : Nat := 0xA40200
def tcsAlarms : Nat := 0xA40300
/-! Table 1-9 of 01_architecture.md. -/
def pondKind : Nat := 0xB00000
def pondParent : Nat := 0xB00001
def pondDepth : Nat := 0xB00002
def pondName : Nat := 0xB00003
def pondHealth : Nat := 0xB00100
def pondHealthChanges : Nat := 0xB00101
def pondEnergyShare : Nat := 0xB00200
def pondEnergyUsed : Nat := 0xB00201
def pondEventRoute : Nat := 0xB00300
def pondItemsHeld : Nat := 0xB01001
def pondItemsInUse : Nat := 0xB01101
def pondCreateChild : Nat := 0xB02000
def pondDelete : Nat := 0xB02100
def pondMove : Nat := 0xB02200
/-! Table 14-14 of 14_instances.md. -/
def instanceCreate : Nat := 0xB08000
def instanceDelete : Nat := 0xB08001
def instancesPresent : Nat := 0xB08002
def datagramRing : Nat := 0xB08003
/-! Table 14-15 of 14_instances.md. -/
def instanceLabel : Nat := 0xB10000
def basketEnable : Nat := 0xB10001
def ringGoose : Nat := 0xB10002
def ringLocal : Nat := 0xB10003
def resetCommand : Nat := 0xB10100
def drainLimit : Nat := 0xB10101
def resetStatus : Nat := 0xB10102
def lastResetTime : Nat := 0xB10103
def resetCount : Nat := 0xB10104
def ringConfig : Nat := 0xB11000
def ringCounters : Nat := 0xB12000
def basketCounters : Nat := 0xB13000
/-! Table 14-14 of 14_instances.md. -/
def vfInstance : Nat := 0xB20001
def vfState : Nat := 0xB20101
/-! Table 16-13 of 16_events_recorder.md. -/
def eventsReleased : Nat := 0xC00000
def eventsDropped : Nat := 0xC00001
def diesExcluded : Nat := 0xC00002
def recorderThreshold : Nat := 0xC00003
def repeatWindow : Nat := 0xC00004
def recorderDomain : Nat := 0xC00005
def freezeLimit : Nat := 0xC00006
def recorderFreeze : Nat := 0xC00100
def recorderState : Nat := 0xC00101
def recorderHead : Nat := 0xC00102
def recorderCount : Nat := 0xC00103
def recordsWritten : Nat := 0xC00104
def recorderHeld : Nat := 0xC00105
def recorderLost : Nat := 0xC00106
def suspectRecords : Nat := 0xC00107
def operatingSeconds : Nat := 0xC00108
def powerCycles : Nat := 0xC00109
def recorderClear : Nat := 0xC0010A
def routeConfig : Nat := 0xC01001
def eventRaise : Nat := 0xC02000
def sourceConfig : Nat := 0xC10000
def eqConfig : Nat := 0xC20000
def eqWritten : Nat := 0xC20100
def evtPinConfig : Nat := 0xC21000
def evtPinAck : Nat := 0xC21100
def recorderRecord : Nat := 0xC40000
/-! Table 17-17 of 17_security.md. -/
def securityState : Nat := 0xD00000
def journalEpoch : Nat := 0xD00001
def keyCopyCorrected : Nat := 0xD00002
def bootPreference : Nat := 0xD00100
def bootConfirm : Nat := 0xD00101
def imageInfo : Nat := 0xD00102
def securityVersionAdvance : Nat := 0xD00104
def recoveryTarget : Nat := 0xD00105
def recoveryRestart : Nat := 0xD00106
def ownerBootKeyBank : Nat := 0xD00200
def ownerBootKeyProgram : Nat := 0xD00210
def ownerBootKeyRevoke : Nat := 0xD00211
def measurementChain : Nat := 0xD01000
def measureExtend : Nat := 0xD01100
def chainExtensions : Nat := 0xD01200
def recoveryBlock : Nat := 0xD05000
def credentialEntry : Nat := 0xD10000
def credentialSecret : Nat := 0xD10100
def ownerClaim : Nat := 0xD10200
def ownerRelease : Nat := 0xD10201
/-! Table 17-18 of 17_security.md. -/
def keySlotInfo : Nat := 0xD20000
def keyLoad : Nat := 0xD20100
def keyCommit : Nat := 0xD20200
def keyErase : Nat := 0xD20300
def attestMSecret : Nat := 0xD30000
def attestMChallenge : Nat := 0xD30001
def attestMResponse : Nat := 0xD30002
def attestPGenerate : Nat := 0xD31000
def attestPPublicKey : Nat := 0xD31001
def attestPStatement : Nat := 0xD31002
def attestPChallenge : Nat := 0xD31003
def attestPQuote : Nat := 0xD31004
def factoryIdentityKey : Nat := 0xD32000
def factoryIdentityCert : Nat := 0xD32001
/-! Table 17-17 of 17_security.md. -/
def tamperEnableMask : Nat := 0xD40000
def tamperStatus : Nat := 0xD40001
def sluiceCommand : Nat := 0xD40002
def sluiceCount : Nat := 0xD40003
/-! Table 18-8 of 18_energy.md. -/
def boardPowerBudget : Nat := 0xE00000
def platformReserve : Nat := 0xE00001
def hamperStatus : Nat := 0xE00002
def measuredPower : Nat := 0xE00003
def ledgerBalance : Nat := 0xE00004
def energyConsumed : Nat := 0xE00005
def budgetOverruns : Nat := 0xE00006
def railPower : Nat := 0xE01000
def railEnergy : Nat := 0xE01100
def holdupCapacitance : Nat := 0xE02000
def holdupDivider : Nat := 0xE02001
def holdupFloor : Nat := 0xE02002
def holdupLossVoltage : Nat := 0xE02003
def holdupReturnVoltage : Nat := 0xE02004
def holdupEfficiency : Nat := 0xE02005
def holdupBoardLoad : Nat := 0xE02006
def flushReserve : Nat := 0xE02007
def shedLead : Nat := 0xE02008
def holdupVoltage : Nat := 0xE02100
def holdupEnergy : Nat := 0xE02101
def holdupCapMeasured : Nat := 0xE02102
def shedThresholds : Nat := 0xE02103
def holdupCalibrate : Nat := 0xE02104
def holdupCalReference : Nat := 0xE02105
def holdupCalNoiseMax : Nat := 0xE02106
def holdupCalStatus : Nat := 0xE02107
def supplyLossCount : Nat := 0xE02108
/-! Table 18-10 of 18_energy.md. -/
def throttleTemp : Nat := 0xE03000
def downshiftTemp : Nat := 0xE03001
def thermalHysteresis : Nat := 0xE03002
def hostMinFrequency : Nat := 0xE03003
def dieTemperature : Nat := 0xE03100
def tjMax : Nat := 0xE03108
/-! Table 18-8 of 18_energy.md. -/
def moduleSleep : Nat := 0xE04000
def hbmIdleTime : Nat := 0xE04001
/-! Table 3-16 of 03_time.md. -/
def factoryPpsOutDelay : Nat := 0xF20000
def factoryPpsInDelay : Nat := 0xF20002
def factoryIrigInDelay : Nat := 0xF20003
def factoryRxLaneDelay : Nat := 0xF20100
def factoryTxLaneDelay : Nat := 0xF20200
/-! Table 13-11 of 13_local_io.md. -/
def factoryLsGain : Nat := 0xF30000
def factoryLsOffset : Nat := 0xF30100
def factoryFioOutDelay : Nat := 0xF30200
def factoryFioInDelay : Nat := 0xF30300
/-! Table 18-10 of 18_energy.md. -/
def factoryHoldupGain : Nat := 0xF40000
def factoryHoldupOffset : Nat := 0xF40100
/-! Table 9-16 of 09_acquisition.md. -/
def factoryRippleInDelay : Nat := 0xF70000
/-! Table 3-16 of 03_time.md. -/
def userTimeDelay : Nat := 0xFA0000
def userRxLaneDelay : Nat := 0xFA0100
def userTxLaneDelay : Nat := 0xFA0200
/-! Table 13-11 of 13_local_io.md. -/
def userLsGain : Nat := 0xFB0000
def userLsOffset : Nat := 0xFB0100
def userFioOutDelay : Nat := 0xFB0200
def userFioInDelay : Nat := 0xFB0300
/-! Table 18-10 of 18_energy.md. -/
def userHoldupGain : Nat := 0xFC0000
def userHoldupOffset : Nat := 0xFC0100
/-! Table 9-16 of 09_acquisition.md. -/
def userRippleInDelay : Nat := 0xFF0000

end Sys2Proof.Machine.Od
end

