-- ==== Sys2Proof/Machine/ObjectRow.lean ====
section
/-! DEFINITION. What the dictionary says of one object (R16, Table 2-2, Tables 0-4 and 0-5). -/

namespace Sys2Proof.Machine

/-- Object types, Table 2-2. -/
inductive OType where
  | u8 | u16 | u32 | u64 | i32 | i64 | f32 | time | blob | str
  deriving DecidableEq, Repr

/-- Apply classes, Table 0-5. -/
inductive Apply where
  | I | S | B | T | F
  deriving DecidableEq, Repr

/-- Whether an object carries a selector (R58): none, an instance's (R519), or any pond's (R51). -/
inductive SelKind where
  | none | inst | pond
  deriving DecidableEq, Repr

/-- The form that an object's table states for its value (R60, R62). -/
inductive Range where
  /-- Every value of the type. -/
  | any
  /-- An unsigned value between the two bounds. -/
  | nat (lo hi : Nat)
  /-- A two's complement value between the two bounds. -/
  | int (lo hi : Int)
  /-- One of the listed values. -/
  | oneOf (l : List Nat)
  /-- Only the bits of the mask may be 1; the others are reserved. -/
  | bits (mask : Nat)
  /-- A binary32 value between two positive or zero bounds given by their bit patterns. -/
  | float (lo hi : Nat)
  /-- A BLOB or STR with one of the listed lengths. -/
  | exact (l : List Nat)
  /-- A BLOB or STR of at most so many octets. -/
  | upTo (n : Nat)
  deriving DecidableEq, Repr

/-- A value of an object: a number (its bit pattern, for the types of fixed size) or an octet string. -/
inductive OVal where
  | num (n : Nat)
  | bytes (b : Bytes)
  deriving DecidableEq, Repr

/-- One line of an object table. -/
structure ObjectRow where
  index0 : Nat
  index1 : Nat
  sub0 : Nat
  sub1 : Nat
  typ : OType
  owner : Nat
  manager : Nat
  tenant : Nat
  observer : Nat
  apply : Apply
  liveSafe : Bool
  sel : SelKind
  range : Range
  dflt : OVal
  factory : Bool
  name : String
  deriving DecidableEq, Repr

end Sys2Proof.Machine
end

