-- ==== Sys2Proof/Machine/ObjectTable.lean ====
section
/-! DEFINITION. The object dictionary: one row for every line of the chapters' object tables (R16), by index
nibble: first and last index, first and last subindex, type, access letters of Owner, Manager, Tenant and
Observer (1 g, 2 p, 4 k, 8 h, 16 x), apply class, live-safe mark, selector kind, range, default, factory mark
and name. -/

namespace Sys2Proof.Machine

def objectRows1_0 : List ObjectRow := [
  ⟨0x1000, 0x1000, 0x00, 0x00, .str, 1, 1, 1, 1, .F, false, .none, .upTo 255, .bytes [0x4B, 0x44, 0x4D, 0x37, 0x32, 0x35, 0x36], false, "PartNumber"⟩,
  ⟨0x1000, 0x1000, 0x01, 0x01, .str, 1, 1, 1, 1, .F, false, .none, .upTo 255, .bytes [0x42, 0x30], false, "Stepping"⟩,
  ⟨0x1000, 0x1000, 0x02, 0x02, .u64, 1, 1, 1, 1, .F, false, .none, .any, .num 0, true, "SerialNumber"⟩,
  ⟨0x1000, 0x1000, 0x03, 0x03, .u64, 1, 1, 0, 1, .F, false, .none, .any, .num 0, true, "BaseMacAddress"⟩,
  ⟨0x1000, 0x1000, 0x04, 0x04, .str, 1, 1, 1, 1, .F, false, .none, .upTo 255, .bytes [0x4B, 0x44, 0x4D, 0x37, 0x32, 0x35, 0x36, 0x42, 0x30, 0x2D, 0x46, 0x37, 0x33, 0x45], false, "OrderingCode"⟩,
  ⟨0x1010, 0x1010, 0x00, 0x00, .u8, 16, 16, 0, 0, .I, false, .none, .nat 1 3, .num 0, false, "ModuleReset"⟩,
  ⟨0x1010, 0x1010, 0x01, 0x01, .u8, 9, 9, 9, 9, .I, false, .none, .any, .num 0, false, "LastResetKind"⟩,
  ⟨0x1010, 0x1010, 0x02, 0x02, .u8, 9, 9, 0, 9, .I, false, .none, .any, .num 0, false, "LastResetCause"⟩,
  ⟨0x1010, 0x1010, 0x03, 0x03, .u8, 9, 9, 9, 9, .I, false, .none, .any, .num 0, false, "BootState"⟩,
  ⟨0x1010, 0x1010, 0x04, 0x04, .blob, 9, 9, 0, 9, .I, false, .none, .upTo 65535, .bytes [], false, "BootTimeline"⟩,
  ⟨0x1010, 0x1010, 0x05, 0x05, .u32, 9, 9, 0, 9, .I, false, .none, .any, .num 0, false, "WarmResets"⟩,
  ⟨0x1010, 0x1010, 0x06, 0x06, .u32, 9, 9, 0, 9, .I, false, .none, .any, .num 0, false, "ShoreWakes"⟩,
  ⟨0x1010, 0x1010, 0x07, 0x07, .u32, 9, 9, 0, 9, .I, false, .none, .any, .num 0, false, "ConfigLoadRefusals"⟩,
  ⟨0x1010, 0x1010, 0x08, 0x08, .u64, 9, 9, 0, 9, .I, false, .none, .any, .num 0, false, "ConfigLoadLastRefused"⟩,
  ⟨0x1010, 0x1010, 0x09, 0x09, .u64, 9, 9, 0, 9, .I, false, .none, .any, .num 0, false, "ConfigLoadGtc"⟩,
  ⟨0x1020, 0x1020, 0x00, 0x00, .u32, 1, 1, 1, 1, .F, false, .none, .any, .num 0x10000, false, "DictRevision"⟩,
  ⟨0x1020, 0x1020, 0x01, 0x01, .u32, 1, 1, 1, 1, .F, false, .none, .any, .num 0, true, "DictObjectCount"⟩,
  ⟨0x1030, 0x1030, 0x00, 0x00, .u16, 3, 1, 0, 1, .I, true, .none, .bits 0xFFFE, .num 0, false, "ConfigLockMask"⟩,
  ⟨0x1040, 0x1040, 0x00, 0x00, .u8, 3, 3, 0, 1, .T, false, .none, .nat 0 1, .num 1, false, "BalmueneEnable"⟩,
  ⟨0x1040, 0x1040, 0x01, 0x01, .u16, 3, 3, 0, 1, .T, false, .none, .nat 1024 65535, .num 0xC4F1, false, "BalmuenePort"⟩,
  ⟨0x1040, 0x1040, 0x02, 0x02, .u8, 3, 1, 0, 1, .T, false, .none, .nat 0 1, .num 1, false, "BalmuenePlainObserver"⟩,
  ⟨0x1040, 0x1040, 0x03, 0x03, .u32, 3, 3, 0, 1, .I, true, .none, .nat 1000 600000, .num 0x7530, false, "BalmueneSessionTimeout"⟩,
  ⟨0x1040, 0x1040, 0x04, 0x04, .u16, 3, 3, 0, 1, .I, true, .none, .nat 100 10000, .num 0x7D0, false, "BalmueneRequestRate"⟩,
  ⟨0x1040, 0x1040, 0x05, 0x05, .u8, 9, 9, 0, 9, .I, false, .none, .any, .num 0, false, "BalmueneSessionsOpen"⟩,
  ⟨0x1041, 0x1041, 0x00, 0x00, .u32, 3, 3, 0, 1, .T, false, .none, .any, .num 0, false, "MgmtIpv4Address"⟩,
  ⟨0x1041, 0x1041, 0x01, 0x01, .u8, 3, 3, 0, 1, .T, false, .none, .nat 8 30, .num 0x10, false, "MgmtIpv4Prefix"⟩,
  ⟨0x1041, 0x1041, 0x02, 0x02, .u32, 3, 3, 0, 1, .T, false, .none, .any, .num 0, false, "MgmtIpv4Gateway"⟩,
  ⟨0x1042, 0x1042, 0x00, 0x00, .u64, 9, 9, 0, 9, .I, false, .none, .any, .num 0, false, "BalmueneRequests"⟩,
  ⟨0x1042, 0x1042, 0x01, 0x01, .u64, 9, 9, 0, 9, .I, false, .none, .any, .num 0, false, "BalmueneRefusals"⟩,
  ⟨0x1042, 0x1042, 0x02, 0x02, .u64, 9, 9, 0, 9, .I, false, .none, .any, .num 0, false, "BalmueneDuplicates"⟩,
  ⟨0x1042, 0x1042, 0x03, 0x03, .u64, 9, 9, 0, 9, .I, false, .none, .any, .num 0, false, "BalmueneDropped"⟩,
  ⟨0x1042, 0x1042, 0x04, 0x04, .u32, 9, 9, 0, 9, .I, false, .none, .any, .num 0, false, "BalmueneHandshakeFailures"⟩,
  ⟨0x1050, 0x1050, 0x00, 0x00, .u8, 16, 16, 0, 0, .I, false, .none, .oneOf [1], .num 0, false, "ConfigSave"⟩,
  ⟨0x1050, 0x1050, 0x01, 0x01, .u8, 9, 9, 0, 9, .I, false, .none, .any, .num 0, false, "ConfigSaveStatus"⟩,
  ⟨0x1050, 0x1050, 0x02, 0x02, .u32, 9, 9, 0, 9, .I, false, .none, .any, .num 0, false, "ConfigSequence"⟩,
  ⟨0x1050, 0x1050, 0x03, 0x03, .u8, 9, 9, 0, 9, .I, false, .none, .any, .num 0, false, "ConfigLoadedFrom"⟩,
  ⟨0x1050, 0x1050, 0x04, 0x04, .u8, 16, 16, 0, 0, .T, false, .none, .oneOf [1], .num 0, false, "ConfigRestoreDefaults"⟩,
  ⟨0x1060, 0x1060, 0x00, 0x00, .u16, 1, 1, 0, 1, .F, false, .none, .any, .num 0x2000, false, "LocalWindowBinding"⟩,
  ⟨0x1060, 0x1060, 0x01, 0x3F, .u16, 1, 3, 0, 1, .I, false, .none, .any, .num 0, false, "LocalWindowBinding"⟩,
  ⟨0x1100, 0x1100, 0x00, 0x0F, .u8, 9, 9, 9, 9, .I, false, .none, .any, .num 0, false, "HcState"⟩]

def objectRows1_1 : List ObjectRow := [
  ⟨0x1101, 0x1101, 0x00, 0x0F, .u16, 9, 9, 9, 9, .I, false, .none, .any, .num 0, false, "HcFrequency"⟩,
  ⟨0x1102, 0x1102, 0x00, 0x0F, .u32, 9, 9, 0, 9, .I, false, .none, .any, .num 0, false, "HcHardwareErrors"⟩,
  ⟨0x1103, 0x1103, 0x00, 0x0F, .u32, 9, 9, 0, 9, .I, false, .none, .any, .num 0, false, "HcViolations"⟩,
  ⟨0x1110, 0x1110, 0x00, 0x00, .u32, 3, 3, 0, 1, .I, true, .none, .nat 100 60000, .num 0x3E8, false, "HbmScrubSpacing"⟩,
  ⟨0x1110, 0x1110, 0x01, 0x01, .u32, 3, 3, 0, 1, .I, true, .none, .nat 100 60000, .num 0x3E8, false, "L3ScrubSpacing"⟩,
  ⟨0x1110, 0x1110, 0x02, 0x02, .u16, 3, 3, 0, 1, .T, false, .none, .nat 64 4096, .num 0x200, false, "ManagerPages"⟩,
  ⟨0x1111, 0x1111, 0x00, 0x03, .u32, 9, 9, 0, 9, .I, false, .none, .any, .num 0, false, "HbmCorrected"⟩,
  ⟨0x1112, 0x1112, 0x00, 0x03, .u32, 9, 9, 0, 9, .I, false, .none, .any, .num 0, false, "HbmCheckBitCorrected"⟩,
  ⟨0x1113, 0x1113, 0x00, 0x03, .u32, 9, 9, 0, 9, .I, false, .none, .any, .num 0, false, "HbmUncorrectable"⟩,
  ⟨0x1114, 0x1114, 0x00, 0x03, .u32, 9, 9, 0, 9, .I, false, .none, .any, .num 0, false, "HbmScrubPassTime"⟩,
  ⟨0x1115, 0x1115, 0x00, 0x01, .u32, 9, 9, 0, 9, .I, false, .none, .any, .num 0, false, "L3Corrected"⟩,
  ⟨0x1116, 0x1116, 0x00, 0x01, .u32, 9, 9, 0, 9, .I, false, .none, .any, .num 0, false, "L3CheckBitCorrected"⟩,
  ⟨0x1117, 0x1117, 0x00, 0x01, .u32, 9, 9, 0, 9, .I, false, .none, .any, .num 0, false, "L3Uncorrectable"⟩,
  ⟨0x1118, 0x1118, 0x00, 0x01, .u64, 9, 9, 0, 9, .I, false, .none, .any, .num 0, false, "DirectoryBackInvalidations"⟩,
  ⟨0x1119, 0x1119, 0x00, 0x01, .u64, 9, 9, 0, 9, .I, false, .none, .any, .num 0, false, "CoherenceCrossings"⟩,
  ⟨0x111A, 0x111A, 0x00, 0x01, .u32, 9, 9, 0, 9, .I, false, .none, .any, .num 0, false, "DirectoryRecovered"⟩,
  ⟨0x111B, 0x111B, 0x00, 0x00, .u32, 9, 9, 0, 9, .I, false, .none, .any, .num 0, false, "ProtectionViolations"⟩,
  ⟨0x1120, 0x1120, 0x00, 0x00, .u64, 0, 16, 0, 0, .I, false, .none, .bits 0x0FFFFFFFFF007FFF, .num 0, false, "HbmBind"⟩,
  ⟨0x1180, 0x11FF, 0x00, 0xFF, .u32, 9, 9, 9, 9, .I, false, .none, .any, .num 0, false, "HbmPageInfo"⟩,
  ⟨0x1200, 0x1200, 0x00, 0x00, .u8, 9, 9, 0, 9, .I, false, .none, .any, .num 0, false, "SrefState"⟩,
  ⟨0x1210, 0x1210, 0x00, 0x00, .u8, 3, 3, 0, 1, .T, false, .none, .nat 0 1, .num 0, false, "MgmtMode"⟩,
  ⟨0x1210, 0x1210, 0x01, 0x01, .u8, 9, 9, 0, 9, .I, false, .none, .any, .num 0, false, "MgmtLinkState"⟩,
  ⟨0x1211, 0x1211, 0x00, 0x00, .u32, 9, 9, 0, 9, .I, false, .none, .any, .num 0, false, "PcieLinkState"⟩,
  ⟨0x1220, 0x122B, 0x00, 0xFF, .blob, 16, 16, 0, 0, .I, false, .none, .exact [32768], .bytes [], false, "BootFlashBlock"⟩,
  ⟨0x1230, 0x1230, 0x00, 0x00, .u8, 16, 16, 0, 0, .I, false, .none, .nat 1 1, .num 0, false, "BootFlashVerify"⟩,
  ⟨0x1230, 0x1230, 0x01, 0x02, .blob, 9, 9, 0, 9, .I, false, .none, .upTo 65535, .bytes [], false, "BootFlashInfo"⟩,
  ⟨0x1240, 0x1240, 0x00, 0x01, .u8, 3, 3, 0, 1, .I, true, .none, .nat 0 1, .num 0, false, "MbSpeed"⟩,
  ⟨0x1241, 0x1241, 0x00, 0x00, .u8, 3, 3, 0, 1, .T, false, .none, .nat 8 119, .num 0x52, false, "Mb0TargetAddress"⟩,
  ⟨0x1241, 0x1241, 0x01, 0x01, .u8, 3, 3, 0, 1, .I, true, .none, .any, .num 0x48, false, "Mb0BoardController"⟩,
  ⟨0x1241, 0x1241, 0x02, 0x02, .u8, 3, 3, 0, 1, .I, true, .none, .any, .num 0, false, "Mb1RackMonitor"⟩,
  ⟨0x1242, 0x1242, 0x00, 0x01, .u32, 9, 9, 0, 9, .I, false, .none, .any, .num 0, false, "MbArbitrationLost"⟩,
  ⟨0x1243, 0x1243, 0x00, 0x01, .u32, 9, 9, 0, 9, .I, false, .none, .any, .num 0, false, "MbDropped"⟩,
  ⟨0x1244, 0x1244, 0x00, 0x01, .u32, 9, 9, 0, 9, .I, false, .none, .any, .num 0, false, "MbBusRecoveries"⟩,
  ⟨0x1245, 0x1245, 0x00, 0x00, .blob, 9, 9, 0, 9, .I, false, .none, .upTo 65535, .bytes [], false, "Mb1PeerRecord"⟩]

/-- The objects with index 0x1nnn. -/
def objectRows1 : List ObjectRow := objectRows1_0 ++ objectRows1_1

def objectRows2_0 : List ObjectRow := [
  ⟨0x2000, 0x2000, 0x00, 0x00, .u64, 9, 9, 9, 9, .I, false, .none, .any, .num 0, false, "GtcNow"⟩,
  ⟨0x2000, 0x2000, 0x01, 0x01, .u8, 9, 9, 9, 9, .I, false, .none, .any, .num 0, false, "ShoreRefState"⟩,
  ⟨0x2000, 0x2000, 0x02, 0x02, .u32, 9, 9, 0, 9, .I, false, .none, .any, .num 0, false, "ShoreRefLossCount"⟩,
  ⟨0x2010, 0x2010, 0x00, 0x00, .u8, 3, 3, 0, 1, .I, false, .none, .nat 0 1, .num 0, false, "PpsInEdge"⟩,
  ⟨0x2010, 0x2010, 0x01, 0x01, .u8, 3, 3, 0, 1, .I, false, .none, .nat 0 8, .num 0, false, "IrigFormat"⟩,
  ⟨0x2010, 0x2010, 0x02, 0x02, .u8, 3, 3, 0, 1, .I, false, .none, .nat 0 1, .num 1, false, "Irig1344"⟩,
  ⟨0x2010, 0x2010, 0x03, 0x03, .u8, 3, 3, 0, 1, .I, false, .none, .nat 0 2, .num 0, false, "IrigTimescale"⟩,
  ⟨0x2010, 0x2010, 0x04, 0x04, .u16, 3, 3, 0, 1, .I, true, .none, .any, .num 0, false, "IrigYear"⟩,
  ⟨0x2010, 0x2010, 0x08, 0x08, .u8, 9, 9, 0, 9, .I, false, .none, .any, .num 0, false, "PpsInState"⟩,
  ⟨0x2010, 0x2010, 0x09, 0x09, .u8, 9, 9, 0, 9, .I, false, .none, .any, .num 0, false, "IrigState"⟩,
  ⟨0x2010, 0x2010, 0x0A, 0x0A, .u32, 9, 9, 0, 9, .I, false, .none, .any, .num 0, false, "IrigFramesDiscarded"⟩,
  ⟨0x2100, 0x2107, 0x00, 0x00, .u8, 3, 3, 0, 1, .I, true, .none, .nat 0 1, .num 0, false, "DomainEnable"⟩,
  ⟨0x2100, 0x2107, 0x01, 0x01, .u8, 3, 3, 0, 1, .I, false, .none, .nat 0 1, .num 0, false, "DomainRole"⟩,
  ⟨0x2100, 0x2107, 0x02, 0x02, .u32, 3, 3, 0, 1, .I, true, .none, .any, .num 0x1000000, false, "SourcePriority"⟩,
  ⟨0x2100, 0x2107, 0x03, 0x03, .u8, 3, 3, 0, 1, .I, false, .none, .nat 1 4, .num 1, false, "PtpProfile"⟩,
  ⟨0x2100, 0x2107, 0x04, 0x04, .u8, 3, 3, 0, 1, .I, false, .none, .any, .num 0, false, "PtpDomainNumber"⟩,
  ⟨0x2100, 0x2107, 0x05, 0x05, .u8, 3, 3, 0, 1, .I, false, .none, .nat 1 3, .num 3, false, "PtpClockType"⟩,
  ⟨0x2100, 0x2107, 0x06, 0x06, .blob, 3, 3, 0, 1, .I, false, .none, .exact [32], .bytes (List.replicate 32 0), false, "PtpPortMask"⟩,
  ⟨0x2100, 0x2107, 0x07, 0x07, .u32, 3, 3, 0, 1, .I, false, .none, .any, .num 3, false, "PtpIntervals"⟩,
  ⟨0x2100, 0x2107, 0x08, 0x08, .u16, 3, 3, 0, 1, .I, true, .none, .any, .num 0x8080, false, "PtpPriority"⟩,
  ⟨0x2100, 0x2107, 0x09, 0x09, .u8, 3, 3, 0, 1, .I, false, .none, .nat 0 1, .num 1, false, "PtpSlaveOnly"⟩,
  ⟨0x2100, 0x2107, 0x0A, 0x0A, .i32, 11, 11, 0, 9, .I, true, .none, .any, .num 0x25, false, "TaiUtcOffset"⟩,
  ⟨0x2100, 0x2107, 0x0B, 0x0B, .u32, 3, 3, 0, 1, .I, true, .none, .nat 1000 500000, .num 0xC350, false, "SlewLimit"⟩,
  ⟨0x2100, 0x2107, 0x0C, 0x0C, .u32, 3, 3, 0, 1, .I, true, .none, .nat 1000 1000000000, .num 0xF4240, false, "StepThreshold"⟩,
  ⟨0x2100, 0x2107, 0x0D, 0x0D, .u32, 3, 3, 0, 1, .I, true, .none, .nat 10 100000, .num 0xFA, false, "LockThreshold"⟩,
  ⟨0x2100, 0x2107, 0x0E, 0x0E, .f32, 3, 3, 0, 1, .I, true, .none, .float 0x3DCCCCCD 0x447A0000, .num 0x41200000, false, "HoldoverErrorRate"⟩,
  ⟨0x2100, 0x2107, 0x0F, 0x0F, .u32, 3, 3, 0, 1, .I, true, .none, .nat 10 1000000000, .num 0x3E8, false, "HoldoverLimit"⟩,
  ⟨0x2100, 0x2107, 0x10, 0x10, .u8, 3, 3, 0, 1, .I, true, .none, .nat 0 1, .num 1, false, "PairTrim"⟩,
  ⟨0x2100, 0x2107, 0x11, 0x11, .u16, 3, 3, 0, 1, .I, true, .none, .any, .num 0xFFFF, false, "FabricSource"⟩,
  ⟨0x2200, 0x2207, 0x00, 0x00, .u32, 9, 9, 9, 9, .I, false, .none, .any, .num 0, false, "DomainQuality"⟩,
  ⟨0x2200, 0x2207, 0x01, 0x01, .time, 9, 9, 9, 9, .I, false, .none, .any, .num 0, false, "DomainTime"⟩,
  ⟨0x2200, 0x2207, 0x02, 0x02, .i64, 9, 9, 9, 9, .I, false, .none, .any, .num 0, false, "MeasuredOffset"⟩,
  ⟨0x2200, 0x2207, 0x03, 0x03, .i64, 9, 9, 9, 9, .I, false, .none, .any, .num 0, false, "DomainRate"⟩,
  ⟨0x2200, 0x2207, 0x04, 0x04, .u32, 9, 9, 9, 9, .I, false, .none, .any, .num 0, false, "EstimatedError"⟩,
  ⟨0x2200, 0x2207, 0x05, 0x05, .u32, 9, 9, 9, 9, .I, false, .none, .any, .num 0, false, "HoldoverSeconds"⟩,
  ⟨0x2200, 0x2207, 0x06, 0x06, .u32, 9, 9, 9, 9, .I, false, .none, .any, .num 0, false, "StepCount"⟩,
  ⟨0x2200, 0x2207, 0x07, 0x07, .u64, 9, 9, 9, 9, .I, false, .none, .any, .num 0, false, "StepPendingGtc"⟩,
  ⟨0x2200, 0x2207, 0x08, 0x08, .i64, 9, 9, 9, 9, .I, false, .none, .any, .num 0, false, "PairOffset"⟩,
  ⟨0x2200, 0x2207, 0x09, 0x09, .u64, 9, 9, 0, 9, .I, false, .none, .any, .num 0, false, "GrandmasterIdentity"⟩,
  ⟨0x2200, 0x2207, 0x0A, 0x0A, .u32, 9, 9, 0, 9, .I, false, .none, .any, .num 0, false, "LockLossCount"⟩]

def objectRows2_1 : List ObjectRow := [
  ⟨0x2300, 0x2307, 0x00, 0x00, .time, 16, 16, 0, 0, .I, false, .none, .any, .num 0, false, "DomainSetTime"⟩,
  ⟨0x2300, 0x2307, 0x01, 0x01, .i64, 16, 16, 0, 0, .I, false, .none, .any, .num 0, false, "DomainStep"⟩,
  ⟨0x2300, 0x2307, 0x02, 0x02, .u8, 16, 16, 0, 0, .I, false, .none, .oneOf [1], .num 0, false, "DomainStepToReference"⟩,
  ⟨0x2300, 0x2307, 0x03, 0x03, .u8, 16, 16, 0, 0, .I, false, .none, .oneOf [1], .num 0, false, "DomainStepCancel"⟩,
  ⟨0x2400, 0x241F, 0x00, 0x00, .u8, 3, 3, 3, 1, .I, false, .none, .nat 0 7, .num 0, false, "PgDomain"⟩,
  ⟨0x2400, 0x241F, 0x01, 0x01, .u8, 3, 3, 3, 1, .I, false, .none, .any, .num 0xFF, false, "PgTarget"⟩,
  ⟨0x2400, 0x241F, 0x02, 0x02, .time, 3, 3, 3, 1, .I, false, .none, .any, .num 0, false, "PgStart"⟩,
  ⟨0x2400, 0x241F, 0x03, 0x03, .u64, 3, 3, 3, 1, .I, false, .none, .any, .num 0, false, "PgPeriod"⟩,
  ⟨0x2400, 0x241F, 0x04, 0x04, .u32, 3, 3, 3, 1, .I, false, .none, .nat 4 2000000000, .num 0x7D0, false, "PgWidth"⟩,
  ⟨0x2400, 0x241F, 0x05, 0x05, .u32, 3, 3, 3, 1, .I, false, .none, .any, .num 0, false, "PgCount"⟩,
  ⟨0x2400, 0x241F, 0x06, 0x06, .u8, 3, 3, 3, 1, .I, false, .none, .nat 0 1, .num 0, false, "PgPolarity"⟩,
  ⟨0x2400, 0x241F, 0x07, 0x07, .u8, 3, 3, 3, 1, .I, false, .none, .nat 0 2, .num 0, false, "PgEvents"⟩,
  ⟨0x2400, 0x241F, 0x08, 0x08, .u8, 3, 3, 3, 1, .I, false, .none, .nat 0 1, .num 1, false, "PgRequireLock"⟩,
  ⟨0x2400, 0x241F, 0x09, 0x09, .u8, 16, 16, 16, 0, .I, false, .none, .nat 1 2, .num 0, false, "PgArm"⟩,
  ⟨0x2400, 0x241F, 0x0A, 0x0A, .u8, 9, 9, 9, 9, .I, false, .none, .any, .num 0, false, "PgState"⟩,
  ⟨0x2400, 0x241F, 0x0B, 0x0B, .u64, 9, 9, 9, 9, .I, false, .none, .any, .num 0, false, "PgEdges"⟩,
  ⟨0x2500, 0x2501, 0x00, 0x00, .u8, 3, 3, 0, 1, .I, true, .none, .any, .num 0xFF, false, "PpsOutDomain"⟩,
  ⟨0x2500, 0x2501, 0x01, 0x01, .u32, 3, 3, 0, 1, .I, true, .none, .nat 100 500000000, .num 0x989680, false, "PpsOutWidth"⟩,
  ⟨0x2500, 0x2501, 0x02, 0x02, .u8, 3, 3, 0, 1, .I, true, .none, .nat 0 1, .num 1, false, "PpsOutSquelch"⟩]

/-- The objects with index 0x2nnn. -/
def objectRows2 : List ObjectRow := objectRows2_0 ++ objectRows2_1

def objectRows3_0 : List ObjectRow := [
  ⟨0x3000, 0x30FF, 0x00, 0x00, .u8, 3, 3, 3, 1, .I, true, .none, .nat 0 1, .num 0, false, "PortEnable"⟩,
  ⟨0x3000, 0x30FF, 0x01, 0x01, .u8, 3, 3, 3, 1, .I, false, .none, .nat 0 8, .num 0, false, "PortMode"⟩,
  ⟨0x3000, 0x30FF, 0x02, 0x02, .u8, 3, 3, 3, 1, .I, false, .none, .nat 0 3, .num 3, false, "PortFec"⟩,
  ⟨0x3000, 0x30FF, 0x03, 0x03, .u8, 3, 3, 3, 1, .I, false, .none, .nat 0 1, .num 1, false, "PortAutoneg"⟩,
  ⟨0x3000, 0x30FF, 0x04, 0x04, .u8, 3, 3, 0, 1, .I, false, .none, .nat 0 1, .num 0, false, "PortKind"⟩,
  ⟨0x3000, 0x30FF, 0x05, 0x05, .u8, 3, 3, 0, 1, .I, true, .none, .nat 0 1, .num 0, false, "PortProtection"⟩,
  ⟨0x3000, 0x30FF, 0x06, 0x06, .u16, 3, 3, 3, 1, .I, true, .none, .nat 1518 16383, .num 0x5F2, false, "MaxFrameSize"⟩,
  ⟨0x3000, 0x30FF, 0x07, 0x07, .u8, 3, 3, 3, 1, .I, true, .none, .nat 0 1, .num 0, false, "LpiEnable"⟩,
  ⟨0x3000, 0x30FF, 0x08, 0x08, .u8, 3, 3, 3, 1, .I, true, .none, .nat 0 1, .num 0, false, "LpiPartnerAgreed"⟩,
  ⟨0x3000, 0x30FF, 0x09, 0x09, .u8, 3, 3, 0, 1, .I, false, .none, .nat 0 1, .num 1, false, "DownshiftEnable"⟩,
  ⟨0x3000, 0x30FF, 0x0A, 0x0A, .u16, 3, 3, 3, 1, .I, true, .none, .nat 0 10000, .num 10, false, "LinkUpHold"⟩,
  ⟨0x3000, 0x30FF, 0x0B, 0x0B, .u64, 3, 3, 0, 1, .I, false, .none, .bits 0xFFFFFFFFFFFF, .num 0, true, "PortMacAddress"⟩,
  ⟨0x3000, 0x30FF, 0x10, 0x10, .u8, 16, 16, 16, 0, .I, false, .none, .nat 1 2, .num 0, false, "PortReset"⟩,
  ⟨0x3000, 0x30FF, 0x11, 0x11, .u8, 16, 16, 16, 0, .I, false, .none, .oneOf [1], .num 0, false, "PortCounterSnapshot"⟩,
  ⟨0x3000, 0x30FF, 0x12, 0x12, .u8, 16, 16, 0, 0, .I, false, .none, .oneOf [1], .num 0, false, "PortCounterClear"⟩,
  ⟨0x3100, 0x31FF, 0x00, 0x00, .u8, 9, 9, 9, 9, .I, false, .none, .any, .num 0, false, "PortState"⟩,
  ⟨0x3100, 0x31FF, 0x01, 0x01, .u8, 9, 9, 9, 9, .I, false, .none, .any, .num 0, false, "PortRate"⟩,
  ⟨0x3100, 0x31FF, 0x02, 0x02, .u8, 9, 9, 9, 9, .I, false, .none, .any, .num 0, false, "PortFaultFlags"⟩,
  ⟨0x3100, 0x31FF, 0x03, 0x03, .u16, 9, 9, 9, 9, .I, false, .none, .any, .num 0, false, "Utilisation"⟩,
  ⟨0x3100, 0x31FF, 0x04, 0x04, .u64, 9, 9, 9, 9, .I, false, .none, .any, .num 0, false, "LinkUpGtc"⟩,
  ⟨0x3100, 0x31FF, 0x05, 0x05, .u32, 9, 9, 9, 9, .I, false, .none, .any, .num 0, false, "LinkDownCount"⟩,
  ⟨0x3100, 0x31FF, 0x06, 0x06, .u32, 9, 9, 9, 9, .I, false, .none, .any, .num 0, false, "ShiftCount"⟩,
  ⟨0x3100, 0x31FF, 0x07, 0x07, .u32, 9, 9, 9, 9, .I, false, .none, .any, .num 0, false, "ShiftFailures"⟩,
  ⟨0x3100, 0x31FF, 0x08, 0x08, .u32, 9, 9, 9, 9, .I, false, .none, .any, .num 0, false, "TrainingRestarts"⟩,
  ⟨0x3200, 0x32FF, 0x00, 0x00, .u64, 9, 9, 9, 9, .I, false, .none, .any, .num 0, false, "RxOctets"⟩,
  ⟨0x3200, 0x32FF, 0x01, 0x01, .u64, 9, 9, 9, 9, .I, false, .none, .any, .num 0, false, "RxFrames"⟩,
  ⟨0x3200, 0x32FF, 0x02, 0x04, .u64, 9, 9, 9, 9, .I, false, .none, .any, .num 0, false, "RxUnicast, RxMulticast, RxBroadcast"⟩,
  ⟨0x3200, 0x32FF, 0x05, 0x05, .u64, 9, 9, 9, 9, .I, false, .none, .any, .num 0, false, "RxFcsErrors"⟩,
  ⟨0x3200, 0x32FF, 0x06, 0x06, .u64, 9, 9, 9, 9, .I, false, .none, .any, .num 0, false, "RxUndersize"⟩,
  ⟨0x3200, 0x32FF, 0x07, 0x07, .u64, 9, 9, 9, 9, .I, false, .none, .any, .num 0, false, "RxFragments"⟩,
  ⟨0x3200, 0x32FF, 0x08, 0x08, .u64, 9, 9, 9, 9, .I, false, .none, .any, .num 0, false, "RxOversizeTruncated"⟩,
  ⟨0x3200, 0x32FF, 0x09, 0x09, .u64, 9, 9, 9, 9, .I, false, .none, .any, .num 0, false, "RxOversizeDiscards"⟩,
  ⟨0x3200, 0x32FF, 0x0A, 0x0A, .u64, 9, 9, 9, 9, .I, false, .none, .any, .num 0, false, "RxMacControlDiscards"⟩,
  ⟨0x3200, 0x32FF, 0x0B, 0x0B, .u64, 9, 9, 9, 9, .I, false, .none, .any, .num 0, false, "RxXosynMisplaced"⟩,
  ⟨0x3200, 0x32FF, 0x0C, 0x0C, .u64, 9, 9, 9, 9, .I, false, .none, .any, .num 0, false, "RxLocalDelivered"⟩,
  ⟨0x3200, 0x32FF, 0x0D, 0x0D, .u64, 9, 9, 9, 9, .I, false, .none, .any, .num 0, false, "RxLocalDrops"⟩,
  ⟨0x3200, 0x32FF, 0x0E, 0x14, .u64, 9, 9, 9, 9, .I, false, .none, .any, .num 0, false, "RxSizeBin"⟩,
  ⟨0x3200, 0x32FF, 0x15, 0x15, .u64, 9, 9, 9, 9, .I, false, .none, .any, .num 0, false, "FecCorrected"⟩,
  ⟨0x3200, 0x32FF, 0x16, 0x16, .u64, 9, 9, 9, 9, .I, false, .none, .any, .num 0, false, "FecUncorrectable"⟩,
  ⟨0x3200, 0x32FF, 0x17, 0x17, .u64, 9, 9, 9, 9, .I, false, .none, .any, .num 0, false, "LpiTransitions"⟩]

def objectRows3_1 : List ObjectRow := [
  ⟨0x3200, 0x32FF, 0x20, 0x20, .u64, 9, 9, 9, 9, .I, false, .none, .any, .num 0, false, "TxOctets"⟩,
  ⟨0x3200, 0x32FF, 0x21, 0x21, .u64, 9, 9, 9, 9, .I, false, .none, .any, .num 0, false, "TxFrames"⟩,
  ⟨0x3200, 0x32FF, 0x22, 0x24, .u64, 9, 9, 9, 9, .I, false, .none, .any, .num 0, false, "TxUnicast, TxMulticast, TxBroadcast"⟩,
  ⟨0x3200, 0x32FF, 0x25, 0x25, .u64, 9, 9, 9, 9, .I, false, .none, .any, .num 0, false, "TxStomped"⟩,
  ⟨0x3200, 0x32FF, 0x26, 0x26, .u64, 9, 9, 9, 9, .I, false, .none, .any, .num 0, false, "TxLinkDownDiscards"⟩,
  ⟨0x3200, 0x32FF, 0x28, 0x2F, .u64, 9, 9, 9, 9, .I, false, .none, .any, .num 0, false, "TxQueueFrames"⟩,
  ⟨0x3300, 0x33FF, 0x00, 0x2F, .u64, 9, 9, 9, 9, .I, false, .none, .any, .num 0, false, "SnapshotCounter"⟩,
  ⟨0x3300, 0x33FF, 0x30, 0x30, .u64, 9, 9, 9, 9, .I, false, .none, .any, .num 0, false, "SnapshotGtc"⟩,
  ⟨0x3300, 0x33FF, 0x31, 0x31, .u32, 9, 9, 9, 9, .I, false, .none, .any, .num 0, false, "SnapshotSeq"⟩,
  ⟨0x3400, 0x34FF, 0x00, 0x0F, .u64, 3, 3, 3, 1, .I, true, .none, .bits 0x3FFFFFFFFFFFF, .num 0, false, "FilterEntry"⟩,
  ⟨0x3400, 0x34FF, 0x10, 0x10, .u8, 3, 3, 3, 1, .I, true, .none, .bits 0x7, .num 4, false, "FilterControl"⟩,
  ⟨0x3500, 0x35FF, 0x00, 0x00, .u8, 3, 3, 0, 1, .I, false, .none, .nat 0 1, .num 0, false, "LaneTxInvert"⟩,
  ⟨0x3500, 0x35FF, 0x01, 0x01, .u8, 3, 3, 0, 1, .I, false, .none, .nat 0 1, .num 0, false, "LaneRxInvert"⟩,
  ⟨0x3500, 0x35FF, 0x02, 0x02, .u8, 3, 3, 0, 1, .I, false, .none, .nat 0 5, .num 0, false, "LaneTxPreset"⟩,
  ⟨0x3500, 0x35FF, 0x03, 0x03, .u8, 9, 9, 9, 9, .I, false, .none, .any, .num 0, false, "LaneState"⟩,
  ⟨0x3500, 0x35FF, 0x04, 0x04, .u16, 9, 9, 9, 9, .I, false, .none, .any, .num 0, false, "LaneEyeHeight"⟩,
  ⟨0x3500, 0x35FF, 0x05, 0x05, .f32, 9, 9, 9, 9, .I, false, .none, .any, .num 0, false, "LanePreFecSer"⟩,
  ⟨0x3600, 0x361F, 0x00, 0x00, .u8, 9, 9, 9, 9, .I, false, .none, .any, .num 0, false, "OctetFamily"⟩,
  ⟨0x3600, 0x361F, 0x01, 0x01, .u8, 9, 9, 9, 9, .I, false, .none, .any, .num 0, false, "OctetPllState"⟩,
  ⟨0x3600, 0x361F, 0x02, 0x02, .u32, 9, 9, 0, 9, .I, false, .none, .any, .num 0, false, "OctetPllLockLoss"⟩,
  ⟨0x3700, 0x3700, 0x00, 0x00, .u8, 16, 16, 0, 0, .I, false, .none, .oneOf [1], .num 0, false, "AllPortSnapshot"⟩]

/-- The objects with index 0x3nnn. -/
def objectRows3 : List ObjectRow := objectRows3_0 ++ objectRows3_1

def objectRows4_0 : List ObjectRow := [
  ⟨0x4000, 0x4000, 0x00, 0x00, .u32, 3, 3, 0, 1, .I, true, .none, .nat 10 1000000, .num 0x64, false, "SkimmerInterval"⟩,
  ⟨0x4000, 0x4000, 0x01, 0x01, .u8, 3, 3, 0, 1, .I, true, .none, .nat 0 1, .num 1, false, "AgingEnable"⟩,
  ⟨0x4000, 0x4000, 0x02, 0x02, .u8, 3, 3, 0, 1, .I, true, .none, .nat 0 6, .num 1, false, "DynamicThresholdShift"⟩,
  ⟨0x4000, 0x4000, 0x03, 0x03, .u8, 3, 1, 0, 1, .I, true, .none, .nat 10 75, .num 0x32, false, "ProtectionShare"⟩,
  ⟨0x4000, 0x4000, 0x04, 0x04, .u32, 9, 9, 0, 9, .I, false, .none, .any, .num 0, false, "LearnedEntries"⟩,
  ⟨0x4000, 0x4000, 0x05, 0x05, .u32, 9, 9, 0, 9, .I, false, .none, .any, .num 0, false, "LearnFailures"⟩,
  ⟨0x4000, 0x4000, 0x06, 0x06, .u64, 9, 9, 0, 9, .I, false, .none, .any, .num 0, false, "StationMoves"⟩,
  ⟨0x4000, 0x4000, 0x07, 0x07, .u32, 9, 9, 0, 9, .I, false, .none, .any, .num 0, false, "SharedCellsUsed"⟩,
  ⟨0x4000, 0x4000, 0x08, 0x08, .u32, 9, 9, 0, 9, .I, false, .none, .any, .num 0, false, "ReserveCellsUsed"⟩,
  ⟨0x4000, 0x4000, 0x09, 0x09, .u32, 9, 9, 0, 9, .I, false, .none, .any, .num 0, false, "ReserveCharged"⟩,
  ⟨0x4000, 0x4000, 0x0A, 0x0A, .u32, 9, 9, 0, 9, .I, false, .none, .any, .num 0, false, "ReserveOverflows"⟩,
  ⟨0x4000, 0x4000, 0x0B, 0x0B, .u32, 9, 9, 0, 9, .I, false, .none, .any, .num 0, false, "ProtectionBufferDrops"⟩,
  ⟨0x4010, 0x4010, 0x00, 0x00, .u8, 3, 3, 0, 1, .I, true, .none, .nat 0 1, .num 0, false, "SoundingEnable"⟩,
  ⟨0x4010, 0x4010, 0x01, 0x01, .u64, 3, 3, 0, 1, .I, true, .none, .any, .num 0, false, "SoundingShadowBase"⟩,
  ⟨0x4010, 0x4010, 0x02, 0x02, .u64, 9, 9, 0, 9, .I, false, .none, .any, .num 0, false, "SoundingPassGtc"⟩,
  ⟨0x4010, 0x4010, 0x03, 0x03, .u32, 9, 9, 0, 9, .I, false, .none, .any, .num 0, false, "SoundingDifferences"⟩,
  ⟨0x4010, 0x4010, 0x04, 0x04, .u32, 9, 9, 0, 9, .I, false, .none, .any, .num 0, false, "SoundingLastRow"⟩,
  ⟨0x4020, 0x403F, 0x00, 0x00, .u8, 3, 3, 0, 1, .I, false, .none, .nat 0 2, .num 0, false, "RedMode"⟩,
  ⟨0x4020, 0x403F, 0x01, 0x01, .u16, 3, 3, 0, 1, .I, false, .none, .nat 0 255, .num 0, false, "RedPortA"⟩,
  ⟨0x4020, 0x403F, 0x02, 0x02, .u16, 3, 3, 0, 1, .I, false, .none, .nat 0 255, .num 1, false, "RedPortB"⟩,
  ⟨0x4020, 0x403F, 0x03, 0x03, .u8, 3, 3, 0, 1, .I, false, .none, .nat 1 2, .num 1, false, "RedRole"⟩,
  ⟨0x4020, 0x403F, 0x04, 0x04, .blob, 3, 3, 0, 1, .I, false, .none, .exact [32], .bytes (List.replicate 32 0), false, "RedSanMask"⟩,
  ⟨0x4020, 0x403F, 0x05, 0x05, .u16, 3, 3, 0, 1, .I, false, .none, .nat 100 10000, .num 0x7D0, false, "RedLifeCheckInterval"⟩,
  ⟨0x4020, 0x403F, 0x06, 0x06, .u16, 3, 3, 0, 1, .I, false, .none, .nat 10 10000, .num 0x190, false, "RedForgetTime"⟩,
  ⟨0x4020, 0x403F, 0x07, 0x07, .u8, 9, 9, 0, 9, .I, false, .none, .any, .num 0, false, "RedState"⟩,
  ⟨0x4020, 0x403F, 0x08, 0x08, .u16, 9, 9, 0, 9, .I, false, .none, .any, .num 0, false, "RedNodes"⟩,
  ⟨0x4020, 0x403F, 0x09, 0x09, .u64, 9, 9, 0, 9, .I, false, .none, .any, .num 0, false, "RedWrongLanA"⟩,
  ⟨0x4020, 0x403F, 0x0A, 0x0A, .u64, 9, 9, 0, 9, .I, false, .none, .any, .num 0, false, "RedWrongLanB"⟩,
  ⟨0x4020, 0x403F, 0x0B, 0x0B, .u64, 9, 9, 0, 9, .I, false, .none, .any, .num 0, false, "RedDuplicates"⟩,
  ⟨0x4020, 0x403F, 0x0C, 0x0C, .u32, 9, 9, 0, 9, .I, false, .none, .any, .num 0, false, "RedNodeTableFull"⟩,
  ⟨0x4200, 0x4207, 0x00, 0xFF, .blob, 3, 3, 3, 1, .I, false, .none, .exact [64], .bytes (List.replicate 64 0), false, "StreamEntry"⟩,
  ⟨0x4300, 0x4307, 0x00, 0xFF, .blob, 9, 9, 9, 9, .I, false, .none, .upTo 65535, .bytes ([] ++ List.replicate 24 0), false, "StreamCounters"⟩,
  ⟨0x4400, 0x44FF, 0x00, 0x00, .u8, 3, 3, 3, 1, .I, true, .none, .nat 0 2, .num 2, false, "PortForwardState"⟩,
  ⟨0x4400, 0x44FF, 0x01, 0x01, .u16, 3, 3, 3, 1, .I, true, .none, .nat 1 4094, .num 1, false, "PortDefaultVlan"⟩,
  ⟨0x4400, 0x44FF, 0x02, 0x02, .u8, 3, 3, 3, 1, .I, true, .none, .nat 0 5, .num 0, false, "PortDefaultPriority"⟩,
  ⟨0x4400, 0x44FF, 0x03, 0x03, .u32, 3, 3, 3, 1, .I, true, .none, .any, .num 0x55543210, false, "PcpMap"⟩,
  ⟨0x4400, 0x44FF, 0x04, 0x04, .u8, 3, 3, 3, 1, .I, true, .none, .nat 0 1, .num 1, false, "CutThrough"⟩,
  ⟨0x4400, 0x44FF, 0x05, 0x05, .u32, 3, 3, 0, 1, .I, true, .none, .nat 0 262144, .num 0x1000, false, "LearnLimit"⟩,
  ⟨0x4400, 0x44FF, 0x06, 0x06, .u8, 3, 3, 0, 1, .I, true, .none, .nat 0 1, .num 0, false, "LearnLimitAction"⟩,
  ⟨0x4400, 0x44FF, 0x07, 0x07, .u8, 3, 3, 3, 1, .I, true, .none, .nat 0 1, .num 0, false, "PolicerEnable"⟩]

def objectRows4_1 : List ObjectRow := [
  ⟨0x4400, 0x44FF, 0x08, 0x08, .u64, 3, 3, 3, 1, .I, true, .none, .any, .num 0, false, "PolicerRate"⟩,
  ⟨0x4400, 0x44FF, 0x09, 0x09, .u32, 3, 3, 3, 1, .I, true, .none, .nat 64 16777216, .num 0x10000, false, "PolicerBurst"⟩,
  ⟨0x4400, 0x44FF, 0x0A, 0x0A, .u64, 3, 3, 3, 1, .I, true, .none, .any, .num 0x5F5E100, false, "FloodRate"⟩,
  ⟨0x4400, 0x44FF, 0x0B, 0x0B, .u32, 3, 3, 3, 1, .I, true, .none, .nat 64 16777216, .num 0x8000, false, "FloodBurst"⟩,
  ⟨0x4400, 0x44FF, 0x0C, 0x0C, .u32, 9, 9, 9, 9, .I, false, .none, .any, .num 0, false, "LearnedOnPort"⟩,
  ⟨0x4400, 0x44FF, 0x0D, 0x0D, .u64, 9, 9, 9, 9, .I, false, .none, .any, .num 0, false, "AdmittedRxBandwidth"⟩,
  ⟨0x4400, 0x44FF, 0x0E, 0x0E, .u64, 9, 9, 9, 9, .I, false, .none, .any, .num 0, false, "AdmittedTxBandwidth"⟩,
  ⟨0x4500, 0x45FF, 0x00, 0x00, .u64, 9, 9, 9, 9, .I, false, .none, .any, .num 0, false, "PolicerDrops"⟩,
  ⟨0x4500, 0x45FF, 0x01, 0x01, .u64, 9, 9, 9, 9, .I, false, .none, .any, .num 0, false, "FloodPolicerDrops"⟩,
  ⟨0x4500, 0x45FF, 0x02, 0x02, .u64, 9, 9, 9, 9, .I, false, .none, .any, .num 0, false, "BufferDrops"⟩,
  ⟨0x4500, 0x45FF, 0x03, 0x03, .u64, 9, 9, 9, 9, .I, false, .none, .any, .num 0, false, "VlanDrops"⟩,
  ⟨0x4500, 0x45FF, 0x04, 0x04, .u64, 9, 9, 9, 9, .I, false, .none, .any, .num 0, false, "StateDrops"⟩,
  ⟨0x4500, 0x45FF, 0x05, 0x05, .u64, 9, 9, 9, 9, .I, false, .none, .any, .num 0, false, "LearnLimitDrops"⟩,
  ⟨0x4500, 0x45FF, 0x06, 0x06, .u64, 9, 9, 9, 9, .I, false, .none, .any, .num 0, false, "UnadmittedStreamFrames"⟩,
  ⟨0x4600, 0x46FF, 0x00, 0x05, .u64, 3, 3, 3, 1, .I, true, .none, .any, .num 0, false, "ShaperRate"⟩,
  ⟨0x4600, 0x46FF, 0x10, 0x15, .u32, 3, 3, 3, 1, .I, true, .none, .nat 64 16777216, .num 0x4000, false, "ShaperBurst"⟩,
  ⟨0x4600, 0x46FF, 0x20, 0x25, .i64, 9, 9, 9, 9, .I, false, .none, .any, .num 0, false, "ShaperLevel"⟩,
  ⟨0x4600, 0x46FF, 0x30, 0x30, .u8, 3, 3, 3, 1, .I, true, .none, .bits 0x3F, .num 0, false, "ShaperEnable"⟩,
  ⟨0x4600, 0x46FF, 0x31, 0x31, .u8, 3, 3, 3, 1, .I, true, .none, .nat 0 63, .num 0x14, false, "ShaperOverhead"⟩,
  ⟨0x4700, 0x473F, 0x00, 0xFF, .blob, 3, 3, 0, 1, .I, true, .none, .exact [16], .bytes (List.replicate 16 0), false, "StaticMacEntry"⟩,
  ⟨0x4900, 0x490F, 0x00, 0xFF, .blob, 3, 3, 0, 1, .I, true, .none, .exact [32], .bytes (List.replicate 32 0), false, "PortMask"⟩,
  ⟨0x4A00, 0x4A00, 0x00, 0x00, .blob, 3, 3, 0, 1, .I, true, .none, .exact [64], .bytes (List.replicate 64 0), false, "VlanEntry"⟩,
  ⟨0x4A00, 0x4A00, 0x01, 0x01, .blob, 3, 3, 0, 1, .I, true, .none, .exact [64], .bytes (List.replicate 64 0xFF), false, "VlanEntry"⟩,
  ⟨0x4A00, 0x4A00, 0x02, 0xFF, .blob, 3, 3, 0, 1, .I, true, .none, .exact [64], .bytes (List.replicate 64 0), false, "VlanEntry"⟩,
  ⟨0x4A01, 0x4A0F, 0x00, 0xFF, .blob, 3, 3, 0, 1, .I, true, .none, .exact [64], .bytes (List.replicate 64 0), false, "VlanEntry"⟩,
  ⟨0x4C00, 0x4C00, 0x00, 0x00, .u8, 3, 3, 0, 1, .T, false, .none, .nat 0 1, .num 0, false, "FabricEnable"⟩,
  ⟨0x4C00, 0x4C00, 0x01, 0x01, .u32, 3, 3, 0, 1, .T, false, .none, .any, .num 0, false, "FabricId"⟩,
  ⟨0x4C00, 0x4C00, 0x02, 0x02, .u16, 3, 3, 0, 1, .T, false, .none, .any, .num 0xFFFF, false, "FabricAddressRequest"⟩,
  ⟨0x4C00, 0x4C00, 0x03, 0x03, .u16, 3, 3, 0, 1, .I, true, .none, .any, .num 0x8000, false, "RootPriority"⟩,
  ⟨0x4C00, 0x4C00, 0x04, 0x04, .u16, 3, 3, 0, 1, .I, true, .none, .nat 1 100, .num 10, false, "HelloInterval"⟩,
  ⟨0x4C00, 0x4C00, 0x05, 0x05, .u8, 3, 3, 0, 1, .I, true, .none, .nat 1 15, .num 15, false, "HopLimit"⟩,
  ⟨0x4C00, 0x4C00, 0x06, 0x06, .u16, 3, 3, 0, 1, .I, true, .none, .nat 10 1000, .num 0x64, false, "DelayInterval"⟩,
  ⟨0x4C00, 0x4C00, 0x07, 0x07, .u16, 3, 3, 0, 1, .I, true, .none, .nat 100 10000, .num 0x3E8, false, "ReportInterval"⟩,
  ⟨0x4C00, 0x4C00, 0x08, 0x08, .u8, 3, 3, 0, 1, .I, true, .none, .any, .num 0, false, "TimeOffer"⟩,
  ⟨0x4C01, 0x4C01, 0x00, 0x00, .u8, 9, 9, 0, 9, .I, false, .none, .any, .num 0, false, "FabricState"⟩,
  ⟨0x4C01, 0x4C01, 0x01, 0x01, .u16, 9, 9, 0, 9, .I, false, .none, .any, .num 0xFFFF, false, "FabricAddress"⟩,
  ⟨0x4C01, 0x4C01, 0x02, 0x02, .u64, 9, 9, 0, 9, .I, false, .none, .any, .num 0, false, "RootSerial"⟩,
  ⟨0x4C01, 0x4C01, 0x03, 0x03, .u16, 9, 9, 0, 9, .I, false, .none, .any, .num 0, false, "FabricMembers"⟩,
  ⟨0x4C01, 0x4C01, 0x04, 0x04, .u16, 9, 9, 0, 9, .I, false, .none, .any, .num 0, false, "StaleMembers"⟩,
  ⟨0x4C01, 0x4C01, 0x05, 0x05, .u32, 9, 9, 0, 9, .I, false, .none, .any, .num 0, false, "LsaChanges"⟩]

def objectRows4_2 : List ObjectRow := [
  ⟨0x4C01, 0x4C01, 0x06, 0x06, .u16, 9, 9, 0, 9, .I, false, .none, .any, .num 0, false, "TransitFlows"⟩,
  ⟨0x4C01, 0x4C01, 0x07, 0x07, .u64, 9, 9, 0, 9, .I, false, .none, .any, .num 0, false, "XosynMalformed"⟩,
  ⟨0x4C01, 0x4C01, 0x08, 0x08, .u64, 9, 9, 0, 9, .I, false, .none, .any, .num 0, false, "HopLimitDrops"⟩,
  ⟨0x4C01, 0x4C01, 0x09, 0x09, .u64, 9, 9, 0, 9, .I, false, .none, .any, .num 0, false, "NoRouteDrops"⟩,
  ⟨0x4C01, 0x4C01, 0x0A, 0x0A, .u64, 9, 9, 0, 9, .I, false, .none, .any, .num 0, false, "FlowDrops"⟩,
  ⟨0x4C01, 0x4C01, 0x0B, 0x0B, .u64, 9, 9, 0, 9, .I, false, .none, .any, .num 0, false, "RpfDrops"⟩,
  ⟨0x4D00, 0x4DFF, 0x00, 0x00, .u16, 3, 3, 0, 1, .I, true, .none, .nat 1 65535, .num 10, false, "LinkCost"⟩,
  ⟨0x4D00, 0x4DFF, 0x01, 0x01, .i64, 3, 3, 0, 1, .I, true, .none, .int (-65536000000) 65536000000, .num 0, false, "LinkAsymmetry"⟩,
  ⟨0x4D00, 0x4DFF, 0x02, 0x02, .u8, 9, 9, 0, 9, .I, false, .none, .any, .num 0, false, "NeighbourState"⟩,
  ⟨0x4D00, 0x4DFF, 0x03, 0x03, .u16, 9, 9, 0, 9, .I, false, .none, .any, .num 0xFFFF, false, "NeighbourAddress"⟩,
  ⟨0x4D00, 0x4DFF, 0x04, 0x04, .u64, 9, 9, 0, 9, .I, false, .none, .any, .num 0, false, "NeighbourSerial"⟩,
  ⟨0x4D00, 0x4DFF, 0x05, 0x05, .i64, 9, 9, 0, 9, .I, false, .none, .any, .num 0x8000000000000000, false, "LinkDelayRx"⟩,
  ⟨0x4D00, 0x4DFF, 0x06, 0x06, .i64, 9, 9, 0, 9, .I, false, .none, .any, .num 0x8000000000000000, false, "LinkDelayTx"⟩,
  ⟨0x4D00, 0x4DFF, 0x07, 0x07, .u32, 9, 9, 0, 9, .I, false, .none, .any, .num 0, false, "LinkDelayJitter"⟩,
  ⟨0x4D00, 0x4DFF, 0x08, 0x08, .u32, 9, 9, 0, 9, .I, false, .none, .any, .num 0, false, "DelayOutliers"⟩,
  ⟨0x4E00, 0x4E03, 0x00, 0xFF, .blob, 3, 3, 0, 1, .I, false, .none, .exact [16], .bytes (List.replicate 16 0), false, "FlowEntry"⟩,
  ⟨0x4E10, 0x4E13, 0x00, 0xFF, .blob, 9, 9, 0, 9, .I, false, .none, .upTo 65535, .bytes ([] ++ List.replicate 24 0), false, "FlowStatus"⟩,
  ⟨0x4F00, 0x4F07, 0x00, 0xFF, .blob, 3, 3, 0, 1, .I, true, .none, .exact [8], .bytes (List.replicate 8 0), false, "SinkEntry"⟩,
  ⟨0x4F10, 0x4F17, 0x00, 0xFF, .blob, 9, 9, 0, 9, .I, false, .none, .upTo 65535, .bytes ([] ++ List.replicate 24 0), false, "SinkCounters"⟩]

/-- The objects with index 0x4nnn. -/
def objectRows4 : List ObjectRow := objectRows4_0 ++ objectRows4_1 ++ objectRows4_2

def objectRows5_0 : List ObjectRow := [
  ⟨0x5000, 0x5000, 0x00, 0x00, .u64, 9, 9, 0, 9, .I, false, .none, .any, .num 0, false, "IntakeStandardLoad"⟩,
  ⟨0x5000, 0x5000, 0x01, 0x01, .u64, 9, 9, 0, 9, .I, false, .none, .any, .num 0, false, "IntakeWavefrontLoad"⟩,
  ⟨0x5000, 0x5000, 0x02, 0x02, .u32, 9, 9, 0, 9, .I, false, .none, .any, .num 0, false, "IntakeFrameLoad"⟩,
  ⟨0x5000, 0x5000, 0x03, 0x03, .u16, 9, 9, 0, 9, .I, false, .none, .any, .num 0, false, "IntakeBoundStreams"⟩,
  ⟨0x5000, 0x5000, 0x04, 0x04, .u16, 9, 9, 0, 9, .I, false, .none, .any, .num 0, false, "IntakeKeyedStreams"⟩,
  ⟨0x5100, 0x5107, 0x00, 0xFF, .blob, 3, 3, 3, 1, .I, false, .none, .exact [32], .bytes (List.replicate 32 0), false, "IntakeStreamConfig"⟩,
  ⟨0x5200, 0x5207, 0x00, 0xFF, .blob, 3, 3, 3, 1, .I, false, .none, .exact [64], .bytes (List.replicate 64 0xFF), false, "IntakeChannelMap"⟩,
  ⟨0x5300, 0x5307, 0x00, 0xFF, .blob, 9, 9, 9, 9, .I, false, .none, .upTo 65535, .bytes ([] ++ List.replicate 64 0), false, "IntakeStreamCounters"⟩,
  ⟨0x5400, 0x5407, 0x00, 0xFF, .str, 3, 3, 3, 1, .I, false, .none, .upTo 64, .bytes [], false, "IntakeSvId"⟩,
  ⟨0x5500, 0x5507, 0x00, 0xFF, .u16, 3, 3, 3, 1, .I, true, .none, .any, .num 0xFFFF, false, "IntakeKeySlots"⟩,
  ⟨0x5600, 0x5607, 0x00, 0xFF, .u32, 9, 9, 9, 9, .I, false, .none, .any, .num 0, false, "IntakeStreamStatus"⟩,
  ⟨0x5700, 0x5707, 0x00, 0xFF, .u8, 3, 3, 3, 1, .I, true, .none, .nat 0 1, .num 0, false, "IntakeEnable"⟩,
  ⟨0x5800, 0x583F, 0x00, 0xFF, .u32, 9, 9, 9, 9, .I, false, .none, .any, .num 0, false, "IntakeSlotSource"⟩,
  ⟨0x5840, 0x5843, 0x00, 0xFF, .u32, 9, 9, 9, 9, .I, false, .none, .any, .num 0, false, "IntakeWavefrontSlotSource"⟩]

/-- The objects with index 0x5nnn. -/
def objectRows5 : List ObjectRow := objectRows5_0

def objectRows6_0 : List ObjectRow := [
  ⟨0x6000, 0x6000, 0x00, 0x00, .u64, 9, 9, 0, 9, .I, false, .none, .any, .num 0, false, "ChainStandardLoad"⟩,
  ⟨0x6000, 0x6000, 0x01, 0x01, .u64, 9, 9, 0, 9, .I, false, .none, .any, .num 0, false, "ChainWavefrontLoad"⟩,
  ⟨0x6000, 0x6000, 0x02, 0x02, .u64, 9, 9, 0, 9, .I, false, .none, .any, .num 0, false, "ChainStandardFirLoad"⟩,
  ⟨0x6000, 0x6000, 0x03, 0x03, .u64, 9, 9, 0, 9, .I, false, .none, .any, .num 0, false, "ChainWavefrontFirLoad"⟩,
  ⟨0x6000, 0x6000, 0x04, 0x04, .u32, 9, 9, 0, 9, .I, false, .none, .any, .num 0, false, "ChainPhasorLoad"⟩,
  ⟨0x6000, 0x6000, 0x05, 0x05, .u32, 9, 9, 0, 9, .I, false, .none, .any, .num 0, false, "ChainEccCorrected"⟩,
  ⟨0x6000, 0x6000, 0x06, 0x06, .u32, 9, 9, 0, 9, .I, false, .none, .any, .num 0, false, "ChainEccUncorrectable"⟩,
  ⟨0x6000, 0x6000, 0x07, 0x07, .u32, 9, 9, 0, 9, .I, false, .none, .any, .num 0, false, "ChainScrubPassTime"⟩,
  ⟨0x6010, 0x6010, 0x00, 0x3F, .blob, 3, 3, 1, 1, .I, false, .none, .exact [264], .bytes (List.replicate 264 0), false, "FirSet"⟩,
  ⟨0x6011, 0x6011, 0x00, 0x3F, .u8, 9, 9, 9, 9, .I, false, .none, .any, .num 0, false, "FirSetStatus"⟩,
  ⟨0x6100, 0x6143, 0x00, 0xFF, .blob, 3, 3, 3, 1, .I, false, .none, .exact [32], .bytes ([0x00, 0x08, 0x00, 0x00, 0x00, 0x00, 0x00, 0x00, 0x00, 0x00, 0x00, 0x00, 0x00, 0x00, 0x00, 0x00, 0x00, 0x00, 0x01, 0x00, 0xFF, 0x01] ++ List.replicate 10 0), false, "FilterConfig"⟩,
  ⟨0x6200, 0x6243, 0x00, 0xFF, .u16, 3, 3, 3, 1, .I, true, .none, .any, .num 0, false, "FilterInput"⟩,
  ⟨0x6300, 0x6343, 0x00, 0xFF, .blob, 3, 3, 3, 1, .I, true, .none, .exact [12], .bytes [0x00, 0x00, 0x80, 0x3F, 0x00, 0x00, 0x80, 0x3F, 0x00, 0x00, 0x00, 0x00], false, "FilterScale"⟩,
  ⟨0x6400, 0x6443, 0x00, 0xFF, .u8, 3, 3, 3, 1, .I, true, .none, .nat 0 1, .num 0, false, "FilterEnable"⟩,
  ⟨0x6500, 0x6543, 0x00, 0xFF, .blob, 9, 9, 9, 9, .I, false, .none, .upTo 65535, .bytes ([] ++ List.replicate 32 0), false, "FilterStatus"⟩,
  ⟨0x6600, 0x6643, 0x00, 0xFF, .blob, 3, 3, 3, 1, .I, false, .none, .exact [16], .bytes (List.replicate 16 0), false, "DetectorConfig"⟩,
  ⟨0x6700, 0x6707, 0x00, 0xFF, .blob, 3, 3, 3, 1, .I, false, .none, .exact [16], .bytes ([0x00, 0x00, 0x01, 0x01, 0xFF, 0x00, 0x32] ++ List.replicate 9 0), false, "PhasorConfig"⟩,
  ⟨0x6710, 0x6717, 0x00, 0xFF, .u8, 3, 3, 3, 1, .I, true, .none, .nat 0 1, .num 0, false, "PhasorEnable"⟩,
  ⟨0x6720, 0x6727, 0x00, 0xFF, .blob, 9, 9, 9, 9, .I, false, .none, .upTo 65535, .bytes ([] ++ List.replicate 24 0), false, "PhasorLatest"⟩,
  ⟨0x6800, 0x6800, 0x00, 0x3F, .blob, 3, 3, 1, 1, .I, false, .none, .exact [16], .bytes ([0x01, 0x32] ++ List.replicate 14 0), false, "TrackerConfig"⟩,
  ⟨0x6801, 0x6801, 0x00, 0x3F, .u8, 3, 3, 1, 1, .I, true, .none, .nat 0 1, .num 0, false, "TrackerEnable"⟩,
  ⟨0x6802, 0x6802, 0x00, 0x3F, .blob, 9, 9, 9, 9, .I, false, .none, .upTo 65535, .bytes ([] ++ List.replicate 16 0), false, "TrackerLatest"⟩,
  ⟨0x6900, 0x6943, 0x00, 0xFF, .blob, 9, 9, 9, 9, .I, false, .none, .upTo 65535, .bytes ([] ++ List.replicate 32 0), false, "FilterLatest"⟩]

/-- The objects with index 0x6nnn. -/
def objectRows6 : List ObjectRow := objectRows6_0

def objectRows7_0 : List ObjectRow := [
  ⟨0x7000, 0x7000, 0x00, 0x00, .u32, 9, 9, 0, 9, .I, false, .none, .any, .num 0, false, "AcqPagesBound"⟩,
  ⟨0x7000, 0x7000, 0x01, 0x01, .u64, 9, 9, 0, 9, .I, false, .none, .any, .num 0, false, "AcqCaptureLoad"⟩,
  ⟨0x7000, 0x7000, 0x02, 0x02, .u64, 9, 9, 0, 9, .I, false, .none, .any, .num 0, false, "RemoteTriggersReceived"⟩,
  ⟨0x7000, 0x7000, 0x03, 0x03, .u64, 9, 9, 0, 9, .I, false, .none, .any, .num 0, false, "RemoteTriggersDiscarded"⟩,
  ⟨0x7000, 0x7000, 0x04, 0x04, .u32, 9, 9, 0, 9, .I, false, .none, .any, .num 0, false, "AcqEccCorrected"⟩,
  ⟨0x7000, 0x7000, 0x05, 0x05, .u32, 9, 9, 0, 9, .I, false, .none, .any, .num 0, false, "AcqEccUncorrectable"⟩,
  ⟨0x7100, 0x713F, 0x00, 0x00, .blob, 3, 3, 3, 1, .I, false, .none, .exact [64], .bytes (List.replicate 64 0), false, "TriggerConfig"⟩,
  ⟨0x7200, 0x723F, 0x00, 0x00, .blob, 3, 3, 3, 1, .I, false, .none, .exact [128], .bytes (List.replicate 128 0), false, "CaptureList"⟩,
  ⟨0x7300, 0x733F, 0x00, 0x00, .blob, 3, 3, 3, 1, .I, false, .none, .exact [32], .bytes ([0x00, 0x00, 0x01, 0x00, 0xA0, 0x86, 0x01, 0x00, 0x80, 0x1A, 0x06, 0x00] ++ List.replicate 20 0), false, "CaptureConfig"⟩,
  ⟨0x7400, 0x743F, 0x00, 0x00, .u8, 16, 16, 16, 0, .I, false, .none, .nat 1 3, .num 0, false, "UnitArm"⟩,
  ⟨0x7400, 0x743F, 0x01, 0x01, .u8, 16, 16, 16, 0, .I, false, .none, .nat 1 1, .num 0, false, "UnitSoftTrigger"⟩,
  ⟨0x7400, 0x743F, 0x02, 0x02, .u8, 9, 9, 9, 9, .I, false, .none, .any, .num 0, false, "UnitState"⟩,
  ⟨0x7400, 0x743F, 0x03, 0x03, .u64, 9, 9, 9, 9, .I, false, .none, .any, .num 0, false, "UnitTriggers"⟩,
  ⟨0x7400, 0x743F, 0x04, 0x04, .u64, 9, 9, 9, 9, .I, false, .none, .any, .num 0, false, "UnitRecords"⟩,
  ⟨0x7400, 0x743F, 0x05, 0x05, .u32, 9, 9, 9, 9, .I, false, .none, .any, .num 0, false, "MissedTriggers"⟩,
  ⟨0x7400, 0x743F, 0x06, 0x06, .u32, 9, 9, 9, 9, .I, false, .none, .any, .num 0, false, "LateTriggers"⟩,
  ⟨0x7400, 0x743F, 0x07, 0x07, .u32, 9, 9, 9, 9, .I, false, .none, .any, .num 0, false, "LastDeadTime"⟩,
  ⟨0x7400, 0x743F, 0x08, 0x08, .u32, 9, 9, 9, 9, .I, false, .none, .any, .num 0, false, "MaxDeadTime"⟩,
  ⟨0x7400, 0x743F, 0x09, 0x09, .time, 9, 9, 9, 9, .I, false, .none, .any, .num 0, false, "LastTriggerTime"⟩,
  ⟨0x7400, 0x743F, 0x0A, 0x0A, .u32, 9, 9, 9, 9, .I, false, .none, .any, .num 0, false, "UnitPages"⟩,
  ⟨0x7500, 0x753F, 0x00, 0xFF, .blob, 9, 9, 9, 9, .I, false, .none, .upTo 65535, .bytes ([] ++ List.replicate 32 0), false, "RecordInfo"⟩,
  ⟨0x7600, 0x763F, 0x00, 0xFF, .u8, 16, 16, 16, 0, .I, false, .none, .nat 1 3, .num 0, false, "RecordControl"⟩,
  ⟨0x7800, 0x7800, 0x00, 0x07, .u8, 3, 3, 1, 1, .I, true, .none, .nat 0 1, .num 0, false, "RippleDriveEnable"⟩,
  ⟨0x7801, 0x7801, 0x00, 0x07, .u32, 3, 3, 1, 1, .I, true, .none, .nat 100 100000, .num 0x3E8, false, "RippleWidth"⟩,
  ⟨0x7802, 0x7802, 0x00, 0x07, .u8, 9, 9, 9, 9, .I, false, .none, .any, .num 0, false, "RippleState"⟩,
  ⟨0x7803, 0x7803, 0x00, 0x07, .u64, 9, 9, 9, 9, .I, false, .none, .any, .num 0, false, "RippleEdges"⟩,
  ⟨0x7804, 0x7804, 0x00, 0x07, .u32, 9, 9, 9, 9, .I, false, .none, .any, .num 0, false, "RippleStuckCount"⟩,
  ⟨0x7900, 0x7900, 0x00, 0x00, .u16, 16, 16, 16, 0, .I, false, .none, .any, .num 0, false, "ExportRequest"⟩,
  ⟨0x7900, 0x7900, 0x01, 0x01, .u64, 3, 3, 3, 1, .I, true, .none, .any, .num 0, false, "ExportTarget"⟩,
  ⟨0x7900, 0x7900, 0x02, 0x02, .u64, 3, 3, 3, 1, .I, true, .none, .any, .num 0, false, "ExportLimit"⟩,
  ⟨0x7900, 0x7900, 0x03, 0x03, .u8, 3, 3, 3, 1, .I, true, .none, .nat 0 1, .num 0, false, "ExportFloat"⟩,
  ⟨0x7900, 0x7900, 0x04, 0x04, .u32, 3, 3, 3, 1, .I, true, .none, .any, .num 0, false, "ExportRate"⟩,
  ⟨0x7900, 0x7900, 0x05, 0x05, .u8, 9, 9, 9, 9, .I, false, .none, .any, .num 0, false, "ExportStatus"⟩,
  ⟨0x7900, 0x7900, 0x06, 0x06, .u64, 9, 9, 9, 9, .I, false, .none, .any, .num 0, false, "ExportLength"⟩]

/-- The objects with index 0x7nnn. -/
def objectRows7 : List ObjectRow := objectRows7_0

def objectRows8_0 : List ObjectRow := [
  ⟨0x8000, 0x8000, 0x00, 0x00, .u32, 1, 1, 1, 1, .F, false, .none, .any, .num 0x10001, false, "ScanIsaRevision"⟩,
  ⟨0x8001, 0x8001, 0x00, 0x1F, .u8, 9, 9, 9, 9, .I, false, .none, .any, .num 0, false, "SpState"⟩,
  ⟨0x8002, 0x8002, 0x00, 0x1F, .u32, 9, 9, 0, 9, .I, false, .none, .any, .num 0, false, "SpUtilisation"⟩,
  ⟨0x8003, 0x8003, 0x00, 0x1F, .u8, 0, 16, 0, 0, .I, false, .none, .oneOf [1], .num 0, false, "SpRecover"⟩,
  ⟨0x8004, 0x8004, 0x00, 0x1F, .u32, 9, 9, 0, 9, .I, false, .none, .any, .num 0, false, "SpLockstepErrors"⟩,
  ⟨0x8005, 0x8005, 0x00, 0x1F, .u32, 9, 9, 0, 9, .I, false, .none, .any, .num 0, false, "SpEccCorrected"⟩,
  ⟨0x8006, 0x8006, 0x00, 0x1F, .u32, 9, 9, 0, 9, .I, false, .none, .any, .num 0, false, "SpCodeFree"⟩,
  ⟨0x8007, 0x8007, 0x00, 0x1F, .u32, 9, 9, 0, 9, .I, false, .none, .any, .num 0, false, "SpDataFree"⟩,
  ⟨0x8100, 0x8100, 0x00, 0x00, .u8, 1, 3, 1, 1, .I, false, .inst, .nat 0 31, .num 0, false, "ScanProcessor"⟩,
  ⟨0x8100, 0x8100, 0x01, 0x01, .u8, 1, 3, 3, 1, .I, false, .inst, .nat 0 7, .num 0, false, "ScanDomain"⟩,
  ⟨0x8100, 0x8100, 0x02, 0x02, .u8, 1, 3, 3, 1, .I, false, .inst, .nat 0 7, .num 2, false, "ScanPeriod"⟩,
  ⟨0x8100, 0x8100, 0x03, 0x03, .u32, 1, 3, 3, 1, .I, false, .inst, .nat 20000 10000000, .num 0x186A0, false, "AlignMargin"⟩,
  ⟨0x8100, 0x8100, 0x04, 0x04, .u32, 1, 3, 3, 1, .I, false, .inst, .nat 1000 9000000, .num 0x9C40, false, "ArrivalAllowance"⟩,
  ⟨0x8100, 0x8100, 0x05, 0x05, .u8, 1, 3, 3, 1, .I, true, .inst, .nat 0 15, .num 0, false, "AutoRestartLimit"⟩,
  ⟨0x8200, 0x8200, 0x00, 0x00, .u64, 0, 16, 16, 0, .I, false, .inst, .any, .num 0, false, "ProgramLoad"⟩,
  ⟨0x8200, 0x8200, 0x01, 0x01, .u32, 9, 9, 9, 9, .I, false, .inst, .any, .num 0, false, "ProgramStatus"⟩,
  ⟨0x8200, 0x8200, 0x02, 0x02, .u64, 9, 9, 9, 9, .I, false, .inst, .any, .num 0, false, "ProgramId"⟩,
  ⟨0x8200, 0x8200, 0x03, 0x03, .u32, 9, 9, 9, 9, .I, false, .inst, .any, .num 0, false, "ProgramVersion"⟩,
  ⟨0x8200, 0x8200, 0x04, 0x04, .u32, 9, 9, 9, 9, .I, false, .inst, .any, .num 0, false, "ProgramBudget"⟩,
  ⟨0x8200, 0x8200, 0x05, 0x05, .blob, 9, 9, 9, 9, .I, false, .inst, .upTo 65535, .bytes [], false, "ProgramDigest"⟩,
  ⟨0x8200, 0x8200, 0x06, 0x06, .u32, 9, 9, 9, 9, .I, false, .inst, .any, .num 0, false, "ImageBytes"⟩,
  ⟨0x8300, 0x8300, 0x00, 0x00, .u8, 0, 16, 16, 0, .I, false, .inst, .nat 1 3, .num 0, false, "ScanControl"⟩,
  ⟨0x8300, 0x8300, 0x01, 0x01, .u8, 9, 9, 9, 9, .I, false, .inst, .any, .num 0, false, "InstanceState"⟩,
  ⟨0x8300, 0x8300, 0x02, 0x02, .u64, 9, 9, 9, 9, .I, false, .inst, .any, .num 0, false, "ScanNumber"⟩,
  ⟨0x8300, 0x8300, 0x03, 0x03, .u64, 9, 9, 9, 9, .I, false, .inst, .any, .num 0, false, "LastBoundaryGtc"⟩,
  ⟨0x8300, 0x8300, 0x04, 0x04, .u8, 9, 9, 9, 9, .I, false, .inst, .any, .num 0, false, "FaultCause"⟩,
  ⟨0x8300, 0x8300, 0x05, 0x05, .u32, 9, 9, 9, 9, .I, false, .inst, .any, .num 0, false, "Overruns"⟩,
  ⟨0x8300, 0x8300, 0x06, 0x06, .u32, 9, 9, 9, 9, .I, false, .inst, .any, .num 0, false, "LastExecCycles"⟩,
  ⟨0x8300, 0x8300, 0x07, 0x07, .u32, 9, 9, 9, 9, .I, false, .inst, .any, .num 0, false, "MaxExecCycles"⟩,
  ⟨0x8300, 0x8300, 0x08, 0x08, .u32, 9, 9, 9, 9, .I, false, .inst, .any, .num 0, false, "LateCommits"⟩,
  ⟨0x8300, 0x8300, 0x09, 0x09, .u32, 9, 9, 9, 9, .I, false, .inst, .any, .num 0, false, "DroppedCommits"⟩,
  ⟨0x8300, 0x8300, 0x0A, 0x0A, .u32, 9, 9, 9, 9, .I, false, .inst, .any, .num 0, false, "AutoRestarts"⟩,
  ⟨0x8300, 0x8300, 0x0B, 0x0B, .u64, 9, 9, 9, 9, .I, false, .inst, .any, .num 0, false, "ScansRun"⟩,
  ⟨0x8300, 0x8300, 0x0C, 0x0C, .u64, 9, 9, 9, 9, .I, false, .inst, .any, .num 0, false, "ImageDigest"⟩,
  ⟨0x8300, 0x8300, 0x0D, 0x0D, .u64, 9, 9, 9, 9, .I, false, .inst, .any, .num 0, false, "OutputDigest"⟩,
  ⟨0x8300, 0x8300, 0x0E, 0x0E, .u32, 9, 9, 9, 9, .I, false, .inst, .any, .num 0, false, "PendingImages"⟩,
  ⟨0x8400, 0x8400, 0x00, 0x00, .u64, 0, 16, 16, 0, .I, false, .inst, .any, .num 0, false, "FerrySwitch"⟩,
  ⟨0x8400, 0x8400, 0x01, 0x01, .u8, 0, 16, 16, 0, .I, false, .inst, .oneOf [1], .num 0, false, "FerryCancel"⟩,
  ⟨0x8400, 0x8400, 0x02, 0x02, .u8, 9, 9, 9, 9, .I, false, .inst, .any, .num 0, false, "FerryState"⟩,
  ⟨0x8400, 0x8400, 0x03, 0x03, .blob, 9, 9, 9, 9, .I, false, .inst, .upTo 65535, .bytes [], false, "FerryStatus"⟩]

def objectRows8_1 : List ObjectRow := [
  ⟨0x8500, 0x8500, 0x00, 0x00, .u8, 9, 9, 9, 9, .I, false, .inst, .any, .num 0, false, "RetainedState"⟩,
  ⟨0x8500, 0x8500, 0x01, 0x01, .u64, 9, 9, 9, 9, .I, false, .inst, .any, .num 0, false, "RetainedScan"⟩,
  ⟨0x8500, 0x8500, 0x02, 0x02, .u32, 9, 9, 9, 9, .I, false, .inst, .any, .num 0, false, "RetainedCrcFailures"⟩]

/-- The objects with index 0x8nnn. -/
def objectRows8 : List ObjectRow := objectRows8_0 ++ objectRows8_1

def objectRows9_0 : List ObjectRow := [
  ⟨0x9000, 0x9000, 0x00, 0x00, .u8, 3, 3, 0, 1, .I, true, .none, .nat 0 1, .num 0, false, "PairEnable"⟩,
  ⟨0x9000, 0x9000, 0x01, 0x01, .u32, 3, 3, 0, 1, .I, false, .none, .any, .num 0, false, "PairId"⟩,
  ⟨0x9000, 0x9000, 0x02, 0x02, .u16, 3, 3, 0, 1, .I, false, .none, .any, .num 0xFFFF, false, "PairPortA"⟩,
  ⟨0x9000, 0x9000, 0x03, 0x03, .u16, 3, 3, 0, 1, .I, false, .none, .any, .num 0xFFFF, false, "PairPortB"⟩,
  ⟨0x9000, 0x9000, 0x04, 0x04, .u8, 3, 3, 0, 1, .I, false, .none, .nat 0 7, .num 0, false, "PairDomain"⟩,
  ⟨0x9000, 0x9000, 0x05, 0x05, .u8, 3, 3, 0, 1, .I, false, .none, .nat 0 3, .num 2, false, "PairBeat"⟩,
  ⟨0x9000, 0x9000, 0x06, 0x06, .u32, 3, 3, 0, 1, .I, true, .none, .nat 500 20000, .num 0x3E8, false, "LeaseTime"⟩,
  ⟨0x9000, 0x9000, 0x07, 0x07, .u8, 3, 3, 0, 1, .I, true, .none, .nat 0 2, .num 0, false, "PairPreferred"⟩,
  ⟨0x9000, 0x9000, 0x08, 0x08, .u32, 3, 3, 0, 1, .I, true, .none, .nat 1000 3600000, .num 0x2710, false, "RevertHold"⟩,
  ⟨0x9000, 0x9000, 0x09, 0x09, .u32, 3, 3, 0, 1, .I, true, .none, .nat 100 1000000, .num 0x3E8, false, "RevertScans"⟩,
  ⟨0x9000, 0x9000, 0x0A, 0x0A, .u8, 3, 3, 0, 1, .I, true, .none, .nat 1 255, .num 3, false, "MismatchLimit"⟩,
  ⟨0x9000, 0x9000, 0x0B, 0x0B, .u8, 3, 3, 0, 1, .I, true, .none, .nat 0 1, .num 1, false, "AutoResync"⟩,
  ⟨0x9000, 0x9000, 0x0C, 0x0C, .u16, 3, 3, 0, 1, .I, true, .none, .nat 1 1000, .num 10, false, "ReportInterval"⟩,
  ⟨0x9000, 0x9000, 0x0D, 0x0D, .u64, 3, 3, 0, 1, .I, false, .none, .any, .num 0, false, "PeerSerialExpected"⟩,
  ⟨0x9010, 0x9010, 0x00, 0x00, .u8, 16, 16, 0, 0, .I, false, .none, .nat 1 4, .num 0, false, "PaddleCommand"⟩,
  ⟨0x9100, 0x9100, 0x00, 0x00, .u8, 9, 9, 9, 9, .I, false, .none, .any, .num 0, false, "PairState"⟩,
  ⟨0x9100, 0x9100, 0x01, 0x01, .u32, 9, 9, 9, 9, .I, false, .none, .any, .num 0, false, "PairHealth"⟩,
  ⟨0x9100, 0x9100, 0x02, 0x02, .u8, 9, 9, 9, 9, .I, false, .none, .any, .num 0, false, "PaddleState"⟩,
  ⟨0x9100, 0x9100, 0x03, 0x03, .time, 9, 9, 9, 9, .I, false, .none, .any, .num 0, false, "LeaseExpiry"⟩,
  ⟨0x9100, 0x9100, 0x04, 0x04, .u64, 9, 9, 0, 9, .I, false, .none, .any, .num 0, false, "PeerSerial"⟩,
  ⟨0x9100, 0x9100, 0x05, 0x05, .u8, 9, 9, 9, 9, .I, false, .none, .any, .num 0, false, "PairRole"⟩,
  ⟨0x9100, 0x9100, 0x06, 0x06, .u32, 9, 9, 0, 9, .I, false, .none, .any, .num 0, false, "Handovers"⟩,
  ⟨0x9100, 0x9100, 0x07, 0x07, .u32, 9, 9, 0, 9, .I, false, .none, .any, .num 0, false, "Failovers"⟩,
  ⟨0x9100, 0x9100, 0x08, 0x08, .u32, 9, 9, 0, 9, .I, false, .none, .any, .num 0, false, "ClaimConflicts"⟩,
  ⟨0x9100, 0x9100, 0x09, 0x09, .u32, 9, 9, 0, 9, .I, false, .none, .any, .num 0, false, "LastGap"⟩,
  ⟨0x9100, 0x9100, 0x0A, 0x0A, .u32, 9, 9, 0, 9, .I, false, .none, .any, .num 0, false, "HandoverLateEntries"⟩,
  ⟨0x9200, 0x9200, 0x00, 0x00, .u8, 1, 3, 1, 1, .I, false, .inst, .nat 0 1, .num 0, false, "PairMember"⟩,
  ⟨0x9200, 0x9200, 0x01, 0x01, .u8, 9, 9, 9, 9, .I, false, .inst, .any, .num 0, false, "InstancePairState"⟩,
  ⟨0x9200, 0x9200, 0x02, 0x02, .u32, 9, 9, 9, 9, .I, false, .inst, .any, .num 0, false, "AgreedRun"⟩,
  ⟨0x9200, 0x9200, 0x03, 0x03, .u32, 9, 9, 9, 9, .I, false, .inst, .any, .num 0, false, "ImageMismatches"⟩,
  ⟨0x9200, 0x9200, 0x04, 0x04, .u32, 9, 9, 9, 9, .I, false, .inst, .any, .num 0, false, "OutputMismatches"⟩,
  ⟨0x9200, 0x9200, 0x05, 0x05, .u32, 9, 9, 9, 9, .I, false, .inst, .any, .num 0, false, "UnconfirmedScans"⟩,
  ⟨0x9200, 0x9200, 0x06, 0x06, .u32, 9, 9, 9, 9, .I, false, .inst, .any, .num 0, false, "Resyncs"⟩,
  ⟨0x9200, 0x9200, 0x07, 0x07, .u64, 9, 9, 9, 9, .I, false, .inst, .any, .num 0, false, "LastMismatchScan"⟩,
  ⟨0x9200, 0x9200, 0x08, 0x08, .u8, 0, 16, 16, 0, .I, false, .inst, .oneOf [1], .num 0, false, "PairJoin"⟩,
  ⟨0x9200, 0x9200, 0x09, 0x09, .u32, 9, 9, 9, 9, .I, false, .inst, .any, .num 0, false, "LocalOutputDiffers"⟩]

/-- The objects with index 0x9nnn. -/
def objectRows9 : List ObjectRow := objectRows9_0

def objectRowsA_0 : List ObjectRow := [
  ⟨0xA000, 0xA000, 0x00, 0x00, .u32, 9, 9, 0, 9, .I, false, .none, .any, .num 0, false, "FioQueueEntries"⟩,
  ⟨0xA000, 0xA000, 0x01, 0x01, .u32, 9, 9, 0, 9, .I, false, .none, .any, .num 0, false, "FioQueueFull"⟩,
  ⟨0xA000, 0xA000, 0x02, 0x02, .u32, 9, 9, 0, 9, .I, false, .none, .any, .num 0, false, "FioDuplicateRecords"⟩,
  ⟨0xA000, 0xA000, 0x03, 0x03, .u32, 9, 9, 0, 9, .I, false, .none, .any, .num 0, false, "FioStepShifted"⟩,
  ⟨0xA000, 0xA000, 0x04, 0x04, .u32, 9, 9, 0, 9, .I, false, .none, .any, .num 0, false, "FioHeldDiscards"⟩,
  ⟨0xA100, 0xA100, 0x00, 0x2F, .u8, 3, 3, 1, 1, .I, false, .none, .nat 0 3, .num 0, false, "FioClass"⟩,
  ⟨0xA101, 0xA101, 0x00, 0x2F, .u8, 3, 3, 3, 1, .I, false, .none, .nat 0 1, .num 0, false, "FioPolarity"⟩,
  ⟨0xA102, 0xA102, 0x00, 0x2F, .u8, 3, 3, 3, 1, .I, true, .none, .nat 0 2, .num 0, false, "FioSafeLevel"⟩,
  ⟨0xA103, 0xA103, 0x00, 0x2F, .u32, 3, 3, 3, 1, .I, true, .none, .nat 0 1000000, .num 0x3E8, false, "FioInFilter"⟩,
  ⟨0xA104, 0xA104, 0x00, 0x2F, .u16, 3, 3, 3, 1, .I, true, .none, .any, .num 0x14, false, "FioChatterLimit"⟩,
  ⟨0xA110, 0xA110, 0x00, 0x2F, .u32, 9, 9, 9, 9, .I, false, .none, .any, .num 0, false, "FioLevelWord"⟩,
  ⟨0xA111, 0xA111, 0x00, 0x2F, .u32, 9, 9, 9, 9, .I, false, .none, .any, .num 0, false, "FioFlags"⟩,
  ⟨0xA112, 0xA112, 0x00, 0x2F, .u64, 9, 9, 9, 9, .I, false, .none, .any, .num 0, false, "FioEdges"⟩,
  ⟨0xA113, 0xA113, 0x00, 0x2F, .u64, 9, 9, 9, 9, .I, false, .none, .any, .num 0, false, "FioLastEdgeGtc"⟩,
  ⟨0xA114, 0xA114, 0x00, 0x2F, .u32, 9, 9, 9, 9, .I, false, .none, .any, .num 0, false, "FioReadbackFaults"⟩,
  ⟨0xA115, 0xA115, 0x00, 0x2F, .u64, 9, 9, 9, 9, .I, false, .none, .any, .num 0, false, "FioEntriesExecuted"⟩,
  ⟨0xA300, 0xA300, 0x00, 0x0F, .u8, 3, 3, 3, 1, .I, true, .none, .nat 0 1, .num 0, false, "LsEnable"⟩,
  ⟨0xA301, 0xA301, 0x00, 0x0F, .f32, 3, 3, 3, 1, .I, true, .none, .float 0x3C23D70A 0x461C4000, .num 0x3F800000, false, "LsDivider"⟩,
  ⟨0xA302, 0xA302, 0x00, 0x0F, .u16, 3, 3, 3, 1, .I, true, .none, .oneOf [1, 2, 4, 8, 16, 32, 64, 128, 256, 512, 1024], .num 0x10, false, "LsAverage"⟩,
  ⟨0xA303, 0xA303, 0x00, 0x0F, .u16, 3, 3, 3, 1, .I, true, .none, .any, .num 0x40, false, "LsRailLow"⟩,
  ⟨0xA304, 0xA304, 0x00, 0x0F, .u16, 3, 3, 3, 1, .I, true, .none, .any, .num 0xFFBF, false, "LsRailHigh"⟩,
  ⟨0xA305, 0xA305, 0x00, 0x0F, .u16, 3, 3, 3, 1, .I, true, .none, .nat 16 16384, .num 0x280, false, "LsSettleTolerance"⟩,
  ⟨0xA310, 0xA310, 0x00, 0x0F, .f32, 9, 9, 9, 9, .I, false, .none, .any, .num 0, false, "LsValue"⟩,
  ⟨0xA311, 0xA311, 0x00, 0x0F, .u32, 9, 9, 9, 9, .I, false, .none, .any, .num 0, false, "LsFlags"⟩,
  ⟨0xA312, 0xA312, 0x00, 0x0F, .u32, 9, 9, 9, 9, .I, false, .none, .any, .num 0, false, "LsRaw"⟩,
  ⟨0xA313, 0xA313, 0x00, 0x0F, .u64, 9, 9, 9, 9, .I, false, .none, .any, .num 0, false, "LsFlaggedConversions"⟩,
  ⟨0xA314, 0xA314, 0x00, 0x0F, .u32, 9, 9, 9, 9, .I, false, .none, .any, .num 0, false, "LsBreaks"⟩,
  ⟨0xA320, 0xA320, 0x00, 0x0F, .u8, 16, 16, 16, 0, .I, false, .none, .nat 1 2, .num 0, false, "LsCalibrate"⟩,
  ⟨0xA321, 0xA321, 0x00, 0x0F, .f32, 3, 3, 3, 1, .I, true, .none, .any, .num 0x00000000, false, "LsCalReference"⟩,
  ⟨0xA322, 0xA322, 0x00, 0x0F, .f32, 3, 3, 3, 1, .I, true, .none, .float 0x3851B717 0x3D4CCCCD, .num 0x3A03126F, false, "LsCalNoiseMax"⟩,
  ⟨0xA323, 0xA323, 0x00, 0x0F, .u32, 9, 9, 9, 9, .I, false, .none, .any, .num 0, false, "LsCalStatus"⟩,
  ⟨0xA400, 0xA400, 0x00, 0x0F, .blob, 3, 3, 3, 1, .I, true, .none, .exact [20], .bytes ([0xFF] ++ List.replicate 19 0), false, "TcsConfig"⟩,
  ⟨0xA401, 0xA401, 0x00, 0x0F, .u8, 3, 3, 3, 1, .I, true, .none, .nat 0 1, .num 0, false, "TcsEnable"⟩,
  ⟨0xA402, 0xA402, 0x00, 0x0F, .u8, 9, 9, 9, 9, .I, false, .none, .any, .num 0, false, "TcsState"⟩,
  ⟨0xA403, 0xA403, 0x00, 0x0F, .u32, 9, 9, 9, 9, .I, false, .none, .any, .num 0, false, "TcsAlarms"⟩]

/-- The objects with index 0xAnnn. -/
def objectRowsA : List ObjectRow := objectRowsA_0

def objectRowsB_0 : List ObjectRow := [
  ⟨0xB000, 0xB000, 0x00, 0x00, .u8, 9, 9, 9, 9, .I, false, .pond, .any, .num 0, false, "PondKind"⟩,
  ⟨0xB000, 0xB000, 0x01, 0x01, .u16, 9, 9, 9, 9, .I, false, .pond, .any, .num 0, false, "PondParent"⟩,
  ⟨0xB000, 0xB000, 0x02, 0x02, .u8, 9, 9, 9, 9, .I, false, .pond, .any, .num 0, false, "PondDepth"⟩,
  ⟨0xB000, 0xB000, 0x03, 0x03, .str, 1, 3, 3, 1, .I, true, .pond, .upTo 31, .bytes [], false, "PondName"⟩,
  ⟨0xB001, 0xB001, 0x00, 0x00, .u32, 9, 9, 9, 9, .I, false, .pond, .any, .num 0, false, "PondHealth"⟩,
  ⟨0xB001, 0xB001, 0x01, 0x01, .u32, 9, 9, 9, 9, .I, false, .pond, .any, .num 0, false, "PondHealthChanges"⟩,
  ⟨0xB002, 0xB002, 0x00, 0x00, .u32, 1, 3, 3, 1, .S, false, .pond, .any, .num 0, false, "PondEnergyShare"⟩,
  ⟨0xB002, 0xB002, 0x01, 0x01, .u32, 9, 9, 9, 9, .I, false, .pond, .any, .num 0, false, "PondEnergyUsed"⟩,
  ⟨0xB003, 0xB003, 0x00, 0x00, .u16, 1, 3, 3, 1, .I, true, .pond, .nat 0 255, .num 0, false, "PondEventRoute"⟩,
  ⟨0xB010, 0xB010, 0x01, 0x0D, .u32, 9, 9, 9, 9, .I, false, .pond, .any, .num 0, false, "PondItemsHeld"⟩,
  ⟨0xB011, 0xB011, 0x01, 0x0D, .u32, 9, 9, 9, 9, .I, false, .pond, .any, .num 0, false, "PondItemsInUse"⟩,
  ⟨0xB020, 0xB020, 0x00, 0x00, .u16, 0, 16, 16, 0, .I, false, .pond, .nat 0x100 0xEFF, .num 0, false, "PondCreateChild"⟩,
  ⟨0xB021, 0xB021, 0x00, 0x00, .u8, 0, 16, 16, 0, .I, false, .pond, .oneOf [1], .num 0, false, "PondDelete"⟩,
  ⟨0xB022, 0xB022, 0x00, 0x00, .u64, 0, 16, 16, 0, .I, false, .pond, .bits 0x0FFFFFFFFFFFFFFF, .num 0, false, "PondMove"⟩,
  ⟨0xB080, 0xB080, 0x00, 0x00, .u16, 0, 16, 0, 0, .I, false, .none, .nat 1 255, .num 0, false, "InstanceCreate"⟩,
  ⟨0xB080, 0xB080, 0x01, 0x01, .u16, 0, 16, 0, 0, .I, false, .none, .any, .num 0, false, "InstanceDelete"⟩,
  ⟨0xB080, 0xB080, 0x02, 0x02, .u16, 9, 9, 0, 9, .I, false, .none, .any, .num 0, false, "InstancesPresent"⟩,
  ⟨0xB080, 0xB080, 0x03, 0x03, .u16, 1, 3, 0, 1, .I, true, .none, .any, .num 0, false, "DatagramRing"⟩,
  ⟨0xB100, 0xB100, 0x00, 0x00, .str, 1, 3, 3, 1, .I, true, .inst, .upTo 31, .bytes [], false, "InstanceLabel"⟩,
  ⟨0xB100, 0xB100, 0x01, 0x01, .u8, 1, 3, 3, 1, .I, false, .inst, .nat 0 1, .num 0, false, "BasketEnable"⟩,
  ⟨0xB100, 0xB100, 0x02, 0x02, .u8, 1, 3, 3, 1, .I, true, .inst, .nat 0 3, .num 0, false, "RingGoose"⟩,
  ⟨0xB100, 0xB100, 0x03, 0x03, .u8, 1, 3, 3, 1, .I, true, .inst, .nat 0 3, .num 0, false, "RingLocal"⟩,
  ⟨0xB101, 0xB101, 0x00, 0x00, .u8, 0, 16, 16, 0, .I, false, .inst, .nat 1 2, .num 0, false, "ResetCommand"⟩,
  ⟨0xB101, 0xB101, 0x01, 0x01, .u32, 1, 3, 3, 1, .I, true, .inst, .nat 1 1000, .num 0x32, false, "DrainLimit"⟩,
  ⟨0xB101, 0xB101, 0x02, 0x02, .u8, 9, 9, 9, 9, .I, false, .inst, .any, .num 0, false, "ResetStatus"⟩,
  ⟨0xB101, 0xB101, 0x03, 0x03, .u32, 9, 9, 9, 9, .I, false, .inst, .any, .num 0, false, "LastResetTime"⟩,
  ⟨0xB101, 0xB101, 0x04, 0x04, .u32, 9, 9, 9, 9, .I, false, .inst, .any, .num 0, false, "ResetCount"⟩,
  ⟨0xB110, 0xB110, 0x00, 0x07, .blob, 1, 3, 3, 1, .I, false, .inst, .exact [16], .bytes (List.replicate 16 0), false, "RingConfig"⟩,
  ⟨0xB120, 0xB120, 0x00, 0x07, .blob, 9, 9, 9, 9, .I, false, .inst, .exact [32], .bytes ([] ++ List.replicate 32 0), false, "RingCounters"⟩,
  ⟨0xB130, 0xB130, 0x00, 0x00, .blob, 9, 9, 9, 9, .I, false, .inst, .exact [32], .bytes ([] ++ List.replicate 32 0), false, "BasketCounters"⟩,
  ⟨0xB200, 0xB200, 0x01, 0xFF, .u16, 1, 3, 0, 1, .I, false, .none, .any, .num 0xFFFF, false, "VfInstance"⟩,
  ⟨0xB201, 0xB201, 0x01, 0xFF, .u8, 9, 9, 0, 9, .I, false, .none, .any, .num 0, false, "VfState"⟩]

/-- The objects with index 0xBnnn. -/
def objectRowsB : List ObjectRow := objectRowsB_0

def objectRowsC_0 : List ObjectRow := [
  ⟨0xC000, 0xC000, 0x00, 0x00, .u64, 9, 9, 0, 9, .I, false, .none, .any, .num 0, false, "EventsReleased"⟩,
  ⟨0xC000, 0xC000, 0x01, 0x01, .u32, 9, 9, 0, 9, .I, false, .none, .any, .num 0, false, "EventsDropped"⟩,
  ⟨0xC000, 0xC000, 0x02, 0x02, .u8, 9, 9, 0, 9, .I, false, .none, .any, .num 0, false, "DiesExcluded"⟩,
  ⟨0xC000, 0xC000, 0x03, 0x03, .u8, 3, 1, 0, 1, .I, true, .none, .nat 0 7, .num 0, false, "RecorderThreshold"⟩,
  ⟨0xC000, 0xC000, 0x04, 0x04, .u32, 3, 3, 0, 1, .I, true, .none, .nat 0 4000, .num 0x3E8, false, "RepeatWindow"⟩,
  ⟨0xC000, 0xC000, 0x05, 0x05, .u8, 3, 3, 0, 1, .I, true, .none, .nat 0 7, .num 0, false, "RecorderDomain"⟩,
  ⟨0xC000, 0xC000, 0x06, 0x06, .u32, 3, 3, 0, 1, .I, true, .none, .nat 100 600000, .num 0x2710, false, "FreezeLimit"⟩,
  ⟨0xC001, 0xC001, 0x00, 0x00, .u8, 16, 16, 0, 16, .I, false, .none, .nat 1 2, .num 0, false, "RecorderFreeze"⟩,
  ⟨0xC001, 0xC001, 0x01, 0x01, .u8, 9, 9, 0, 9, .I, false, .none, .any, .num 0, false, "RecorderState"⟩,
  ⟨0xC001, 0xC001, 0x02, 0x02, .u32, 9, 9, 0, 9, .I, false, .none, .any, .num 0, false, "RecorderHead"⟩,
  ⟨0xC001, 0xC001, 0x03, 0x03, .u32, 9, 9, 0, 9, .I, false, .none, .any, .num 0, false, "RecorderCount"⟩,
  ⟨0xC001, 0xC001, 0x04, 0x04, .u64, 9, 9, 0, 9, .I, false, .none, .any, .num 0, false, "RecordsWritten"⟩,
  ⟨0xC001, 0xC001, 0x05, 0x05, .u16, 9, 9, 0, 9, .I, false, .none, .any, .num 0, false, "RecorderHeld"⟩,
  ⟨0xC001, 0xC001, 0x06, 0x06, .u32, 9, 9, 0, 9, .I, false, .none, .any, .num 0, false, "RecorderLost"⟩,
  ⟨0xC001, 0xC001, 0x07, 0x07, .u32, 9, 9, 0, 9, .I, false, .none, .any, .num 0, false, "SuspectRecords"⟩,
  ⟨0xC001, 0xC001, 0x08, 0x08, .u32, 9, 9, 9, 9, .I, false, .none, .any, .num 0, false, "OperatingSeconds"⟩,
  ⟨0xC001, 0xC001, 0x09, 0x09, .u32, 9, 9, 9, 9, .I, false, .none, .any, .num 0, false, "PowerCycles"⟩,
  ⟨0xC001, 0xC001, 0x0A, 0x0A, .u8, 16, 0, 0, 0, .I, false, .none, .oneOf [1], .num 0, false, "RecorderClear"⟩,
  ⟨0xC010, 0xC010, 0x01, 0xFF, .blob, 3, 3, 1, 1, .I, true, .none, .exact [8], .bytes ([0xFF, 0xFF, 0xFF, 0xFF] ++ List.replicate 4 0), false, "RouteConfig"⟩,
  ⟨0xC020, 0xC020, 0x00, 0x00, .blob, 16, 16, 16, 0, .I, false, .none, .exact [20], .bytes [], false, "EventRaise"⟩,
  ⟨0xC100, 0xC10F, 0x00, 0xFF, .u32, 3, 3, 0, 1, .I, true, .none, .bits 0xF, .num 0, false, "SourceConfig"⟩,
  ⟨0xC200, 0xC200, 0x00, 0xFF, .blob, 3, 3, 3, 1, .I, false, .none, .exact [32], .bytes (List.replicate 32 0), false, "EqConfig"⟩,
  ⟨0xC201, 0xC201, 0x00, 0xFF, .u64, 9, 9, 9, 9, .I, false, .none, .any, .num 0, false, "EqWritten"⟩,
  ⟨0xC210, 0xC210, 0x00, 0x03, .u32, 3, 3, 0, 1, .I, true, .none, .bits 0xFFFFF073, .num 0x3E8060, false, "EvtPinConfig"⟩,
  ⟨0xC211, 0xC211, 0x00, 0x03, .u8, 4, 4, 0, 0, .I, false, .none, .oneOf [0, 1], .num 0, false, "EvtPinAck"⟩,
  ⟨0xC400, 0xC5FF, 0x00, 0xFF, .blob, 9, 9, 0, 9, .I, false, .none, .exact [68], .bytes [], false, "RecorderRecord"⟩]

/-- The objects with index 0xCnnn. -/
def objectRowsC : List ObjectRow := objectRowsC_0

def objectRowsD_0 : List ObjectRow := [
  ⟨0xD000, 0xD000, 0x00, 0x00, .u32, 9, 9, 9, 9, .I, false, .none, .any, .num 0, false, "SecurityState"⟩,
  ⟨0xD000, 0xD000, 0x01, 0x01, .u32, 9, 9, 0, 9, .I, false, .none, .any, .num 0, false, "JournalEpoch"⟩,
  ⟨0xD000, 0xD000, 0x02, 0x02, .u32, 9, 9, 0, 9, .I, false, .none, .any, .num 0, false, "KeyCopyCorrected"⟩,
  ⟨0xD001, 0xD001, 0x00, 0x00, .u8, 3, 3, 0, 1, .T, false, .none, .nat 0 1, .num 0, false, "BootPreference"⟩,
  ⟨0xD001, 0xD001, 0x01, 0x01, .u8, 16, 16, 0, 0, .I, false, .none, .nat 1 1, .num 0, false, "BootConfirm"⟩,
  ⟨0xD001, 0xD001, 0x02, 0x03, .blob, 9, 9, 0, 9, .I, false, .none, .upTo 65535, .bytes [], false, "ImageInfo"⟩,
  ⟨0xD001, 0xD001, 0x04, 0x04, .u8, 16, 0, 0, 0, .I, false, .none, .any, .num 0, false, "SecurityVersionAdvance"⟩,
  ⟨0xD001, 0xD001, 0x05, 0x05, .u8, 3, 3, 0, 1, .I, false, .none, .nat 0 1, .num 1, false, "RecoveryTarget"⟩,
  ⟨0xD001, 0xD001, 0x06, 0x06, .u8, 16, 16, 0, 0, .I, false, .none, .nat 1 1, .num 0, false, "RecoveryRestart"⟩,
  ⟨0xD002, 0xD002, 0x00, 0x03, .blob, 9, 9, 0, 9, .F, false, .none, .upTo 65535, .bytes [], true, "OwnerBootKeyBank"⟩,
  ⟨0xD002, 0xD002, 0x10, 0x10, .blob, 16, 0, 0, 0, .I, false, .none, .exact [48], .bytes [], false, "OwnerBootKeyProgram"⟩,
  ⟨0xD002, 0xD002, 0x11, 0x11, .u8, 16, 0, 0, 0, .I, false, .none, .nat 0 3, .num 0, false, "OwnerBootKeyRevoke"⟩,
  ⟨0xD010, 0xD010, 0x00, 0x07, .blob, 9, 9, 9, 9, .I, false, .none, .upTo 65535, .bytes [], false, "MeasurementChain"⟩,
  ⟨0xD011, 0xD011, 0x00, 0x00, .blob, 0, 16, 0, 0, .I, false, .none, .exact [49], .bytes [], false, "MeasureExtend"⟩,
  ⟨0xD012, 0xD012, 0x00, 0x07, .u32, 9, 9, 9, 9, .I, false, .none, .any, .num 0, false, "ChainExtensions"⟩,
  ⟨0xD050, 0xD05B, 0x00, 0xFF, .blob, 16, 16, 0, 0, .I, false, .none, .exact [32768], .bytes [], false, "RecoveryBlock"⟩,
  ⟨0xD100, 0xD100, 0x00, 0x1F, .blob, 3, 3, 0, 1, .I, false, .none, .exact [64], .bytes (List.replicate 64 0), false, "CredentialEntry"⟩,
  ⟨0xD101, 0xD101, 0x00, 0x1F, .blob, 2, 2, 0, 0, .I, false, .none, .exact [32, 48], .bytes [], false, "CredentialSecret"⟩,
  ⟨0xD102, 0xD102, 0x00, 0x00, .blob, 0, 0, 0, 16, .I, false, .none, .exact [16], .bytes [], false, "OwnerClaim"⟩,
  ⟨0xD102, 0xD102, 0x01, 0x01, .u8, 16, 0, 0, 0, .I, false, .none, .nat 1 1, .num 0, false, "OwnerRelease"⟩,
  ⟨0xD200, 0xD200, 0x00, 0x3F, .blob, 9, 9, 9, 9, .I, false, .none, .upTo 65535, .bytes [], false, "KeySlotInfo"⟩,
  ⟨0xD201, 0xD201, 0x00, 0x3F, .blob, 16, 16, 16, 0, .I, false, .none, .upTo 65535, .bytes [], false, "KeyLoad"⟩,
  ⟨0xD202, 0xD202, 0x00, 0x3F, .u8, 16, 16, 16, 0, .I, false, .none, .nat 1 2, .num 0, false, "KeyCommit"⟩,
  ⟨0xD203, 0xD203, 0x00, 0x3F, .u8, 16, 16, 16, 0, .I, false, .none, .nat 1 1, .num 0, false, "KeyErase"⟩,
  ⟨0xD300, 0xD300, 0x00, 0x00, .blob, 2, 0, 0, 0, .I, false, .none, .exact [48], .bytes [], false, "AttestMSecret"⟩,
  ⟨0xD300, 0xD300, 0x01, 0x01, .blob, 2, 2, 2, 2, .I, false, .none, .exact [32], .bytes [], false, "AttestMChallenge"⟩,
  ⟨0xD300, 0xD300, 0x02, 0x02, .blob, 9, 9, 9, 9, .I, false, .none, .upTo 65535, .bytes [], false, "AttestMResponse"⟩,
  ⟨0xD310, 0xD310, 0x00, 0x00, .u8, 16, 0, 0, 0, .I, false, .none, .nat 1 1, .num 0, false, "AttestPGenerate"⟩,
  ⟨0xD310, 0xD310, 0x01, 0x01, .blob, 9, 9, 9, 9, .I, false, .none, .upTo 65535, .bytes [], false, "AttestPPublicKey"⟩,
  ⟨0xD310, 0xD310, 0x02, 0x02, .blob, 9, 9, 9, 9, .I, false, .none, .upTo 65535, .bytes [], false, "AttestPStatement"⟩,
  ⟨0xD310, 0xD310, 0x03, 0x03, .blob, 2, 2, 2, 2, .I, false, .none, .exact [32], .bytes [], false, "AttestPChallenge"⟩,
  ⟨0xD310, 0xD310, 0x04, 0x04, .blob, 9, 9, 9, 9, .I, false, .none, .upTo 65535, .bytes [], false, "AttestPQuote"⟩,
  ⟨0xD320, 0xD320, 0x00, 0x00, .blob, 1, 1, 1, 1, .F, false, .none, .upTo 65535, .bytes [], true, "FactoryIdentityKey"⟩,
  ⟨0xD320, 0xD320, 0x01, 0x01, .blob, 1, 1, 1, 1, .F, false, .none, .upTo 65535, .bytes [], true, "FactoryIdentityCert"⟩,
  ⟨0xD400, 0xD400, 0x00, 0x00, .u8, 3, 1, 0, 1, .I, true, .none, .bits 0x0C, .num 12, false, "TamperEnableMask"⟩,
  ⟨0xD400, 0xD400, 0x01, 0x01, .u32, 13, 9, 0, 9, .I, false, .none, .any, .num 0, false, "TamperStatus"⟩,
  ⟨0xD400, 0xD400, 0x02, 0x02, .u8, 16, 0, 0, 0, .I, false, .none, .nat 1 1, .num 0, false, "SluiceCommand"⟩,
  ⟨0xD400, 0xD400, 0x03, 0x03, .u32, 9, 9, 0, 9, .I, false, .none, .any, .num 0, false, "SluiceCount"⟩]

/-- The objects with index 0xDnnn. -/
def objectRowsD : List ObjectRow := objectRowsD_0

def objectRowsE_0 : List ObjectRow := [
  ⟨0xE000, 0xE000, 0x00, 0x00, .u32, 3, 3, 0, 1, .I, true, .none, .nat 10000 480000, .num 0x75300, false, "BoardPowerBudget"⟩,
  ⟨0xE000, 0xE000, 0x01, 0x01, .u32, 3, 3, 0, 1, .I, true, .none, .nat 20000 200000, .num 0xEA60, false, "PlatformReserve"⟩,
  ⟨0xE000, 0xE000, 0x02, 0x02, .u32, 9, 9, 9, 9, .I, false, .none, .any, .num 0, false, "HamperStatus"⟩,
  ⟨0xE000, 0xE000, 0x03, 0x03, .u32, 9, 9, 0, 9, .I, false, .none, .any, .num 0, false, "MeasuredPower"⟩,
  ⟨0xE000, 0xE000, 0x04, 0x04, .i64, 9, 9, 0, 9, .I, false, .none, .any, .num 0, false, "LedgerBalance"⟩,
  ⟨0xE000, 0xE000, 0x05, 0x05, .u64, 9, 9, 0, 9, .I, false, .none, .any, .num 0, false, "EnergyConsumed"⟩,
  ⟨0xE000, 0xE000, 0x06, 0x06, .u32, 9, 9, 0, 9, .I, false, .none, .any, .num 0, false, "BudgetOverruns"⟩,
  ⟨0xE010, 0xE010, 0x00, 0x07, .u32, 9, 9, 0, 9, .I, false, .none, .any, .num 0, false, "RailPower"⟩,
  ⟨0xE011, 0xE011, 0x00, 0x07, .u64, 9, 9, 0, 9, .I, false, .none, .any, .num 0, false, "RailEnergy"⟩,
  ⟨0xE020, 0xE020, 0x00, 0x00, .f32, 3, 3, 0, 1, .I, true, .none, .any, .num 0x00000000, false, "HoldupCapacitance"⟩,
  ⟨0xE020, 0xE020, 0x01, 0x01, .f32, 3, 3, 0, 1, .I, true, .none, .float 0x3F800000 0x447A0000, .num 0x3F800000, false, "HoldupDivider"⟩,
  ⟨0xE020, 0xE020, 0x02, 0x02, .f32, 3, 3, 0, 1, .I, true, .none, .float 0x00000000 0x447A0000, .num 0x00000000, false, "HoldupFloor"⟩,
  ⟨0xE020, 0xE020, 0x03, 0x03, .f32, 3, 3, 0, 1, .I, true, .none, .any, .num 0x00000000, false, "HoldupLossVoltage"⟩,
  ⟨0xE020, 0xE020, 0x04, 0x04, .f32, 3, 3, 0, 1, .I, true, .none, .any, .num 0x00000000, false, "HoldupReturnVoltage"⟩,
  ⟨0xE020, 0xE020, 0x05, 0x05, .f32, 3, 3, 0, 1, .I, true, .none, .float 0x3F000000 0x3F800000, .num 0x3F666666, false, "HoldupEfficiency"⟩,
  ⟨0xE020, 0xE020, 0x06, 0x06, .u32, 3, 3, 0, 1, .I, true, .none, .nat 0 100000, .num 0, false, "HoldupBoardLoad"⟩,
  ⟨0xE020, 0xE020, 0x07, 0x07, .u32, 3, 3, 0, 1, .I, true, .none, .nat 0 10000000, .num 0x4E20, false, "FlushReserve"⟩,
  ⟨0xE020, 0xE020, 0x08, 0x08, .u32, 3, 3, 0, 1, .I, true, .none, .nat 1000 1000000, .num 0x4E20, false, "ShedLead"⟩,
  ⟨0xE021, 0xE021, 0x00, 0x00, .f32, 9, 9, 9, 9, .I, false, .none, .any, .num 0, false, "HoldupVoltage"⟩,
  ⟨0xE021, 0xE021, 0x01, 0x01, .u64, 9, 9, 9, 9, .I, false, .none, .any, .num 0, false, "HoldupEnergy"⟩,
  ⟨0xE021, 0xE021, 0x02, 0x02, .f32, 9, 9, 0, 9, .I, false, .none, .any, .num 0, false, "HoldupCapMeasured"⟩,
  ⟨0xE021, 0xE021, 0x03, 0x03, .blob, 9, 9, 0, 9, .I, false, .none, .upTo 65535, .bytes [], false, "ShedThresholds"⟩,
  ⟨0xE021, 0xE021, 0x04, 0x04, .u8, 16, 16, 0, 0, .I, false, .none, .nat 1 2, .num 0, false, "HoldupCalibrate"⟩,
  ⟨0xE021, 0xE021, 0x05, 0x05, .f32, 3, 3, 0, 1, .I, true, .none, .any, .num 0x00000000, false, "HoldupCalReference"⟩,
  ⟨0xE021, 0xE021, 0x06, 0x06, .f32, 3, 3, 0, 1, .I, true, .none, .float 0x3851B717 0x3D4CCCCD, .num 0x3A03126F, false, "HoldupCalNoiseMax"⟩,
  ⟨0xE021, 0xE021, 0x07, 0x07, .u32, 9, 9, 0, 9, .I, false, .none, .any, .num 0, false, "HoldupCalStatus"⟩,
  ⟨0xE021, 0xE021, 0x08, 0x08, .u32, 9, 9, 0, 9, .I, false, .none, .any, .num 0, false, "SupplyLossCount"⟩,
  ⟨0xE030, 0xE030, 0x00, 0x00, .i32, 3, 3, 0, 1, .I, true, .none, .int (100000) 148000, .num 0x222E0, false, "ThrottleTemp"⟩,
  ⟨0xE030, 0xE030, 0x01, 0x01, .i32, 3, 3, 0, 1, .I, true, .none, .int (0) 150000, .num 0x23A50, false, "DownshiftTemp"⟩,
  ⟨0xE030, 0xE030, 0x02, 0x02, .i32, 3, 3, 0, 1, .I, true, .none, .int (1000) 20000, .num 0x1388, false, "ThermalHysteresis"⟩,
  ⟨0xE030, 0xE030, 0x03, 0x03, .u16, 3, 3, 0, 1, .I, true, .none, .oneOf [400, 600, 800, 1000, 1200, 1400, 1600, 1800, 2000], .num 0x320, false, "HostMinFrequency"⟩,
  ⟨0xE031, 0xE031, 0x00, 0x07, .i32, 9, 9, 9, 9, .I, false, .none, .any, .num 0, false, "DieTemperature"⟩,
  ⟨0xE031, 0xE031, 0x08, 0x08, .i32, 9, 9, 9, 9, .I, false, .none, .any, .num 0, false, "TjMax"⟩,
  ⟨0xE040, 0xE040, 0x00, 0x00, .u8, 16, 16, 0, 0, .I, false, .none, .nat 1 2, .num 0, false, "ModuleSleep"⟩,
  ⟨0xE040, 0xE040, 0x01, 0x01, .u32, 3, 3, 0, 1, .I, true, .none, .nat 10 1000000, .num 0x3E8, false, "HbmIdleTime"⟩]

/-- The objects with index 0xEnnn. -/
def objectRowsE : List ObjectRow := objectRowsE_0

def objectRowsF_0 : List ObjectRow := [
  ⟨0xF200, 0xF200, 0x00, 0x01, .i64, 1, 1, 0, 1, .F, false, .none, .any, .num 0, true, "FactoryPpsOutDelay"⟩,
  ⟨0xF200, 0xF200, 0x02, 0x02, .i64, 1, 1, 0, 1, .F, false, .none, .any, .num 0, true, "FactoryPpsInDelay"⟩,
  ⟨0xF200, 0xF200, 0x03, 0x03, .i64, 1, 1, 0, 1, .F, false, .none, .any, .num 0, true, "FactoryIrigInDelay"⟩,
  ⟨0xF201, 0xF201, 0x00, 0xFF, .i64, 1, 1, 0, 1, .F, false, .none, .any, .num 0, true, "FactoryRxLaneDelay"⟩,
  ⟨0xF202, 0xF202, 0x00, 0xFF, .i64, 1, 1, 0, 1, .F, false, .none, .any, .num 0, true, "FactoryTxLaneDelay"⟩,
  ⟨0xF300, 0xF300, 0x00, 0x0F, .f32, 1, 1, 1, 1, .F, false, .none, .any, .num 0, true, "FactoryLsGain"⟩,
  ⟨0xF301, 0xF301, 0x00, 0x0F, .f32, 1, 1, 1, 1, .F, false, .none, .any, .num 0, true, "FactoryLsOffset"⟩,
  ⟨0xF302, 0xF302, 0x00, 0x2F, .i64, 1, 1, 0, 1, .F, false, .none, .any, .num 0, true, "FactoryFioOutDelay"⟩,
  ⟨0xF303, 0xF303, 0x00, 0x2F, .i64, 1, 1, 0, 1, .F, false, .none, .any, .num 0, true, "FactoryFioInDelay"⟩,
  ⟨0xF400, 0xF400, 0x00, 0x00, .f32, 1, 1, 0, 1, .F, false, .none, .any, .num 0, true, "FactoryHoldupGain"⟩,
  ⟨0xF401, 0xF401, 0x00, 0x00, .f32, 1, 1, 0, 1, .F, false, .none, .any, .num 0, true, "FactoryHoldupOffset"⟩,
  ⟨0xF700, 0xF700, 0x00, 0x07, .i64, 1, 1, 0, 1, .F, false, .none, .any, .num 0, true, "FactoryRippleInDelay"⟩,
  ⟨0xFA00, 0xFA00, 0x00, 0x03, .i64, 3, 3, 0, 1, .S, false, .none, .int (-65536000000000) 65536000000000, .num 0, false, "UserTimeDelay"⟩,
  ⟨0xFA01, 0xFA01, 0x00, 0xFF, .i64, 3, 3, 0, 1, .S, false, .none, .int (-65536000000) 65536000000, .num 0, false, "UserRxLaneDelay"⟩,
  ⟨0xFA02, 0xFA02, 0x00, 0xFF, .i64, 3, 3, 0, 1, .S, false, .none, .int (-65536000000) 65536000000, .num 0, false, "UserTxLaneDelay"⟩,
  ⟨0xFB00, 0xFB00, 0x00, 0x0F, .f32, 3, 3, 3, 1, .S, false, .none, .float 0x3F000000 0x40000000, .num 0x3F800000, false, "UserLsGain"⟩,
  ⟨0xFB01, 0xFB01, 0x00, 0x0F, .f32, 3, 3, 3, 1, .S, false, .none, .float 0xBE800000 0x3E800000, .num 0x00000000, false, "UserLsOffset"⟩,
  ⟨0xFB02, 0xFB02, 0x00, 0x2F, .i64, 3, 3, 0, 1, .S, false, .none, .int (-65536000000) 65536000000, .num 0, false, "UserFioOutDelay"⟩,
  ⟨0xFB03, 0xFB03, 0x00, 0x2F, .i64, 3, 3, 0, 1, .S, false, .none, .int (-65536000000) 65536000000, .num 0, false, "UserFioInDelay"⟩,
  ⟨0xFC00, 0xFC00, 0x00, 0x00, .f32, 3, 3, 0, 1, .S, false, .none, .float 0x3F000000 0x40000000, .num 0x3F800000, false, "UserHoldupGain"⟩,
  ⟨0xFC01, 0xFC01, 0x00, 0x00, .f32, 3, 3, 0, 1, .S, false, .none, .float 0xBDCCCCCD 0x3DCCCCCD, .num 0x00000000, false, "UserHoldupOffset"⟩,
  ⟨0xFF00, 0xFF00, 0x00, 0x07, .i64, 3, 3, 0, 1, .S, false, .none, .int (-65536000000) 65536000000, .num 0, false, "UserRippleInDelay"⟩]

/-- The objects with index 0xFnnn. -/
def objectRowsF : List ObjectRow := objectRowsF_0

/-- The rows that an index can lie in, by its top four bits (Table 2-1). -/
def objectRowsOf (index : Nat) : List ObjectRow :=
  match index / 0x1000 with
  | 0x1 => objectRows1
  | 0x2 => objectRows2
  | 0x3 => objectRows3
  | 0x4 => objectRows4
  | 0x5 => objectRows5
  | 0x6 => objectRows6
  | 0x7 => objectRows7
  | 0x8 => objectRows8
  | 0x9 => objectRows9
  | 0xA => objectRowsA
  | 0xB => objectRowsB
  | 0xC => objectRowsC
  | 0xD => objectRowsD
  | 0xE => objectRowsE
  | 0xF => objectRowsF
  | _ => []

/-- Every row of the dictionary. -/
def objectRows : List ObjectRow :=
  objectRows1 ++ objectRows2 ++ objectRows3 ++ objectRows4 ++ objectRows5 ++ objectRows6 ++ objectRows7 ++ objectRows8 ++ objectRows9 ++ objectRowsA ++ objectRowsB ++ objectRowsC ++ objectRowsD ++ objectRowsE ++ objectRowsF

end Sys2Proof.Machine
end

