-- ==== Sys2Proof/Machine/State.lean ====
section
/-! DEFINITION. The state of the block: plain data, chapter by chapter, and its value right after a power-on
reset. -/

namespace Sys2Proof.Machine

/-- How a step can stop with a fault. No chapter of the spec gives the block a fault that ends it: it answers a
refused operation with a code and goes on, so no meaning raises one. -/
inductive Fault where
  /-- Raised by no meaning; safe. -/
  | unreachable
  deriving DecidableEq, Repr

/-- How a step can be refused by the model. -/
inductive Refusal where
  /-- Raised by an arm of exec whose command has no meaning yet; safe: nothing is claimed of it. -/
  | notModelled (mnemonic : String)
  deriving DecidableEq, Repr

/-- The refusal codes, Table 2-14. -/
inductive Code where
  | noSuchObject | noSuchSubindex | selectorMismatch | noSession
  | denied | locked | notAuthenticated | roleNotOnRoute
  | outOfRange | typeMismatch | reservedBitSet | stringTooLong | invalidFloat | malformed
  | busy | quiesceNeeded | inProgress | stageConflict | quiesceTimeout
  | precondition | verifyFailed | notInStep | timeNotLocked | shedLevel | timeInPast
  | notOwner | heldElsewhere
  | noResource | stageFull | sessionLimit | rateLimited
  deriving DecidableEq, Repr

/-- One released or buffered event (R575): stamp, flags, source, code, item word and payload bytes 4 to 15 as one
little-endian number. -/
structure Event where
  gtc : Nat
  coarse : Bool
  backup : Bool
  source : Nat
  code : Nat
  kind : Nat
  num : Nat
  detail : Nat
  priority : Nat
  outOfOrder : Bool
  deriving DecidableEq, Repr

/-- One item of a reply: its code (0 for Done), type code and value octets. -/
structure ReplyItem where
  code : Nat
  typ : Nat
  value : Bytes
  deriving DecidableEq, Repr

/-- The body of a reply (Tables 2-7 and 2-9). -/
inductive ReplyBody where
  | empty
  | opened (session maxMessage timeout : Nat)
  | items (l : List ReplyItem)
  | commit (failedEntry code gtc : Nat)
  | bytes (b : Bytes)
  | describe (typ : Nat) (apply : Nat) (attributes : Nat) (access : List Nat) (maxLength : Nat)
      (dflt lo hi : Bytes) (name : String)
  deriving DecidableEq, Repr

/-- A reply to one request. -/
structure Reply where
  op : Nat
  status : Nat
  seq : Nat
  body : ReplyBody
  deriving DecidableEq, Repr

/-! ## Chapter 1: ponds, items and in-package links -/

/-- A pond that exists (Table 1-9): kind 1 instance, 2 module, 3 pair, 4 fabric, 5 user. -/
structure PondRec where
  kind : Nat
  parent : Nat
  depth : Nat
  deriving DecidableEq, Repr

/-- The pond table, the holders and states of items, and the links between the dies. -/
structure PondSt where
  /-- The ponds by selector (R43). -/
  ponds : Tab (Option PondRec)
  /-- The pond that holds an item (key: kind × 2^24 + number); an unlisted item is held by the module pond (R44). -/
  holder : Tab Nat
  /-- In-package links that failed retraining, by group × 8 + link: group 0 and 1 the N-die to C-die 0 and 1, group 2
  C-die to C-die, 3 and 4 the C-dies to the S-die (Table 1-2). -/
  linkDown : Tab Bool
  /-- The admitted charges (Table 18-2) by item, in mW as a fraction: numerator, denominator. Instance i is item i of
  kind 0x81. -/
  charges : Tab (Nat × Nat)
  /-- The State field of each pond's health word as it was last looked at. -/
  healthSeen : Tab Nat
  deriving DecidableEq, Repr

/-! ## Chapter 2: the dictionary engine, sessions and windows -/

/-- One entry of a stage set (R70): the object, its selector, the type code and value written, and the version
recorded at Stage. -/
structure StageEnt where
  id : Nat
  present : Bool
  sel : Nat
  typ : Nat
  value : Bytes
  version : Nat
  deriving DecidableEq, Repr

/-- A held timed commit (R74): its domain, the named time in units of 2^−16 ns, and the checked set. -/
structure TimedCommit where
  dom : Nat
  time : Nat
  ents : List StageEnt
  /-- Its place in the order of acceptance among the held ones (Chapter 2, after R76). -/
  order : Nat
  deriving DecidableEq, Repr

/-- A session of any route (R63, R96 to R100). Balmuene sessions lie at their identifier, window sessions at
2^32 + window, the physical function at 2^32 + 64 and virtual function n at 2^32 + 64 + n. -/
structure Session where
  role : Role
  inst : Nat
  route : Route
  addr : Nat
  port : Nat
  assoc : Nat
  openSeq : Nat
  openRole : Nat
  openSel : Nat
  firstDone : Bool
  lastSeq : Nat
  cached : Option Reply
  /-- A request is still being executed: its Commit waits for a quiesce. -/
  executing : Bool
  /-- The tokens of R98 in units of 10^−9 token, and the GTC they were last filled at. -/
  tokens : Nat
  tokensAt : Nat
  lastRequest : Nat
  stage : List StageEnt
  timed : Option TimedCommit
  /-- The object a WriteSegment is building, as (number, selector), and the octets so far (R95). -/
  segObject : Option (Nat × Nat)
  segBuffer : Bytes
  deriving DecidableEq, Repr

/-- The direct registers of one object window (Table 2-10). -/
structure Window where
  object : Nat
  selector : Nat
  length : Nat
  control : Nat
  busy : Bool
  done : Bool
  collision : Bool
  code : Nat
  data : Bytes
  /-- The reply that the running operation will end with. -/
  result : Option Reply
  deriving DecidableEq, Repr

/-- A commit that waits for its blocks to be quiesced (R77, R79): the session, the set, the blocks not finished (by
the entry that needs each) and the start. -/
structure QuiesceJob where
  sess : Nat
  timed : Bool
  ents : List StageEnt
  waiting : List (Nat × Nat)
  start : Nat
  /-- The addresses and ports of the request and of duplicates that wait for its reply (R96). -/
  replyTo : List (Nat × Nat)
  deriving DecidableEq, Repr

/-- One saved copy of the persistent set in a boot flash device (R84). -/
structure ConfigCopy where
  valid : Bool
  sequence : Nat
  values : Tab (Option OVal)
  deriving DecidableEq, Repr

/-- A DTLS association (R91): whether only its cookie exchange is done, how its client showed itself, and its address. -/
structure Assoc where
  cookie : Bool
  client : DtlsClient
  addr : Nat
  port : Nat
  deriving DecidableEq, Repr

/-- The dictionary engine. -/
structure DictSt where
  /-- Values in force that differ from the object's Default, by number × 4096 + selector. -/
  values : Tab (Option OVal)
  /-- Pending values of B- and T-class objects (R67). -/
  pendingValues : Tab (Option OVal)
  /-- Versions (R71). -/
  versions : Tab Nat
  sessions : Tab (Option Session)
  windows : Tab Window
  assocs : Tab (Option Assoc)
  quiesce : List QuiesceJob
  /-- The two saved copies (boot flash 0 and 1), the save under way (copy, values, sequence), and whether the next
  module restart ignores both (R670). -/
  copy0 : ConfigCopy
  copy1 : ConfigCopy
  saving : Option (Nat × ConfigCopy)
  restoreDefaults : Bool
  /-- Direct registers without behaviour of their own, by page × 2^16 + offset (R18). -/
  registers : Tab Nat
  deriving DecidableEq, Repr

/-! ## Chapter 3: time -/

/-- One parameter set of a domain (R108, R109): its effective GTC, the domain value there in units of 2^−48 ns, and
the rate offset in units of 2^−48. -/
structure TParam where
  g : Nat
  d : Int
  r : Int
  deriving DecidableEq, Repr

/-- A pending step (R133, R136): its kind (0 announced, 1 written time, 2 to the reference), its amount in units of
2^−16 ns, and its effective GTC. -/
structure StepPending where
  kind : Nat
  amount : Int
  g : Nat
  deriving DecidableEq, Repr

/-- What the module knows of one time source of a domain (R114): consecutive valid measurements, since when it is
qualified, and the last measured offset in units of 2^−16 ns. -/
structure SourceSt where
  run : Nat
  since : Option Nat
  offset : Int
  class_ : Nat
  deriving DecidableEq, Repr

/-- An Announce data set, compared by the default best master algorithm (R115). -/
structure Announce where
  priority1 : Nat
  clockClass : Nat
  accuracy : Nat
  variance : Nat
  priority2 : Nat
  identity : Nat
  stepsRemoved : Nat
  deriving DecidableEq, Repr

/-- The PTP instance of a domain (R115 to R117). Times are units of 2^−16 ns; GTC values are ns. -/
structure PtpSt where
  /-- The selected master with the port it is heard on. -/
  master : Option (Announce × Nat)
  lastAnnounce : Nat
  lastSync : Nat
  /-- A Sync that waits for its Follow_Up: sequence, receive GTC, correction. -/
  syncWait : Option (Nat × Nat × Int)
  /-- The mean path delay and the GTC of its measurement. -/
  delay : Option (Int × Nat)
  /-- A Pdelay_Req or Delay_Req sent: sequence, transmit GTC. -/
  delayReq : Option (Nat × Nat)
  /-- A two-step Pdelay_Resp that waits for its Follow_Up: sequence, t4 − t1 and the request receipt t2. -/
  respWait : Option (Nat × Int × Int)
  /-- PTP port states by port: 0 none, 1 listening, 2 slave, 3 master, 4 passive. -/
  portStates : Tab Nat
  /-- The GTC of the last message sent, by port × 8 + kind, and the next sequenceId. -/
  sent : Tab Nat
  seq : Nat
  deriving DecidableEq, Repr

/-- One time domain (R108 to R136). -/
structure Dom where
  /-- Table 3-1. -/
  state : Nat
  /-- Frequency and correction terms, units of 2^−48. -/
  freq : Int
  corr : Int
  /-- The parameter sets, newest first. -/
  params : List TParam
  lockedSinceEnable : Bool
  source : Nat
  /-- Sources 1 to 3. -/
  src1 : SourceSt
  src2 : SourceSt
  src3 : SourceSt
  /-- Consecutive offsets within LockThreshold, and beyond 4 × LockThreshold (R113). -/
  inRun : Nat
  outRun : Nat
  /-- The last valid measured offsets since the active source was qualified, newest first, at most 16. -/
  offsets : List Int
  lastMeasure : Option Nat
  /-- EstimatedError at the last valid measurement, in ns; none before the first. -/
  errorAt : Option Nat
  /-- The GTC at which the last Locked period began, and the last valid measurement in it. -/
  lockStart : Option Nat
  lockLast : Nat
  holdSince : Option Nat
  step : Option StepPending
  stepCount : Nat
  pairOffset : Int
  pairBad : Bool
  badRun : Nat
  goodRun : Nat
  leap61 : Bool
  leap59 : Bool
  utcValid : Bool
  clockClass : Nat
  ptp : PtpSt
  deriving DecidableEq, Repr

/-- A pulse generator (R140 to R143): the next edge number, the edges produced, whether it is armed (PgState), the
end of the active pulse in half nanoseconds, and the GTC of its arming. -/
structure PulseGen where
  state : Nat
  next : Nat
  edges : Nat
  pulseEnd : Option Nat
  since : Nat
  deriving DecidableEq, Repr

/-- The latches of one reader of the time page (R137): the GTC word, its flags, the eight domain blocks and the
snapshot. -/
structure TimeBlock where
  seconds : Nat
  ns : Nat
  frac : Nat
  gtc : Nat
  quality : Nat
  steps : Nat
  deriving DecidableEq, Repr

structure TimeLatch where
  gtcHi : Nat
  gtcFlags : Nat
  blocks : Tab TimeBlock
  deriving DecidableEq, Repr

/-- The snapshot registers 0x300 and 0x400 to 0x48F (Tables 3-7 and 3-9). -/
structure SnapAll where
  ready : Bool
  gtc : Nat
  flags : Nat
  doms : List (Nat × Nat × Nat)
  deriving DecidableEq, Repr

/-- A PPS output (R144): its level and the end of its pulse. -/
structure PpsOut where
  active : Bool
  until_ : Nat
  deriving DecidableEq, Repr

structure TimeSt where
  /-- The shore domain runs on its backup oscillator (R106). -/
  backup : Bool
  /-- The dies whose interpolator is valid (R105). -/
  fineN : Bool
  fineC0 : Bool
  fineC1 : Bool
  doms : Tab Dom
  gens : Tab PulseGen
  latches : Tab TimeLatch
  /-- SnapAll registers by reader. -/
  snaps : Tab SnapAll
  pps : Tab PpsOut
  /-- PPS_IN: last edge, consecutive outliers; IRIG: its last valid frame with the GTC of its
  on-time marker, and consecutive discarded frames. -/
  ppsLast : Option Nat
  ppsOutliers : Nat
  irigLabel : Option (IrigFrame × Nat)
  irigBad : Nat
  /-- A leap second that IRIG or PTP announced: domain key to its sign and TAI instant. -/
  leap : Tab (Option (Bool × Nat))
  deriving DecidableEq, Repr

/-! ## Chapter 4: ports -/

/-- A byte bucket (R203, R224): its level in units of 1 / (8 × 10^9) byte, which rises by the rate in bit/s each ns,
and the GTC of the level. -/
structure Bucket where
  level : Int
  at_ : Nat
  deriving DecidableEq, Repr

/-- What the transmit path still writes into a queued frame (R125, R251): nothing, the residence of a DelayResp, the
residence added to PathDelay, the time of a domain, or the age of a trigger since `g`, in units of 2^−8 ns (R360). -/
inductive OneStep where
  | none
  | residence
  | pathDelay
  | domainTime (d : Nat)
  | age (g : Int)
  deriving DecidableEq, Repr

/-- A frame in a transmit queue: its buffer entry (0 for a frame of the module's own), its octets through the FCS,
whether it ends with an inverted FCS, its receive stamp, and the one-step insertion due. -/
structure QFrame where
  id : Nat
  octets : Bytes
  stomp : Bool
  stamp : Nat
  fix : OneStep
  deriving DecidableEq, Repr

/-- The rate shift of a Xosyn link (R178 to R183). -/
structure ShiftSt where
  /-- The transaction number and target mode of this end's outstanding request. -/
  asked : Option (Nat × Nat)
  /-- The shift under way: transaction number and target mode. -/
  running : Option (Nat × Nat)
  /-- The GTC of the transmitter's switch, until it has resumed. -/
  txAt : Option Nat
  /-- The GTC of the received marker, and whether the receiver has aligned to it. -/
  rxAt : Option Nat
  aligned : Bool
  /-- No request before this GTC (R183). -/
  quietUntil : Nat
  nextTxn : Nat
  deriving DecidableEq, Repr

/-- A port beside its objects. -/
structure PortSt where
  /-- The GTC of the entry to the PortState, and of the (re)start of its training with its bound in ns (Table 4-3). -/
  since : Nat
  trainAt : Nat
  bound : Nat
  /-- Transmit low-power idle, and since when all eight queues are empty. -/
  lpi : Bool
  emptyAt : Nat
  /-- The GTC until which a wake from low-power idle holds the transmitter. -/
  wakeUntil : Nat
  shift : ShiftSt
  /-- The speed in Mbit/s that SGMII reported (R150). -/
  sgmii : Nat
  /-- The frame in transmission ends at this GTC. -/
  busyUntil : Nat
  /-- The eight transmit queues. -/
  queues : Tab (List QFrame)
  /-- The frames of the last 200 ms: GTC, received, octets (Utilisation). -/
  traffic : List (Nat × Bool × Nat)
  /-- A PortReset is under way (R166). -/
  resetting : Bool
  deriving DecidableEq, Repr

/-- An octet: the GTC at which its last lane went Off, while its PLL still runs (R151). -/
structure PortsSt where
  ports : Tab PortSt
  pllOff : Tab (Option Nat)
  deriving DecidableEq, Repr

/-! ## Chapter 5: the switch -/

/-- A frame in the shared buffer: its cells, whether they are reserve cells, and the copies still to leave. -/
structure BufEnt where
  cells : Nat
  reserve : Bool
  copies : Nat
  deriving DecidableEq, Repr

/-- A learning table entry (R213): port, hit bit, clear sweeps, the static slot that placed it, and the GTCs of its
last moves. -/
structure MacEnt where
  port : Nat
  hit : Bool
  sweeps : Nat
  static : Option Nat
  moves : List Nat
  deriving DecidableEq, Repr

/-- A node of a redundancy group (R231, R232): the newest sequence number, the set of the 64 last as bits below it, when
it was last seen, and whether it is the source of an admitted stream. -/
structure RedNode where
  newest : Nat
  seen : Nat
  last : Nat
  stream : Bool
  deriving DecidableEq, Repr

/-- An admission that waits for an upshift (R205): the entry, the value to admit, since when, the ports that shift and the
session. -/
structure WaitAdmit where
  entry : Nat
  value : Bytes
  since : Nat
  ports : List Nat
  sess : Nat
  deriving DecidableEq, Repr

structure SwitchSt where
  /-- Buckets: stream e at e, port policer of n at 0x1000 + n, flood policer at 0x2000 + n, flow f at 0x4000 + f,
  shaper of port n queue q at 0x8000 + 8 n + q. -/
  buckets : Tab Bucket
  /-- The buffer and the next number of a buffered frame. -/
  buffer : Tab BufEnt
  nextFrame : Nat
  /-- The learning table by VID × 2^48 + address, and the learns queued in each pipeline (R216). -/
  macs : Tab MacEnt
  learns : Tab (List (Nat × Nat))
  /-- Sequence numbers of admitted entries with two ingress ports, by entry × 2^48 + source (R227). -/
  streamSeq : Tab (Option Nat)
  /-- Drop counters by object number: GTC of the last event and the count then (R223). -/
  drops : Tab (Nat × Nat)
  /-- The rows that differed on the previous sounding pass: table × 2^16 + row. -/
  sounding : List Nat
  /-- Nodes by group × 2^48 + address, the next sequence number of a group, and the GTC of its last supervision
  frame. -/
  nodes : Tab (Option RedNode)
  redSeq : Tab Nat
  redSent : Tab Nat
  waiting : List WaitAdmit
  lastSweep : Nat
  sweepAlarm : Bool
  deriving DecidableEq, Repr

/-! ## Chapter 6: the fabric -/

/-- The neighbour of a port (R241 to R243): when its last Hello came, when this module last sent one and a DelayReq, the
DelayReq outstanding (sequence, t1), the last accepted measurements in half nanoseconds (newest first), consecutive
outliers, and the LinkDelayTx last advertised. -/
structure Neighbour where
  heard : Nat
  helloAt : Nat
  delayAt : Nat
  asked : Option (Nat × Nat)
  means : List Int
  outliers : Nat
  advertised : Nat
  deriving DecidableEq, Repr

/-- A link of an Lsa (Table 6-6). -/
structure LsaLink where
  far : Nat
  cost : Nat
  port : Nat
  valid : Bool
  delay : Nat
  deriving DecidableEq, Repr

/-- A stored Lsa and the GTC of its last refresh. -/
structure LsaRec where
  seq : Nat
  priority : Nat
  addr : Option Nat
  request : Nat
  offer : Nat
  links : List LsaLink
  at_ : Nat
  deriving DecidableEq, Repr

/-- One path of an enabled flow (R252 to R257): 0 none, 1 setting up, 2 up, 3 down until the next database change. Its
hops are module addresses; `tries` counts refusals and `avoid` names the refusing module. -/
structure PathSt where
  st : Nat
  hops : List Nat
  port : Nat
  sentAt : Nat
  tries : Nat
  avoid : List Nat
  deriving DecidableEq, Repr

structure FlowSt where
  a : PathSt
  b : PathSt
  seq : Nat
  deriving DecidableEq, Repr

/-- A transit entry (R253) or the arrival of a flow at its sink. -/
structure Transit where
  inPort : Nat
  outPort : Option Nat
  rate : Nat
  burst : Nat
  /-- Where its Setup came from, for the Release. -/
  origin : Nat
  deriving DecidableEq, Repr

/-- The first-copy state of a sink (R256, R264). -/
structure SinkSt where
  last : Option Nat
  atA : Nat
  atB : Nat
  silentA : Bool
  silentB : Bool
  deriving DecidableEq, Repr

/-- An offering time source (R258). -/
structure Offer where
  st : Nat
  depth : Nat
  class_ : Nat
  err : Nat
  at_ : Nat
  deriving DecidableEq, Repr

/-- A PondReport (R259): health word, energy share and use, the item words, its arrival, and Stale. -/
structure Report where
  seq : Nat
  health : Nat
  share : Nat
  used : Nat
  held : List Nat
  inUse : List Nat
  at_ : Nat
  stale : Bool
  deriving DecidableEq, Repr

structure FabricSt where
  nbs : Tab Neighbour
  db : Tab (Option LsaRec)
  ownSeq : Nat
  /-- An own Lsa is due (R244), and the GTC of the last one. -/
  lsaDue : Bool
  lsaAt : Nat
  /-- The database changed since the routes were computed, and since the addresses were decided. -/
  changed : Bool
  undecided : Bool
  /-- Destination address to (port, serial of the first hop). -/
  routes : Tab (Option (Nat × Nat))
  flows : Tab FlowSt
  /-- Transit entries by Source × 2^17 + Flow × 2 + PathB, and arrivals at sinks by the same key. -/
  transit : Tab (Option Transit)
  arrivals : Tab (Option Transit)
  sinks : Tab SinkSt
  /-- Offers by domain × 4096 + address; the active offer by domain. -/
  offers : Tab (Option Offer)
  timeAt : Tab Nat
  reports : Tab (Option Report)
  reportAt : Nat
  reportState : Nat
  reportSeq : Nat
  /-- Sequence counters by kind × 2^16 + flow. -/
  seqs : Tab Nat
  deriving DecidableEq, Repr

/-! ## Chapter 7: the intake -/

/-- A copy of a frame for the intake: entry, octets without FCS, receive stamp. -/
structure IntakeCopy where
  entry : Nat
  octets : Bytes
  stamp : Nat
  deriving DecidableEq, Repr

/-- A bound stream (R273 to R295). Instants are numbers of samples, for class 3 of
blocks, since second 0 of the domain. -/
structure StreamSt where
  /-- The effective GTC of the binding. -/
  since : Nat
  /-- The last placed instant and the last closed one. -/
  last : Nat
  closed : Nat
  missing : Nat
  lastPlaced : Nat
  lastFrame : Nat
  /-- The instants still open when the stream's domain was disabled, as ranges of first instant and count (R282). -/
  frozen : Option (List (Nat × Nat))
  deriving DecidableEq, Repr

/-- A final grid entry of a slot (R290): its instant, its value or the S samples of its block, its quality word. -/
structure GridEnt where
  at_ : Nat
  values : List Int
  quality : Nat
  deriving DecidableEq, Repr

/-- The grid of a slot: its final entries, newest first, the held entry (R288), and whether the last entry closed as
placed. -/
structure GridSlot where
  ents : List GridEnt
  held : Option GridEnt
  placed : Bool
  deriving DecidableEq, Repr

structure IntakeSt where
  copies : List IntakeCopy
  streams : Tab (Option StreamSt)
  /-- CH s at s, WCH w at 2^16 + w. -/
  grid : Tab GridSlot
  /-- Discards by entry × 16 + cause since the last event of the cause, with its GTC (R296). -/
  discards : Tab (Nat × Nat)
  /-- Streams that met a frame whose key identifier both named slots hold (R278). -/
  sameKey : Tab Bool
  deriving DecidableEq, Repr

/-! ## Chapter 8: the filter chain -/

/-- One output of a filter channel (Table 8-4): the number of its input instant, the chain word, and its other words. -/
structure ChainEnt where
  at_ : Nat
  raw : Int
  value : Nat
  quality : Nat
  rms : Nat
  envelope : Nat
  peakMax : Nat
  peakMin : Nat
  deriving DecidableEq, Repr

/-- The detectors of a channel (R322 to R324): the window of the peak detector under way (samples, extremes, settled so
far), the last reported one, the last tap words, consecutive settled samples, and the envelope. -/
structure DetSt where
  count : Nat
  hi : Int
  lo : Int
  ok : Bool
  repHi : Int
  repLo : Int
  repOk : Bool
  words : List Int
  run : Nat
  env : Nat
  deriving DecidableEq, Repr

/-- A filter channel: standard s at s, wavefront w at 2^16 + w. -/
structure FilterSt where
  /-- The domain and rate of the stream that fed it at its start; none while it is Off or Idle. -/
  feed : Option (Nat × Nat)
  /-- The slots it reads and the scales it applies from after an instant on, newest first. -/
  slots : List (Nat × Nat)
  scales : List (Nat × Bytes)
  /-- The next input sample, and the samples at or after which settling starts again. -/
  next : Nat
  restarts : List Nat
  /-- Stage 1 inputs, integrators, combs, moving average and FIR inputs, newest first. -/
  xs : List Int
  ints : List Nat
  combs : List Nat
  avg : List Int
  fir : List Int
  counts : List Nat
  /-- By quality bit, one more than the last input sample that set it; bit 0 stands for questionable or substituted. -/
  marks : Tab Nat
  settled : Bool
  losses : Nat
  overflows : Nat
  det : DetSt
  ents : List ChainEnt
  deriving DecidableEq, Repr

/-- One phasor entry (Table 8-4); the times are numbers of source inputs, the words binary32. -/
structure PhasorEnt where
  at_ : Nat
  re : Nat
  im : Nat
  mag : Nat
  angle : Nat
  quality : Nat
  freq : Nat
  deriving DecidableEq, Repr

/-- A phasor channel: its last source instant, its window of source outputs, its uncompensated phasors (binary64) and
its entries, newest first. -/
structure PhasorSt where
  last : Nat
  win : List ChainEnt
  raw : List (Nat × Nat × Nat)
  settled : Bool
  ents : List PhasorEnt
  deriving DecidableEq, Repr

/-- One tracker record: instant, binary64 frequency in use after it, and the words of Table 8-4. -/
structure TrackerEnt where
  at_ : Nat
  f : Nat
  freq : Nat
  rocof : Nat
  quality : Nat
  deriving DecidableEq, Repr

structure TrackerSt where
  last : Nat
  angles : List Nat
  raws : List Nat
  freqs : List Nat
  run : Nat
  ents : List TrackerEnt
  deriving DecidableEq, Repr

structure ChainSt where
  filters : Tab (Option FilterSt)
  phasors : Tab (Option PhasorSt)
  trackers : Tab (Option TrackerSt)
  /-- The FIR sets marked Corrupt (R329). -/
  corrupt : List Nat
  deriving DecidableEq, Repr

/-! ## Chapter 9: trigger and acquisition -/

/-- One level, window, rate or pattern test of a unit: its state, the length of its hold, the first true sample with
its interpolation, and whether it has triggered since it became true. -/
structure CondSt where
  on : Bool
  hold : Nat
  first : Nat
  interp : Nat
  fired : Bool
  deriving DecidableEq, Repr

/-- A capture source of an armed unit (R347, Table 9-8): kind, number, stored rate, word size, quality group, ring length,
and the last stored instant. -/
structure CapSrc where
  kind : Nat
  num : Nat
  rate : Nat
  word : Nat
  group : Nat
  len : Nat
  last : Nat
  deriving DecidableEq, Repr

/-- The ring of one source in one slot: the words it holds, newest first (instant, word, quality), and how many were
stored since the slot was taken; an instant is a number of stored words since second 0. -/
structure RingData where
  words : List (Nat × Int × Nat)
  total : Nat
  deriving DecidableEq, Repr

/-- An open record (R349 to R351). Times of the domain are in units of 2^−48/9 ns, in which every instant of every rate
is a whole number. -/
structure OpenRec where
  number : Nat
  t : Int
  stop : Int
  cause : Nat
  interp : Nat
  flags : Nat
  count : Nat
  retrig : List Int
  decided : Nat
  armGtc : Nat
  deadTime : Nat
  missed : Nat
  /-- The GTC at which the last source stored the instant at or before `stop`. -/
  endGtc : Option Nat
  originAddr : Nat
  originUnit : Nat
  originState : Nat
  originErr : Nat
  originTime : Nat
  placed : Nat
  deriving DecidableEq, Repr

/-- A record slot: its state (Table 9-15), Suspect, the number, size and trigger GTC of its record, and its rings. -/
structure SlotSt where
  st : Nat
  suspect : Bool
  number : Nat
  bytes : Nat
  trigGtc : Nat
  addr : Nat
  rings : List RingData
  deriving DecidableEq, Repr

/-- A trigger unit; its UnitState is the object. -/
structure UnitSt where
  /-- The last evaluated instant of the condition source, the tests, the sample before, and the values kept for a Rate
  test, newest first. -/
  last : Nat
  up : CondSt
  down : CondSt
  prev : Option (Nat × Int)
  hist : List (Nat × Int)
  /-- Changes of its pattern bit, newest first: instant in units of 2^−48/9 ns, bit; and the latest evaluated one. -/
  bits : List (Int × Bool)
  evaluated : Int
  srcs : List CapSrc
  base : Nat
  slotBytes : Nat
  pages : List Nat
  slots : Tab SlotSt
  active : Nat
  next : Option Nat
  open_ : Option OpenRec
  nextNumber : Nat
  armGtc : Nat
  /-- EndGtc of the previous record since arming. -/
  endGtc : Option Nat
  missed : Nat
  disarmAfter : Bool
  /-- The last decided trigger, for input images: its number, record, cause, interpolation, PlacedOffset and flags. -/
  lastSeq : Nat
  lastRecord : Nat
  lastCause : Nat
  lastInterp : Nat
  lastPlaced : Nat
  lastFlags : Nat
  deriving DecidableEq, Repr

/-- A ripple line: its level, since when, the GTC until which this module drives it, and Stuck. -/
structure RippleSt where
  level : Bool
  since : Nat
  drive : Option Nat
  stuck : Bool
  deriving DecidableEq, Repr

structure AcqSt where
  units : Tab (Option UnitSt)
  ripple : Tab RippleSt
  /-- The export under way: unit, slot, and the slot's state before it. -/
  export_ : Option (Nat × Nat × Nat)
  /-- The second of the GTC in which Trigger messages were last received, and how many (R369). -/
  received : Nat × Nat
  deriving DecidableEq, Repr

/-! ## Chapters 10 and 11: the scan engine and the scan processors -/

/-- An image map entry (Table 10-3). -/
structure MapEnt where
  kind : Nat
  mode : Nat
  num : Nat
  deriving DecidableEq, Repr

/-- A layout entry (Table 10-3). -/
structure LayEnt where
  var : Nat
  off : Nat
  size : Nat
  typ : Nat
  flags : Nat
  deriving DecidableEq, Repr

/-- A verified program image (Table 10-2). -/
structure Prog where
  dataSize : Nat
  budget : Nat
  imageOffset : Nat
  imageArea : Nat
  outputOffset : Nat
  varOffset : Nat
  varSize : Nat
  retOffset : Nat
  retSize : Nat
  entry : Nat
  version : Nat
  id : Nat
  digest : Bytes
  map : List MapEnt
  layout : List LayEnt
  code : Bytes
  init : Bytes
  deriving DecidableEq, Repr

/-- An entry of the input image as the running configuration lays it out (R392): its data offset, elements, source rate
and block length. -/
structure EntryLay where
  kind : Nat
  num : Nat
  mode : Nat
  off : Nat
  max : Nat
  rate : Nat
  step : Nat
  size : Nat
  deriving DecidableEq, Repr

/-- The registers of one instance (R417): G and F registers that are not 0, FLAGS, the program counter and the cycles of
this scan. -/
structure IsaSt where
  g : Tab (BitVec 64)
  f : Tab (BitVec 32)
  flags : BitVec 64
  pc : Nat
  cycles : Nat
  deriving DecidableEq, Repr

/-- A commit entry of an output area (Table 10-12); `at_` is none for now, else a TIME number. -/
structure CommitEnt where
  pin : Nat
  op : Nat
  at_ : Option Nat
  width : Nat
  tag : Nat
  ok : Bool
  deriving DecidableEq, Repr

/-- The scan of an instance. -/
structure ScanSt where
  prog : Option Prog
  cand : Option Prog
  loading : Option (Nat × Nat)
  switchAt : Option Nat
  lay : List EntryLay
  isa : IsaSt
  data : List Host.Cell
  /-- 0 waits for the freeze, 1 executes, 2 has ended its scan. -/
  phase : Nat
  /-- The number of the scan in execution or waiting, and its boundary in periods since second 0 of the domain. -/
  scan : Nat
  boundary : Nat
  /-- The GTC of the boundary at a step instant, and the first value the next one may take (R134). -/
  dueGtc : Option Nat
  nextFrom : Option Int
  first : Bool
  afterWarm : Bool
  afterFerry : Bool
  lastDropped : Bool
  lastLate : Bool
  stepBetween : Bool
  /-- The last boundary: its GTC and its domain value, and the steps applied since. -/
  prev : Option (Nat × Int)
  stepped : Int
  timerClock : Nat
  commits : List CommitEnt
  extra : Nat
  outDigest : Nat
  imageDigest : Nat
  pendingAny : Bool
  stopDue : Bool
  safeDue : Bool
  /-- The last scan whose record was sent (R401). -/
  sent : Option Nat
  faultAt : Nat
  autoStarts : List Nat
  autoWanted : Bool
  retPage : Option Nat
  retB : Bool
  deriving DecidableEq, Repr

structure ScanAll where
  insts : Tab (Option ScanSt)
  /-- Processors under self-test, with its start. -/
  testing : Tab (Option Nat)
  deriving DecidableEq, Repr

/-! ## Chapter 12: the redundant pair -/

/-- What a resynchronisation has received (R459): scan m, the segments so far with their total, the TimerClock and the
entries of segment 0. -/
structure ResyncSt where
  scan : Nat
  total : Nat
  got : List (Nat × Nat × Bytes)
  timerClock : Nat
  entries : List Bytes
  deriving DecidableEq, Repr

/-- A paired instance: its records, runs and proposals (R448 to R461, R479 to R481). -/
structure PairInst where
  /-- The peer's record of the scan under way, and the last one used with its GTC. -/
  peer : Option DigestRec
  lastUsed : Option (DigestRec × Nat)
  /-- The scan whose record was sent; the outcome of the scan under way (Table 12-5, 0 Agreed to 6 TagMismatch). -/
  sent : Option Nat
  outcome : Option Nat
  /-- The number that a higher one of the peer gives the next boundary (R449). -/
  adopt : Option Nat
  absent : Nat
  mismatches : Nat
  agreedOnce : Bool
  /-- Resynchronisation asked for, its failures, and what has been received. -/
  asking : Bool
  tries : Nat
  resync : Option ResyncSt
  /-- The ferry proposed by this module (scan, tag), and the paired cold start proposed (scan). -/
  ferry : Option (Nat × Nat)
  start : Option Nat
  /-- The program and data memory kept until the switched scan is Agreed (R481). -/
  oldProg : Option (Prog × List Host.Cell)
  deriving DecidableEq, Repr

structure PairSt where
  /-- ROLE_SEL latched at the power-on reset reads B (R444). -/
  roleB : Bool
  /-- The GTC of the last Hello and Status sent with what they said, and of the last pair message received. -/
  helloAt : Nat
  helloSaid : List Nat
  statusAt : Nat
  statusState : Nat
  heardAt : Nat
  /-- Sequences of the messages received last, newest first (R442). -/
  seen : List Nat
  /-- The number of the last beat, counted in PairBeat periods of PairDomain. -/
  beatNo : Int
  /-- The peer's last Beat, the last ExpiresAt it announced as a TIME number, its last Status, the state of its PairDomain. -/
  peerBeat : Option BeatMsg
  peerExpires : Option Nat
  peerStatus : Option Report
  peerDom : Nat
  /-- The claim: gained by R466, ExpiresAt (units of 2^−48 ns), the lines, the GTC of CLAIM_OUT_N's assertion, the first GTC
  at which it may be asserted again, and the claim of ROLE_SEL A that waits for the line. -/
  gained : Bool
  expires : Option Int
  claimOut : Bool
  claimIn : Bool
  claimAt : Nat
  retryAt : Nat
  claimWaits : Bool
  /-- Failing self-tests of Table 12-11 by row, with the consecutive passes since. -/
  tests : Tab (Option Nat)
  /-- The holder's announced release (instant, cause), its offer (instant H, accepted, cause), and the cause reported while
  the peer is not FaultEligible. -/
  release : Option (Int × Nat)
  offer : Option (Int × Bool × Nat)
  causeHeld : Nat
  /-- The standby: the instant X of a Release or accepted handover (X, planned, cause), and a TakeRequest sent. -/
  taking : Option (Int × Bool × Nat)
  asked : Option Nat
  suspect : Bool
  revertSuspended : Bool
  lineFault : Bool
  eligibleSince : Option Nat
  /-- The instant at which this module's last authority ended. -/
  lostAt : Option Int
  linkA : Bool
  linkB : Bool
  insts : Tab (Option PairInst)
  deriving DecidableEq, Repr

/-! ## Chapter 13: fast I/O and local sense -/

/-- An entry of the schedule queue (R493 to R500). A timed entry falls at `time` (units of 2^−48 ns) of its domain, placed
by the parameter sets from `since` on; another one at the half nanosecond `fixed`. -/
structure FioEnt where
  inst : Nat
  scan : Nat
  /-- The order of R497: compared as a list. -/
  key : List Nat
  pin : Nat
  op : Nat
  width : Nat
  tag : Nat
  dom : Nat
  time : Int
  since : Nat
  fixed : Option Nat
  host : Bool
  held : Bool
  /-- A record of the peer was used for its scan (R473); it came by resynchronisation (R474); the deassert that closes a
  pulse (R496). -/
  peerUsed : Bool
  resynced : Bool
  closing : Bool
  deriving DecidableEq, Repr

/-- A pin: the level that its actions leave in force (true for asserted), the changes of a Trip pin while the authority net
is deasserted (half nanoseconds, level), when it was last asserted, its accepted input level with the edge stamps of the
last 25 ms, Chatter with its GTC, ReadbackFault, and the level word and flags as they changed, newest first. -/
structure Pin where
  level : Bool
  gap : List (Nat × Bool)
  offAt : Nat
  input : Bool
  edges : List Nat
  chatterAt : Option Nat
  readFault : Bool
  hist : List (Nat × Nat × Nat)
  deriving DecidableEq, Repr

/-- A fast I/O page (Table 13-2): its eight words, the end of a submission under way, and its status. -/
structure FqPage where
  words : List Nat
  busyUntil : Nat
  ended : Bool
  collision : Bool
  code : Nat
  deriving DecidableEq, Repr

/-- A local sense input: the last conversions (none flagged, else the value as binary64), the consecutive flagged and
unflagged ones, WireBreak, whether the last ones were free of rail and settling flags, a calibration under way (kind,
conversions, flagged, pin volts), and its value and flags by conversion, newest first. -/
structure LsIn where
  ring : List (Option Nat)
  bad : Nat
  good : Nat
  wireBreak : Bool
  a : Nat
  b : Nat
  clear : Bool
  cal : Option (Nat × Nat × Bool × List Nat)
  hist : List (Nat × Nat × Nat)
  deriving DecidableEq, Repr

/-- A supervision channel: its timer (1 toward an alarm, 2 toward its end) with the time counted up to a GTC and whether
it runs, and TcsAlarm. -/
structure Tcs where
  kind : Nat
  acc : Nat
  mark : Nat
  runs : Bool
  alarm : Bool
  deriving DecidableEq, Repr

structure FioSt where
  queue : List FioEnt
  nextHost : Nat
  /-- By instance, one more than the scan number of the last record (R493). -/
  lastScan : Tab Nat
  pins : Tab Pin
  pages : Tab FqPage
  ls : Tab LsIn
  lsAt : Nat
  tcs : Tab Tcs
  deriving DecidableEq, Repr

/-! ## Chapter 14: instances, baskets and rings -/

/-- A ring (Table 14-3), by instance × 16 + block: 0 to 3 receive, 4 to 7 transmit, 8 basket inbound, 9 basket
outbound. Its configuration is the object RingConfig, its slots lie in HBM, in host memory, or in the basket. -/
structure Ring where
  prod : Nat
  cons : Nat
  full : Bool
  overrun : Bool
  drops : Nat
  /-- The packets or messages that the ring holds in whole or in part: first slot and slots, oldest first (R530). -/
  packets : List (Nat × Nat)
  deriving DecidableEq, Repr

/-- An instance reset under way (R538): mode 1 drain or 2 squash, when it was accepted, and the RingProd of transmit
rings 4 to 7 at acceptance. -/
structure ResetJob where
  mode : Nat
  since : Nat
  limited : Bool
  txTargets : List Nat
  deriving DecidableEq, Repr

/-- Instances, rings and functions. -/
structure InstSt where
  /-- The existing instances, PI_000 included (R519). -/
  present : List Nat
  resets : Tab (Option ResetJob)
  rings : Tab Ring
  /-- Basket slots by (instance × 2 + direction) × 64 + slot. -/
  baskets : Tab Bytes
  /-- Functions in Function Level Reset (R526). -/
  flr : Tab Bool
  /-- NumVFs: how many virtual functions the host has enabled (VfState). -/
  numVfs : Nat
  /-- GTC of the last rate-limited event by source × 2^24 + item, and the occurrences since (R223). -/
  rateLimit : Tab (Nat × Nat)
  deriving DecidableEq, Repr

/-! ## Chapter 15: host memory and coherence -/

/-- A line held in the caches of one host core: 1 S, 2 E, 3 M. -/
structure CacheLine where
  st : Nat
  data : Bytes
  deriving DecidableEq, Repr

/-- A directory entry (R558): whether its holder is in Owned, who holds it, and when it was last used. -/
structure DirEntry where
  owned : Bool
  holders : List Nat
  used : Nat
  deriving DecidableEq, Repr

/-- A request that waits at its home directory for a snoop answer (R559): 0 ReadShared, 1 ReadUnique, 2 IoRead,
3 IoWrite with its octets at an offset. -/
structure DirReq where
  line : Nat
  kind : Nat
  core : Nat
  snooped : Nat
  offset : Nat
  data : Bytes
  deriving DecidableEq, Repr

/-- Host cores, HBM and the directories. Caches and write-back buffers are kept by core × 2^32 + line. -/
structure MemSt where
  /-- HBM, one cell a byte; an unlisted byte reads 0. -/
  hbm : List Host.Cell
  /-- Page bindings (Table 15-3) that differ from those of a power-on reset, and how many pages from 1,024 are the
  manager's. -/
  bindings : Tab (Option Nat)
  managerPages : Nat
  errorSeen : Tab Bool
  /-- Words (address / 8) that are poisoned (R565). -/
  poison : Tab Bool
  kinst : Tab Nat
  caches : Tab (Option CacheLine)
  writebacks : Tab (Option Bytes)
  directory : Tab (Option DirEntry)
  waiting : List DirReq
  /-- The next pass of the HBM patrol: stack and pass. -/
  scrubNext : Nat
  deriving DecidableEq, Repr

/-! ## Chapter 16: events and recorder -/

/-- The event buffer of a die (R582, R583): its events in stamp order, the drops of the running episode (count, first
GTC, last GTC), the watermark it last reported, and whether the merge excludes it. -/
structure EvDie where
  buffer : List Event
  episode : Option (Nat × Nat × Nat)
  watermark : Nat
  excluded : Bool
  deriving DecidableEq, Repr

/-- An event queue (R587, R588): the next sequence number, the entries not yet signalled, the GTC of the first of
them, and whether its enable bound the pages. -/
structure EvQueue where
  nextSeq : Nat
  unsignalled : Nat
  firstAt : Nat
  bound : Bool
  deriving DecidableEq, Repr

/-- A record of the log (Table 16-8), whether its CRC-32C passes, and whether it was counted as suspect. -/
structure Rec where
  gtc : Nat
  lastDelta : Nat
  time : Nat × Nat × Nat
  operatingSeconds : Nat
  powerCycles : Nat
  source : Nat
  coarse : Bool
  backup : Bool
  outOfOrder : Bool
  code : Nat
  repeatCount : Nat
  priority : Nat
  kind : Nat
  num : Nat
  detail : Nat
  crcOk : Bool
  counted : Bool
  deriving DecidableEq, Repr

/-- One copy of the log's header (R595). -/
structure RecHeader where
  sequence : Nat
  head : Nat
  count : Nat
  operatingSeconds : Nat
  powerCycles : Nat
  crcOk : Bool
  deriving DecidableEq, Repr

/-- The event recorder. -/
structure Recorder where
  slots : Tab (Option Rec)
  header0 : RecHeader
  header1 : RecHeader
  /-- The update journal (R595): slot and record, with whether its CRC passes. -/
  journal : Option (Nat × Rec × Bool)
  operatingSeconds : Nat
  powerCycles : Nat
  input : List Event
  /-- The session that froze the log, with its role, and the GTC of the freeze. -/
  frozen : Option (Nat × Nat × Nat)
  held : List Event
  /-- Events lost since the last record: count, GTC of the first and of the last. -/
  lost : Option (Nat × Nat × Nat)
  deriving DecidableEq, Repr

/-- An event output pin (R589): asserted, and until which GTC in pulse mode. -/
structure EvPin where
  asserted : Bool
  until_ : Nat
  deriving DecidableEq, Repr

structure EventSt where
  dieN : EvDie
  dieC0 : EvDie
  dieC1 : EvDie
  dieS : EvDie
  queues : Tab EvQueue
  recorder : Recorder
  pins : Tab EvPin
  /-- MSI-X vectors, function × 64 + vector: masked, and pending. -/
  msixMasked : Tab Bool
  msixPending : Tab Bool
  /-- Pending bits of the interrupt files, (core × 16 + file) × 256 + identity. -/
  eip : Tab Bool
  deriving DecidableEq, Repr

/-! ## Chapter 17: keys, measurement, ownership -/

/-- One bank of a journal record (Table 17-9), the key in plain: state 0 empty, 1 Staged, 2 Committed. A write of it is
complete from the GTC `written` on. -/
structure KeyRec where
  st : Nat
  algorithm : Nat
  generation : Nat
  chainMask : Nat
  usage : Nat
  keyId : Nat
  key : Bytes
  digest : Bytes
  crcOk : Bool
  written : Nat
  deriving DecidableEq, Repr

/-- What a slot's load or commit has come to: PendingState, PendingCode, PendingKeyId and PendingKcv of KeySlotInfo, and
the action under way (0 none, 1 load, 2 commit). -/
structure KeyPend where
  st : Nat
  code : Nat
  keyId : Nat
  kcv : Nat
  act : Nat
  deriving DecidableEq, Repr

/-- One of the two copies of a record in key MRAM: its content, sequence number and whether its CRC-32C passes. -/
structure MramCopy (α : Type) where
  val : α
  seq : Nat
  crcOk : Bool
  deriving DecidableEq, Repr

structure MramPair (α : Type) where
  c0 : MramCopy α
  c1 : MramCopy α
  deriving DecidableEq, Repr

/-- The ownership record (R613): Owned, and the credential entries without their secrets. -/
structure Ownership where
  owned : Bool
  entries : Tab Bytes
  deriving DecidableEq, Repr

/-- The boot record: BootPreference and UnconfirmedStarts of images A and B (R606). -/
structure BootRec where
  preference : Nat
  unconfirmedA : Nat
  unconfirmedB : Nat
  deriving DecidableEq, Repr

/-- The S-die's secrets and the boot flow's records. -/
structure SecSt where
  /-- Journal records by number × 2 + bank: key slots 0 to 63, vault records 64 to 97. -/
  records : Tab (Option KeyRec)
  pends : Tab KeyPend
  /-- The two copies of JournalEpoch, each with whether its CRC passes (R624). -/
  epoch0 : Nat × Bool
  epoch1 : Nat × Bool
  /-- The measurement chains MC_0 to MC_7 and their extensions since they were last zero. -/
  chains : Tab Bytes
  chainCounts : Tab Nat
  ownership : MramPair Ownership
  boot : MramPair BootRec
  /-- The DRBG's requests, the draw that gave the ClaimCode, and the wrong codes since power-on (R613, R614). -/
  draws : Nat
  claimDraw : Nat
  wrongClaims : Nat
  /-- OTP fuses: MinSecurityVersion, and the owner boot key banks (0 blank, 1 programmed, 2 revoked; hash) (R609, R610). -/
  minVersion : Nat
  banks : Tab (Nat × Bytes)
  /-- The bank in force since the last power-on reset (R610). -/
  ownerBank : Option Nat
  /-- The image regions that were written, by device × 3072 + block of 32 KiB; ImageInfo's Status of images A and B; the
  booted image (0 A, 1 B, 2 none). -/
  flash : Tab (Option Bytes)
  imageStatus : Tab Nat
  booted : Nat
  /-- The last nonces, by session × 2 + class (0 M, 1 P), and the evidence formed since power-on (R626). -/
  nonces : Tab Bytes
  evidenceM : Nat
  evidenceP : Nat
  /-- AttestPPublicKey, AttestPStatement, and the class P keys generated since manufacture (R627). -/
  publicKey : Bytes
  statement : Bytes
  generated : Nat
  /-- Sluices since manufacture. -/
  sluices : Nat
  deriving DecidableEq, Repr

/-! ## Chapter 18: energy -/

/-- The power of one hamper tick: the module's in mW, and each pond's direct part in µW (R636). -/
structure TickPower where
  total : Nat
  ponds : Tab Nat
  deriving DecidableEq, Repr

/-- A calibration of HOLDUP_SENSE under way (R642): 1 zero, 2 span; the codes taken, newest first; any of them flagged. -/
structure HoldupCal where
  kind : Nat
  codes : List Nat
  flagged : Bool
  deriving DecidableEq, Repr

structure EnergySt where
  /-- The last 10,000 ticks, newest first, and each rail's energy in units of 0.1 µJ. -/
  ticks : List TickPower
  rails : Tab Nat
  consumed : Nat
  /-- The last 16 unflagged codes of HOLDUP_SENSE, newest first; consecutive flagged conversions and consecutive ones below
  HoldupLossVoltage; the GTC since which the voltage has stayed at or above HoldupReturnVoltage. -/
  codes : List Nat
  flaggedRun : Nat
  lowRun : Nat
  goodSince : Option Nat
  /-- A supply loss whose capacitance is being measured (R641): HoldupVoltage at the loss, its GTC, and the energy taken from
  the bank since in units of 10^−7 J (numerator, denominator). -/
  loss : Option (Nat × Nat × (Nat × Nat))
  cal : Option HoldupCal
  /-- The GTC of the entry of shed level 2 while its cores are not yet gated. -/
  gateAt : Option Nat
  /-- Host core frequency in MHz by the thermal policy and by the ledger, and the GTC of their last steps (R635, R653). -/
  heatFrequency : Nat
  ledgerFrequency : Nat
  throttleAt : Nat
  downshiftAt : Nat
  /-- The GTC since which Tj lies below the threshold that ends the state, the ports that declined a thermal downshift in
  it, and the GTC of the last OutOfSpec event. -/
  coolSince : Option Nat
  declined : Tab Bool
  outOfSpecAt : Nat
  /-- The GTC of the thermal trip (R654). -/
  tripAt : Option Nat
  /-- Why a shore wake is due: 8 the return from shed level 4, 9 ModuleSleep 2 or a wake on MB_0. -/
  wake : Option Nat
  /-- Cores power-gated by the hamper, and the units asleep, by kind × 65536 + number (R645, R650). -/
  gated : Tab Bool
  asleep : Tab Bool
  deriving DecidableEq, Repr

/-! ## Chapter 19: reset and start-up -/

structure StartSt where
  /-- A power-on reset holds, by its cause (LastResetCause). -/
  held : Option Nat
  /-- The flow under way (1 power-on, 4 shore wake; 0 none), and the last milestone it reached (Table 19-2). -/
  flow : Nat
  milestone : Nat
  /-- Rails 1 to 6 that lay outside tolerance at the last check (R664). -/
  railsOut : Nat
  /-- A warm or sluice reset under way: its kind, 2 or 3. -/
  warm : Option Nat
  deriving DecidableEq, Repr

/-! ## Chapter 20: board interfaces -/

/-- A message that waits for another attempt on a management bus (R706): its target and pointer, the octets, the attempts
that failed, and the GTC before which it is not tried. -/
structure MbMsg where
  addr : Nat
  pointer : Nat
  data : Bytes
  attempts : Nat
  notBefore : Nat
  deriving DecidableEq, Repr

/-- Work of the boot flash controller on the image that is not booted: its device, and the block with its octets, or a
verification (R700). -/
structure FlashJob where
  device : Nat
  block : Option (Nat × Bytes)
  deriving DecidableEq, Repr

structure BoardSt where
  /-- The GTC of the last write to the board controller and what it said (R703). -/
  boardAt : Nat
  boardSaid : List Nat
  /-- The register pointers of MB_0 and MB_1 as targets, and ArbitrationLost of the two buses. -/
  pointer0 : Nat
  pointer1 : Nat
  lost0 : Bool
  lost1 : Bool
  waiting0 : List MbMsg
  waiting1 : List MbMsg
  /-- The GTC of the last records sent to the peer and to the rack monitor (R704). -/
  peerAt : Option Nat
  monitorAt : Option Nat
  flashWrite : Option FlashJob
  flashVerify : Option FlashJob
  deriving DecidableEq, Repr

/-! ## What leaves the module -/

/-- What the block has sent to the outside, newest first in the state. -/
inductive Out where
  /-- A reply to a Balmuene request, with the address and port it goes to. -/
  | reply (addr port : Nat) (session : Nat) (r : Reply)
  /-- The answer to one write or action of a session: 0 for Done or the code of Table 2-14. -/
  | answer (session : Nat) (code : Nat)
  /-- A frame sent on a port. -/
  | frame (port : Nat) (octets : Bytes)
  /-- A PTP message sent on a port: its domain, kind and time. -/
  | ptp (d port kind seq : Nat) (time : Int)
  /-- A write into the host memory of a PCIe function. -/
  | hostWrite (fn addr : Nat) (octets : Bytes)
  /-- An MSI-X interrupt of a function. -/
  | msix (fn vector : Nat)
  /-- The value read from a register or memory. -/
  | readData (v : Nat)
  /-- An exception raised in a host core: 0 access fault, 1 hardware error, with its address. -/
  | coreException (core kind addr : Nat)
  /-- A DTLS flight: the cookie exchange, or the end of a handshake. -/
  | dtls (addr port : Nat) (cookie ok : Bool)
  /-- The octets that an object read returned to a session. -/
  | value (session : Nat) (octets : Bytes)
  /-- A message written to a target of a management bus, from its pointer on (R703, R704). -/
  | mbWrite (bus addr pointer : Nat) (octets : Bytes)
  deriving DecidableEq, Repr

/-! ## The whole state -/

/-- The state of the block. -/
structure State where
  /-- The commands that wait, first in, first out. -/
  pending : List Instr
  /-- The global timestamp counter, ns since power-on (R36, R37). -/
  gtc : Nat
  /-- The model's own counter of free values taken; no rule of the spec. -/
  freeCtr : Nat
  /-- What was sent to the outside, newest first. -/
  out : List Out
  pond : PondSt
  dict : DictSt
  time : TimeSt
  port : PortsSt
  sw : SwitchSt
  fab : FabricSt
  intake : IntakeSt
  chain : ChainSt
  acq : AcqSt
  scan : ScanAll
  pair : PairSt
  fio : FioSt
  inst : InstSt
  mem : MemSt
  ev : EventSt
  sec : SecSt
  energy : EnergySt
  start : StartSt
  board : BoardSt
  deriving DecidableEq, Repr

def SourceSt.init : SourceSt := ⟨0, none, 0, 248⟩

def PtpSt.init : PtpSt := ⟨none, 0, 0, none, none, none, none, [], [], 0⟩

/-- A domain that is Disabled, at value 0 and rate 0 (R148). -/
def Dom.init : Dom :=
  { state := 0, freq := 0, corr := 0, params := [], lockedSinceEnable := false, source := 0,
    src1 := .init, src2 := .init, src3 := .init, inRun := 0, outRun := 0, offsets := [],
    lastMeasure := none, errorAt := none, lockStart := none, lockLast := 0, holdSince := none,
    step := none, stepCount := 0, pairOffset := 0, pairBad := false, badRun := 0, goodRun := 0,
    leap61 := false, leap59 := false, utcValid := false, clockClass := 248, ptp := .init }

def PulseGen.init : PulseGen := ⟨0, 0, 0, none, 0⟩

def TimeBlock.init : TimeBlock := ⟨0, 0, 0, 0, 0, 0⟩

def TimeLatch.init : TimeLatch := ⟨0, 0, []⟩

def SnapAll.init : SnapAll := ⟨false, 0, 0, []⟩

def PpsOut.init : PpsOut := ⟨false, 0⟩

def Window.init : Window := ⟨0, 0, 0, 0, false, false, false, 0, [], none⟩

def Ring.init : Ring := ⟨0, 0, false, false, 0, []⟩

def EvDie.init : EvDie := ⟨[], none, 0, false⟩

def EvQueue.init : EvQueue := ⟨1, 0, 0, false⟩

def EvPin.init : EvPin := ⟨false, 0⟩

def RecHeader.init : RecHeader := ⟨0, 0, 0, 0, 0, true⟩

def ShiftSt.init : ShiftSt := ⟨none, none, none, none, false, 0, 1⟩

/-- A Disabled port (R192); SGMII runs at 1,000 Mbit/s until a speed is reported (R150). -/
def PortSt.init : PortSt :=
  { since := 0, trainAt := 0, bound := 0, lpi := false, emptyAt := 0, wakeUntil := 0, shift := .init,
    sgmii := 1000, busyUntil := 0, queues := [], traffic := [], resetting := false }

def Bucket.init : Bucket := ⟨0, 0⟩

def BufEnt.init : BufEnt := ⟨0, false, 0⟩

def MacEnt.init : MacEnt := ⟨0x1000, false, 0, none, []⟩

def Neighbour.init : Neighbour := ⟨0, 0, 0, none, [], 0, 0⟩

def PathSt.init : PathSt := ⟨0, [], 0, 0, 0, []⟩

def FlowSt.init : FlowSt := ⟨.init, .init, 0⟩

def SinkSt.init : SinkSt := ⟨none, 0, 0, false, false⟩

def GridSlot.init : GridSlot := ⟨[], none, false⟩

def PortsSt.reset : PortsSt := ⟨[], []⟩

def SwitchSt.reset : SwitchSt :=
  { buckets := [], buffer := [], nextFrame := 1, macs := [], learns := [], streamSeq := [], drops := [],
    sounding := [], nodes := [], redSeq := [], redSent := [], waiting := [], lastSweep := 0,
    sweepAlarm := false }

def FabricSt.reset : FabricSt :=
  { nbs := [], db := [], ownSeq := 0, lsaDue := false, lsaAt := 0, changed := false, undecided := false,
    routes := [], flows := [], transit := [], arrivals := [], sinks := [], offers := [], timeAt := [],
    reports := [], reportAt := 0, reportState := 3, reportSeq := 0, seqs := [] }

def IntakeSt.reset : IntakeSt := ⟨[], [], [], [], []⟩

def ChainSt.reset : ChainSt := ⟨[], [], [], []⟩

def RippleSt.init : RippleSt := ⟨false, 0, none, false⟩

def SlotSt.init : SlotSt := ⟨0, false, 0, 0, 0, 0, []⟩

def CondSt.init : CondSt := ⟨false, 0, 0, 0xFFFF, false⟩

def AcqSt.reset : AcqSt := ⟨[], [], none, (0, 0)⟩

def IsaSt.init : IsaSt := ⟨[], [], 0, 0, 0⟩

def ScanSt.init : ScanSt :=
  { prog := none, cand := none, loading := none, switchAt := none, lay := [], isa := .init, data := [], phase := 0,
    scan := 0, boundary := 0, dueGtc := none, nextFrom := none, first := false, afterWarm := false, afterFerry := false, lastDropped := false,
    lastLate := false, stepBetween := false, prev := none, stepped := 0, timerClock := 0, commits := [], extra := 0,
    outDigest := 0, imageDigest := 0, pendingAny := false, stopDue := false, safeDue := false, sent := none,
    faultAt := 0, autoStarts := [], autoWanted := false, retPage := none, retB := false }

def ScanAll.reset : ScanAll := ⟨[], []⟩

def Ownership.init : Ownership := ⟨false, []⟩

def BootRec.init : BootRec := ⟨0, 0, 0⟩

def KeyPend.init : KeyPend := ⟨0, 0, 0, 0, 0⟩

def MramCopy.of {α : Type} (x : α) : MramCopy α := ⟨x, 0, true⟩

/-- A module that leaves the factory Unowned: empty key MRAM, blank fuses. -/
def SecSt.reset : SecSt :=
  { records := [], pends := [], epoch0 := (0, true), epoch1 := (0, true), chains := [], chainCounts := [],
    ownership := ⟨.of .init, .of .init⟩, boot := ⟨.of .init, .of .init⟩, draws := 1, claimDraw := 0, wrongClaims := 0,
    minVersion := 0, banks := [], ownerBank := none, flash := [], imageStatus := [], booted := 2, nonces := [],
    evidenceM := 0, evidenceP := 0, publicKey := [], statement := [], generated := 0, sluices := 0 }

def EnergySt.reset : EnergySt :=
  { ticks := [], rails := [], consumed := 0, codes := [], flaggedRun := 0, lowRun := 0, goodSince := none, loss := none,
    cal := none, gateAt := none, heatFrequency := 2000, ledgerFrequency := 2000, throttleAt := 0, downshiftAt := 0,
    coolSince := none, declined := [], outOfSpecAt := 0, tripAt := none, wake := none, gated := [], asleep := [] }

/-- The power-on flow begins; no milestone is reached. -/
def StartSt.reset : StartSt := { held := none, flow := 1, milestone := 0, railsOut := 0, warm := none }

def BoardSt.reset : BoardSt :=
  { boardAt := 0, boardSaid := [], pointer0 := 0, pointer1 := 0, lost0 := false, lost1 := false, waiting0 := [],
    waiting1 := [], peerAt := none, monitorAt := none, flashWrite := none, flashVerify := none }

/-- The ponds of a module out of power-on: PI_000's, the module, pair and fabric ponds (R42, R519). -/
def PondSt.reset : PondSt :=
  { ponds := [(0, some ⟨1, 0xF00, 4⟩), (0xF00, some ⟨2, 0xF01, 3⟩), (0xF01, some ⟨3, 0xF02, 2⟩),
      (0xF02, some ⟨4, 0xFFFF, 1⟩)],
    holder := [], linkDown := [], charges := [], healthSeen := [] }

def ConfigCopy.none_ : ConfigCopy := ⟨false, 0, []⟩

def DictSt.reset : DictSt :=
  { values := [], pendingValues := [], versions := [], sessions := [], windows := [], assocs := [],
    quiesce := [], copy0 := .none_, copy1 := .none_, saving := none, restoreDefaults := false,
    registers := [] }

def TimeSt.reset : TimeSt :=
  { backup := false, fineN := false, fineC0 := false, fineC1 := false, doms := [], gens := [],
    latches := [], snaps := [], pps := [], ppsLast := none, ppsOutliers := 0, irigLabel := none,
    irigBad := 0, leap := [] }

def PairInst.init : PairInst :=
  { peer := none, lastUsed := none, sent := none, outcome := none, adopt := none, absent := 0, mismatches := 0, agreedOnce := false,
    asking := false, tries := 0, resync := none, ferry := none, start := none, oldProg := none }

/-- No claim, no lease, no peer (R485). -/
def PairSt.reset : PairSt :=
  { roleB := false, helloAt := 0, helloSaid := [], statusAt := 0, statusState := 3, heardAt := 0, seen := [], beatNo := 0,
    peerBeat := none, peerExpires := none, peerStatus := none, peerDom := 0, gained := false, expires := none,
    claimOut := false, claimIn := false, claimAt := 0, retryAt := 0, claimWaits := false, tests := [], release := none,
    offer := none, causeHeld := 0, taking := none, asked := none, suspect := false, revertSuspended := false,
    lineFault := false, eligibleSince := none, lostAt := none, linkA := false, linkB := false, insts := [] }

def Pin.init : Pin := ⟨false, [], 0, false, [], none, false, []⟩

def FqPage.init : FqPage := ⟨[0, 0, 0, 0, 0, 0, 0, 0], 0, false, false, 0⟩

def LsIn.init : LsIn := ⟨[], 0, 0, false, 0, 0, true, none, []⟩

def Tcs.init : Tcs := ⟨0, 0, 0, false, false⟩

def FioSt.reset : FioSt := ⟨[], 0, [], [], [], [], 0, []⟩

def InstSt.reset : InstSt :=
  { present := [0], resets := [], rings := [], baskets := [], flr := [], numVfs := 0, rateLimit := [] }

def MemSt.reset : MemSt :=
  { hbm := [], bindings := [], managerPages := 512, errorSeen := [], poison := [], kinst := [],
    caches := [], writebacks := [], directory := [], waiting := [], scrubNext := 0 }

def Recorder.reset : Recorder :=
  { slots := [], header0 := .init, header1 := .init, journal := none, operatingSeconds := 0,
    powerCycles := 0, input := [], frozen := none, held := [], lost := none }

def EventSt.reset : EventSt :=
  { dieN := .init, dieC0 := .init, dieC1 := .init, dieS := .init, queues := [],
    recorder := .reset, pins := [], msixMasked := [], msixPending := [], eip := [] }

/-- The block right after a power-on reset. -/
def State.reset : State :=
  { pending := [], gtc := 0, freeCtr := 0, out := [], pond := .reset, dict := .reset, time := .reset,
    port := .reset, sw := .reset, fab := .reset, intake := .reset, chain := .reset, acq := .reset, scan := .reset,
    pair := .reset, fio := .reset, inst := .reset, mem := .reset, ev := .reset, sec := .reset, energy := .reset,
    start := .reset, board := .reset }

end Sys2Proof.Machine
end

