-- ==== Sys2Proof/Machine/Tab.lean ====
section
/-! DEFINITION. Reading and writing a sparse table: an unlisted key reads as the table's default. -/

namespace Sys2Proof.Machine

/-- What key `k` of `t` holds; an unlisted key holds `d`. -/
def tabGet {α : Type} (d : α) : Tab α → Nat → α
  | [], _ => d
  | (a, v) :: r, k => if a = k then v else tabGet d r k

/-- Take every entry of `k` out of `t`. -/
def tabDel {α : Type} : Tab α → Nat → Tab α
  | [], _ => []
  | (a, v) :: r, k => if a = k then tabDel r k else (a, v) :: tabDel r k

/-- Put `v` at `k` into `t`, before the first greater key. -/
def tabIns {α : Type} : Tab α → Nat → α → Tab α
  | [], k, v => [(k, v)]
  | (a, w) :: r, k, v => if k < a then (k, v) :: (a, w) :: r else (a, w) :: tabIns r k v

/-- Write `v` at `k`: writing the default `d` takes the entry out, so equal tables are equal lists. -/
def tabSet {α : Type} [DecidableEq α] (d : α) (t : Tab α) (k : Nat) (v : α) : Tab α :=
  if v = d then tabDel t k else tabIns (tabDel t k) k v

/-- Every key of `t` is at least `b`, keys rise strictly, and no entry holds `d`. -/
def tabWfFrom {α : Type} [DecidableEq α] (d : α) : Nat → Tab α → Bool
  | _, [] => true
  | b, (a, v) :: r => decide (b ≤ a) && decide (v ≠ d) && tabWfFrom d (a + 1) r

/-- The canonical form of a table with default `d`. -/
def tabWf {α : Type} [DecidableEq α] (d : α) (t : Tab α) : Bool := tabWfFrom d 0 t

end Sys2Proof.Machine
end

