-- ==== Sys2Proof/Machine/Ops.lean ====
section
/-! DEFINITION. The operations that the meanings share: objects, answers, events, ponds, domain time and memory. -/

namespace Sys2Proof.Machine

/-- What a command ends in. -/
abbrev Res := Host.Outcome State Fault Refusal

/-- A write or an action: refused with a code, which leaves the state as it was (R103), or done. -/
abbrev Act := Except Code State

/-- The value of a refusal code, Table 2-14. -/
def Code.value : Code → Nat
  | .noSuchObject => 0x0101 | .noSuchSubindex => 0x0102 | .selectorMismatch => 0x0103 | .noSession => 0x0104
  | .denied => 0x0201 | .locked => 0x0202 | .notAuthenticated => 0x0203 | .roleNotOnRoute => 0x0204
  | .outOfRange => 0x0301 | .typeMismatch => 0x0302 | .reservedBitSet => 0x0303 | .stringTooLong => 0x0304
  | .invalidFloat => 0x0305 | .malformed => 0x0306
  | .busy => 0x0401 | .quiesceNeeded => 0x0402 | .inProgress => 0x0403 | .stageConflict => 0x0404
  | .quiesceTimeout => 0x0405
  | .precondition => 0x0501 | .verifyFailed => 0x0502 | .notInStep => 0x0503 | .timeNotLocked => 0x0504
  | .shedLevel => 0x0505 | .timeInPast => 0x0506
  | .notOwner => 0x0601 | .heldElsewhere => 0x0602
  | .noResource => 0x0701 | .stageFull => 0x0702 | .sessionLimit => 0x0703 | .rateLimited => 0x0704

/-- Refuse with `c` unless `b` holds. -/
def need (b : Bool) (c : Code) : Except Code Unit := if b then .ok () else .error c

/-! ### Objects -/

/-- The row of the object with number `id` (index × 256 + subindex). -/
def objectRow (id : Nat) : Option ObjectRow :=
  (objectRowsOf (id / 256)).find? fun r =>
    decide (r.index0 ≤ id / 256) && decide (id / 256 ≤ r.index1)
      && decide (r.sub0 ≤ id % 256) && decide (id % 256 ≤ r.sub1)

/-- Some subindex of the index is implemented (R59). -/
def indexImplemented (index : Nat) : Bool :=
  (objectRowsOf index).any fun r => decide (r.index0 ≤ index) && decide (index ≤ r.index1)

/-- The size in octets of a value of fixed size (Table 2-2). -/
def OType.size : OType → Nat
  | .u8 => 1 | .u16 => 2 | .u32 => 4 | .u64 => 8 | .i32 => 4 | .i64 => 8 | .f32 => 4 | .time => 12
  | .blob => 0 | .str => 0

/-- The type code (Table 2-2). -/
def OType.code : OType → Nat
  | .u8 => 1 | .u16 => 2 | .u32 => 3 | .u64 => 4 | .i32 => 5 | .i64 => 6 | .f32 => 7 | .time => 8
  | .blob => 9 | .str => 10

/-- The default priority of event source `n` (Table 16-1). -/
def sourcePriority (n : Nat) : Nat :=
  if n < 0x100 then 2 else if n < 0x180 then 3 else if n < 0x200 then 5 else if n < 0x600 then 4
  else if n < 0x800 then 3 else if n < 0x900 then 4 else if n < 0xB00 then 5 else if n < 0xC00 then 6
  else if n < 0xD00 then 5 else if n < 0xD80 then 7 else if n < 0xE00 then 6
  else if n = 0xE02 then 2 else if n = 0xE08 then 5 else if n = 0xE09 ∨ n = 0xE0A then 7 else 4

/-- BaseMacAddress: a universally administered unicast address in bits 47 to 0 (Table 19-8). -/
def baseMac : Nat := Config.factoryNum Od.baseMacAddress &&& 0xFCFFFFFFFFFF

/-- The Default of an object (R82). Factory objects hold what manufacture set; a source's default configuration
enables it at its priority in Table 16-1, a filter channel reads the slot of its own number (Table 8-11), port n's address is the module's base address + n (Table 4-8), and route 1
belongs to the module (Table 16-13). -/
def objDefault (id : Nat) : OVal :=
  if 0xC10000 ≤ id ∧ id ≤ 0xC10FFF then .num (8 + sourcePriority (id - 0xC10000))
  else if 0x300000 ≤ id ∧ id < 0x310000 ∧ id % 256 = 0x0B then
    .num ((baseMac + (id - 0x300000) / 256) % 2 ^ 48)
  else if 0x620000 ≤ id ∧ id < 0x624400 then .num (if id < 0x624000 then id - 0x620000 else id - 0x624000)
  else if id = Od.baseMacAddress then .num baseMac
  else if id = Od.factoryIdentityKey then .bytes ((Config.factoryBytes id ++ List.replicate 97 0).take 97)
  else if id = 0xC01001 then .bytes [0xFF, 0xFF, 0xFF, 0xFF, 0, 0, 0, 0x0F]
  else match objectRow id with
    | none => .num 0
    | some r =>
      if r.factory then
        (if r.typ = .blob ∨ r.typ = .str then .bytes (Config.factoryBytes id)
         else .num (Config.factoryNum id % 2 ^ (8 * r.typ.size)))
      else r.dflt

/-- The place of an object in the tables of values: number × 4096 + selector. -/
def objKey (id sel : Nat) : Nat := id * 4096 + sel

/-- The value in force of an object. -/
def State.obj (s : State) (id : Nat) (sel : Nat := 0) : OVal :=
  (tabGet none s.dict.values (objKey id sel)).getD (objDefault id)

/-- The number an object holds, 0 for an octet string. -/
def OVal.nat : OVal → Nat
  | .num n => n
  | .bytes _ => 0

/-- The octets an object holds, none for a number. -/
def OVal.octets : OVal → Bytes
  | .num _ => []
  | .bytes b => b

def State.num (s : State) (id : Nat) (sel : Nat := 0) : Nat := (s.obj id sel).nat

def State.blob (s : State) (id : Nat) (sel : Nat := 0) : Bytes := (s.obj id sel).octets

/-- The state with an object's value in force changed. -/
def State.setObj (s : State) (id sel : Nat) (v : OVal) : State :=
  { s with dict := { s.dict with
      values := tabSet none s.dict.values (objKey id sel) (if v = objDefault id then none else some v) } }

def State.setNum (s : State) (id : Nat) (v : Nat) (sel : Nat := 0) : State := s.setObj id sel (.num v)

def State.setBlob (s : State) (id : Nat) (b : Bytes) (sel : Nat := 0) : State := s.setObj id sel (.bytes b)

/-- Add `k` to a counter that saturates at 0xFFFF_FFFF. -/
def State.count32 (s : State) (id : Nat) (k : Nat := 1) (sel : Nat := 0) : State :=
  s.setNum id (sat32 (s.num id sel + k)) sel

/-- Add `k` to a 48-bit statistics counter, which wraps (R62). -/
def State.count48 (s : State) (id : Nat) (k : Nat := 1) (sel : Nat := 0) : State :=
  s.setNum id ((s.num id sel + k) % 2 ^ 48) sel

/-- The value a read returns: the pending one of a B- or T-class object when one exists (R69). -/
def State.pendingObj (s : State) (id sel : Nat) : Option OVal :=
  tabGet none s.dict.pendingValues (objKey id sel)

def State.setPending (s : State) (id sel : Nat) (v : Option OVal) : State :=
  { s with dict := { s.dict with pendingValues := tabSet none s.dict.pendingValues (objKey id sel) v } }

def State.version (s : State) (id sel : Nat) : Nat := tabGet 0 s.dict.versions (objKey id sel)

/-- Count one applied write of an object (R71). -/
def State.bumpVersion (s : State) (id sel : Nat) : State :=
  { s with dict := { s.dict with
      versions := tabSet 0 s.dict.versions (objKey id sel) ((s.version id sel + 1) % 2 ^ 16) } }

/-! ### Free values, outputs and answers -/

/-- The next free value. -/
def State.free (s : State) : Nat := Config.freeNat s.freeCtr

/-- The state after a free value was taken. -/
def State.tookFree (s : State) : State := { s with freeCtr := s.freeCtr + 1 }

def State.emit (s : State) (o : Out) : State := { s with out := o :: s.out }

/-- Answer a write or an action: its effect with Done, or no effect with its code (R103). -/
def State.answer (s : State) (who : Caller) (a : Act) : State :=
  match a with
  | .ok t => t.emit (.answer who.sess 0)
  | .error c => s.emit (.answer who.sess c.value)

/-- The session with a number, if it is open. -/
def State.session (s : State) (k : Nat) : Option Session := tabGet none s.dict.sessions k

def State.setSession (s : State) (k : Nat) (x : Option Session) : State :=
  { s with dict := { s.dict with sessions := tabSet none s.dict.sessions k x } }

/-! ### Ponds and items -/

def State.pondAt (s : State) (sel : Nat) : Option PondRec := tabGet none s.pond.ponds sel

/-- Item `n` of kind `k` in the tables of items. -/
def itemKey (k n : Nat) : Nat := k * 2 ^ 24 + n

/-- The pond that holds an item (R44). -/
def State.holderOf (s : State) (k n : Nat) : Nat := tabGet 0xF00 s.pond.holder (itemKey k n)

/-- How many items a kind has (Table 1-8), 0 for an unlisted kind. -/
def itemCount : Nat → Nat
  | 0x01 => 256 | 0x02 => 2048 | 0x03 => 16384 | 0x04 => 1024 | 0x05 => 64 | 0x06 => 48 | 0x07 => 16
  | 0x08 => 32 | 0x09 => 64 | 0x0A => 32768 | 0x0B => 16 | 0x0C => 256 | 0x0D => 255
  | _ => 0

/-- The pond `sel` with the ponds that enclose it, nearest first, at most eight (R41). -/
def State.pondChain (s : State) : Nat → Nat → List Nat
  | 0, _ => []
  | k + 1, sel =>
    match s.pondAt sel with
    | none => []
    | some p => sel :: s.pondChain k p.parent

/-- The instance pond that a pond is or lies in, none outside every instance. -/
def State.pondInstance (s : State) (sel : Nat) : Option Nat :=
  (s.pondChain 8 sel).find? fun x => decide (x < 0x100)

/-- Pond `sel` is instance `i`'s pond or a user pond inside it. -/
def State.inInstance (s : State) (i sel : Nat) : Bool := s.pondInstance sel == some i

/-- Pond `sel` is pond `p` or lies inside it. -/
def State.inPond (s : State) (p sel : Nat) : Bool := (s.pondChain 8 sel).contains p

/-- Instance `i` exists (R519). -/
def State.instExists (s : State) (i : Nat) : Bool := s.inst.present.contains i

/-- The event route of a pond: the nearest enclosing pond whose route is nonzero, and route 1 if there is none
(R577). -/
def State.routeOf (s : State) (sel : Nat) : Nat :=
  match ((s.pondChain 8 sel).map fun p => s.num Od.pondEventRoute p).find? (· != 0) with
  | some r => r
  | none => let m := s.num Od.pondEventRoute 0xF00; if m = 0 then 1 else m

/-! ### Domain time -/

def State.dom (s : State) (d : Nat) : Dom := tabGet .init s.time.doms d

def State.setDom (s : State) (d : Nat) (x : Dom) : State :=
  { s with time := { s.time with doms := tabSet .init s.time.doms d x } }

/-- 2^48, the unit of rates. -/
def rateOne : Int := 2 ^ 48

/-- The parameter set that gives the domain's time at `g` (R109). -/
def Dom.paramAt (x : Dom) (g : Nat) : Option TParam := x.params.find? fun p => decide (p.g ≤ g)

/-- The value a parameter set gives at `g` (R108), in units of 2^−48 ns. -/
def TParam.valueAt (p : TParam) (g : Nat) : Int := p.d + ((g : Int) - p.g) * (rateOne + p.r)

/-- D(g) in units of 2^−48 ns; a disabled domain reads 0 (R139). -/
def Dom.valueAt (x : Dom) (g : Nat) : Int :=
  if x.state = 0 then 0 else match x.paramAt g with
    | none => 0
    | some p => p.valueAt g

/-- A domain value as a TIME number: seconds × 2^48 + nanoseconds × 2^16 + fraction, rounded by R710. -/
def timeOfValue (v : Int) : Nat :=
  let u := (roundDiv v (2 ^ 32)).toNat
  let ns := u / 2 ^ 16
  ns / 1000000000 * 2 ^ 48 + ns % 1000000000 * 2 ^ 16 + u % 2 ^ 16

/-- The value in units of 2^−48 ns that a TIME number names. -/
def valueOfTime (t : Nat) : Int :=
  (((t / 2 ^ 48 * 1000000000 + t / 2 ^ 16 % 2 ^ 32) * 2 ^ 16 + t % 2 ^ 16 : Nat) : Int) * 2 ^ 32

/-- The parts of a TIME number: seconds, nanoseconds, fraction. -/
def timeParts (t : Nat) : Nat × Nat × Nat := (t / 2 ^ 48, t / 2 ^ 16 % 2 ^ 32, t % 2 ^ 16)

/-- The memory TIME layout of R355, 16 octets. -/
def timeMemory (t : Nat) : Bytes :=
  let (sec, ns, fr) := timeParts t
  toLE 4 ns ++ toLE 4 fr ++ toLE 8 sec

/-- The first GTC instant at which the domain reaches value `v`, by the newest parameter set. -/
def Dom.gtcOf (x : Dom) (v : Int) : Option Nat :=
  match x.params with
  | [] => none
  | p :: _ => if v ≤ p.d then some p.g
      else some (p.g + (ceilDivInt (v - p.d) (rateOne + p.r).toNat).toNat)

/-- The time of domain `d` at `g` as a TIME number. -/
def State.domTime (s : State) (d g : Nat) : Nat := timeOfValue ((s.dom d).valueAt g)

/-- A second, in units of 2^−48 ns. -/
def secondUnits : Int := 1000000000 * 2 ^ 48

/-! ### Events (Chapter 16) -/

def State.evDie (s : State) : Die → EvDie
  | .n => s.ev.dieN | .c0 => s.ev.dieC0 | .c1 => s.ev.dieC1 | .s => s.ev.dieS

def State.setEvDie (s : State) (d : Die) (x : EvDie) : State :=
  match d with
  | .n => { s with ev := { s.ev with dieN := x } }
  | .c0 => { s with ev := { s.ev with dieC0 := x } }
  | .c1 => { s with ev := { s.ev with dieC1 := x } }
  | .s => { s with ev := { s.ev with dieS := x } }

/-- The room of a die's event buffer (R582). -/
def evCapacity : Die → Nat
  | .n => 8192 | .c0 => 2048 | .c1 => 2048 | .s => 1024

/-- The interpolator of the die is valid (R105). The S-die keeps the count itself, at 40 ns. -/
def State.fine (s : State) : Die → Bool
  | .n => s.time.fineN | .c0 => s.time.fineC0 | .c1 => s.time.fineC1 | .s => s.time.fineC0 || s.time.fineC1 || s.time.fineN

/-- A stamp of the die now: coarse stamps are multiples of 40 ns (R38). -/
def State.stamp (s : State) (d : Die) : Nat := if s.fine d then s.gtc else s.gtc / 40 * 40

/-- The configuration of an event source: bit 3 Enable, bits [2:0] Priority (Table 16-3). -/
def State.sourceConfig (s : State) (src : Nat) : Nat := s.num (Od.sourceConfig + src)

/-- Put one event into a die's buffer by R582: a buffer at least three quarters full drops priority 3 and lower, a
full one drops all, and the drops of one episode are counted together. -/
def EvDie.push (cap : Nat) (x : EvDie) (e : Event) : EvDie :=
  if cap ≤ x.buffer.length ∨ (3 * cap ≤ 4 * x.buffer.length ∧ e.priority ≤ 3) then
    { x with episode := (match x.episode with
        | none => some (1, e.gtc, e.gtc)
        | some (n, f, _) => some (n + 1, f, e.gtc)) }
  else { x with buffer := x.buffer ++ [e], watermark := max x.watermark e.gtc }

/-- Raise one event in a die (R575, R578): the source must be enabled. -/
def State.raiseIn (s : State) (d : Die) (src code kind num detail : Nat) : State :=
  let cfg := s.sourceConfig src
  if field cfg 3 1 = 0 then s
  else
    let e : Event := ⟨s.stamp d, !s.fine d, s.time.backup, src, code, kind, num, detail, field cfg 0 3, false⟩
    let x := s.evDie d
    let y := x.push (evCapacity d) e
    let t := s.setEvDie d y
    if y.buffer.length = x.buffer.length then t.count32 Od.eventsDropped else t

/-- The die whose block raises a source (Tables 1-3 and 16-1). An instance's events come from the die of its scan
processor; the caller names that die. -/
def dieOfSource (src : Nat) : Die :=
  if src < 0x180 then .n else if src < 0x198 then .s else if src < 0x1C0 then .n else if src < 0x200 then .s
  else if src < 0x900 then .n else if src < 0xB00 then .c0 else if src < 0xB80 then .s
  else if src < 0xC00 then .n
  else if src < 0xD00 then
    (if src = 0xC11 ∨ src = 0xC16 ∨ src = 0xC17 ∨ src = 0xC19 ∨ (0xC08 ≤ src ∧ src < 0xC10)
      ∨ (0xC30 ≤ src ∧ src < 0xC40) then .c1 else .c0)
  else if src = 0xE04 then .c1 else if src = 0xE00 ∨ src = 0xE01 ∨ src = 0xE02 then .c0 else .s

/-- Raise one event from the block that owns its source. -/
def State.raise (s : State) (src code kind num detail : Nat) : State :=
  s.raiseIn (dieOfSource src) src code kind num detail

/-- Payload of a State event: old and new state, cause and value (Table 16-4, class 0x1). -/
def payState (old new cause value : Nat) : Nat := old + new * 2 ^ 8 + cause * 2 ^ 16 + value % 2 ^ 64 * 2 ^ 32

/-- Payload of a Fault event (class 0x2). -/
def payFault (value count : Nat) : Nat := value % 2 ^ 64 + count * 2 ^ 64

/-- Payload of a CounterHalf event (class 0x3). -/
def payCounter (index value : Nat) : Nat := index + value % 2 ^ 64 * 2 ^ 32

/-- Payload of a Completion event (class 0x5). -/
def payDone (index code : Nat) : Nat := index + code * 2 ^ 16

/-- Raise a change of state (R713 item 2): code 0x1000 + new state. -/
def State.raiseState (s : State) (src kind num old new cause value : Nat) : State :=
  s.raise src (0x1000 + new) kind num (payState old new cause value)

/-- Raise a flag set or cleared (R713 item 3): its bit number and the status word. -/
def State.raiseFlag (s : State) (src kind num : Nat) (set : Bool) (bit word : Nat) : State :=
  s.raise src ((if set then 0x6000 else 0x7000) + bit) kind num (word % 2 ^ 64)

/-- Raise an Occurrence (R713 item 6): the position in the source's row, and a value. -/
def State.raiseOcc (s : State) (src kind num pos value : Nat) : State :=
  s.raise src (0xA000 + pos) kind num (value % 2 ^ 64 + 2 ^ 64)

/-- Raise an Admission event (class 0x8): 1 admitted, 2 refused, 3 withdrawn, and the refusal code. -/
def State.raiseAdmission (s : State) (src kind num what code : Nat) : State :=
  s.raise src (0x8000 + what) kind num code

/-- Raise the completion of an action object (class 0x5). -/
def State.raiseDone (s : State) (src kind num id code : Nat) : State :=
  s.raise src (0x5000 + id % 256) kind num (payDone (id / 256) code)

/-! ### Sleep (Table 18-6) -/

/-- The place of a unit among the units asleep. -/
def sleepKey (u : SleepUnit) (n : Nat) : Nat :=
  (match u with
   | .pipeline => 0
   | .l3Bank => 1
   | .hbmStack => 2
   | .linkGroup => 3) * 2 ^ 16 + n

/-- A unit enters its sleep state, or work wakes it (R56, R650). -/
def State.setAsleep (s : State) (u : SleepUnit) (n : Nat) (v : Bool) : State :=
  { s with energy := { s.energy with asleep := tabSet false s.energy.asleep (sleepKey u n) v } }

/-! ### Memory (Chapter 15) -/

/-- The byte of HBM at an address; an unlisted one reads 0. -/
def memByte (m : List Host.Cell) (a : Nat) : Byte := tabGet 0 m a

/-- Write one byte of HBM. -/
def memSet (m : List Host.Cell) (a : Nat) (v : Byte) : List Host.Cell := tabSet 0 m a v

/-- Write octets from an address on. -/
def memWrite (m : List Host.Cell) : Nat → Bytes → List Host.Cell
  | _, [] => m
  | a, x :: r => memSet (memWrite m (a + 1) r) a x

/-- Read `n` octets from an address on. -/
def memRead (m : List Host.Cell) (a : Nat) : Nat → Bytes
  | 0 => []
  | n + 1 => memByte m a :: memRead m (a + 1) n

/-- The canonical form of the memory: addresses strictly rising, no byte equal to what an unlisted address reads. -/
def Memory.wf (m : List Host.Cell) : Bool := tabWf (0 : Byte) m

def State.hbmWrite (s : State) (a : Nat) (b : Bytes) : State :=
  { s with mem := { s.mem with hbm := memWrite s.mem.hbm a b } }

def State.hbmRead (s : State) (a n : Nat) : Bytes := memRead s.mem.hbm a n

/-- The binding of an HBM page (Table 15-3), R571. -/
def State.pageBinding (s : State) (p : Nat) : Nat :=
  match tabGet none s.mem.bindings p with
  | some b => b
  | none => if p < 256 then 1 else if p < 1024 then 2 else if p < 1024 + s.mem.managerPages then 7 else 0

def State.setBinding (s : State) (p b : Nat) : State :=
  { s with mem := { s.mem with bindings := tabSet none s.mem.bindings p (some b) } }

/-- The pages that octets `a` to `a + n − 1` lie in. -/
def pagesOf (a n : Nat) : List Nat :=
  if n = 0 then [] else numbersFrom (a / 0x200000) ((a + n - 1) / 0x200000 - a / 0x200000 + 1)

end Sys2Proof.Machine
end

