-- ==== Sys2Proof/Machine/Access.lean ====
section
/-! DEFINITION. The checks that every read, write and action passes before its chapter's own (R58 to R66, R104),
and the instances and domains in use. -/

namespace Sys2Proof.Machine

/-- Instance `i` is running: Starting or Running (R385). -/
def State.instRunning (s : State) (i : Nat) : Bool :=
  s.instExists i && (s.num Od.instanceState i == 2 || s.num Od.instanceState i == 3)

/-- Instance `i` is in reset (R538). -/
def State.inReset (s : State) (i : Nat) : Bool := (tabGet none s.inst.resets i).isSome

/-- The running instances that scan on domain `d`. -/
def State.domUsers (s : State) (d : Nat) : List Nat :=
  s.inst.present.filter fun i => s.instRunning i && s.num Od.scanDomain i == d

/-- The access letters of a role for an object (R14, R63). -/
def ObjectRow.letters (r : ObjectRow) : Role → Nat
  | .nobody => 0
  | .owner => r.owner
  | .manager => r.manager
  | .tenant => r.tenant
  | .observer => r.observer

/-- The letters g, and p, k or x, of Table 0-4. -/
def canGet (l : Nat) : Bool := l.testBit 0

def canWrite (l : Nat) : Bool := l.testBit 1 || l.testBit 2 || l.testBit 4

/-- BootState reads Recovery. -/
def State.inRecovery (s : State) : Bool := s.num Od.bootState == 2

/-- The objects that exist in Recovery (R608). -/
def recoveryObject (id : Nat) : Bool := decide (id / 2 ^ 20 = 1) || decide (id / 2 ^ 20 = 0xD)

/-- The caller's session runs under DTLS. -/
def State.underDtls (s : State) (who : Caller) : Bool := match s.session who.sess with
  | some x => x.assoc != 0
  | none => false

/-- What start-up lets through: in Recovery only its own writes, from Owner and Manager sessions under DTLS (R608), and
before milestone 8 none (R668). -/
def State.checkBoot (s : State) (who : Caller) (id : Nat) : Except Code Unit :=
  match s.num Od.bootState with
  | 1 => .ok ()
  | 2 => need ((id == Od.recoveryTarget || id == Od.recoveryRestart || (decide (0xD05000 ≤ id) && decide (id < 0xD05C00)))
      && (who.role == .owner || who.role == .manager) && s.underDtls who) .precondition
  | _ => .error .busy

/-- Step 1 of R104: addressing (R58, R59, R51, R519). -/
def State.checkAddress (s : State) (id : Nat) (present : Bool) (sel : Nat) : Except Code ObjectRow :=
  if !indexImplemented (id / 256) || (s.inRecovery && !recoveryObject id) then .error .noSuchObject
  else match objectRow id with
    | none => .error .noSuchSubindex
    | some r =>
      match r.sel, present with
      | .none, true => .error .selectorMismatch
      | .none, false => .ok r
      | _, false => .error .selectorMismatch
      | .inst, true => if sel < 0x100 ∧ s.instExists sel then .ok r else .error .noSuchObject
      | .pond, true => if (s.pondAt sel).isSome then .ok r else .error .noSuchObject

/-- A Tenant names only its own instance pond and the user ponds inside it (R64). -/
def State.tenantReaches (s : State) (who : Caller) (r : ObjectRow) (sel : Nat) : Bool :=
  match who.role, r.sel with
  | .tenant, .inst => sel == who.inst
  | .tenant, .pond => s.inInstance who.inst sel
  | _, _ => true

/-- The range of an object's index is locked (R66). -/
def State.lockedRange (s : State) (id : Nat) : Bool := (s.num Od.configLockMask).testBit (id / 256 / 0x1000)

/-- Step 2 of R104 for a read: the role. -/
def State.checkRead (s : State) (who : Caller) (r : ObjectRow) (sel : Nat) : Except Code Unit :=
  need (canGet (r.letters who.role) && s.tenantReaches who r sel) .denied

/-- Step 2 of R104 for a write or an action: the role and the lock. The Owner is never locked out (R66). -/
def State.checkWriter (s : State) (who : Caller) (r : ObjectRow) (id sel : Nat) : Except Code Unit :=
  if !(canWrite (r.letters who.role) && s.tenantReaches who r sel) then .error .denied
  else need (who.role == .owner || !s.lockedRange id) .locked

/-- The number that the octets of a value of fixed size spell. -/
def OType.decode (t : OType) (b : Bytes) : OVal :=
  match t with
  | .blob => .bytes b
  | .str => .bytes b
  | _ => .num (ofBE b)

/-- The octets of a value in network order. -/
def OType.encode (t : OType) (v : OVal) : Bytes :=
  match v with
  | .bytes b => b
  | .num n => toBE t.size n

/-- The longest value of an object (Table 2-9, MaxLength). -/
def ObjectRow.maxLength (r : ObjectRow) : Nat :=
  match r.typ with
  | .blob | .str => match r.range with
    | .exact l => l.foldl max 0
    | .upTo n => n
    | _ => 65535
  | t => t.size

/-- Step 3 of R104: the form of a value (R60, R61). -/
def ObjectRow.checkForm (r : ObjectRow) (typ : Nat) (b : Bytes) : Except Code OVal :=
  if typ ≠ r.typ.code then .error .typeMismatch
  else match r.typ with
    | .blob => match r.range with
      | .exact l => if l.contains b.length then .ok (.bytes b) else .error .typeMismatch
      | _ => if b.length ≤ r.maxLength then .ok (.bytes b) else .error .stringTooLong
    | .str =>
      if !utf8 b then .error .typeMismatch
      else if b.length ≤ r.maxLength then .ok (.bytes b) else .error .stringTooLong
    | .time =>
      if b.length ≠ 12 then .error .typeMismatch
      else if 999999999 < ofBE b / 2 ^ 16 % 2 ^ 32 then .error .outOfRange
      else .ok (.num (ofBE b))
    | .f32 =>
      if b.length ≠ 4 then .error .typeMismatch
      else if f32NotFinite (ofBE b) then .error .invalidFloat
      else .ok (.num (ofBE b))
    | t => if b.length = t.size then .ok (.num (ofBE b)) else .error .typeMismatch

/-- The object's stated range and its reserved bits (R62, R18). -/
def ObjectRow.checkRange (r : ObjectRow) (v : OVal) : Except Code Unit :=
  match r.range with
  | .any => .ok ()
  | .nat lo hi => need (decide (lo ≤ v.nat) && decide (v.nat ≤ hi)) .outOfRange
  | .int lo hi => let i := toInt (8 * r.typ.size) v.nat
      need (decide (lo ≤ i) && decide (i ≤ hi)) .outOfRange
  | .oneOf l => need (l.contains v.nat) .outOfRange
  | .bits m => need (v.nat ||| m == m) .reservedBitSet
  | .float lo hi => need (f32Within v.nat lo hi) .outOfRange
  | .exact _ => .ok ()
  | .upTo _ => .ok ()

/-- Steps 1 to 3 of R104 for a write given by a number: addressing, role and lock, and that the number fits the
object's type. -/
def State.gate (s : State) (who : Caller) (id : Nat) (present : Bool) (sel : Nat) (v : OVal) :
    Except Code ObjectRow := do
  let r ← s.checkAddress id present sel
  s.checkWriter who r id sel
  let _ ← r.checkForm r.typ.code (r.typ.encode v)
  s.checkBoot who id
  .ok r

/-- `gate`, and then the range that the object's table states (R62). -/
def State.gateRange (s : State) (who : Caller) (id : Nat) (present : Bool) (sel : Nat) (v : OVal) :
    Except Code Unit := do
  let r ← s.gate who id present sel v
  r.checkRange v

end Sys2Proof.Machine
end

