-- ==== Sys2Proof/Machine/Time.lean ====
section
/-! DEFINITION. Time: the shore reference, the domains and their sources, steps, and the time page (Chapter 3). -/

namespace Sys2Proof.Machine

def State.gen (s : State) (n : Nat) : PulseGen := tabGet .init s.time.gens n

def State.setGen (s : State) (n : Nat) (x : PulseGen) : State :=
  { s with time := { s.time with gens := tabSet .init s.time.gens n x } }

def State.setPps (s : State) (k : Nat) (x : PpsOut) : State :=
  { s with time := { s.time with pps := tabSet .init s.time.pps k x } }

/-! ### Domain parameters, states and quality -/

/-- ±200 ppm in units of 2^−48 (R108). -/
def freqLimit : Nat := 200 * 2 ^ 48 / 1000000

/-- The domain is a protection domain (R111). -/
def State.protectionDom (s : State) (d : Nat) : Bool := s.num (Od.domainRole + 256 * d) == 1

/-- The effective slew limit of a domain in ns/s (R111). -/
def State.slewLimit (s : State) (d : Nat) : Nat :=
  let l := s.num (Od.slewLimit + 256 * d)
  if s.protectionDom d then min l 50000 else l

/-- The same limit as a rate, in units of 2^−48. -/
def State.slewRate (s : State) (d : Nat) : Nat := s.slewLimit d * 2 ^ 48 / 1000000000

/-- The value of the newest parameter set at `g`, whatever the domain's state. -/
def Dom.raw (x : Dom) (g : Nat) : Int :=
  match x.params with
  | [] => 0
  | p :: _ => p.valueAt g

/-- A new parameter set from `g` on: the value there, moved by `step`, and the rate of the terms (R108, R109). -/
def Dom.issue (x : Dom) (g : Nat) (step : Int) : Dom :=
  { x with params := (⟨g, x.raw g + step, x.freq + x.corr⟩ :: x.params).take 4096 }

/-- The effective GTC of a change computed now: at least 2 µs ahead, how much more is open (R109). -/
def State.effective (s : State) : Nat := s.gtc + 2000 + s.free

/-- Put new terms into force at an effective GTC. -/
def State.issueDom (s : State) (d : Nat) (x : Dom) (step : Int := 0) : State :=
  (s.setDom d (x.issue s.effective step)).tookFree

/-- The number of 10^9 ns by log interval −4 to 1 (PtpIntervals). -/
def logInterval (l : Int) : Nat := 1000000000 * 2 ^ (l + 4).toNat / 16

/-- HoldoverErrorRate × `n` seconds, in whole ns: the object is a positive binary32. -/
def f32Times (f n : Nat) : Nat :=
  let m := f % 2 ^ 23 + (if field f 23 8 = 0 then 0 else 2 ^ 23)
  let e := if field f 23 8 = 0 then 1 else field f 23 8
  if 150 ≤ e then m * 2 ^ (e - 150) * n else m * n / 2 ^ (150 - e)

/-- EstimatedError at `g` (R129): the value at the last valid measurement, grown for each second since. -/
def State.domErrorAt (s : State) (d : Nat) (g : Nat) : Nat :=
  let x := s.dom d
  match x.errorAt, x.lastMeasure with
  | some e, some t => sat32 (e + f32Times (s.num (Od.holdoverErrorRate + 256 * d)) ((g - t) / 1000000000))
  | _, _ => 0xFFFFFFFF

/-- The quality word of a domain (Table 3-10). -/
def State.domQuality (s : State) (d : Nat) : Nat :=
  let x := s.dom d
  let e := s.domErrorAt d s.gtc
  x.state * 2 ^ 28 + x.source * 2 ^ 24 + x.clockClass * 2 ^ 16
    + (if x.corr ≠ 0 then 2 ^ 15 else 0) + (if x.step.isSome then 2 ^ 14 else 0)
    + (if x.leap61 then 2 ^ 13 else 0) + (if x.leap59 then 2 ^ 12 else 0)
    + (if x.utcValid then 2 ^ 11 else 0) + (if x.pairBad then 2 ^ 10 else 0)
    + (if e = 0xFFFFFFFF then 0xFF else log2Ceil e)

/-- ClockClass on entering a state (Table 3-5). -/
def Dom.classFor (x : Dom) (new : Nat) : Nat :=
  match new with
  | 3 => match x.source with
    | 1 => x.src1.class_
    | 2 => 6
    | 3 => x.src3.class_
    | _ => 248
  | 4 => 7
  | 5 => 187
  | 2 => match x.state with
    | 3 => 7
    | 4 | 5 => x.clockClass
    | 2 => x.clockClass
    | _ => 248
  | _ => 248

/-- Move a domain to a state, with its event from source 0x180 + d, and count an exit from Locked. -/
def State.domEnter (s : State) (d new : Nat) (x : Dom) : State :=
  let old := x.state
  let y := { x with state := new, clockClass := x.classFor new }
  if old = new then s.setDom d x
  else
    let t := s.setDom d y
    let t := if old = 3 then t.count32 (Od.lockLossCount + 256 * d) else t
    t.raiseState (0x180 + d) 0x88 d old new 0 0

/-- The SourcePriority of a domain as a list, first choice first (R114). -/
def State.sourceList (s : State) (d : Nat) : List Nat :=
  let w := s.num (Od.sourcePriority + 256 * d)
  [field w 24 8, field w 16 8, field w 8 8, field w 0 8].filter (· != 0)

def Dom.src (x : Dom) : Nat → SourceSt
  | 1 => x.src1
  | 2 => x.src2
  | _ => x.src3

def Dom.setSrc (x : Dom) (n : Nat) (v : SourceSt) : Dom :=
  match n with
  | 1 => { x with src1 := v }
  | 2 => { x with src2 := v }
  | _ => { x with src3 := v }

/-- The first qualified entry of SourcePriority. -/
def State.bestSource (s : State) (d : Nat) : Option Nat :=
  (s.sourceList d).find? fun n => ((s.dom d).src n).since.isSome

/-! ### Steps -/

/-- The first second boundary of the domain's time that lies at least `lead` ns after now: its effective GTC and the
value there. -/
def State.boundaryAfter (s : State) (d lead : Nat) : Option (Nat × Int) :=
  let x := s.dom d
  let v := x.raw (s.gtc + lead)
  let b := -((-v) / secondUnits) * secondUnits
  (x.gtcOf b).map fun g => (max g (s.gtc + lead), b)

/-- Announce a step (R133): StepPending with its effective GTC, the correction term held at 0, and the event. -/
def State.announceStep (s : State) (d kind : Nat) (amount : Int) : State :=
  let x := s.dom d
  match s.boundaryAfter d (if kind = 1 then 10000000 else 1000000000) with
  | none => s
  | some (g, b) =>
    let amt := if kind = 1 then amount - b / 2 ^ 32 else amount
    let y := { x with step := some ⟨kind, amt, g⟩, corr := 0 }
    let t := if x.corr = 0 then s.setDom d y else s.issueDom d y
    t.raiseOcc (0x188 + d) 0x88 d 1 0

/-- Step a domain at once at its next effective GTC (R132). -/
def State.stepNow (s : State) (d : Nat) (amount : Int) : State :=
  let x := s.dom d
  let y := { x with stepCount := (x.stepCount + 1) % 2 ^ 32 }
  (s.issueDom d y (amount * 2 ^ 32)).raiseOcc (0x188 + d) 0x88 d 2 0

/-- Withdraw a pending step, with its event (R133). -/
def State.cancelStep (s : State) (d : Nat) : State :=
  (s.setDom d { s.dom d with step := none }).raiseOcc (0x188 + d) 0x88 d 3 0

/-! ### Measurements, lock and loss -/

/-- |mean| + 2 σ of the offsets, in ns; how a value between two whole ns is rounded is open (R129). -/
def offsetError (l : List Int) (up : Nat) : Nat :=
  let n := l.length
  let sm : Int := l.foldl (· + ·) 0
  let q : Nat := l.foldl (fun a x => a + (x * x).toNat) 0
  let v := 4 * (n * q - sm.natAbs * sm.natAbs)
  let t := sm.natAbs + v.sqrt
  let c := 65536 * n
  if c = 0 then 0
  else if t % c = 0 ∧ v.sqrt * v.sqrt = v then sat32 (t / c) else sat32 (t / c + up % 2)

/-- Take new frequency and correction terms from the servo. The law is open; the bounds are R108's and R111's. -/
def State.servo (s : State) (d : Nat) : State :=
  let x := s.dom d
  if x.step.isSome then s
  else
    let f := s.free
    let t := s.tookFree
    let c := t.free
    let t := t.tookFree
    let y := { x with
      freq := clampInt freqLimit ((f : Int) - 2 ^ 40), corr := clampInt (s.slewRate d) ((c : Int) - 2 ^ 40) }
    t.issueDom d y

/-- The correction begins by R131 and R132 when a source becomes active or the lock is left: a step at once before
the first lock, a slew within the limit, or an announced step. -/
def State.beginReturn (s : State) (d : Nat) (offset : Int) : State :=
  let x := s.dom d
  if x.state = 6 then s
  else if !x.lockedSinceEnable then (s.domEnter d 2 x).stepNow d (-offset)
  else
    let t := s.domEnter d 2 x
    if (s.protectionDom d && !(s.domUsers d).isEmpty)
        || decide (offset.natAbs ≤ s.num (Od.stepThreshold + 256 * d) * 65536) then t.servo d
    else if x.step.isSome then t else t.announceStep d 0 (-offset)

/-- Make a qualified source the active one (R114). -/
def State.activate (s : State) (d n : Nat) : State :=
  let x := s.dom d
  let o := (x.src n).offset
  (s.setDom d { x with source := n, offsets := [], inRun := 0, outRun := 0 }).beginReturn d o

/-- A valid measured offset of the active source (R113, R129). -/
def State.track (s : State) (d : Nat) (off : Int) (extra : Nat) : State :=
  let x := s.dom d
  let thr := s.num (Od.lockThreshold + 256 * d) * 65536
  let offs := (off :: x.offsets).take 16
  let inR := if off.natAbs ≤ thr then x.inRun + 1 else 0
  let outR := if 4 * thr < off.natAbs then x.outRun + 1 else 0
  let lockedNow := x.state = 3
  let err := if x.state = 2 ∨ x.state = 3 then some (sat32 (offsetError offs s.free + extra)) else x.errorAt
  let y := { x with
    offsets := offs, inRun := inR, outRun := outR, lastMeasure := some s.gtc, errorAt := err,
    lockLast := if lockedNow then s.gtc else x.lockLast }
  let t := (s.setDom d y).tookFree
  if x.state = 2 ∧ 8 ≤ inR then
    (t.domEnter d 3 { y with lockedSinceEnable := true, lockStart := some s.gtc, lockLast := s.gtc }).servo d
  else if x.state = 3 ∧ 4 ≤ outR then t.beginReturn d off
  else if x.state = 2 ∨ x.state = 3 then t.servo d
  else t

/-- One valid offset measurement of source `n` of domain `d` (R113, R114): `off` is the domain less the source in
units of 2^−16 ns. -/
def State.measure (s : State) (d n : Nat) (off : Int) (cls : Nat) (extra : Nat := 0) : State :=
  let x := s.dom d
  if x.state = 0 ∨ !(s.sourceList d).contains n then s
  else
    let o := x.src n
    let run := o.run + 1
    let o' : SourceSt := ⟨run, if 8 ≤ run then (match o.since with | some g => some g | none => some s.gtc) else none,
      off, cls⟩
    let t := s.setDom d (x.setSrc n o')
    if x.source = n then t.track d off extra
    else if x.source = 0 ∧ o'.since.isSome then t.activate d n
    else t

/-- Σ r × the overlap of each parameter set with [a, b): the rate integrated over a span. -/
def rateIntegral (a : Nat) : Nat → List TParam → Int
  | _, [] => 0
  | b, p :: r =>
    if b ≤ a then 0
    else if b ≤ p.g then rateIntegral a b r
    else p.r * ((b - max a p.g : Nat) : Int) + rateIntegral a p.g r

/-- The domain loses its only source (R128). -/
def State.loseActive (s : State) (d : Nat) : State :=
  let x := s.dom d
  let y := { x with source := 0, corr := 0, offsets := [], inRun := 0, outRun := 0 }
  if x.state = 3 ∨ (x.state = 2 ∧ x.lockedSinceEnable) then
    let from_ := x.lockStart.getD x.lockLast
    let span := x.lockLast - from_
    if span < 10000000000 then
      let z := { y with freq := 0 }
      ((s.issueDom d z).domEnter d 1 ((s.issueDom d z).dom d))
    else
      let a := max from_ (x.lockLast - 60000000000)
      let z := { y with freq := clampInt freqLimit (roundDiv (rateIntegral a x.lockLast x.params) (x.lockLast - a)),
                        holdSince := some s.gtc }
      ((s.issueDom d z).domEnter d 4 ((s.issueDom d z).dom d))
  else if x.state = 2 then
    ((s.issueDom d y).domEnter d 1 ((s.issueDom d y).dom d))
  else s.setDom d y

/-- Source `n` of a domain is lost (R117, R120, R258). Another qualified source becomes active at once. -/
def State.loseSource (s : State) (d n : Nat) : State :=
  let x := s.dom d
  let t := s.setDom d (x.setSrc n .init)
  if x.source ≠ n then t
  else match t.bestSource d with
    | some m => t.activate d m
    | none => t.loseActive d

/-- The eight domains in order, each changed by `f`. -/
def State.eachDom (s : State) (f : Nat → State → State) : State :=
  (numbersFrom 0 8).foldl (fun t d => f d t) s

/-! ### The shore reference -/

/-- No shore reference edge for 200 ns: the backup oscillator runs the shore domain, and every enabled domain enters
RefFault (R106). -/
def shoreRefLost (s : State) : State :=
  if s.time.backup then s
  else
    let t := { s with time := { s.time with backup := true } }
    let t := (t.setNum Od.shoreRefState 1).count32 Od.shoreRefLossCount
    let t := t.raiseState 0x1C0 0x80 0 0 1 0 0
    t.eachDom fun d u => if (u.dom d).state = 0 then u else u.domEnter d 6 (u.dom d)

/-- After 10 ms of good edges the shore domain returns to the reference, and the domains leave RefFault (R107). -/
def shoreRefReturn (s : State) : State :=
  if !s.time.backup then s
  else
    let t := { s with time := { s.time with backup := false } }
    let t := (t.setNum Od.shoreRefState 0).raiseState 0x1C0 0x80 0 1 0 0 0
    t.eachDom fun d u =>
      let x := u.dom d
      if x.state = 6 then u.domEnter d (if x.lockedSinceEnable then 2 else 1) x else u

def execShoreRefReturn (s : State) : Res := .next (shoreRefReturn s)

/-! ### IEEE 1588 -/

/-- The PTP instance of domain `d` runs on a port: the domain is enabled and the port is in PtpPortMask (R115). -/
def State.ptpOn (s : State) (d port : Nat) : Bool :=
  (s.dom d).state != 0 && (byteAt (s.blob (Od.ptpPortMask + 256 * d)) (port / 8)).testBit (port % 8)

/-- The intervals that PtpIntervals configures, in ns: sync, announce, pdelay request; and the receipt timeout. -/
def State.ptpIntervals (s : State) (d : Nat) : Nat × Nat × Nat × Nat :=
  let w := s.num (Od.ptpIntervals + 256 * d)
  (logInterval (toInt 8 (field w 24 8)), logInterval (toInt 8 (field w 16 8)),
    logInterval (toInt 8 (field w 8 8)), field w 0 8)

/-- The profile uses the peer-to-peer delay mechanism (Table 3-3). -/
def State.ptpPeer (s : State) (d : Nat) : Bool := s.num (Od.ptpProfile + 256 * d) != 3

/-- The data set comparison of the default best master algorithm: smaller is better, in this order of fields. -/
def Announce.key (a : Announce) : List Nat :=
  [a.priority1, a.clockClass, a.accuracy, a.variance, a.priority2, a.identity, a.stepsRemoved]

/-- The first list is the smaller one, compared from the front. -/
def keyBefore : List Nat → List Nat → Bool
  | a :: r, b :: t => if a = b then keyBefore r t else decide (a < b)
  | _, _ => false

/-- The data set the module itself announces: its accuracy and variance are open. -/
def State.ownAnnounce (s : State) (d : Nat) : Announce :=
  let p := s.num (Od.ptpPriority + 256 * d)
  ⟨field p 8 8, (s.dom d).clockClass, Config.freeNat 0 % 256, Config.freeNat 1 % 65536, field p 0 8,
    Config.factoryNum Od.grandmasterIdentity, 0⟩

/-- Change the PTP instance of a domain. -/
def State.setPtp (s : State) (d : Nat) (p : PtpSt) : State := s.setDom d { s.dom d with ptp := p }

/-- Set a port's PTP state, with the event of source 0x198 + d on a change. -/
def State.ptpPortState (s : State) (d port st : Nat) : State :=
  let p := (s.dom d).ptp
  let old := tabGet 0 p.portStates port
  if old = st then s
  else (s.setPtp d { p with portStates := tabSet 0 p.portStates port st }).raiseState (0x198 + d) 0x88 d old st 0 port

/-- A measured offset of the domain's PTP source: D at the receipt of the Sync less the master's time. It is valid when
its delay measurement arrived within one sync interval (R117). -/
def State.ptpMeasure (s : State) (d rx : Nat) (origin corr : Int) : State :=
  let x := s.dom d
  match x.ptp.delay with
  | none => s
  | some (m, at_) =>
    let (sync, _, _, _) := s.ptpIntervals d
    if at_ + sync < s.gtc then s
    else
      let off := (x.valueAt rx) / 2 ^ 32 - (origin * 65536 + corr + m)
      s.measure d 1 off (match x.ptp.master with | some (a, _) => a.clockClass | none => 248)

/-- The next UTC midnight of a domain's time, as a TAI second: the leap instant. -/
def State.leapInstant (s : State) (d : Nat) : Nat :=
  let off := (toInt 32 (s.num (Od.taiUtcOffset + 256 * d))).toNat
  let sec := s.domTime d s.gtc / 2 ^ 48
  ((sec - off) / 86400 + 1) * 86400 + off

/-- A leap second announced by the source of a domain (R119). -/
def State.noteLeap (s : State) (d : Nat) (positive negative : Bool) : State :=
  let t := s.setDom d { s.dom d with leap61 := positive, leap59 := negative }
  let l := if positive || negative then some (negative, s.leapInstant d) else none
  { t with time := { t.time with leap := tabSet none t.time.leap d l } }

/-- A received PTP message of domain `d` on a port (R115 to R117). -/
def ptpMessage (d port : Nat) (m : PtpMsg) (s : State) : State :=
  if !s.ptpOn d port then s
  else
    let x := s.dom d
    let p := x.ptp
    let fromMaster := match p.master with | some (_, q) => q == port | none => false
    match m with
    | .unsupported => s.raiseOcc (0x198 + d) 0x88 d 3 0
    | .announce p1 cc ac va p2 idt st utc uv l61 l59 =>
      let a : Announce := ⟨p1, cc, ac, va, p2, idt, st⟩
      let better := match p.master with
        | none => true
        | some (b, q) => (b.identity == idt && q == port) || keyBefore a.key b.key
      let ownBetter := s.num (Od.ptpSlaveOnly + 256 * d) == 0 && keyBefore (s.ownAnnounce d).key a.key
      if ownBetter then s.ptpPortState d port 3
      else if !better then (if fromMaster then s else s.ptpPortState d port 4)
      else
        let changed := match p.master with | some (b, _) => b.identity != idt | none => true
        let t := s.setPtp d
          { p with
            master := some (a, port), lastAnnounce := s.gtc
            lastSync := (if changed then s.gtc else p.lastSync)
            syncWait := (if changed then none else p.syncWait) }
        let t := t.setNum (Od.grandmasterIdentity + 256 * d) idt
        let t := if changed then t.raiseOcc (0x198 + d) 0x88 d 1 idt else t
        let t := t.ptpPortState d port 2
        let t := t.setDom d { t.dom d with utcValid := uv }
        let t := if uv then t.setNum (Od.taiUtcOffset + 256 * d) (ofInt 32 utc) else t
        t.noteLeap d l61 l59
    | .sync sq two origin corr =>
      if !fromMaster then s
      else if two then s.setPtp d { p with lastSync := s.gtc, syncWait := some (sq, s.gtc, corr) }
      else (s.setPtp d { p with lastSync := s.gtc, syncWait := none }).ptpMeasure d s.gtc origin corr
    | .followUp sq origin corr =>
      match p.syncWait with
      | some (q, rx, c) =>
        if !fromMaster || q != sq then s
        else
          let (sync, _, _, _) := s.ptpIntervals d
          let t := s.setPtp d { p with syncWait := none }
          if rx + sync < s.gtc then t else t.ptpMeasure d rx origin (c + corr)
      | none => s
    | .pdelayReq sq _ _ => if s.ptpPeer d then s.emit (.ptp d port 3 sq 0) else s
    | .pdelayResp sq two t2 corr =>
      match p.delayReq with
      | some (q, t1) =>
        let span := ((s.gtc - t1 : Nat) : Int) * 65536 - corr
        if q ≠ sq then s
        else if two then s.setPtp d { p with respWait := some (sq, span, t2) }
        else
          let m := (((s.gtc - t1 : Nat) : Int) * 65536 - corr) / 2
          s.setPtp d { p with delayReq := none, delay := some (m, s.gtc) }
      | none => s
    | .pdelayRespFollowUp sq t3 corr =>
      match p.respWait with
      | some (q, span, t2) =>
        if q ≠ sq then s
        else
          let m := (span - (t3 - t2) * 65536 - corr) / 2
          s.setPtp d { p with respWait := none, delayReq := none, delay := some (m, s.gtc) }
      | none => s
    | .delayReq sq _ =>
      if !s.ptpPeer d && tabGet 0 p.portStates port == 3 then
        s.emit (.ptp d port 4 sq (x.valueAt s.gtc / 2 ^ 32))
      else s
    | .delayResp sq t4 corr =>
      match p.delayReq, p.syncWait with
      | some (q, t1), _ =>
        if q ≠ sq then s
        else
          -- mean of both directions: the last offset without delay, and the request's flight
          let up := t4 * 65536 - corr - x.valueAt t1 / 2 ^ 32
          s.setPtp d { p with delayReq := none, delay := some (up + x.src1.offset, s.gtc) }
      | none, _ => s
    | .management sq get ds => s.emit (.ptp d port (if get then 5 else 6) sq ds)

def execPtpMessageReceive (d : Fin 8) (port : Fin 256) (msg : PtpMsg) (s : State) : Res :=
  .next (ptpMessage d.val port.val msg s)

/-- The PTP source is lost: no Announce for the receipt timeout, or no Sync for three intervals (R117). -/
def ptpSourceLost (d : Nat) (s : State) : State :=
  let p := (s.dom d).ptp
  let (sync, ann, _, n) := s.ptpIntervals d
  if (s.dom d).state ≠ 0 ∧ p.master.isSome ∧ (p.lastAnnounce + n * ann ≤ s.gtc ∨ p.lastSync + 3 * sync ≤ s.gtc) then
    (s.setPtp d { p with master := none, syncWait := none }).loseSource d 1
  else s

def execPtpSourceLost (d : Fin 8) (s : State) : Res := .next (ptpSourceLost d.val s)

/-- A message that the PTP instance sends at its interval: 0 Sync and 1 Announce on a master port, 2 Pdelay_Req (or
Delay_Req on a slave port of profile 3) (R115, R125). -/
def ptpSend (d port kind : Nat) (s : State) : State :=
  if !s.ptpOn d port then s
  else
    let x := s.dom d
    let p := x.ptp
    let st := tabGet 0 p.portStates port
    let (sync, ann, pdel, _) := s.ptpIntervals d
    let every := if kind = 0 then sync else if kind = 1 then ann else pdel
    let last := tabGet 0 p.sent (port * 8 + kind)
    let allowed := if kind ≤ 1 then st == 3 else kind == 2 && (s.ptpPeer d || st == 2)
    if !allowed || (last != 0 && decide (s.gtc < last + every)) then s
    else
      let req := if kind = 2 then some (p.seq, s.gtc) else p.delayReq
      let marks := tabSet 0 p.sent (port * 8 + kind) s.gtc
      let q := { p with seq := (p.seq + 1) % 65536, sent := marks, delayReq := req }
      (s.setPtp d q).emit (.ptp d port kind p.seq (if kind = 0 then roundDiv (x.valueAt s.gtc) (2 ^ 32) else 0))

def execPtpMessageSend (d : Fin 8) (port : Fin 256) (kind : Nat) (s : State) : Res :=
  .next (ptpSend d.val port.val kind s)

/-! ### Source selection and holdover -/

/-- A source of higher priority has stayed qualified for 10 s and becomes the active one (R114). -/
def sourceSwitch (d : Nat) (s : State) : State :=
  let x := s.dom d
  let higher := (s.sourceList d).takeWhile (· != x.source)
  match higher.find? (fun n => match (x.src n).since with
      | some g => decide (g + 10000000000 ≤ s.gtc) | none => false) with
  | some n => if x.source = 0 ∨ x.state = 0 then s else s.activate d n
  | none => s

def execSourceSwitch (d : Fin 8) (s : State) : Res := .next (sourceSwitch d.val s)

/-- EstimatedError has grown above HoldoverLimit: HoldoverBeyond, with the event of source 0x190 + d (R129). -/
def holdoverLimitExceeded (d : Nat) (s : State) : State :=
  let x := s.dom d
  if x.state = 4 ∧ s.num (Od.holdoverLimit + 256 * d) < s.domErrorAt d s.gtc then
    (s.domEnter d 5 x).raiseState (0x190 + d) 0x88 d 4 5 0 0
  else s

def execHoldoverLimitExceeded (d : Fin 8) (s : State) : Res := .next (holdoverLimitExceeded d.val s)

/-! ### PPS and IRIG-B -/

/-- The days from 1 January 1970 to 1 January of a year. -/
def daysBefore (y : Nat) : Nat :=
  365 * (y - 1970) + (y - 1) / 4 - (y - 1) / 100 + (y - 1) / 400 - 477

/-- The year that a count of days since 1 January 1970 lies in, searched upward from `y`. -/
def yearFrom : Nat → Nat → Nat → Nat
  | 0, y, _ => y
  | k + 1, y, days => if days < daysBefore (y + 1) then y else yearFrom k (y + 1) days

/-- The TAI second that an IRIG frame names for a domain (R119, R120); none where the frame carries no year, IrigYear
is 0 and the domain has never been set. -/
def State.irigTai (s : State) (d : Nat) (f : IrigFrame) : Option Nat :=
  let off := toInt 32 (s.num (Od.taiUtcOffset + 256 * d))
  let ext := s.num Od.irig1344 == 1
  let year := match f.year with
    | some y => if 4 ≤ f.code ∨ ext then some y else none
    | none => none
  let year := match year with
    | some y => some y
    | none =>
      let y := s.num Od.irigYear
      if y ≠ 0 then some y
      else if (s.dom d).lockedSinceEnable ∨ (s.dom d).stepCount ≠ 0 then
        some (yearFrom 500 1970 (s.domTime d s.gtc / 2 ^ 48 / 86400))
      else none
  year.map fun y =>
    let u : Int := daysBefore y * 86400 + f.secondOfYear
    let u := if s.num Od.irigTimescale = 1 ∧ ext then u - f.localOffset else u
    (if s.num Od.irigTimescale = 2 then u else u + off).toNat

/-- Measure every domain that uses source 2 against an edge at `g` labelled by a frame whose marker lay at `m`. -/
def State.irigMeasure (s : State) (f : IrigFrame) (m g extra : Nat) : State :=
  s.eachDom fun d u =>
    match u.irigTai d f with
    | none => u
    | some sec =>
      let k := roundDiv ((g : Int) - m) 1000000000
      let off := (u.dom d).valueAt g / 2 ^ 32 - ((sec : Int) + k) * 1000000000 * 65536
      u.measure d 2 off 6 extra

/-- PpsInState changes, with the event of source 0x1C1. -/
def State.ppsState (s : State) (st : Nat) : State :=
  let old := s.num Od.ppsInState
  if old = st then s else (s.setNum Od.ppsInState st).raiseState 0x1C1 0x80 0 old st 0 0

def State.irigSt (s : State) (st : Nat) : State :=
  let old := s.num Od.irigState
  if old = st then s else (s.setNum Od.irigState st).raiseState 0x1C2 0x80 0 old st 0 0

/-- A PPS_IN edge (R120): an outlier, or a measurement of each domain that uses source 2 when a frame labels it. -/
def ppsInEdge (s : State) : State :=
  let outlier := match s.time.ppsLast with
    | none => false
    | some p =>
      let k := roundDiv ((s.gtc - p : Nat) : Int) 1000000000
      decide (1000 < (((s.gtc - p : Nat) : Int) - k * 1000000000).natAbs)
  if outlier then
    let n := s.time.ppsOutliers + 1
    let t := { s with time := { s.time with ppsOutliers := n } }
    let t := t.ppsState 2
    if 3 ≤ n then
      let t := { t with time := { t.time with ppsLast := none, ppsOutliers := 0 } }
      t.eachDom fun d u => u.loseSource d 2
    else t
  else
    let t := { s with time := { s.time with ppsLast := some s.gtc, ppsOutliers := 0 } }
    let t := t.ppsState 1
    match s.time.irigLabel with
    | none => t
    | some (f, m) =>
      let k := roundDiv ((s.gtc : Int) - m) 1000000000
      if (((s.gtc : Int) - m) - k * 1000000000).natAbs ≤ 10000 ∧ k ≤ 3 then t.irigMeasure f m s.gtc 0 else t

def execPpsInEdge (s : State) : Res := .next (ppsInEdge s)

/-- A decoded or discarded IRIG-B frame whose on-time marker lay at GTC `marker` (R118 to R120). -/
def irigFrame (f : IrigFrame) (marker : Nat) (s : State) : State :=
  let fmt := s.num Od.irigFormat
  let ext := s.num Od.irig1344 == 1
  if f.modulated || f.framingError || (f.parityError && ext) || (fmt != 0 && fmt != f.code + 1)
      || decide (8 ≤ f.code) then
    let n := s.time.irigBad + 1
    let t := (s.count32 Od.irigFramesDiscarded).irigSt 2
    let lab := if 3 ≤ n then none else t.time.irigLabel
    let t := { t with time := { t.time with irigBad := (if 3 ≤ n then 0 else n), irigLabel := lab } }
    if 3 ≤ n then t.eachDom (fun d u => u.loseSource d 2) else t
  else
    let t := { s with time := { s.time with irigBad := 0, irigLabel := some (f, marker) } }
    let t := t.irigSt 1
    let t := if ext then t.eachDom (fun d u =>
      if (u.dom d).source = 2 then u.noteLeap d (f.leapPending && !f.leapNegative) (f.leapPending && f.leapNegative) else u) else t
    match s.time.ppsLast with
    | some _ => t
    | none => t.irigMeasure f marker marker 1000

def execIrigFrame (frame : IrigFrame) (marker : Nat) (s : State) : Res := .next (irigFrame frame marker s)

/-- No PPS_IN edge for 1.5 s: source 2 is lost (R120). -/
def ppsInTimeout (s : State) : State :=
  match s.time.ppsLast with
  | none => s
  | some p =>
    if s.gtc < p + 1500000000 then s
    else
      let t := { s with time := { s.time with ppsLast := none, ppsOutliers := 0 } }
      (t.ppsState 0).eachDom fun d u => u.loseSource d 2

def execPpsInTimeout (s : State) : Res := .next (ppsInTimeout s)

/-- At the leap instant TaiUtcOffset changes by one second (R119). -/
def leapSecond (d : Nat) (s : State) : State :=
  match tabGet none s.time.leap d with
  | none => s
  | some (neg, sec) =>
    if s.domTime d s.gtc / 2 ^ 48 < sec then s
    else
      let o := toInt 32 (s.num (Od.taiUtcOffset + 256 * d)) + (if neg then -1 else 1)
      let t := s.setNum (Od.taiUtcOffset + 256 * d) (ofInt 32 o)
      let t := t.setDom d { t.dom d with leap61 := false, leap59 := false }
      { t with time := { t.time with leap := tabSet none t.time.leap d none } }

def execLeapSecond (d : Fin 8) (s : State) : Res := .next (leapSecond d.val s)

/-! ### Steps and written time -/

/-- The pending step of a domain takes effect at its GTC (R133, R136): a step to the reference is computed again, and
is withdrawn where no source is qualified. -/
def stepApply (d : Nat) (s : State) : State :=
  let x := s.dom d
  match x.step with
  | none => s
  | some p =>
    if s.gtc < p.g then s
    else if p.kind = 2 ∧ (s.bestSource d).isNone then s.cancelStep d
    else
      let amt := if p.kind = 2 then (match s.bestSource d with | some n => -(x.src n).offset | none => 0) else p.amount
      let y := { x with step := none, stepCount := (x.stepCount + 1) % 2 ^ 32 }
      (s.setDom d (y.issue p.g (amt * 2 ^ 32))).raiseOcc (0x188 + d) 0x88 d 2 0

/-- DomainSetTime (R136). -/
def setTime (who : Caller) (d time : Nat) (s : State) : Act := do
  s.gateRange who (Od.domainSetTime + 256 * d) false 0 (.num time)
  need (s.dom d).step.isNone .inProgress
  need ((s.dom d).state != 0 && (s.dom d).source == 0 && !(s.protectionDom d && !(s.domUsers d).isEmpty)) .precondition
  .ok (s.announceStep d 1 (valueOfTime time / 2 ^ 32))

def execDomainSetTime (who : Caller) (d : Fin 8) (time : Nat) (s : State) : Res :=
  .next (s.answer who (setTime who d.val time s))

/-- DomainStep (R136). -/
def domainStep (who : Caller) (d : Nat) (amount : Int) (s : State) : Act := do
  s.gateRange who (Od.domainStep + 256 * d) false 0 (.num (ofInt 64 amount))
  need (amount != 0) .outOfRange
  need (s.dom d).step.isNone .inProgress
  need ((s.dom d).state != 0 && (s.dom d).source == 0) .precondition
  .ok (s.announceStep d 0 amount)

def execDomainStep (who : Caller) (d : Fin 8) (amount : Int) (s : State) : Res :=
  .next (s.answer who (domainStep who d.val amount s))

/-- DomainStepToReference (R136). -/
def stepToReference (who : Caller) (d value : Nat) (s : State) : Act := do
  s.gateRange who (Od.domainStepToReference + 256 * d) false 0 (.num value)
  need (s.dom d).step.isNone .inProgress
  match s.bestSource d with
  | none => .error .timeNotLocked
  | some n => .ok (s.announceStep d 2 (-((s.dom d).src n).offset))

def execDomainStepToReference (who : Caller) (d : Fin 8) (value : Nat) (s : State) : Res :=
  .next (s.answer who (stepToReference who d.val value s))

/-- DomainStepCancel (R133). -/
def stepCancel (who : Caller) (d value : Nat) (s : State) : Act := do
  s.gateRange who (Od.domainStepCancel + 256 * d) false 0 (.num value)
  match (s.dom d).step with
  | none => .error .precondition
  | some p => if p.g < s.gtc + 2000 then .error .precondition else .ok (s.cancelStep d)

def execDomainStepCancel (who : Caller) (d : Fin 8) (value : Nat) (s : State) : Res :=
  .next (s.answer who (stepCancel who d.val value s))

/-- Two enabled domains may not share a PTP profile and number (R116). -/
def State.ptpPairFree (s : State) (d profile number : Nat) : Bool :=
  (numbersFrom 0 8).all fun e => e == d || (s.dom e).state == 0
    || !(s.num (Od.ptpProfile + 256 * e) == profile && s.num (Od.ptpDomainNumber + 256 * e) == number)

/-- Discard every held timed commit that names a disabled domain, with its session's stage set (R76). -/
def State.dropTimed (s : State) (d : Nat) : State :=
  let hit := s.dict.sessions.filterMap fun (k, o) => match o with
    | some x => (match x.timed with | some t => if t.dom = d then some (k, x) else none | none => none)
    | none => none
  hit.foldl (fun u (k, x) =>
    (u.setSession k (some { x with timed := none, stage := [] })).raiseOcc 0xE03 0x8B (k % 2 ^ 24) 2 0) s

/-- Put a domain into force or out of it (R148). -/
def State.applyDomainEnable (s : State) (d value : Nat) : State :=
  let x := s.dom d
  let s := s.setNum (Od.domainEnable + 256 * d) value
  if value = 1 then
    if x.state ≠ 0 then s
    else
      let st := if s.time.backup then 6 else 1
      let t := s.issueDom d { Dom.init with state := st }
      t.raiseState (0x180 + d) 0x88 d 0 st 0 0
  else if x.state = 0 then s
  else (((s.setDom d .init).setNum (Od.grandmasterIdentity + 256 * d) 0).raiseState (0x180 + d) 0x88 d x.state 0 0 0).dropTimed d

/-- The conditions of a DomainEnable write (Table 3-11, R116). -/
def State.checkDomainEnable (s : State) (d value : Nat) : Except Code Unit := do
  need (value == 0 || s.ptpPairFree d (s.num (Od.ptpProfile + 256 * d)) (s.num (Od.ptpDomainNumber + 256 * d)))
    .heldElsewhere
  need (value == 1 || (s.domUsers d).isEmpty) .precondition

/-! ### Pair trim -/

/-- The rank of a domain state for pair trim, smaller is better (R122). -/
def trimRank : Nat → Nat
  | 3 => 0 | 2 => 1 | 4 => 2 | 5 => 3 | 1 => 4 | 6 => 5 | _ => 6

/-- The once-a-second measurement of the offset from the peer (R122, R123). -/
def pairOffsetMeasure (d : Nat) (off : Int) (peer : Nat) (peerTrim : Bool) (s : State) : State :=
  let s := if d = s.num Od.pairDomain then { s with pair := { s.pair with peerDom := peer } } else s
  let x := s.dom d
  if x.state = 0 ∨ s.num (Od.pairTrim + 256 * d) ≠ 1 then s
  else
    let t := s.setDom d { x with pairOffset := off }
    let steers := trimRank peer < trimRank x.state ∨ (trimRank peer = trimRank x.state ∧ s.pair.roleB)
    let t := if steers ∧ x.step.isNone then
        (let c := t.free
         (t.tookFree).issueDom d { t.dom d with corr := clampInt (s.slewRate d) ((c : Int) - 2 ^ 40) })
      else t
    let good := (x.state = 3 ∨ x.state = 4) ∧ (peer = 3 ∨ peer = 4) ∧ peerTrim
    if !decide good then t
    else
      let bad := decide (20 * 65536 < off.natAbs)
      let y := t.dom d
      let y := { y with badRun := if bad then y.badRun + 1 else 0, goodRun := if bad then 0 else y.goodRun + 1 }
      if bad ∧ 3 ≤ y.badRun ∧ !y.pairBad then
        let u := t.setDom d { y with pairBad := true }
        u.raiseFlag (0x190 + d) 0x88 d true 10 (u.domQuality d)
      else if !bad ∧ 3 ≤ y.goodRun ∧ y.pairBad then
        let u := t.setDom d { y with pairBad := false }
        u.raiseFlag (0x190 + d) 0x88 d false 10 (u.domQuality d)
      else t.setDom d y

def execPairOffsetMeasure (d : Fin 8) (offset : Int) (peerState : Nat) (peerTrim : Bool) (s : State) : Res :=
  .next (pairOffsetMeasure d.val offset peerState peerTrim s)

/-! ### The time page -/

/-- The die whose replica serves a reader: cores 0 to 7 and the PCIe functions on C-die 0, cores 8 to 15 on C-die 1. -/
def readerDie (reader : Nat) : Die := if 8 ≤ reader ∧ reader < 16 then .c1 else .c0

/-- GtcFlags (Table 3-8). -/
def State.gtcFlags (s : State) (die : Die) : Nat := (if s.fine die then 0 else 1) + (if s.time.backup then 2 else 0)

/-- A read of GtcLo latches GtcHi and GtcFlags for its reader (R137, R138). -/
def gtcLoRead (reader : Nat) (s : State) : State :=
  let g := s.stamp (readerDie reader)
  let l := tabGet TimeLatch.init s.time.latches reader
  let l := { l with gtcHi := g / 2 ^ 32 % 2 ^ 32, gtcFlags := s.gtcFlags (readerDie reader) }
  ({ s with time := { s.time with latches := tabSet .init s.time.latches reader l } }).emit (.readData (g % 2 ^ 32))

def execGtcLoRead (reader : Nat) (s : State) : Res := .next (gtcLoRead reader s)

/-- The registers of a domain block at one GTC instant (Table 3-7). -/
def State.timeBlock (s : State) (d g : Nat) : TimeBlock :=
  let (sec, ns, fr) := timeParts (s.domTime d g)
  ⟨sec, ns, fr, g, s.domQuality d, (s.dom d).stepCount⟩

/-- A read of DomSecLo latches the whole block of the domain for its reader (R138, R139). -/
def domSecLoRead (reader d : Nat) (s : State) : State :=
  let b := s.timeBlock d (s.stamp (readerDie reader))
  let l := tabGet TimeLatch.init s.time.latches reader
  let l := { l with blocks := tabSet .init l.blocks d b }
  ({ s with time := { s.time with latches := tabSet .init s.time.latches reader l } }).emit
    (.readData (b.seconds % 2 ^ 32))

def execDomSecLoRead (reader : Nat) (d : Fin 8) (s : State) : Res := .next (domSecLoRead reader d.val s)

/-- A write of Trigger latches the GTC and all eight domains at one instant, and Ready is set (R138, Table 3-9). -/
def snapAllTrigger (reader : Nat) (s : State) : State :=
  let die := readerDie reader
  let g := s.stamp die
  let x : SnapAll := ⟨true, g, s.gtcFlags die, (numbersFrom 0 8).map fun d => timeParts (s.domTime d g)⟩
  { s with time := { s.time with snaps := tabSet .init s.time.snaps reader x } }

def execSnapAllTrigger (reader : Nat) (s : State) : Res := .next (snapAllTrigger reader s)

/-! ### PPS outputs -/

/-- The domain passes an integer second at this GTC instant. -/
def State.secondNow (s : State) (d : Nat) : Bool :=
  decide (0 < s.gtc) && decide ((s.dom d).valueAt (s.gtc - 1) / secondUnits < (s.dom d).valueAt s.gtc / secondUnits)

/-- PPS_OUT asserts at an integer second of its domain, unless its state holds it inactive (R144). -/
def ppsOutEdge (k : Nat) (s : State) : State :=
  let d := s.num (Od.ppsOutDomain + 256 * k)
  let st := (s.dom d).state
  let driven := st == 3 || st == 2 || st == 4 || st == 5 || (st == 1 && s.num (Od.ppsOutSquelch + 256 * k) == 0)
  if d < 8 ∧ driven ∧ s.secondNow d then
    s.setPps k ⟨true, s.gtc + s.num (Od.ppsOutWidth + 256 * k)⟩
  else s

def execPpsOutEdge (k : Fin 2) (s : State) : Res := .next (ppsOutEdge k.val s)

/-- A PPS_OUT pulse ends after PpsOutWidth (R144). -/
def ppsOutPulseEnd (k : Nat) (s : State) : State :=
  let p := tabGet PpsOut.init s.time.pps k
  if p.active ∧ p.until_ ≤ s.gtc then
    s.setPps k ⟨false, p.until_⟩
  else s

def execPpsOutPulseEnd (k : Fin 2) (s : State) : Res := .next (ppsOutPulseEnd k.val s)

end Sys2Proof.Machine
end

