-- ==== Sys2Proof/Machine/Events.lean ====
section
/-! DEFINITION. The event controller and the event recorder (Chapter 16). -/

namespace Sys2Proof.Machine

/-- Take an address range out of HBM: its bytes read 0. -/
def memClear (m : List Host.Cell) (a n : Nat) : List Host.Cell :=
  m.filter fun c => !(decide (a ≤ c.1) && decide (c.1 < a + n))

/-- Raise an event that R223 limits to one a second for its source, code and item; the events kept back are counted in the
next one. -/
def State.raiseLimited (s : State) (src code kind num value : Nat) : State :=
  let k := (src * 2 ^ 16 + code) * 2 ^ 32 + itemKey kind num
  let (next, n) := tabGet (0, 0) s.inst.rateLimit k
  let put (t : State) (x : Nat × Nat) : State :=
    { t with inst := { t.inst with rateLimit := tabSet (0, 0) t.inst.rateLimit k x } }
  if s.gtc < next then put s (next, n + 1)
  else (put s (s.gtc + 1000000000, 0)).raise src code kind num (value % 2 ^ 64 + (n + 1) * 2 ^ 64)

/-! ### Raising -/

/-- A die stamps an event into its buffer, or drops it by fill level (R578, R582). -/
def execEventRaiseInDie (die : Die) (source : Fin 4096) (code : Nat) (kind : Nat) (num : Nat) (detail : Nat)
    (s : State) : Res :=
  .next (s.raiseIn die source.val (code % 2 ^ 16) (kind % 256) (num % 2 ^ 24) (detail % 2 ^ 96))

/-- EventRaise (R590). -/
def eventRaise (who : Caller) (value : Bytes) (s : State) : Act := do
  s.gateRange who Od.eventRaise false 0 (.bytes value)
  let src := leAt value 0 2
  let code := leAt value 2 2
  let item := leAt value 4 4
  need (decide (0xF00 ≤ src) && decide (src ≤ 0xFFF) && decide (code / 0x1000 = 0xE)) .outOfRange
  need (item == 0x0C * 2 ^ 24 + (src - 0xF00)) .notOwner
  need (who.role != .tenant || s.inInstance who.inst (s.holderOf 0x0C (src - 0xF00))) .notOwner
  .ok (s.raiseIn .s src code 0x0C (src - 0xF00) (leAt value 8 12))

def execEventRaise (who : Caller) (value : Bytes) (s : State) : Res := .next (s.answer who (eventRaise who value s))

/-! ### Queues and pins -/

/-- The pond an event belongs to (R577): the holder of its item, its instance, the pond of a filter channel's slot
(R301), or the module pond. -/
def State.eventPond (s : State) (kind num : Nat) : Nat :=
  if itemCount kind ≠ 0 then s.holderOf kind num
  else if kind = 0x81 then num
  else if kind = 0x82 then (if num < 0x10000 then s.holderOf 0x03 num else s.holderOf 0x04 (num - 0x10000))
  else if kind = 0x83 then s.holderOf 0x03 num
  else 0xF00

/-- The 16 payload octets: the item word and bytes 4 to 15 (R579). -/
def Event.payload (e : Event) : Bytes := toLE 4 (e.kind * 2 ^ 24 + e.num) ++ toLE 12 e.detail

/-- Seconds the shore domain has run since manufacture (R594). -/
def State.operatingSeconds (s : State) : Nat := s.ev.recorder.operatingSeconds + s.gtc / 1000000000

/-- The source field of an entry or record (Table 16-8). -/
def sourceField (source : Nat) (coarse backup ooo : Bool) : Nat :=
  source + (if coarse then 2 ^ 12 else 0) + (if backup then 2 ^ 13 else 0) + (if ooo then 2 ^ 14 else 0)

/-- A queue entry (Table 16-8) with its sequence number. -/
def State.queueEntry (s : State) (e : Event) (dom seq : Nat) : Bytes :=
  toLE 8 e.gtc ++ toLE 4 0 ++ timeMemory (s.domTime dom e.gtc) ++ toLE 4 s.operatingSeconds
    ++ toLE 4 s.ev.recorder.powerCycles ++ toLE 2 (sourceField e.source e.coarse e.backup e.outOfOrder)
    ++ toLE 2 e.code ++ toLE 2 1 ++ toLE 1 e.priority ++ toLE 1 0 ++ e.payload ++ toLE 4 seq

/-- EqConfig of a queue (Table 16-7). -/
def State.eqConfig (s : State) (q : Nat) : Bytes := s.blob (Od.eqConfig + q)

def eqEnabled (b : Bytes) : Bool := (byteAt b 0).testBit 0

def State.evQueue (s : State) (q : Nat) : EvQueue := tabGet .init s.ev.queues q

def State.setEvQueue (s : State) (q : Nat) (x : EvQueue) : State :=
  { s with ev := { s.ev with queues := tabSet .init s.ev.queues q x } }

/-- Send an MSI-X interrupt, or set its pending bit while the vector is masked (R588). -/
def State.sendMsix (s : State) (fn vec : Nat) : State :=
  if tabGet false s.ev.msixMasked (fn * 64 + vec) then
    { s with ev := { s.ev with msixPending := tabSet false s.ev.msixPending (fn * 64 + vec) true } }
  else s.emit (.msix fn vec)

/-- Send a queue's interrupt to its target; its entries are signalled (R588). -/
def State.eqSignal (s : State) (q : Nat) : State :=
  let b := s.eqConfig q
  let t := s.setEvQueue q { s.evQueue q with unsignalled := 0 }
  match byteAt b 16 with
  | 1 =>
    let k := (leAt b 18 2 * 16 + byteAt b 17) * 256 + leAt b 20 2
    { t with ev := { t.ev with eip := tabSet false t.ev.eip k true } }
  | 2 => t.sendMsix (leAt b 18 2) (leAt b 20 2)
  | _ => t

/-- The next sequence number: modulo 2^32, skipping 0 (R587). -/
def nextSeq (n : Nat) : Nat := if (n + 1) % 2 ^ 32 = 0 then 1 else (n + 1) % 2 ^ 32

/-- Write an event to one queue whose MinPriority it meets (R584, R587, R588). Entries of a queue whose function is in
Function Level Reset are skipped, and the sequence numbers advance over them (R601). -/
def State.eqWrite (s : State) (e : Event) (q : Nat) : State :=
  let b := s.eqConfig q
  if !eqEnabled b || decide (e.priority < byteAt b 3) then s
  else
    let x := s.evQueue q
    let slots := 2 ^ byteAt b 2
    let a := leAt b 8 8 + 64 * ((x.nextSeq - 1) % slots)
    let entry := s.queueEntry e (byteAt b 6) x.nextSeq
    let fn := leAt b 18 2
    let y := { x with nextSeq := nextSeq x.nextSeq }
    if byteAt b 1 = 1 ∧ tabGet false s.inst.flr fn then s.setEvQueue q y
    else
      let t := if byteAt b 1 = 0 then s.hbmWrite a entry else s.emit (.hostWrite fn a entry)
      let y := { y with unsignalled := x.unsignalled + 1, firstAt := if x.unsignalled = 0 then s.gtc else x.firstAt }
      let t := (t.setEvQueue q y).count48 (Od.eqWritten + q)
      if byteAt b 22 ≤ y.unsignalled ∨ byteAt b 7 ≤ e.priority then t.eqSignal q else t

/-- Drive one event output pin (R589). -/
def State.pinDrive (s : State) (e : Event) (k : Nat) : State :=
  let c := s.num (Od.evtPinConfig + k)
  if e.priority < field c 4 3 then s
  else match field c 0 2 with
    | 1 => { s with ev := { s.ev with pins := tabSet .init s.ev.pins k ⟨true, s.gtc + field c 12 20 * 1000⟩ } }
    | 2 => { s with ev := { s.ev with pins := tabSet .init s.ev.pins k ⟨true, 0⟩ } }
    | _ => s

/-- Deliver a released event to the queues and pins of its route (R577, R584). -/
def State.deliver (s : State) (e : Event) : State :=
  let r := s.blob (Od.routeConfig + s.routeOf (s.eventPond e.kind e.num) - 1)
  let t := (numbersFrom 0 4).foldl (fun u i => let q := byteAt r i; if q = 0xFF then u else u.eqWrite e q) s
  (numbersFrom 0 4).foldl (fun u k => if (byteAt r 4).testBit k then u.pinDrive e k else u) t

/-! ### The recorder -/

def State.setRecorder (s : State) (r : Recorder) : State := { s with ev := { s.ev with recorder := r } }

/-- The LostEvents event that covers a loss (Table 16-5). -/
def lostEvent (source : Nat) (n first last : Nat) : Event :=
  ⟨last, false, false, source, 0xF001, 0x80, 0, sat32 n + first * 2 ^ 32, 7, false⟩

/-- Take a released event into the recorder (R591, R597): into the input queue of 4,096, or the holding queue of 256
while the log is frozen. The first event taken after a loss is preceded by a LostEvents event. -/
def State.recorderTake (s : State) (e : Event) : State :=
  let r := s.ev.recorder
  if e.priority < s.num Od.recorderThreshold then s
  else
    let frozen := r.frozen.isSome
    let len := if frozen then r.held.length else r.input.length
    if (if frozen then 256 else 4096) ≤ len then
      let l := match r.lost with
        | none => (1, e.gtc, e.gtc)
        | some (n, f, _) => (n + 1, f, e.gtc)
      (s.setRecorder { r with lost := some l }).count32 Od.recorderLost
    else if frozen then
      (s.setRecorder { r with held := r.held ++ [e] }).setNum Od.recorderHeld (r.held.length + 1)
    else
      let pre := match r.lost with
        | none => []
        | some (n, f, l) => [lostEvent 0xE0A n f l]
      s.setRecorder { r with input := r.input ++ pre ++ [e], lost := none }

/-- Rewrite the header copy with the older sequence number (R594, R595). -/
def Recorder.writeHeader (r : Recorder) (head count opSec : Nat) : Recorder :=
  let n := max r.header0.sequence r.header1.sequence + 1
  let h : RecHeader := ⟨n, head, count, opSec, r.powerCycles, true⟩
  if r.header0.sequence ≤ r.header1.sequence then { r with header0 := h } else { r with header1 := h }

/-- The header copy in use: the higher sequence number among those whose CRC passes (R595). -/
def Recorder.header (r : Recorder) : RecHeader :=
  if r.header0.crcOk ∧ (¬ r.header1.crcOk ∨ r.header1.sequence < r.header0.sequence) then r.header0 else r.header1

/-- The newest slot of a log. -/
def RecHeader.newest (h : RecHeader) : Nat := (h.head + 131071) % 131072

/-- Write one event into the log: a repeat updates the newest record, any other makes a new one (R592, R595). -/
def State.record (s : State) (e : Event) : State :=
  let r := s.ev.recorder
  let h := r.header
  let window := s.num Od.repeatWindow * 1000000
  let newest := if h.count = 0 then none else tabGet none r.slots h.newest
  let merges := match newest with
    | some x => x.source == e.source && x.code == e.code && decide (0 < window)
        && decide (e.gtc - x.gtc ≤ window) && decide (x.gtc ≤ e.gtc)
    | none => false
  match newest, merges with
  | some x, true =>
    let y := { x with
      repeatCount := satAt 65535 (x.repeatCount + 1), lastDelta := sat32 (e.gtc - x.gtc),
      kind := e.kind, num := e.num, detail := e.detail }
    s.setRecorder { r with slots := tabSet none r.slots h.newest (some y) }
  | _, _ =>
    let x : Rec := ⟨e.gtc, 0, timeParts (s.domTime (s.num Od.recorderDomain) e.gtc), s.operatingSeconds,
      r.powerCycles, e.source, e.coarse, e.backup, e.outOfOrder, e.code, 1, e.priority, e.kind, e.num, e.detail,
      true, false⟩
    let r := { r with slots := tabSet none r.slots h.head (some x) }
    let r := r.writeHeader ((h.head + 1) % 131072) (min 131072 (h.count + 1)) s.operatingSeconds
    (s.setRecorder r).count48 Od.recordsWritten

/-- The recorder takes one event from its input queue and writes or merges a record (R591). -/
def recorderWrite (s : State) : State :=
  let r := s.ev.recorder
  if r.frozen.isSome then s
  else match r.input with
    | [] => s
    | e :: rest =>
      let t := (s.setRecorder { r with input := rest }).record e
      if rest = [] ∧ t.num Od.recorderState = 2 then t.setNum Od.recorderState 0 else t

def execRecorderWrite (s : State) : Res := .next (recorderWrite s)

/-- Once an hour every record's CRC is checked; a first finding is counted and raises SuspectRecord (R596). -/
def recorderCrcPass (s : State) : State :=
  let bad := s.ev.recorder.slots.filterMap fun (k, o) => match o with
    | some x => if !x.crcOk && !x.counted then some (k, x) else none
    | none => none
  bad.foldl (fun u (k, x) =>
    let r := u.ev.recorder
    let u := u.setRecorder { r with slots := tabSet none r.slots k (some { x with counted := true }) }
    (u.count32 Od.suspectRecords).raise 0xE0A 0xF004 0x80 0 k) s

def execRecorderCrcPass (s : State) : Res := .next (recorderCrcPass s)

/-- OperatingSeconds and PowerCycles are written to the header (R594). -/
def operatingSecondsSave (s : State) : State :=
  let r := s.ev.recorder
  let h := r.header
  s.setRecorder (r.writeHeader h.head h.count s.operatingSeconds)

def execOperatingSecondsSave (s : State) : Res := .next (operatingSecondsSave s)

/-- The number of a role (R63). -/
def roleNumber : Role → Nat
  | .nobody => 0 | .owner => 1 | .manager => 2 | .tenant => 3 | .observer => 4

/-- Raise Freeze (Table 16-5). -/
def State.raiseFreeze (s : State) (what role : Nat) : State := s.raise 0xE0A 0xF005 0x80 0 (what + role * 2 ^ 16)

/-- End a freeze (R597): the held events are taken in release order, and a LostEvents event follows them when events
were lost. -/
def State.endFreeze (s : State) (what : Nat) : State :=
  let r := s.ev.recorder
  match r.frozen with
  | none => s
  | some (_, role, _) =>
    let post := match r.lost with
      | none => []
      | some (n, f, l) => [lostEvent 0xE0A n f l]
    let input := r.input ++ r.held ++ post
    let t := s.setRecorder { r with frozen := none, held := [], lost := none, input := input }
    let t := (t.setNum Od.recorderHeld 0).setNum Od.recorderState (if input.isEmpty then 0 else 2)
    t.raiseFreeze what role

/-- RecorderFreeze 1 (R597). -/
def recorderFreeze (who : Caller) (s : State) : Act := do
  s.gateRange who Od.recorderFreeze false 0 (.num 1)
  match s.ev.recorder.frozen with
  | some (k, _, _) => if k = who.sess then .ok s else .error .heldElsewhere
  | none =>
    let t := s.setRecorder { s.ev.recorder with frozen := some (who.sess, (roleNumber who.role), s.gtc) }
    .ok ((t.setNum Od.recorderState 1).raiseFreeze 1 (roleNumber who.role))

def execRecorderFreeze (who : Caller) (s : State) : Res := .next (s.answer who (recorderFreeze who s))

/-- RecorderFreeze 2 (R597): only the freezing session, or the Owner. -/
def recorderUnfreeze (who : Caller) (s : State) : Act := do
  s.gateRange who Od.recorderFreeze false 0 (.num 2)
  match s.ev.recorder.frozen with
  | none => .ok s
  | some (k, _, _) => if k = who.sess ∨ who.role = .owner then .ok (s.endFreeze 2) else .error .heldElsewhere

def execRecorderUnfreeze (who : Caller) (s : State) : Res := .next (s.answer who (recorderUnfreeze who s))

/-- A freeze held for FreezeLimit ends (R597). -/
def freezeLimitExpiry (s : State) : State :=
  match s.ev.recorder.frozen with
  | none => s
  | some (_, _, g) => if s.gtc < g + s.num Od.freezeLimit * 1000000 then s else s.endFreeze 3

def execFreezeLimitExpiry (s : State) : Res := .next (freezeLimitExpiry s)

/-- RecorderClear 1, by the Owner only (R598). -/
def recorderClear (who : Caller) (value : Nat) (s : State) : Act := do
  s.gateRange who Od.recorderClear false 0 (.num value)
  need s.ev.recorder.frozen.isNone .busy
  let r := s.ev.recorder
  let h := r.header
  let t := s.setRecorder { r with header0 := { r.header0 with count := 0 }, header1 := { r.header1 with count := 0 } }
  let cfg := t.sourceConfig 0xE0A
  .ok (t.record ⟨t.stamp .s, !t.fine .s, t.time.backup, 0xE0A, 0xF006, 0x80, 0, h.count, field cfg 0 3, false⟩)

def execRecorderClear (who : Caller) (value : Nat) (s : State) : Res :=
  .next (s.answer who (recorderClear who value s))

/-! ### Merging and release -/

/-- The four dies in the order of the merge. -/
def allDies : List Die := [.n, .c0, .c1, .s]

/-- The number of a die (Table 16-2). -/
def dieNumber : Die → Nat
  | .n => 0 | .c0 => 1 | .c1 => 2 | .s => 3

/-- Key order (R11): the smaller GTC first, and for equal values the smaller source. -/
def Event.before (a b : Event) : Bool := decide (a.gtc < b.gtc) || (a.gtc == b.gtc && decide (a.source < b.source))

/-- The event that the controller releases next, with its die: the head of an excluded die's buffer at once, else the
least key among the heads of the admitted dies, once every admitted die's watermark has reached it (R580, R583). -/
def State.nextRelease (s : State) : Option (Die × Event) :=
  match allDies.find? (fun d => (s.evDie d).excluded && !(s.evDie d).buffer.isEmpty) with
  | some d => ((s.evDie d).buffer.head?).map fun e => (d, { e with outOfOrder := true })
  | none =>
    let heads := allDies.filterMap fun d =>
      if (s.evDie d).excluded then none else ((s.evDie d).buffer.head?).map fun e => (d, e)
    match heads with
    | [] => none
    | x :: r =>
      let m := r.foldl (fun a b => if b.2.before a.2 then b else a) x
      if allDies.all (fun d => (s.evDie d).excluded || decide (m.2.gtc ≤ (s.evDie d).watermark)) then some m else none

/-- A die's watermark rises to the reported one, never beyond the present. -/
def State.reportMark (s : State) (d : Die) (w : Nat) : State :=
  let x := s.evDie d
  s.setEvDie d { x with watermark := max x.watermark (min w s.gtc) }

/-- Put an event into a buffer in stamp order. -/
def insertEvent (e : Event) : List Event → List Event
  | [] => [e]
  | a :: r => if e.before a then e :: a :: r else a :: insertEvent e r

/-- When a buffer has fallen below one half, one LostEvents event covers the drops of the episode (R582). -/
def State.endEpisode (s : State) (d : Die) : State :=
  let x := s.evDie d
  match x.episode with
  | none => s
  | some (n, f, l) =>
    if 2 * x.buffer.length < evCapacity d then
      s.setEvDie d { x with episode := none, buffer := insertEvent (lostEvent 0xE09 n f l) x.buffer }
    else s

/-- Release the next event in key order to queues, pins and recorder (R580, R584, R591). The operands are the
watermarks that the N-die, the C-dies and the S-die report now. -/
def eventRelease (wn w0 w1 ws : Nat) (s : State) : State :=
  let s := (((s.reportMark .n wn).reportMark .c0 w0).reportMark .c1 w1).reportMark .s ws
  match s.nextRelease with
  | none => s
  | some (d, e) =>
    let x := s.evDie d
    let t := (s.setEvDie d { x with buffer := x.buffer.drop 1 }).endEpisode d
    ((t.count48 Od.eventsReleased).deliver e).recorderTake e

def execEventRelease (markN markC0 markC1 markS : Nat) (s : State) : Res :=
  .next (eventRelease markN markC0 markC1 markS s)

/-- A die whose watermark stays more than 100 µs behind is excluded from the merge (R583). -/
def dieSilent (d : Die) (mark : Nat) (s : State) : State :=
  let x := s.evDie d
  if !x.excluded && decide (mark + 100000 < s.gtc) then
    let t := s.setEvDie d { x with excluded := true }
    (t.setNum Od.diesExcluded (s.num Od.diesExcluded ||| 2 ^ (dieNumber d))).raise 0xE09 0xF003 0x89 (dieNumber d) ((dieNumber d) + 256)
  else s

def execDieSilent (die : Die) (mark : Nat) (s : State) : Res := .next (dieSilent die mark s)

/-- A die whose watermark is within 10 µs is readmitted (R583). -/
def dieReadmit (d : Die) (mark : Nat) (s : State) : State :=
  let x := s.evDie d
  if x.excluded && decide (s.gtc ≤ mark + 10000) then
    let t := s.setEvDie d { x with excluded := false, watermark := max x.watermark (min mark s.gtc) }
    (t.setNum Od.diesExcluded (s.num Od.diesExcluded - 2 ^ (dieNumber d))).raise 0xE09 0xF003 0x89 (dieNumber d) (dieNumber d)
  else s

def execDieReadmit (die : Die) (mark : Nat) (s : State) : Res := .next (dieReadmit die mark s)

/-! ### Signals and configuration -/

/-- CoalesceTime after the first entry not yet signalled, the queue's interrupt is sent (R588). -/
def eqCoalesceTimeout (q : Nat) (s : State) : State :=
  let x := s.evQueue q
  if eqEnabled (s.eqConfig q) ∧ x.unsignalled ≠ 0 ∧ x.firstAt + leAt (s.eqConfig q) 24 4 * 1000 ≤ s.gtc then
    s.eqSignal q
  else s

def execEqCoalesceTimeout (q : Fin 256) (s : State) : Res := .next (eqCoalesceTimeout q.val s)

/-- EqKick sends the interrupt now for unsignalled entries (Table 16-9). -/
def eqKick (q : Nat) (s : State) : State := if (s.evQueue q).unsignalled = 0 then s else s.eqSignal q

def execEqKick (q : Fin 256) (s : State) : Res := .next (eqKick q.val s)

/-- The fields of an EqConfig lie in range and its reserved bits are 0 (R586 item 1). -/
def checkEqFields (b : Bytes) : Except Code Unit := do
  need (decide (byteAt b 1 ≤ 1) && decide (6 ≤ byteAt b 2) && decide (byteAt b 2 ≤ 16) && decide (byteAt b 3 ≤ 7)
    && (decide (leAt b 4 2 < 0x100) || leAt b 4 2 == 0xF00) && decide (byteAt b 6 ≤ 7) && decide (byteAt b 7 ≤ 8)
    && decide (leAt b 8 8 % 4096 = 0) && decide (byteAt b 16 ≤ 2)
    && (byteAt b 16 != 1 || (decide (byteAt b 17 ≤ 8) && decide (leAt b 18 2 < 16) && decide (1 ≤ leAt b 20 2)
        && decide (leAt b 20 2 ≤ 255)))
    && (byteAt b 16 != 2 || (decide (leAt b 18 2 < 256) && decide (leAt b 20 2 < 64)))
    && decide (1 ≤ byteAt b 22) && decide (leAt b 24 4 ≤ 10000)
    && (byteAt b 1 != 0 || decide (leAt b 8 8 + 64 * 2 ^ byteAt b 2 ≤ 2 ^ 36))) .outOfRange
  need (decide (byteAt b 0 ≤ 1) && byteAt b 23 == 0 && leAt b 28 4 == 0) .reservedBitSet

/-- The function bound to an instance: the PF for PI_000, else the virtual function that names it (R524). -/
def State.functionOf (s : State) (i : Nat) : Option Nat :=
  if i = 0 then some 0
  else (numbersFrom 1 255).find? fun n => s.num (Od.vfInstance + n - 1) == i

/-- An owner instance's or the module's own conditions (R586 item 2). -/
def State.checkEqOwner (s : State) (b : Bytes) : Bool :=
  let own := leAt b 4 2
  let pages := pagesOf (leAt b 8 8) (64 * 2 ^ byteAt b 2)
  let fn := leAt b 18 2
  if own < 0x100 then
    (if byteAt b 1 = 0 then pages.all fun p => s.pageBinding p == 0 && s.inInstance own (s.holderOf 0x0A p)
     else (s.functionOf own).isSome)
    && (byteAt b 16 != 1 || (decide (2 ≤ byteAt b 17) && s.inInstance own (s.holderOf 0x0B fn)))
    && (byteAt b 16 != 2 || s.functionOf own == some fn)
  else
    (byteAt b 1 != 0 || pages.all fun p => s.pageBinding p == 0 || s.pageBinding p == 7)
    && (byteAt b 16 != 1 || decide (byteAt b 17 ≤ 1))
    && (byteAt b 16 != 2 || fn == 0)

/-- EqConfig (R586): an Enable write checks, binds and clears the queue, or stops it. -/
def eqConfigWrite (who : Caller) (q : Nat) (b : Bytes) (s : State) : Act := do
  s.gateRange who (Od.eqConfig + q) false 0 (.bytes b)
  let old := s.eqConfig q
  need (who.role != .tenant || (leAt old 4 2 == who.inst && leAt b 4 2 == who.inst)) .notOwner
  need (!eqEnabled old || b.drop 1 == old.drop 1) .busy
  let store (t : State) : State := (t.setBlob (Od.eqConfig + q) b).bumpVersion (Od.eqConfig + q) 0
  let pages := pagesOf (leAt old 8 8) (64 * 2 ^ byteAt old 2)
  if eqEnabled b then
    if eqEnabled old then .ok (store s)
    else do
      checkEqFields b
      need (s.checkEqOwner b) .notOwner
      let len := 64 * 2 ^ byteAt b 2
      let base := leAt b 8 8
      let ps := if byteAt b 1 = 0 then (pagesOf base len).filter (fun p => s.pageBinding p == 0) else []
      let t := ps.foldl (fun u p => u.setBinding p 5) s
      let t := if byteAt b 1 = 0 then { t with mem := { t.mem with hbm := memClear t.mem.hbm base len } } else t
      .ok (store (t.setEvQueue q ⟨1, 0, 0, !ps.isEmpty⟩))
  else do
    need (decide (byteAt b 0 ≤ 1) && byteAt b 23 == 0 && leAt b 28 4 == 0) .reservedBitSet
    let t := if eqEnabled old ∧ (s.evQueue q).bound then
        pages.foldl (fun u p => if u.pageBinding p = 5 then u.setBinding p 0 else u) s
      else s
    .ok (store (t.setEvQueue q { s.evQueue q with unsignalled := 0, bound := false }))

def execEqConfig (who : Caller) (q : Fin 256) (value : Bytes) (s : State) : Res :=
  .next (s.answer who (eqConfigWrite who q.val value s))

/-- An event output pin in pulse mode deasserts after Width (R589). -/
def evtPinPulseEnd (k : Nat) (s : State) : State :=
  let p := tabGet EvPin.init s.ev.pins k
  if p.asserted ∧ field (s.num (Od.evtPinConfig + k)) 0 2 = 1 ∧ p.until_ ≤ s.gtc then
    { s with ev := { s.ev with pins := tabSet .init s.ev.pins k ⟨false, p.until_⟩ } }
  else s

def execEvtPinPulseEnd (k : Fin 4) (s : State) : Res := .next (evtPinPulseEnd k.val s)

/-- EvtPinAck 1 deasserts a latched pin (R589). -/
def evtPinAck (who : Caller) (k value : Nat) (s : State) : Act := do
  s.gateRange who (Od.evtPinAck + k) false 0 (.num value)
  if value = 1 then .ok { s with ev := { s.ev with pins := tabSet .init s.ev.pins k EvPin.init } } else .ok s

def execEvtPinAck (who : Caller) (k : Fin 4) (value : Nat) (s : State) : Res :=
  .next (s.answer who (evtPinAck who k.val value s))

/-- A host unmasks an MSI-X vector; a pending interrupt is sent (R588). -/
def msixUnmask (fn vec : Nat) (s : State) : State :=
  let k := fn * 64 + vec
  let pend := tabGet false s.ev.msixPending k
  let t := { s with ev := { s.ev with
    msixMasked := tabSet false s.ev.msixMasked k false, msixPending := tabSet false s.ev.msixPending k false } }
  if pend then t.emit (.msix fn vec) else t

def execMsixVectorUnmask (fn : Fin 256) (vector : Fin 64) (s : State) : Res := .next (msixUnmask fn.val vector.val s)

end Sys2Proof.Machine
end

