-- ==== Sys2Proof/Machine/HostMemory.lean ====
section
/-! DEFINITION. Host cores, HBM pages and their protection, cache coherence and memory errors (Chapter 15). -/

namespace Sys2Proof.Machine

/-! ### Pages and their bindings -/

/-- The stack of an address, and the C-die that is its home (R551). -/
def stackOf (addr : Nat) : Nat := addr / 0x200000 % 4

def homeDie (addr : Nat) : Nat := stackOf addr / 2

/-- HbmBind (R552, R553): the operation, the instance of Op 1, the count and the first page. -/
def hbmBind (who : Caller) (op inst count first : Nat) (s : State) : Act := do
  s.gateRange who Od.hbmBind false 0 (.num (first + count * 2 ^ 24 + op * 2 ^ 40 + inst * 2 ^ 48))
  need (decide (1 ≤ op) && decide (op ≤ 4) && decide (1 ≤ count) && decide (count ≤ 32768)
    && decide (first + count ≤ 32768)) .outOfRange
  let pages := numbersFrom first count
  need (match op with
    | 1 => pages.all fun p => s.inInstance inst (s.holderOf 0x0A p)
    | 2 => pages.all fun p => s.holderOf 0x0A p == 0xF00
    | _ => true) .notOwner
  need (if op = 3 then pages.all fun p => s.pageBinding p == 6 || s.pageBinding p == 7
    else pages.all fun p => s.pageBinding p == 0) .busy
  let b := match op with | 1 => 6 | 2 => 7 | 3 => 0 | _ => 8
  let t := pages.foldl (fun u p => u.setBinding p b) s
  .ok (if op = 4 then pages.foldl (fun u p => u.raiseOcc (0xC14 + p % 4) 0x0A p 3 p) t else t)

def execHbmBindHost (who : Caller) (inst count first : Nat) (s : State) : Res :=
  .next (s.answer who (hbmBind who 1 inst count first s))

def execHbmBindManager (who : Caller) (count first : Nat) (s : State) : Res :=
  .next (s.answer who (hbmBind who 2 0 count first s))

def execHbmUnbind (who : Caller) (count first : Nat) (s : State) : Res :=
  .next (s.answer who (hbmBind who 3 0 count first s))

def execHbmRetire (who : Caller) (count first : Nat) (s : State) : Res :=
  .next (s.answer who (hbmBind who 4 0 count first s))

/-! ### Protection -/

/-- What an address of a host core's access names (Table 15-2). -/
inductive HostRegion where
  | hbm (page : Nat)
  | instBlock (inst : Nat)
  | window (w : Nat)
  | timePage
  | eventPage
  | interruptFile (core file : Nat)
  | unmapped
  deriving DecidableEq, Repr

def hostRegion (a : Nat) : HostRegion :=
  if a < 2 ^ 36 then .hbm (a / 0x200000)
  else if 0x2000000000 ≤ a ∧ a < 0x2001000000 then .instBlock ((a - 0x2000000000) / 0x10000)
  else if 0x2001000000 ≤ a ∧ a < 0x2001040000 then .window ((a - 0x2001000000) / 0x1000)
  else if 0x2001040000 ≤ a ∧ a < 0x2001041000 then .timePage
  else if 0x2002000000 ≤ a ∧ a < 0x2003000000 then .eventPage
  else if 0x2003000000 ≤ a ∧ a < 0x2004000000 then
    .interruptFile ((a - 0x2003000000) / 0x100000) ((a - 0x2003000000) % 0x100000 / 0x1000)
  else .unmapped

/-- A guest of the page's holder may read, and write, a page of a binding; and the manager may (Table 15-5). -/
def guestMay (binding : Nat) (write : Bool) : Bool :=
  match binding with
  | 0 | 5 | 6 => true
  | 3 | 4 => !write
  | _ => false

def managerMay (binding : Nat) (write : Bool) : Bool :=
  match binding with
  | 0 | 5 | 6 | 7 => true
  | 1 | 2 | 3 | 4 => !write
  | _ => false

/-- kinst of a core: valid, and its instance (R549). -/
def State.kinstOf (s : State) (core : Nat) : Option Nat :=
  let k := tabGet 0 s.mem.kinst core
  if k.testBit 31 then some (k % 2 ^ 12) else none

/-- The binding of a local object window: role code and selector (OD 1060). -/
def State.windowBinding (s : State) (w : Nat) : Nat := s.num (if w = 0 then Od.localWindowBinding else Od.localWindowBinding106001 + (w - 1))

/-- An access is allowed by the binding tables (R554, R555). -/
def State.accessAllowed (s : State) (core : Nat) (virt write : Bool) (a : Nat) : Bool :=
  match virt, s.kinstOf core with
  | true, none => false
  | true, some i =>
    match hostRegion a with
    | .hbm p => guestMay (s.pageBinding p) write && s.inInstance i (s.holderOf 0x0A p)
    | .instBlock j => j == i
    | .window w => let b := s.windowBinding w
      (b / 2 ^ 12 == 3 && b % 2 ^ 12 == i) || b / 2 ^ 12 == 4
    | .interruptFile c f => c == core && decide (2 ≤ f)
    | _ => false
  | false, _ =>
    match hostRegion a with
    | .hbm p => managerMay (s.pageBinding p) write
    | .unmapped => false
    | _ => true

/-- A host core's access: one without the right is not performed, raises an access fault in the core, and outside
unmapped space is counted and reported as a violation (R550, R556). -/
def protectionViolation (core : Nat) (virt write : Bool) (a : Nat) (s : State) : State :=
  if s.accessAllowed core virt write a then s
  else
    let t := s.emit (.coreException core 0 a)
    if hostRegion a = .unmapped ∧ ¬ (virt ∧ (s.kinstOf core).isNone) then t
    else
      let t := (t.count32 Od.protectionViolations).count32 (Od.hcViolations + core)
      t.raiseLimited 0xC1A 0x0B core 0xA001 (a % 2 ^ 52 + tabGet 0 s.mem.kinst core % 2 ^ 12 * 2 ^ 52)

def execProtectionViolation (core : Fin 16) (virt write : Bool) (addr : Nat) (s : State) : Res :=
  .next (protectionViolation core.val virt write addr s)

/-- A DMA write of a PCIe function into HBM for a ring: outside the ring's pages it is discarded and reported (R557). -/
def dmaViolation (inst ring a : Nat) (data : Bytes) (s : State) : State :=
  let c := s.blob (Od.ringConfig + ring) inst
  let base := leAt c 8 8
  let len := 64 * 2 ^ byteAt c 2
  let ok := (byteAt c 0).testBit 0 && byteAt c 1 == 0
    && (pagesOf a data.length).all fun p => (pagesOf base len).contains p
  if ok then s.hbmWrite a data
  else (s.count32 Od.protectionViolations).raiseOcc 0xC1A 0x81 inst 1 a

def execDmaViolation (inst : Fin 256) (ring : Fin 8) (addr : Nat) (data : Bytes) (s : State) : Res :=
  .next (dmaViolation inst.val ring.val addr data s)

/-! ### Coherence -/

/-- A line of a core in the tables of caches. -/
def lineKey (core line : Nat) : Nat := core * 2 ^ 32 + line

def State.cacheLine (s : State) (core line : Nat) : Option CacheLine := tabGet none s.mem.caches (lineKey core line)

def State.setCacheLine (s : State) (core line : Nat) (x : Option CacheLine) : State :=
  { s with mem := { s.mem with caches := tabSet none s.mem.caches (lineKey core line) x } }

def State.writeback (s : State) (core line : Nat) : Option Bytes := tabGet none s.mem.writebacks (lineKey core line)

def State.setWriteback (s : State) (core line : Nat) (x : Option Bytes) : State :=
  { s with mem := { s.mem with writebacks := tabSet none s.mem.writebacks (lineKey core line) x } }

def State.dirEntry (s : State) (line : Nat) : Option DirEntry := tabGet none s.mem.directory line

def State.setDirEntry (s : State) (line : Nat) (x : Option DirEntry) : State :=
  { s with mem := { s.mem with directory := tabSet none s.mem.directory line x } }

def State.setWaiting (s : State) (l : List DirReq) : State := { s with mem := { s.mem with waiting := l } }

/-- The 64 octets of a line in HBM. -/
def State.lineOf (s : State) (line : Nat) : Bytes := s.hbmRead (line * 64) 64

/-- Some word of the line is poisoned (R565). -/
def State.linePoisoned (s : State) (line : Nat) : Bool :=
  (numbersFrom (line * 8) 8).any fun w => tabGet false s.mem.poison w

/-- A core that takes a poisoned line raises a hardware-error exception (R565). -/
def State.consumePoison (s : State) (core line : Nat) : State :=
  if s.linePoisoned line then
    ((s.emit (.coreException core 1 (line * 64))).count32 (Od.hcHardwareErrors + core)).raiseOcc (0xC00 + core) 0x0B core 2
      (line * 64)
  else s

/-- Write a dirty line back to HBM. -/
def State.flushLine (s : State) (line : Nat) (x : CacheLine) : State :=
  if x.st = 3 then s.hbmWrite (line * 64) x.data else s

/-- Invalidate a line in some cores, writing a dirty copy back first. -/
def State.invalidate (s : State) (line : Nat) (cores : List Nat) : State :=
  cores.foldl (fun u c => match u.cacheLine c line with
    | some x => (u.flushLine line x).setCacheLine c line none
    | none => u) s

/-- The set of a line in its directory: 65,536 sets of 16 ways (R558). -/
def dirSet (line : Nat) : Nat := line % 65536

/-- Make room for a line: a full set evicts its least recently used entry by back-invalidation (R558). -/
def State.makeRoom (s : State) (line : Nat) : State :=
  if (s.dirEntry line).isSome then s
  else
    let mates := s.mem.directory.filterMap fun (k, o) => match o with
      | some e => if dirSet k = dirSet line ∧ homeDie (k * 64) = homeDie (line * 64) then some (k, e) else none
      | none => none
    if mates.length < 16 then s
    else match mates with
      | [] => s
      | m :: r =>
        let v := r.foldl (fun a b => if b.2.used < a.2.used then b else a) m
        ((s.invalidate v.1 v.2.holders).setDirEntry v.1 none).count48 (Od.directoryBackInvalidations + homeDie (line * 64))

/-- Put a store into a line's data. -/
def storeInto (data : Bytes) : Option (Nat × Bytes) → Bytes
  | none => data
  | some (o, b) => (splice data o b).take 64

/-- Give a line to a core: in state `st` with data, the directory recording the holders. -/
def State.grant (s : State) (core line st : Nat) (data : Bytes) (holders : List Nat) : State :=
  let t := (s.makeRoom line).setCacheLine core line (some ⟨st, data⟩)
  (t.setDirEntry line (some ⟨st != 1, holders, s.gtc⟩)).consumePoison core line

/-- Other holders of a line. -/
def DirEntry.others (e : DirEntry) (core : Nat) : List Nat := e.holders.filter (· != core)

/-- Serve one request at the home directory (Table 15-6). A request that finds another core in Owned waits for the
answer to its snoop. -/
def State.serve (s : State) (r : DirReq) : State :=
  match s.dirEntry r.line with
  | none =>
    (match r.kind with
    | 0 => s.grant r.core r.line 2 (s.lineOf r.line) [r.core]
    | 1 => (s.grant r.core r.line 2 (s.lineOf r.line) [r.core])
    | 2 => s.emit (.readData (ofLE (s.lineOf r.line)))
    | _ => s.hbmWrite (r.line * 64 + r.offset) r.data)
  | some e =>
    let other := e.others r.core
    if e.owned ∧ other ≠ [] ∧ ¬ (r.kind = 3 ∧ r.data.length = 64) then
      s.setWaiting (s.mem.waiting ++ [{ r with snooped := other.headD 0 + 1 }])
    else match r.kind with
      | 0 =>
        if e.holders.contains r.core then s
        else s.grant r.core r.line 1 (s.lineOf r.line) (e.holders ++ [r.core])
      | 1 =>
        let t := s.invalidate r.line other
        let data := match s.cacheLine r.core r.line with | some x => x.data | none => t.lineOf r.line
        t.grant r.core r.line 2 data [r.core]
      | 2 => s.emit (.readData (ofLE (s.lineOf r.line)))
      | _ => ((s.invalidate r.line e.holders).setDirEntry r.line none).hbmWrite (r.line * 64 + r.offset) r.data

/-- A store into a line that the core holds exclusively: the line is then in M. -/
def State.coreStore (s : State) (core line : Nat) (st : Option (Nat × Bytes)) : State :=
  match st, s.cacheLine core line with
  | some w, some x => if x.st = 1 then s else s.setCacheLine core line (some ⟨3, storeInto x.data (some w)⟩)
  | _, _ => s

/-- Requests for the line that queue behind one that waits (R559). -/
def State.lineBusy (s : State) (line : Nat) : Bool := s.mem.waiting.any fun r => r.line == line

/-- A request arrives at the home directory: it is queued while another on its line is not complete (R559). A core
sends none while its write-back of the line is not acknowledged (R560). It wakes the line's HBM stack and its L3 (R56). -/
def State.request (s : State) (r : DirReq) : State :=
  let s := (s.setAsleep .hbmStack (stackOf (64 * r.line)) false).setAsleep .l3Bank (homeDie (64 * r.line)) false
  if r.kind ≤ 1 ∧ (s.writeback r.core r.line).isSome then s
  else if s.lineBusy r.line then s.setWaiting (s.mem.waiting ++ [r])
  else s.serve r

/-- Serve the queued requests of a line, oldest first, until one waits for a snoop. -/
def State.serveQueued : Nat → Nat → State → State
  | 0, _, s => s
  | n + 1, line, s =>
    match s.mem.waiting.find? (fun r => r.line == line) with
    | none => s
    | some r =>
      if r.snooped ≠ 0 then s
      else State.serveQueued n line ((s.setWaiting (s.mem.waiting.erase r)).serve r)

def execReadShared (core : Fin 16) (line : Nat) (s : State) : Res :=
  .next (s.request ⟨line, 0, core.val, 0, 0, []⟩)

def execReadUnique (core : Fin 16) (line : Nat) (store : Option (Nat × Bytes)) (s : State) : Res :=
  .next ((s.request ⟨line, 1, core.val, 0, 0, []⟩).coreStore core.val line store)

/-- An Upgrade by a core that holds S: every other holder is invalidated. A copy that was invalidated meanwhile makes
it a ReadUnique (Table 15-6). -/
def upgrade (core line : Nat) (store : Option (Nat × Bytes)) (s : State) : State :=
  (s.request ⟨line, 1, core, 0, 0, []⟩).coreStore core line store

def execUpgrade (core : Fin 16) (line : Nat) (store : Option (Nat × Bytes)) (s : State) : Res :=
  .next (upgrade core.val line store s)

/-- Take a core out of a line's holders. -/
def State.dropHolder (s : State) (core line : Nat) : State :=
  match s.dirEntry line with
  | none => s
  | some e =>
    let h := e.others core
    s.setDirEntry line (if h.isEmpty then none else some { e with holders := h, owned := false })

/-- A Writeback: sent, the dirty line moves into the core's write-back buffer; arrived at the directory, its data go to
HBM, the holder leaves the entry and the buffer is freed by WritebackAck (R560, Table 15-6). -/
def writebackMsg (core line : Nat) (arrived : Bool) (s : State) : State :=
  if arrived then
    match s.writeback core line with
    | none => s
    | some data =>
      if s.mem.waiting.any (fun r => r.line == line && r.snooped == core + 1) then s
      else ((s.hbmWrite (line * 64) data).setWriteback core line none).dropHolder core line
  else match s.cacheLine core line with
    | some x => if x.st = 3 then (s.setCacheLine core line none).setWriteback core line (some x.data) else s
    | none => s

def execWriteback (core : Fin 16) (line : Nat) (arrived : Bool) (s : State) : Res :=
  .next (writebackMsg core.val line arrived s)

/-- A CleanEvict: sent, the clean line leaves the core's caches; arrived, the holder leaves the entry (Table 15-6). -/
def cleanEvict (core line : Nat) (arrived : Bool) (s : State) : State :=
  if arrived then
    (if (s.cacheLine core line).isNone ∧ (s.writeback core line).isNone then s.dropHolder core line else s)
  else match s.cacheLine core line with
    | some x => if x.st = 3 then s else s.setCacheLine core line none
    | none => s

def execCleanEvict (core : Fin 16) (line : Nat) (arrived : Bool) (s : State) : Res :=
  .next (cleanEvict core.val line arrived s)

def execIoRead (line : Nat) (s : State) : Res := .next (s.request ⟨line, 2, 16, 0, 0, []⟩)

/-- An I/O agent writes a line or a part of it (Table 15-6). -/
def ioWrite (line offset : Nat) (data : Bytes) (s : State) : State :=
  s.request ⟨line, 3, 16, 0, offset % 64, data.take (64 - offset % 64)⟩

def execIoWrite (line offset : Nat) (data : Bytes) (s : State) : Res := .next (ioWrite line offset data s)

/-- Finish a request from the current value of its line, the snooped core having answered. -/
def State.finish (s : State) (r : DirReq) (kept : Bool) : State :=
  let snooped := r.snooped - 1
  match r.kind with
  | 0 =>
    if kept then s.grant r.core r.line 1 (s.lineOf r.line) [snooped, r.core]
    else s.grant r.core r.line 2 (s.lineOf r.line) [r.core]
  | 1 => s.grant r.core r.line 2 (s.lineOf r.line) [r.core]
  | 2 => (s.setDirEntry r.line (if kept then some ⟨false, [snooped], s.gtc⟩ else none)).emit
      (.readData (ofLE (s.lineOf r.line)))
  | _ => (s.setDirEntry r.line none).hbmWrite (r.line * 64 + r.offset) r.data

/-- A snoop reaches a core (R561, R562): the core answers with its data, WritebackInFlight, or NotHeld, and the waiting
request completes. -/
def snoop (core line : Nat) (s : State) : State :=
  match s.mem.waiting.find? (fun r => r.line == line && r.snooped == core + 1) with
  | none => s
  | some r =>
    let t := s.setWaiting (s.mem.waiting.erase r)
    let n := s.mem.waiting.length
    match s.writeback core line, s.cacheLine core line with
    | some data, _ =>
      let t := ((t.hbmWrite (line * 64) data).setWriteback core line none).count48
        (Od.coherenceCrossings + homeDie (line * 64))
      State.serveQueued n line (t.finish r false)
    | none, some x =>
      let t := t.flushLine line x
      let keep := r.kind = 0 ∨ r.kind = 2
      let t := t.setCacheLine core line (if keep then some ⟨1, x.data⟩ else none)
      State.serveQueued n line (t.finish r (decide keep))
    | none, none => State.serveQueued n line (t.finish r false)

def execSnoop (core : Fin 16) (line : Nat) (s : State) : Res := .next (snoop core.val line s)

/-! ### Memory errors and scrubbing -/

/-- A word with an uncorrectable error is poisoned, counted and reported (R565). -/
def eccError (addr : Nat) (l3 : Bool) (s : State) : State :=
  let t := { s with mem := { s.mem with poison := tabSet false s.mem.poison (addr / 8) true } }
  if l3 then (t.count32 (Od.l3Uncorrectable + homeDie addr)).raiseOcc (0xC18 + homeDie addr) 0x89 (1 + homeDie addr) 1 addr
  else (t.count32 (Od.hbmUncorrectable + stackOf addr)).raiseOcc (0xC14 + stackOf addr) 0x0A (addr / 0x200000) 1 addr

def execHbmEccError (addr : Nat) (l3 : Bool) (s : State) : Res := .next (eccError addr l3 s)

/-- A single flipped bit is corrected and counted, in check bits too (R564). -/
def eccCorrected (addr : Nat) (l3 checkBit : Bool) (s : State) : State :=
  let k := if l3 then homeDie addr else stackOf addr
  let t := s.count32 ((if l3 then Od.l3Corrected else Od.hbmCorrected) + k)
  if checkBit then t.count32 ((if l3 then Od.l3CheckBitCorrected else Od.hbmCheckBitCorrected) + k) else t

def execHbmEccCorrected (addr : Nat) (l3 checkBit : Bool) (s : State) : Res := .next (eccCorrected addr l3 checkBit s)

/-- An uncorrectable directory entry is rebuilt by snooping every cache of both C-dies (R566). -/
def directoryEccError (line : Nat) (s : State) : State :=
  let held := (numbersFrom 0 16).filter fun c => (s.cacheLine c line).isSome
  let owned := held.any fun c => match s.cacheLine c line with | some x => x.st != 1 | none => false
  let t := s.setDirEntry line (if held.isEmpty then none else some ⟨owned, held, s.gtc⟩)
  (t.count32 (Od.directoryRecovered + homeDie (line * 64))).raiseOcc (0xC10 + homeDie (line * 64)) 0x89
    (1 + homeDie (line * 64)) 1 (line * 64)

def execDirectoryEccError (line : Nat) (s : State) : Res := .next (directoryEccError line s)

/-- One HBM scrub pass over the next 128 pages of the rotation; a poisoned word sets ErrorSeen of its page (R565,
R568). -/
def hbmScrubPass (micros : Nat) (s : State) : State :=
  let st := s.mem.scrubNext % 4
  let first := s.mem.scrubNext / 4 % 64 * 512
  let pages := (s.mem.poison.map fun c => c.1 * 8 / 0x200000).filter fun p =>
    p % 4 == st && decide (first ≤ p) && decide (p < first + 512)
  let seen := pages.foldl (fun e p => tabSet false e p true) s.mem.errorSeen
  let t := { s with mem := { s.mem with scrubNext := (s.mem.scrubNext + 1) % 256, errorSeen := seen } }
  let t := t.setNum (Od.hbmScrubPassTime + st) (sat32 micros)
  if 100000 < micros then t.raiseOcc (0xC14 + st) 0x0A first 2 micros else t

def execHbmScrubPass (micros : Nat) (s : State) : Res := .next (hbmScrubPass micros s)

/-- One L3 scrub pass over the L3 and directory of a C-die (R568). -/
def l3ScrubPass (die micros : Nat) (s : State) : State :=
  if 100000 < micros then s.raiseOcc (0xC18 + die) 0x89 (1 + die) 2 micros else s

def execL3ScrubPass (die : Fin 2) (micros : Nat) (s : State) : Res := .next (l3ScrubPass die.val micros s)

/-- HbmPageInfo of a page (Table 15-10). -/
def State.pageInfo (s : State) (p : Nat) : Nat :=
  s.holderOf 0x0A p + s.pageBinding p * 2 ^ 12 + (if tabGet false s.mem.errorSeen p then 2 ^ 16 else 0)

end Sys2Proof.Machine
end

