-- ==== Sys2Proof/Machine/Net.lean ====
section
/-! DEFINITION. The parts of the network that ports, switch and fabric share: charges, counters, modes and states of
ports, transmit queues, neighbours and the sums of R205 and R206. -/

namespace Sys2Proof.Machine

/-! ### Admitted charges (R637, R638) -/

def fracAdd (a b : Nat × Nat) : Nat × Nat := (a.1 * b.2 + b.1 * a.2, a.2 * b.2)

/-- `a` exceeds `b`. -/
def fracLt (b a : Nat × Nat) : Bool := decide (b.1 * a.2 < a.1 * b.2)

/-- The pond that a charged block belongs to: an instance's own pond, or the pond that holds the item. -/
def State.chargePond (s : State) (key : Nat) : Nat :=
  if key / 2 ^ 24 = 0x81 then key % 2 ^ 24 else s.holderOf (key / 2 ^ 24) (key % 2 ^ 24)

/-- The energy share of a pond in mW; the module pond's is BoardPowerBudget − PlatformReserve. -/
def State.pondShare (s : State) (p : Nat) : Nat :=
  if p = 0xF00 then s.num Od.boardPowerBudget - s.num Od.platformReserve else s.num Od.pondEnergyShare p

/-- The ponds whose parent is `p`. -/
def State.pondChildren (s : State) (p : Nat) : List Nat :=
  s.pond.ponds.filterMap fun x => match x.2 with
    | some r => if r.parent = p then some x.1 else none
    | none => none

/-- The committed sum of a pond: the charges of the blocks it holds directly plus its children's shares. -/
def State.committed (s : State) (p : Nat) : Nat × Nat :=
  let own := (s.pond.charges.filter fun x => s.chargePond x.1 == p).foldl (fun a x => fracAdd a x.2) (0, 1)
  fracAdd own (((s.pondChildren p).map s.pondShare).sum, 1)

def State.charge (s : State) (k n : Nat) : Nat × Nat := tabGet (0, 1) s.pond.charges (itemKey k n)

def State.setCharge (s : State) (k n : Nat) (c : Nat × Nat) : State :=
  { s with pond := { s.pond with charges := tabSet (0, 1) s.pond.charges (itemKey k n) c } }

/-- Charge a block: refused with NoResource when a rise of its charge would exceed the pond's share. -/
def State.admitCharge (s : State) (k n : Nat) (c : Nat × Nat) : Act :=
  let t := s.setCharge k n c
  let p := t.chargePond (itemKey k n)
  if fracLt (s.charge k n) c ∧ fracLt (t.pondShare p, 1) (t.committed p) then .error .noResource else .ok t

/-! ### Counters -/

/-- Add `k` to a 48-bit statistics counter; when bit 47 changes from 0 to 1 an event names it (R184). -/
def State.count48ev (s : State) (id src kind num : Nat) (k : Nat := 1) : State :=
  let new := (s.num id + k) % 2 ^ 48
  let t := s.setNum id new
  if s.num id < 2 ^ 47 ∧ 2 ^ 47 ≤ new then t.raise src (0x3000 + id % 256) kind num (payCounter (id / 256) new) else t

/-- Add to a counter of port `n`. -/
def State.portCount (s : State) (id n : Nat) (k : Nat := 1) : State := s.count48ev (id + 256 * n) n 0x01 n k

/-- Add `k` to the 48-bit counter of 8 octets at place `i` of a BLOB of counters. -/
def State.blobCount (s : State) (id i src kind num : Nat) (k : Nat := 1) : State :=
  let b := s.blob id
  let old := leAt b i 8
  let new := (old + k) % 2 ^ 48
  let t := s.setBlob id (splice b i (toLE 8 new))
  if old < 2 ^ 47 ∧ 2 ^ 47 ≤ new then t.raise src (0x3000 + id % 256) kind num (payCounter (id / 256) new) else t

/-- The places, from number `id` on, of the next `n` objects that hold a value other than their Default. -/
def State.listed (s : State) (id n : Nat) : List Nat :=
  s.dict.values.filterMap fun x =>
    if id * 4096 ≤ x.1 ∧ x.1 < (id + n) * 4096 then some (x.1 / 4096 - id) else none

/-! ### Ports: modes -/

/-- A numeric object of port `n`. -/
def State.pnum (s : State) (id n : Nat) : Nat := s.num (id + 256 * n)

def State.setPnum (s : State) (id n v : Nat) : State := s.setNum (id + 256 * n) v

def State.portAt (s : State) (n : Nat) : PortSt := tabGet .init s.port.ports n

def State.setPort (s : State) (n : Nat) (p : PortSt) : State :=
  { s with port := { s.port with ports := tabSet .init s.port.ports n p } }

/-- The columns of Table 4-1: width, octet family (1 P, 2 N), power per lane in mW, and the FEC codes listed, the default
first (R152). -/
def modeWidth (m : Nat) : Nat := if m = 3 then 2 else if m = 4 then 4 else 1

def modeFamily (m : Nat) : Nat := if m = 0 then 0 else if m ≤ 4 then 1 else 2

def modePower : Nat → Nat
  | 1 | 3 | 4 => 550 | 2 => 380 | 5 => 260 | 6 => 150 | 7 | 8 => 50 | _ => 0

def modeFecs : Nat → List Nat
  | 1 | 2 | 3 | 4 => [3] | 5 => [2, 1, 0] | 6 => [0, 1] | 7 | 8 => [0] | _ => [3, 2, 1, 0]

/-- The MAC rate in force in bit/s (R150, R182). -/
def State.macRate (s : State) (n : Nat) : Nat :=
  match s.pnum Od.portRate n with
  | 1 => 100000000000 | 2 => 50000000000 | 3 => 200000000000 | 4 => 400000000000 | 5 => 25000000000
  | 6 => 10000000000 | 7 => 1000000000 | 8 => (s.portAt n).sgmii * 1000000 | _ => 0

/-- The charge of port `n` running in mode `m` (Table 18-2). -/
def portCharge (m : Nat) : Nat × Nat := (modePower m * modeWidth m, 1)

/-- Port `n` is absorbed by a wider port below it (R149). -/
def State.absorbed (s : State) (n : Nat) : Bool :=
  (n % 2 == 1 && s.pnum Od.portMode (n - 1) == 3)
    || (n % 4 != 0 && s.pnum Od.portMode (n / 4 * 4) == 4)

/-- The lanes of port `n` in mode `m`. -/
def portLanes (n m : Nat) : List Nat := numbersFrom n (modeWidth m)

def State.portEnabled (s : State) (n : Nat) : Bool := s.pnum Od.portEnable n == 1

def State.portState (s : State) (n : Nat) : Nat := s.pnum Od.portState n

/-- Frames pass: Up, or Up with a shift under way (Table 4-2). -/
def State.portUp (s : State) (n : Nat) : Bool := s.portState n == 4 || s.portState n == 8

/-- The lanes of the port are not Off. -/
def State.portLit (s : State) (n : Nat) : Bool :=
  s.portEnabled n && !s.absorbed n && s.portState n != 0 && s.portState n != 1 && s.pnum Od.portMode n != 0

/-- The hamper's shed level (Table 18-9). -/
def State.shedLevel (s : State) : Nat := field (s.num Od.hamperStatus) 25 3

/-- Running port `n` in mode `m` would put both families into its octet; the lanes of every enabled port count
(R151). -/
def State.familyClash (s : State) (n m : Nat) : Bool :=
  (numbersFrom (n / 8 * 8) 8).any fun k =>
    k != n && s.portEnabled k && !s.absorbed k && modeFamily (s.pnum Od.portMode k) != 0 && modeFamily m != 0
      && modeFamily (s.pnum Od.portMode k) != modeFamily m

/-! ### Octets (R151, R190) -/

def State.setPllOff (s : State) (k : Nat) (t : Option Nat) : State :=
  { s with port := { s.port with pllOff := tabSet none s.port.pllOff k t } }

def State.octetLit (s : State) (k : Nat) : Bool := (numbersFrom (8 * k) 8).any s.portLit

/-- OctetFamily of octet `k`: the family of its lanes that are not Off. -/
def State.octetFamilyNow (s : State) (k : Nat) : Nat :=
  match (numbersFrom (8 * k) 8).find? s.portLit with
  | some n => modeFamily (s.pnum Od.portMode n)
  | none => 0

def State.pllState (s : State) (k : Nat) : Nat := s.pnum Od.octetPllState k

/-- Let the octet's PLL run while a lane is not Off, and note when the last one went Off. -/
def State.pllUpdate (s : State) (k : Nat) : State :=
  if s.octetLit k then
    let t := s.setPllOff k none
    if t.pllState k = 0 then t.setPnum Od.octetPllState k 1 else t
  else if s.pllState k = 0 ∨ (tabGet none s.port.pllOff k).isSome then s
  else s.setPllOff k (some s.gtc)

/-! ### Transmit queues and the buffer (R174, R209 to R211) -/

def State.bufEnt (s : State) (id : Nat) : BufEnt := tabGet .init s.sw.buffer id

def State.setBufEnt (s : State) (id : Nat) (b : BufEnt) : State :=
  { s with sw := { s.sw with buffer := tabSet .init s.sw.buffer id b } }

/-- One copy of a buffered frame has left; the last one frees its cells. -/
def State.releaseFrame (s : State) (id : Nat) : State :=
  let b := s.bufEnt id
  s.setBufEnt id (if b.copies ≤ 1 then .init else { b with copies := b.copies - 1 })

def State.cellsUsed (s : State) (reserve : Bool) : Nat :=
  ((s.sw.buffer.filter fun x => x.2.reserve == reserve).map fun x => x.2.cells).sum

def PortSt.queue (p : PortSt) (q : Nat) : List QFrame := tabGet [] p.queues q

def PortSt.setQueue (p : PortSt) (q : Nat) (l : List QFrame) : PortSt :=
  { p with queues := tabSet [] p.queues q l }

def State.enqueue (s : State) (n q : Nat) (f : QFrame) : State :=
  s.setPort n ((s.portAt n).setQueue q ((s.portAt n).queue q ++ [f]))

/-- Discard every queued frame of port `n`, protection included (R161). -/
def State.discardQueues (s : State) (n : Nat) : State :=
  let p := s.portAt n
  let all := (p.queues.map Prod.snd).flatten
  let t := all.foldl (fun u f => u.releaseFrame f.id) s
  let t := t.setPort n { t.portAt n with queues := [], emptyAt := s.gtc }
  if all.isEmpty then t else t.portCount Od.txLinkDownDiscards n all.length

/-! ### The fabric's state and neighbours (R241, R252, R265) -/

def State.nb (s : State) (n : Nat) : Neighbour := tabGet .init s.fab.nbs n

def State.setNb (s : State) (n : Nat) (x : Neighbour) : State :=
  { s with fab := { s.fab with nbs := tabSet .init s.fab.nbs n x } }

def State.fabricOn (s : State) : Bool := s.num Od.fabricEnable == 1

/-- The address held, if any. -/
def State.ownAddress (s : State) : Option Nat :=
  if s.num Od.fabricAddress = 0xFFFF then none else some (s.num Od.fabricAddress)

def State.twoWay (s : State) (n : Nat) : Bool := s.pnum Od.neighbourState n == 2

/-- The ports of PortKind 1. -/
def State.xosynPorts (s : State) : List Nat := (numbersFrom 0 256).filter fun n => s.pnum Od.portKind n == 1

/-- FlowStatus State of a flow, with its event (Table 6-15, R264). -/
def State.flowState (s : State) (f : Nat) : Nat := byteAt (s.blob (Od.flowStatus + f)) 0

def State.setFlowState (s : State) (f st : Nat) : State :=
  let b := s.blob (Od.flowStatus + f)
  let t := s.setBlob (Od.flowStatus + f) (splice b 0 (toLE 1 st))
  if byteAt b 0 = st then t else t.raiseState (0x160 + f / 64) 0x86 f (byteAt b 0) st (byteAt b 3) 0

def State.flowAt (s : State) (f : Nat) : FlowSt := tabGet .init s.fab.flows f

def State.setFlow (s : State) (f : Nat) (x : FlowSt) : State :=
  { s with fab := { s.fab with flows := tabSet .init s.fab.flows f x } }

def State.flowEntry (s : State) (f : Nat) : Bytes := s.blob (Od.flowEntry + f)

def flowEnabled (b : Bytes) : Bool := (byteAt b 4).testBit 0

/-- The enabled flows. -/
def State.flows (s : State) : List Nat := (s.listed Od.flowEntry 1024).filter fun f => flowEnabled (s.flowEntry f)

/-- FabricState by R265: Off, Discovering, Member, Isolated or AddressConflict. -/
def State.fabricStateNow (s : State) : Nat :=
  if !s.fabricOn then 0
  else match s.ownAddress with
    | some _ => if s.xosynPorts.any s.twoWay then 2 else 3
    | none => if s.num Od.fabricState = 4 then 4
        else if s.xosynPorts.any s.portUp ∨ s.num Od.fabricState ≠ 0 then 1 else 0

/-- Change FabricState; a module that leaves Member has its enabled flows wait without paths (R252). -/
def State.setFabricState (s : State) (st : Nat) : State :=
  let old := s.num Od.fabricState
  if old = st then s
  else
    let t := (s.setNum Od.fabricState st).raiseState 0x150 0x80 0 old st 0 0
    if old = 2 then t.flows.foldl (fun u f => (u.setFlow f { u.flowAt f with a := .init, b := .init }).setFlowState f 6) t
    else t

def State.fabricUpdate (s : State) : State := s.setFabricState s.fabricStateNow

/-- The delay of the link of port `n` is measured anew. -/
def State.restartDelay (s : State) (n : Nat) : State :=
  let t := s.setNb n { s.nb n with means := [], outliers := 0, asked := none }
  (t.setPnum Od.linkDelayRx n (2 ^ 63)).setPnum Od.linkDelayTx n (2 ^ 63)

/-- Change NeighbourState of port `n` (R241), with its event; a change of a TwoWay link calls for an Lsa (R244), and
one that leaves TwoWay removes the transit entries that leave through it (R257). -/
def State.setNeighbour (s : State) (n st : Nat) : State :=
  let old := s.pnum Od.neighbourState n
  if old = st then s
  else
    let t := (s.setPnum Od.neighbourState n st).raiseState 0x153 0x01 n old st 0 0
    let t := if old = 2 ∨ st = 2 then { t with fab := { t.fab with lsaDue := true } } else t
    let t := if old = 2 then
        { t with fab := { t.fab with
            transit := t.fab.transit.filter fun x => (match x.2 with
              | some e => e.outPort != some n
              | none => true) } }
      else t
    let t := if st = 0 then (t.setPnum Od.neighbourAddress n 0xFFFF).restartDelay n else t
    t.fabricUpdate

/-! ### Redundancy groups (R231, Table 5-12) -/

def State.gnum (s : State) (id g : Nat) : Nat := s.num (id + 256 * g)

/-- The running redundancy group of port `n`. -/
def State.groupOf (s : State) (n : Nat) : Option Nat :=
  (numbersFrom 0 32).find? fun g =>
    s.gnum Od.redMode g != 0 && (s.gnum Od.redPortA g == n || s.gnum Od.redPortB g == n)

/-- Bring RedState of group `g` up to date. -/
def State.redUpdate (s : State) (g : Nat) : State :=
  let new := if s.gnum Od.redMode g = 0 then 0
    else match s.portUp (s.gnum Od.redPortA g), s.portUp (s.gnum Od.redPortB g) with
      | true, true => 1 | true, false => 2 | false, true => 3 | false, false => 4
  let old := s.gnum Od.redState g
  if old = new then s
  else (s.setNum (Od.redState + 256 * g) new).raiseState (0x110 + g) 0x85 g old new 0 0

/-- The groups that name port `n`. -/
def State.redUpdatePort (s : State) (n : Nat) : State :=
  match s.groupOf n with
  | some g => s.redUpdate g
  | none => s

/-! ### Port states (Table 4-2) -/

/-- The bring-up bound of Table 4-3 in ns for port `n` from a state in which its lanes may be Off. -/
def State.bringUpBound (s : State) (n : Nat) : Nat :=
  let m := s.pnum Od.portMode n
  let base := if m = 1 ∧ s.pnum Od.portKind n = 1 ∧ s.pnum Od.downshiftEnable n = 1 then 800000000
    else if m ≤ 4 then 500000000 else if m ≤ 6 then 300000000 else 20000000
  base + (if s.pllState (n / 8) = 2 then 0 else 500000)

/-- PortFaultFlags: LocalFault, RemoteFault and NoSignal follow the state; FecDegraded is kept. -/
def faultFlags (old st : Nat) : Nat :=
  (if old.testBit 2 then 4 else 0) + (if st = 5 then 1 else 0) + (if st = 6 then 2 else 0) + (if st = 2 then 8 else 0)

/-- Enter a port state (R159) with its event (R191). -/
def State.enterPortState (s : State) (n st : Nat) : State :=
  let old := s.portState n
  if old = st then s
  else
    let t := s.setPnum Od.portState n st
    let t := t.setPnum Od.portFaultFlags n (faultFlags (s.pnum Od.portFaultFlags n) st)
    let t := t.setPort n { t.portAt n with since := s.gtc }
    let t := t.raiseState n 0x01 n old st 0 0
    (t.pllUpdate (n / 8)).redUpdatePort n

/-- Start training: the bound of Table 4-3 is taken as the octet stands now. -/
def State.startTraining (s : State) (n : Nat) : State :=
  let b := s.bringUpBound n
  let t := s.enterPortState n 3
  t.setPort n { t.portAt n with trainAt := s.gtc, bound := b }

/-- Learned entries of port `n` are removed; static ones stay (R217). -/
def State.flushLearned (s : State) (n : Nat) : State :=
  { s with sw := { s.sw with macs := s.sw.macs.filter fun x => x.2.port != n || x.2.static.isSome } }

/-- Port `n` leaves Up for state `st` (R160, R161, R217, R241): its queued frames are discarded, its learned entries
removed, its neighbour is Down and its shift ends. -/
def State.leaveUp (s : State) (n st : Nat) : State :=
  if s.portUp n then
    let t := s.enterPortState n st
    let t := (t.count32 (Od.linkDownCount + 256 * n)).discardQueues n
    let q := (t.portAt n).shift.quietUntil
    let t := t.setPort n { t.portAt n with
      lpi := false, traffic := [], shift := { ShiftSt.init with quietUntil := q, nextTxn := (t.portAt n).shift.nextTxn } }
    let t := (t.flushLearned n).setNeighbour n 0
    t.setPnum Od.portRate n (t.pnum Od.portMode n)
  else s.enterPortState n st

/-- Start bring-up of an enabled port (R163, R165): Held at shed level 1 and above without PortProtection. -/
def State.bringUp (s : State) (n : Nat) : State :=
  let t := (s.leaveUp n 3).setPnum Od.portRate n (s.pnum Od.portMode n)
  if 1 ≤ t.shedLevel ∧ t.pnum Od.portProtection n = 0 then t.enterPortState n 1 else t.startTraining n

/-! ### Stream table entries (Table 5-4) and the sums of R205 and R206 -/

def State.streamEntry (s : State) (e : Nat) : Bytes := s.blob (Od.streamEntry + e)

def seIdent (b : Bytes) : Nat := leAt b 0 2
def seClass (b : Bytes) : Nat := byteAt b 2
def seAdmitted (b : Bytes) : Bool := (byteAt b 3).testBit 0
def seCopy (b : Bytes) : Bool := (byteAt b 3).testBit 1
def seHigh (b : Bytes) : Bool := (byteAt b 3).testBit 2
def seMatchVlan (b : Bytes) : Bool := (byteAt b 3).testBit 3
def seDest (b : Bytes) : Nat := beAt b 4 6
def seVlan (b : Bytes) : Nat := leAt b 10 2 % 4096
def seIn (b : Bytes) : Nat := leAt b 12 2
def seAlt (b : Bytes) : Nat := leAt b 14 2
def seRate (b : Bytes) : Nat := leAt b 16 4
def seBurst (b : Bytes) : Nat := leAt b 20 4

/-- Bit `n` of a mask of ports that begins at place `i` of a BLOB. -/
def maskBit (b : Bytes) (i n : Nat) : Bool := (byteAt b (i + n / 8)).testBit (n % 8)

/-- The ports of a mask at place `i`. -/
def maskPorts (b : Bytes) (i : Nat) : List Nat := (numbersFrom 0 256).filter fun n => maskBit b i n

def seEgress (b : Bytes) (n : Nat) : Bool := maskBit b 28 n

/-- The admitted entries. -/
def State.admitted (s : State) : List Nat :=
  (s.listed Od.streamEntry 2048).filter fun e => seAdmitted (s.streamEntry e)

/-- The 20 Mbit/s of fabric control on a port of PortKind 1 (R261). -/
def State.controlBandwidth (s : State) (n : Nat) : Nat :=
  if s.fabricOn && s.pnum Od.portKind n == 1 then 20000000 else 0

def sumRates (l : List (Nat × Option Transit)) (f : Transit → Bool) : Nat :=
  (l.map fun x => match x.2 with
    | some t => if f t then t.rate else 0
    | none => 0).sum

/-- AdmittedRxBandwidth of port `n` (R205, R253, R261). -/
def State.rxBandwidth (s : State) (n : Nat) : Nat :=
  ((s.admitted.filter fun e => seIn (s.streamEntry e) == n || seAlt (s.streamEntry e) == n).map
      fun e => seRate (s.streamEntry e)).sum
    + sumRates s.fab.transit (fun t => t.inPort == n) + sumRates s.fab.arrivals (fun t => t.inPort == n)
    + s.controlBandwidth n

/-- A path that is being set up or is up leaves through port `n`. -/
def PathSt.uses (p : PathSt) (n : Nat) : Bool := (p.st == 1 || p.st == 2) && p.port == n

/-- FlowRate and FlowBurst of a FlowEntry (Table 6-7). -/
def feRate (b : Bytes) : Nat := leAt b 8 4
def feBurst (b : Bytes) : Nat := leAt b 12 4

/-- AdmittedTxBandwidth of port `n`. -/
def State.txBandwidth (s : State) (n : Nat) : Nat :=
  ((s.admitted.filter fun e => seEgress (s.streamEntry e) n).map fun e => seRate (s.streamEntry e)).sum
    + sumRates s.fab.transit (fun t => t.outPort == some n)
    + (s.flows.map fun f => (if (s.flowAt f).a.uses n then feRate (s.flowEntry f) else 0)
        + (if (s.flowAt f).b.uses n then feRate (s.flowEntry f) else 0)).sum
    + s.controlBandwidth n

/-- The path is being set up or is up. -/
def PathSt.live (p : PathSt) : Bool := p.st == 1 || p.st == 2

/-- ReserveCharged (R206, R253, R261). -/
def State.reserveCharged (s : State) : Nat :=
  (s.admitted.map fun e => 2 * seBurst (s.streamEntry e)).sum
    + (s.fab.transit.map fun x => match x.2 with
        | some t => 2 * t.burst
        | none => 0).sum
    + (s.flows.map fun f => if (s.flowAt f).a.live || (s.flowAt f).b.live then 2 * feBurst (s.flowEntry f) else 0).sum
    + (if s.fabricOn then 65536 else 0)

/-- The port limit of R205 in bit/s for a MAC rate. -/
def State.portLimit (s : State) (rate : Nat) : Nat := rate * s.num Od.protectionShare / 100

/-! ### What feeds a running instance (R168) -/

/-- Slot `i` of a stream's channel map (R273). -/
def State.mapSlot (s : State) (e i : Nat) : Nat := leAt (s.blob (Od.intakeChannelMap + e)) (2 * i) 2

/-- RateCode of a stream (Table 7-3): class 3 from 4 on. -/
def State.streamRateCode (s : State) (e : Nat) : Nat := byteAt (s.blob (Od.intakeStreamConfig + e)) 1

def State.slotKind (s : State) (e : Nat) : Nat := if 4 ≤ s.streamRateCode e then 0x04 else 0x03

/-- The mapped slots of a stream, with their place in the map. -/
def State.mappedSlots (s : State) (e : Nat) : List (Nat × Nat) :=
  ((numbersFrom 0 32).map fun i => (i, s.mapSlot e i)).filter fun x => x.2 != 0xFFFF

def State.bound (s : State) (e : Nat) : Bool := (tabGet none s.intake.streams e).isSome

/-- The instance whose pond holds an item, directly or in a user pond. -/
def State.itemInstance (s : State) (kind n : Nat) : Option Nat := s.pondInstance (s.holderOf kind n)

/-- The item belongs to a running instance. -/
def State.itemRunning (s : State) (kind n : Nat) : Bool :=
  match s.itemInstance kind n with
  | some i => s.instRunning i
  | none => false

/-- A mapped slot of bound stream `e` is read by a running instance. -/
def State.streamRead (s : State) (e : Nat) : Bool :=
  s.bound e && (s.mappedSlots e).any fun x => s.itemRunning (s.slotKind e) x.2

/-- Entry `e` feeds a running instance: through its grid slots, or as a GOOSE copy to the instance that holds it. -/
def State.streamFeeds (s : State) (e : Nat) : Bool :=
  s.streamRead e || (seClass (s.streamEntry e) == 2 && seCopy (s.streamEntry e) && s.itemRunning 0x02 e)

/-- The path of an installed protection flow goes through port `n`. -/
def State.flowThrough (s : State) (n : Nat) : Bool :=
  s.flows.any (fun f => ((s.flowAt f).a.st == 2 && (s.flowAt f).a.port == n)
      || ((s.flowAt f).b.st == 2 && (s.flowAt f).b.port == n))
    || s.fab.transit.any (fun x => match x.2 with
        | some t => t.inPort == n || t.outPort == some n
        | none => false)
    || s.fab.arrivals.any (fun x => match x.2 with
        | some t => t.inPort == n
        | none => false)

/-- Port `n` carries the pair link of a running instance (R168). -/
def State.pairLinkInUse (s : State) (n : Nat) : Bool :=
  s.num Od.pairEnable == 1 && (s.num Od.pairPortA == n || s.num Od.pairPortB == n)
    && s.inst.present.any fun i => s.instRunning i && s.num Od.pairMember i == 1

/-- The lane items of port `n` are in use (R168). -/
def State.portInUse (s : State) (n : Nat) : Bool :=
  s.portUp n
    && (s.admitted.any (fun e => s.streamFeeds e
          && (seIn (s.streamEntry e) == n || seAlt (s.streamEntry e) == n || seEgress (s.streamEntry e) n))
        || s.pairLinkInUse n || s.flowThrough n)

/-- A Tenant reaches a port only while its instance pond, or a user pond inside it, holds the port's lanes (R155). -/
def State.tenantHolds (s : State) (who : Caller) (kind n : Nat) : Bool :=
  who.role != .tenant || s.inInstance who.inst (s.holderOf kind n)

def State.tenantPort (s : State) (who : Caller) (n : Nat) : Bool :=
  (portLanes n (s.pnum Od.portMode n)).all fun l => s.tenantHolds who 0x01 l

end Sys2Proof.Machine
end

