-- ==== Sys2Proof/Machine/Frames.lean ====
section
/-! DEFINITION. Frames on the wire: check sequences, headers, and the frames that the module itself sends. -/

namespace Sys2Proof.Machine

/-! ### Cyclic redundancy checks -/

/-- Eight steps of a reflected CRC of 32 bits. -/
def crcBits (poly : Nat) : Nat → Nat → Nat
  | 0, c => c
  | k + 1, c => crcBits poly k (if c % 2 = 1 then (c / 2) ^^^ poly else c / 2)

/-- The reflected CRC of 32 bits over octets, with all-ones start and final complement. -/
def crcOver (poly : Nat) (b : Bytes) : Nat :=
  b.foldl (fun c x => crcBits poly 8 (c ^^^ x.toNat)) 0xFFFFFFFF ^^^ 0xFFFFFFFF

/-- The CRC of the frame check sequence (IEEE 802.3). -/
def crc32 (b : Bytes) : Nat := crcOver 0xEDB88320 b

/-- CRC-32C (R84, R213). -/
def crc32c (b : Bytes) : Nat := crcOver 0x82F63B78 b

/-- The octets with their frame check sequence. -/
def withFcs (b : Bytes) : Bytes := b ++ toLE 4 (crc32 b)

def fcsGood (b : Bytes) : Bool := decide (4 ≤ b.length) && toLE 4 (crc32 (b.take (b.length - 4))) == b.drop (b.length - 4)

/-! ### Headers -/

/-- What stages 3 and 5 read of a frame (R195): addresses, at most one IEEE 802.1Q tag, the EtherType behind it and the
place of its payload. -/
structure Frame where
  dst : Nat
  src : Nat
  tagged : Bool
  pcp : Nat
  vid : Nat
  etype : Nat
  body : Nat
  deriving DecidableEq, Repr

def parseFrame (o : Bytes) : Frame :=
  if beAt o 12 2 = 0x8100 then
    ⟨beAt o 0 6, beAt o 6 6, true, beAt o 14 2 / 2 ^ 13, beAt o 14 2 % 4096, beAt o 16 2, 18⟩
  else ⟨beAt o 0 6, beAt o 6 6, false, 0, 0, beAt o 12 2, 14⟩

/-- A group address: bit 0 of its first octet is 1. -/
def isGroup (a : Nat) : Bool := a.testBit 40

def broadcastAddress : Nat := 0xFFFFFFFFFFFF

/-- The frame without its tag, with a new FCS. -/
def untagFrame (o : Bytes) : Bytes := withFcs (o.take 12 ++ (o.take (o.length - 4)).drop 16)

/-- The frame with a tag of priority `pcp` and VLAN `vid`, with a new FCS. -/
def tagFrame (o : Bytes) (pcp vid : Nat) : Bytes :=
  withFcs (o.take 12 ++ toBE 2 0x8100 ++ toBE 2 (pcp * 2 ^ 13 + vid) ++ (o.take (o.length - 4)).drop 12)

/-- The octets without FCS, padded with zeros to 60. -/
def padFrame (b : Bytes) : Bytes := b ++ List.replicate (60 - b.length) 0

/-- The source address of frames that the module sends on port `n`. -/
def State.portMac (s : State) (n : Nat) : Nat := s.pnum Od.portMacAddress n % 2 ^ 48

/-! ### Xosyn frames (Table 6-1) -/

def xosynDst : Nat := 0x034B58000000

def boolNat (b : Bool) : Nat := if b then 1 else 0

def encodeHead (h : XosynHead) (kind : Nat) : Bytes :=
  toBE 1 (0x10 + kind)
    ++ toBE 1 (boolNat h.protection * 128 + boolNat h.pathB * 64 + boolNat h.delayValid * 32 + boolNat h.broadcast * 16
        + h.priority % 8 * 2 + boolNat h.unassigned)
    ++ toBE 2 (h.hopsLeft % 16 * 4096 + h.destination % 4096) ++ toBE 2 (h.source % 4096) ++ toBE 2 h.flow
    ++ toBE 4 h.sequence ++ toBE 4 h.pathDelay

/-- The header of an untagged Xosyn frame. -/
def decodeXosyn (o : Bytes) : XosynHead :=
  let f := beAt o 15 1
  { protection := f.testBit 7, pathB := f.testBit 6, delayValid := f.testBit 5, broadcast := f.testBit 4,
    priority := f / 2 % 8, unassigned := f.testBit 0, hopsLeft := beAt o 16 2 / 4096,
    destination := beAt o 16 2 % 4096, source := beAt o 18 2 % 4096, flow := beAt o 20 2,
    sequence := beAt o 22 4, pathDelay := beAt o 26 4 }

def xosynVersion (o : Bytes) : Nat := beAt o 14 1 / 16
def xosynKind (o : Bytes) : Nat := beAt o 14 1 % 16

/-- A whole Xosyn frame of port `n`. -/
def State.xosynFrame (s : State) (n kind : Nat) (h : XosynHead) (body : Bytes) : Bytes :=
  withFcs (padFrame (toBE 6 xosynDst ++ toBE 6 (s.portMac n) ++ toBE 2 0x88B6 ++ encodeHead h kind ++ body))

/-- The next Sequence of a Kind and Flow. -/
def State.xosynSeq (s : State) (kind flow : Nat) : Nat := tabGet 0 s.fab.seqs (kind * 2 ^ 16 + flow)

def State.bumpSeq (s : State) (kind flow : Nat) : State :=
  { s with fab := { s.fab with
      seqs := tabSet 0 s.fab.seqs (kind * 2 ^ 16 + flow) ((s.xosynSeq kind flow + 1) % 2 ^ 32) } }

/-- The header of a frame that this module originates: PathDelay 0 and DelayValid 1 at departure (R251). -/
def State.originHead (s : State) (kind flow dest : Nat) (bcast pathB : Bool) : XosynHead :=
  { protection := kind != 0xC, pathB := pathB, delayValid := true, broadcast := bcast, priority := 0,
    unassigned := s.ownAddress.isNone, hopsLeft := s.num Od.hopLimit, destination := dest,
    source := s.ownAddress.getD 0, flow := flow, sequence := s.xosynSeq kind flow, pathDelay := 0 }

/-- The transmit queue of a kind (Table 6-2); `prio` is the priority of kinds that state their own. -/
def xosynQueue (kind prio : Nat) : Nat :=
  match kind with
  | 0x8 | 0xA | 0xB => 7
  | 0x7 | 0xC => prio
  | _ => 6

/-- Queue a Xosyn frame of this module on port `n`, if the port is Up. -/
def State.sendXosyn (s : State) (n kind : Nat) (h : XosynHead) (body : Bytes) (fix : OneStep := .none) (prio : Nat := 6) :
    State :=
  if s.portUp n then s.enqueue n (xosynQueue kind prio) ⟨0, s.xosynFrame n kind h body, false, s.gtc, fix⟩ else s

/-- Send a link-layer message on port `n`. -/
def State.sendLink (s : State) (n kind flow : Nat) (body : Bytes) (fix : OneStep := .none) : State :=
  (s.sendXosyn n kind (s.originHead kind flow 0 false false) body fix).bumpSeq kind flow

/-- Broadcast a message of this module on every TwoWay port but `skip`. -/
def State.sendBroadcast (s : State) (kind flow : Nat) (body : Bytes) (fix : OneStep := .none) : State :=
  let h := s.originHead kind flow 0 true false
  (s.xosynPorts.foldl (fun u n => if u.twoWay n then u.sendXosyn n kind h body fix 7 else u) s).bumpSeq kind flow

end Sys2Proof.Machine
end

