-- ==== Sys2Proof/Machine/Ports.lean ====
section
/-! DEFINITION. Lanes, ports and MACs (Chapter 4), but for the receive path. -/

namespace Sys2Proof.Machine

/-! ### Configuration -/

/-- The checks that the objects of a port share: a Tenant holds its lanes (R155), and it is not absorbed (R149). -/
def State.checkPort (s : State) (who : Caller) (n : Nat) : Except Code Unit := do
  need (s.tenantPort who n) .notOwner
  need (!s.absorbed n) .precondition

/-- The chapter's checks of PortEnable (R151, R156, R168). -/
def State.checkPortEnable (s : State) (who : Caller) (n value : Nat) : Except Code Unit := do
  need (decide (value ≤ 1)) .outOfRange
  s.checkPort who n
  let m := s.pnum Od.portMode n
  if value = 1 then
    need (!s.familyClash n m) .precondition
    let _ ← s.admitCharge 0x01 n (portCharge m)
    .ok ()
  else need (!s.portInUse n) .precondition

/-- PortEnable in force. Enabling fills the policer buckets of the port (R222). -/
def State.applyPortEnable (s : State) (n value : Nat) : State :=
  if s.pnum Od.portEnable n = value then s
  else if value = 1 then
    let t := (s.setPnum Od.portEnable n 1).setCharge 0x01 n (portCharge (s.pnum Od.portMode n))
    let full (b : Nat) : Bucket := ⟨(b * 8000000000 : Nat), s.gtc⟩
    let t := { t with sw := { t.sw with
      buckets := tabSet .init (tabSet .init t.sw.buckets (0x1000 + n) (full (t.pnum Od.policerBurst n)))
        (0x2000 + n) (full (t.pnum Od.floodBurst n)) } }
    if t.pnum Od.portMode n = 0 then t else t.bringUp n
  else
    let t := s.leaveUp n 0
    let t := (t.setPnum Od.portEnable n 0).setCharge 0x01 n (0, 1)
    let t := t.setPort n { t.portAt n with resetting := false }
    ((t.setPnum Od.portRate n 0).setPnum Od.portFaultFlags n 0).pllUpdate (n / 8)

def portEnableWrite (who : Caller) (n value : Nat) (s : State) : Act := do
  let _ ← s.gate who (Od.portEnable + 256 * n) false 0 (.num value)
  s.checkPortEnable who n value
  .ok ((s.applyPortEnable n value).bumpVersion (Od.portEnable + 256 * n) 0)

def execPortEnable (who : Caller) (n : Fin 256) (value : Nat) (s : State) : Res :=
  .next (s.answer who (portEnableWrite who n.val value s))

/-- The chapter's checks of PortMode (R149, R151, R153, R156). -/
def State.checkPortMode (s : State) (who : Caller) (n value : Nat) : Except Code Unit := do
  need (decide (value ≤ 8) && n % modeWidth value == 0) .outOfRange
  let lanes := portLanes n value
  need (lanes.all fun l => s.holderOf 0x01 l == s.holderOf 0x01 n) .notOwner
  need (lanes.all fun l => s.tenantHolds who 0x01 l) .notOwner
  need (lanes.all fun l => l == n || !s.portEnabled l) .busy
  need (!s.absorbed n) .precondition
  if s.portEnabled n then
    need (!s.familyClash n value) .precondition
    let _ ← s.admitCharge 0x01 n (portCharge value)
    .ok ()
  else .ok ()

/-- PortMode in force: the FEC it implies (R152), the ports it absorbs or lets go (R149), and, on an enabled port,
bring-up in the new mode. -/
def State.applyPortMode (s : State) (n value : Nat) : State :=
  let old := s.pnum Od.portMode n
  let t := if s.portEnabled n then s.leaveUp n 3 else s
  let t := t.setPnum Od.portMode n value
  let fec := t.pnum Od.portFec n
  let t := if (modeFecs value).contains fec then t else t.setPnum Od.portFec n ((modeFecs value).headD 0)
  let t := ((portLanes n old ++ portLanes n value).filter fun l => l != n).foldl (fun u l =>
      if u.absorbed l then u.enterPortState l 7
      else if u.portState l = 7 then u.enterPortState l 0 else u) t
  if t.portEnabled n then
    let t := t.setCharge 0x01 n (portCharge value)
    if value = 0 then (t.enterPortState n 0).pllUpdate (n / 8) else t.bringUp n
  else t

/-- Put PortMode: the object is not live-safe, so an enabled port refuses it with Busy (R77). -/
def portModeWrite (who : Caller) (n value : Nat) (s : State) : Act := do
  let _ ← s.gate who (Od.portMode + 256 * n) false 0 (.num value)
  need (!s.portEnabled n) .busy
  s.checkPortMode who n value
  .ok ((s.applyPortMode n value).bumpVersion (Od.portMode + 256 * n) 0)

def execPortMode (who : Caller) (n : Fin 256) (value : Nat) (s : State) : Res :=
  .next (s.answer who (portModeWrite who n.val value s))

/-- The chapter's checks of PortFec against a mode (R152). -/
def State.checkPortFec (s : State) (who : Caller) (n mode value : Nat) : Except Code Unit := do
  need (decide (value ≤ 3) && (modeFecs mode).contains value) .outOfRange
  s.checkPort who n

def State.applyPortFec (s : State) (n value : Nat) : State :=
  let t := s.setPnum Od.portFec n value
  if t.portEnabled n && t.pnum Od.portMode n != 0 then t.bringUp n else t

def portFecWrite (who : Caller) (n value : Nat) (s : State) : Act := do
  let _ ← s.gate who (Od.portFec + 256 * n) false 0 (.num value)
  need (!s.portEnabled n) .busy
  s.checkPortFec who n (s.pnum Od.portMode n) value
  .ok ((s.applyPortFec n value).bumpVersion (Od.portFec + 256 * n) 0)

def execPortFec (who : Caller) (n : Fin 256) (value : Nat) (s : State) : Res :=
  .next (s.answer who (portFecWrite who n.val value s))

/-! ### Link states -/

/-- LinkUpHold in ns. -/
def State.linkUpHold (s : State) (n : Nat) : Nat := s.pnum Od.linkUpHold n * 1000000

/-- PCS and FEC of port `n` have been aligned without fault since `since`: after LinkUpHold the port enters Up (R160,
R163). -/
def linkUp (n since : Nat) (s : State) : State :=
  let p := s.portAt n
  let st := s.portState n
  if (st = 3 ∨ st = 6) ∧ s.pllState (n / 8) = 2 ∧ p.since ≤ since ∧ (st = 3 → p.trainAt ≤ since)
      ∧ since + s.linkUpHold n ≤ s.gtc then
    let t := s.enterPortState n 4
    let t := (t.setPnum Od.linkUpGtc n s.gtc).setPnum Od.portRate n (s.pnum Od.portMode n)
    let t := t.setPort n { t.portAt n with resetting := false, emptyAt := s.gtc, busyUntil := s.gtc }
    t.fabricUpdate
  else s

def execLinkUp (n : Fin 256) (since : Nat) (s : State) : Res := .next (linkUp n.val since s)

/-- A loss of lock or alignment, or a received fault sequence, takes the port out of Up; outside Up the fault that the
receiver reports is followed, and a port in Training that hears remote fault is aligned and enters RemoteFault (R160,
Table 4-2). -/
def linkFault (n : Nat) (remote : Bool) (s : State) : State :=
  let st := s.portState n
  let new := if remote then 6 else 5
  if st = 4 ∨ st = 8 then s.leaveUp n new
  else if st = 5 ∨ st = 6 ∨ (st = 3 ∧ remote = true) then s.enterPortState n new
  else s

def execLinkFault (n : Fin 256) (remote : Bool) (s : State) : Res := .next (linkFault n.val remote s)

/-- No signal since `since`: after 1 s an enabled port enters Sleep (R162). -/
def signalLossSleep (n since : Nat) (s : State) : State :=
  let st := s.portState n
  if (st = 3 ∨ st = 4 ∨ st = 5 ∨ st = 6 ∨ st = 8) ∧ since + 1000000000 ≤ s.gtc then s.leaveUp n 2 else s

def execSignalLossSleep (n : Fin 256) (since : Nat) (s : State) : Res := .next (signalLossSleep n.val since s)

/-- The signal detector sees signal: a port in Sleep or LocalFault trains (R162, R163). -/
def signalDetect (n : Nat) (s : State) : State :=
  if s.portState n = 2 ∨ s.portState n = 5 then s.startTraining n else s

def execSignalDetect (n : Fin 256) (s : State) : Res := .next (signalDetect n.val s)

/-- A port in Training at twice its bound raises an event and restarts its training (R163). -/
def trainingRestart (n : Nat) (s : State) : State :=
  let p := s.portAt n
  if s.portState n = 3 ∧ p.trainAt + 2 * p.bound ≤ s.gtc then
    let t := (s.count32 (Od.trainingRestarts + 256 * n)).raiseOcc n 0x01 n 8 0
    t.startTraining n
  else s

def execTrainingRestart (n : Fin 256) (s : State) : Res := .next (trainingRestart n.val s)

/-- The pre-FEC symbol error ratio of the last 1 s, a binary32 pattern: above 10^−4 FecDegraded is set (R164). -/
def fecDegraded (n ratio : Nat) (s : State) : State :=
  let m := s.pnum Od.portMode n
  if s.portUp n ∧ 1 ≤ m ∧ m ≤ 6 ∧ s.pnum Od.portAutoneg n = 1 then
    let t := (portLanes n m).foldl (fun u l => u.setPnum Od.lanePreFecSer l ratio) s
    let old := t.pnum Od.portFaultFlags n
    let bad := decide (0x38D1B718 ≤ ratio) && !f32NotFinite ratio && decide (ratio < 2 ^ 31)
    let new := setField old 2 1 (boolNat bad)
    if old = new then t else (t.setPnum Od.portFaultFlags n new).raiseFlag n 0x01 n bad 2 new
  else s

def execFecDegraded (n : Fin 256) (ratio : Nat) (s : State) : Res := .next (fecDegraded n.val ratio s)

/-! ### Port reset (R166 to R168) -/

/-- Reset port `n`: out of Up with its queues discarded, and bring-up anew; its neighbour is Down and its learned
entries are gone (R236, R266). -/
def State.resetPort (s : State) (n : Nat) : State :=
  let t := (s.bringUp n).setNeighbour n 0
  t.setPort n { t.portAt n with resetting := t.portState n == 3 }

def portReset (who : Caller) (n value : Nat) (s : State) : Act := do
  s.gateRange who (Od.portReset + 256 * n) false 0 (.num value)
  need (s.tenantPort who n) .notOwner
  need (!(s.portAt n).resetting) .inProgress
  need (!s.absorbed n) .precondition
  need (value == 2 || !s.portInUse n) .precondition
  .ok (if s.portEnabled n ∧ s.pnum Od.portMode n ≠ 0 ∧ s.portState n ≠ 1 then s.resetPort n else s)

def execPortReset (who : Caller) (n : Fin 256) (s : State) : Res := .next (s.answer who (portReset who n.val 1 s))

def execPortResetForced (who : Caller) (n : Fin 256) (s : State) : Res :=
  .next (s.answer who (portReset who n.val 2 s))

/-! ### Byte buckets (R203, R224) -/

/-- A byte in the units of a bucket. -/
def byteUnits : Int := 8000000000

/-- The level at `g` of a bucket that rises at `rate` bit/s and is capped at `burst` bytes. -/
def Bucket.levelAt (b : Bucket) (rate burst g : Nat) : Int :=
  min (b.level + rate * (g - b.at_ : Nat)) (burst * byteUnits)

def State.bucket (s : State) (k : Nat) : Bucket := tabGet .init s.sw.buckets k

def State.setBucket (s : State) (k : Nat) (b : Bucket) : State :=
  { s with sw := { s.sw with buckets := tabSet .init s.sw.buckets k b } }

/-- The bucket of queue `q` of port `n`. -/
def shaperKey (n q : Nat) : Nat := 0x8000 + 8 * n + q

def State.shaperOn (s : State) (n q : Nat) : Bool := decide (q ≤ 5) && (s.pnum Od.shaperEnable n).testBit q

def State.shaperRate (s : State) (n q : Nat) : Nat := s.num (Od.shaperRate + 256 * n + q)
def State.shaperBurst (s : State) (n q : Nat) : Nat := s.num (Od.shaperBurst + 256 * n + q)

/-- The level of a shaper now (R224, R225): a disabled one stands still. -/
def State.shaperLevel (s : State) (n q : Nat) : Int :=
  if s.shaperOn n q then (s.bucket (shaperKey n q)).levelAt (s.shaperRate n q) (s.shaperBurst n q) s.gtc
  else (s.bucket (shaperKey n q)).level

/-- ShaperLevel in whole bytes, toward minus infinity. -/
def State.shaperBytes (s : State) (n q : Nat) : Int := s.shaperLevel n q / byteUnits

/-- The queue is eligible (R224, R225): unshaped, or at a level of 0 or above with a rate other than 0. -/
def State.shaperPass (s : State) (n q : Nat) : Bool :=
  !s.shaperOn n q || (decide (0 ≤ s.shaperLevel n q) && s.shaperRate n q != 0)

/-- Keep the accrued level before a change of rate or burst (R225). -/
def State.shaperSettle (s : State) (n q : Nat) : State := s.setBucket (shaperKey n q) ⟨s.shaperLevel n q, s.gtc⟩

/-! ### Transmission (R174, R125, R251) -/

/-- Octets of a frame with its inverted FCS. -/
def stompFcs (o : Bytes) : Bytes := o.take (o.length - 4) ++ (o.drop (o.length - 4)).map fun x => ~~~x

/-- A PathDelay of 2^−8 ns units; beyond 32 bits it saturates and DelayValid clears (Table 6-1). -/
def addPathDelay (o : Bytes) (k : Nat) : Bytes :=
  let d := beAt o 26 4 + k
  if d < 2 ^ 32 then splice o 26 (toBE 4 d)
  else splice (splice o 26 (toBE 4 0xFFFFFFFF)) 15 (toBE 1 (setField (beAt o 15 1) 5 1 0))

/-- Replace the FCS by that of the octets before it. -/
def refreshFcs (o : Bytes) : Bytes := withFcs (o.take (o.length - 4))

/-- What leaves the port: the one-step insertion of the departure instant. -/
def State.finishFrame (s : State) (f : QFrame) : Bytes :=
  let o := match f.fix with
    | .none => f.octets
    | .residence => refreshFcs (splice f.octets 38 (toBE 4 (s.gtc - f.stamp)))
    | .pathDelay => refreshFcs (addPathDelay f.octets ((s.gtc - f.stamp) * 256))
    | .domainTime d =>
      let (sec, ns, fr) := timeParts (s.domTime d s.gtc)
      refreshFcs (splice f.octets 38 (toBE 6 sec ++ toBE 4 ns ++ toBE 2 fr))
    | .age g => refreshFcs (splice f.octets 58 (toBE 8 (ofInt 64 ((s.gtc : Int) * 256 - g))))
  if f.stomp then stompFcs o else o

/-- The time a frame of `len` octets occupies the port, with 20 octets of preamble and gap, in ns. -/
def State.frameTime (s : State) (n len : Nat) : Nat :=
  if s.macRate n = 0 then 0 else ceilDiv ((len + 20) * 8000000000) (s.macRate n)

/-- Queue `q` of port `n` may send now. -/
def State.eligible (s : State) (n q : Nat) : Bool := !((s.portAt n).queue q).isEmpty && s.shaperPass n q

/-- The highest-numbered eligible queue (R174). -/
def State.nextQueue (s : State) (n : Nat) : Option Nat := [7, 6, 5, 4, 3, 2, 1, 0].find? fun q => s.eligible n q

/-- Note a frame in the port's traffic of the last 200 ms. -/
def State.noteTraffic (s : State) (n : Nat) (rx : Bool) (len : Nat) : State :=
  let p := s.portAt n
  s.setPort n { p with
    traffic := (s.gtc, rx, len) :: p.traffic.filter fun x => decide (s.gtc < x.1 + 200000000) }

/-- Count a frame by its destination, unicast, multicast or broadcast, from counter `id` on. -/
def State.countCast (s : State) (id n dst : Nat) : State :=
  s.portCount (id + (if dst = broadcastAddress then 2 else if isGroup dst then 1 else 0)) n

/-- The transmit stamp t1 of a DelayReq (R242). -/
def State.noteDelayReq (s : State) (n : Nat) (o : Bytes) : State :=
  if beAt o 12 2 = 0x88B6 ∧ byteAt o 14 = 0x12 then s.setNb n { s.nb n with asked := some (beAt o 22 4, s.gtc) } else s

/-- Start the next frame of port `n` from the highest eligible queue, once the last one has ended (R174); none while the
transmitter is held by a shift (R182) or in low-power idle (R176). -/
def frameTransmit (n : Nat) (s : State) : State :=
  let p := s.portAt n
  if s.portUp n ∧ p.busyUntil ≤ s.gtc ∧ p.wakeUntil ≤ s.gtc ∧ ¬ p.lpi ∧ p.shift.txAt = none then
    match s.nextQueue n with
    | none => s
    | some q =>
      match p.queue q with
      | [] => s
      | f :: rest =>
        let o := s.finishFrame f
        let t := (s.setPort n (p.setQueue q rest)).releaseFrame f.id
        let t := (t.emit (.frame n o)).noteDelayReq n o
        let t := t.portCount Od.txOctets n o.length
        let t := if f.stomp then t.portCount Od.txStomped n
          else (t.portCount Od.txFrames n).countCast Od.txUnicast n (parseFrame o).dst
        let t := t.portCount (Od.txQueueFrames + q) n
        let t := if t.shaperOn n q then
            let u := t.shaperSettle n q
            u.setBucket (shaperKey n q)
              ⟨t.shaperLevel n q - ((o.length + t.pnum Od.shaperOverhead n : Nat) : Int) * byteUnits, s.gtc⟩
          else t
        let t := t.noteTraffic n false o.length
        let u := t.portAt n
        t.setPort n { u with
          busyUntil := s.gtc + t.frameTime n o.length
          emptyAt := if u.queues.isEmpty then s.gtc + t.frameTime n o.length else u.emptyAt }
  else s

def execFrameTransmit (n : Fin 256) (s : State) : Res := .next (frameTransmit n.val s)

/-! ### Low-power idle (R176, R177) -/

/-- The mode has low-power idle. -/
def modeLpi (m : Nat) : Bool := decide (1 ≤ m) && decide (m ≤ 8)

def lpiEnter (n : Nat) (s : State) : State :=
  let p := s.portAt n
  if s.portState n = 4 ∧ s.pnum Od.lpiEnable n = 1 ∧ s.pnum Od.lpiPartnerAgreed n = 1 ∧ s.pnum Od.portProtection n = 0
      ∧ modeLpi (s.pnum Od.portMode n) ∧ p.queues.isEmpty ∧ p.emptyAt + 20000 ≤ s.gtc ∧ ¬ p.lpi then
    (s.setPort n { p with lpi := true }).portCount Od.lpiTransitions n
  else s

def execLpiEnter (n : Fin 256) (s : State) : Res := .next (lpiEnter n.val s)

/-- End low-power idle: frames wait for the wake time Tw of the mode. -/
def State.wakeLpi (s : State) (n : Nat) : State :=
  let p := s.portAt n
  if p.lpi then s.setPort n { p with lpi := false, wakeUntil := s.gtc + Config.lpiWake (s.pnum Od.portMode n) } else s

def lpiWake (n : Nat) (s : State) : State := if (s.portAt n).queues.isEmpty then s else s.wakeLpi n

def execLpiWake (n : Fin 256) (s : State) : Res := .next (lpiWake n.val s)

/-! ### Downshift (R178 to R183) -/

/-- The octets that the traffic list gives a direction in the 100 ms up to `g`. -/
def octetsIn (l : List (Nat × Bool × Nat)) (rx : Bool) (g : Nat) : Nat :=
  ((l.filter fun x => x.2.1 == rx && decide (x.1 ≤ g) && decide (g < x.1 + 100000000)).map fun x => x.2.2).sum

/-- Utilisation at `g` in per mille of `rate`: the larger direction over the last 100 ms. -/
def utilAt (l : List (Nat × Bool × Nat)) (rate g : Nat) : Nat :=
  if rate = 0 then 0 else max (octetsIn l true g) (octetsIn l false g) * 8 * 10000 / rate

/-- The instants within the last `w` ns at which Utilisation can have changed. -/
def changeInstants (l : List (Nat × Bool × Nat)) (now w : Nat) : List Nat :=
  (now - w) :: now :: ((l.map Prod.fst ++ l.map fun (x : Nat × Bool × Nat) => x.1 + 100000000).filter fun g =>
    decide (now < g + w) && decide (g ≤ now))

def State.utilisationNow (s : State) (n : Nat) : Nat := utilAt (s.portAt n).traffic (s.macRate n) s.gtc

/-- Utilisation has stayed below 10 % of 100 Gbit/s for 100 ms. -/
def State.utilLow (s : State) (n : Nat) : Bool :=
  let p := s.portAt n
  decide (s.pnum Od.linkUpGtc n + 100000000 ≤ s.gtc)
    && (changeInstants p.traffic s.gtc 100000000).all fun g => decide (utilAt p.traffic 100000000000 g < 100)

/-- Utilisation has exceeded 40 % of 50 Gbit/s for 1 ms. -/
def State.utilHigh (s : State) (n : Nat) : Bool :=
  let p := s.portAt n
  (changeInstants p.traffic s.gtc 1000000).all fun g => decide (400 < utilAt p.traffic 50000000000 g)

/-- The admitted protection bandwidth through the port, the larger direction. -/
def State.admittedThrough (s : State) (n : Nat) : Nat := max (s.rxBandwidth n) (s.txBandwidth n)

def State.shifts (s : State) (n : Nat) : Bool :=
  s.pnum Od.portKind n == 1 && s.pnum Od.portMode n == 1 && s.pnum Od.downshiftEnable n == 1

def State.setShift (s : State) (n : Nat) (x : ShiftSt) : State := s.setPort n { s.portAt n with shift := x }

/-- Send a LinkControl message (Table 6-5) on port `n` with transaction number `txn`. -/
def State.linkControl (s : State) (n txn op target cause : Nat) : State :=
  let h := { s.originHead 1 txn 0 false false with sequence := s.xosynSeq 1 txn }
  (s.sendXosyn n 1 h
    (toBE 1 op ++ toBE 1 target ++ toBE 1 cause ++ toBE 1 0 ++ toBE 4 (s.admittedThrough n / 1000000))).bumpSeq 1 txn

/-- Port `n` may ask for a shift now: it shifts, it is Up, and neither a request nor 1 s after a shift stands in the
way. -/
def State.mayAsk (s : State) (n : Nat) : Bool :=
  let x := (s.portAt n).shift
  s.shifts n && s.portState n == 4 && x.asked.isNone && x.running.isNone && decide (x.quietUntil ≤ s.gtc)

/-- Send a ShiftRequest to `target` and keep it outstanding. -/
def State.askShift (s : State) (n target : Nat) : State :=
  let x := (s.portAt n).shift
  (s.linkControl n x.nextTxn 1 target 0).setShift n
    { x with asked := some (x.nextTxn, target), nextTxn := (x.nextTxn + 1) % 2 ^ 16 }

def downshiftRequest (n : Nat) (thermal : Bool) (s : State) : State :=
  if s.mayAsk n ∧ s.pnum Od.portRate n = 1 ∧ s.admittedThrough n ≤ 25000000000 ∧ (thermal ∨ s.utilLow n)
  then s.askShift n 2 else s

def execDownshiftRequest (n : Fin 256) (thermal : Bool) (s : State) : Res := .next (downshiftRequest n.val thermal s)

/-- The energy share covers 100 Gbit/s on port `n` (R156, R180). -/
def State.upshiftPaid (s : State) (n : Nat) : Bool :=
  match s.admitCharge 0x01 n (portCharge 1) with
  | .ok _ => true
  | .error _ => false

/-- A stream admission waits for the upshift of port `n` (R205). -/
def State.admissionWaits (s : State) (n : Nat) : Bool := s.sw.waiting.any fun w => w.ports.contains n

def upshiftRequest (n : Nat) (s : State) : State :=
  if s.mayAsk n ∧ s.pnum Od.portRate n = 2 ∧ (s.utilHigh n ∨ s.admissionWaits n) ∧ s.upshiftPaid n
  then s.askShift n 1 else s

def execUpshiftRequest (n : Fin 256) (s : State) : Res := .next (upshiftRequest n.val s)

/-- Begin the shift that both ends agreed on (R182): the frame in transmission ends, the marker is sent, and the
transmitter switches. -/
def State.beginShift (s : State) (n txn target : Nat) : State :=
  let t := s.enterPortState n 8
  let t := if target = 1 then t.setCharge 0x01 n (portCharge 1) else t
  let t := t.linkControl n txn 4 target 0
  let p := t.portAt n
  t.setPort n { p with shift := { p.shift with
    asked := none, running := some (txn, target), txAt := some (max s.gtc p.busyUntil) } }

/-- Both ends have switched and the receiver is aligned: the new rate is in force (R182, R183). -/
def State.shiftDone (s : State) (n : Nat) : State :=
  let x := (s.portAt n).shift
  match x.running with
  | some (_, target) =>
    if x.txAt.isNone && x.aligned then
      let t := (s.setPnum Od.portRate n target).count32 (Od.shiftCount + 256 * n)
      let t := t.setCharge 0x01 n (portCharge target)
      let t := t.setShift n { x with running := none, rxAt := none, aligned := false, quietUntil := s.gtc + 1000000000 }
      (t.enterPortState n 4).raiseOcc n 0x01 n 4 target
    else s
  | none => s

/-- A received ShiftRequest (R179 to R181). Of crossing requests the one of the lower fabric address stands. -/
def shiftRequest (n txn target source admitted : Nat) (s : State) : State :=
  let x := (s.portAt n).shift
  if ¬ (s.shifts n ∧ s.portState n = 4) ∨ s.pnum Od.portRate n = target ∨ ¬ (target = 1 ∨ target = 2) then s
  else if x.asked.isSome ∧ s.ownAddress.getD 0xFFFF < source then s
  else
    let t := s.setShift n { x with asked := none }
    let cause :=
      if target = 1 then (if t.upshiftPaid n then 0 else 4)
      else if 25000000000 < t.admittedThrough n ∨ 25000 < admitted then 1
      else if s.gtc < x.quietUntil then 3
      else if t.utilLow n then 0 else 2
    if cause = 0 then (t.linkControl n txn 2 target 0).beginShift n txn target
    else (t.linkControl n txn 3 target cause).raiseOcc n 0x01 n 5 cause

def execShiftRequest (n : Fin 256) (txn : Nat) (target : Nat) (source : Nat) (admitted : Nat) (s : State) : Res :=
  .next (shiftRequest n.val txn target source admitted s)

/-- A received ShiftAccept of this end's request. -/
def shiftAccept (n txn : Nat) (s : State) : State :=
  match (s.portAt n).shift.asked with
  | some (k, target) => if k = txn ∧ s.portState n = 4 then s.beginShift n txn target else s
  | none => s

def execShiftAccept (n : Fin 256) (txn : Nat) (s : State) : Res := .next (shiftAccept n.val txn s)

/-- A received ShiftDecline ends the attempt; no other request follows for 1 s. -/
def shiftDecline (n txn cause : Nat) (s : State) : State :=
  let x := (s.portAt n).shift
  match x.asked with
  | some (k, _) =>
    if k = txn then
      (s.setShift n { x with asked := none, quietUntil := s.gtc + 1000000000 }).raiseOcc n 0x01 n 5 cause
    else s
  | none => s

def execShiftDecline (n : Fin 256) (txn : Nat) (cause : Nat) (s : State) : Res := .next (shiftDecline n.val txn cause s)

/-- A received ShiftMarker: the receiver switches to the stored adaptation state, and aligns or not. -/
def shiftMarker (n txn : Nat) (aligned : Bool) (s : State) : State :=
  let x := (s.portAt n).shift
  match x.running with
  | some (k, _) =>
    if k = txn ∧ x.rxAt = none then
      let nb := s.nb n
      let t := s.setNb n { nb with asked := none }
      (t.setShift n { x with rxAt := some s.gtc, aligned := aligned }).shiftDone n
    else s
  | none => s

def execShiftMarker (n : Fin 256) (txn : Nat) (aligned : Bool) (s : State) : Res := .next (shiftMarker n.val txn aligned s)

/-- 10 µs after its switch the transmitter resumes. -/
def shiftTxResume (n : Nat) (s : State) : State :=
  let x := (s.portAt n).shift
  match x.txAt with
  | some g => if g + 10000 ≤ s.gtc then (s.setShift n { x with txAt := none }).shiftDone n else s
  | none => s

def execShiftTxResume (n : Fin 256) (s : State) : Res := .next (shiftTxResume n.val s)

/-- A direction not aligned 100 µs after its marker takes the port out of Up and brings it up at 100 Gbit/s (R183). -/
def shiftAlignFail (n : Nat) (s : State) : State :=
  let x := (s.portAt n).shift
  match x.running, x.rxAt with
  | some _, some g =>
    if ¬ x.aligned ∧ g + 100000 ≤ s.gtc then
      let t := (s.count32 (Od.shiftFailures + 256 * n)).raiseOcc n 0x01 n 6 0
      let t := (t.leaveUp n 3).startTraining n
      let t := t.setCharge 0x01 n (portCharge 1)
      t.setShift n { (t.portAt n).shift with quietUntil := s.gtc + 1000000000 }
    else s
  | _, _ => s

def execShiftAlignFail (n : Fin 256) (s : State) : Res := .next (shiftAlignFail n.val s)

/-! ### Counters (R185 to R188) -/

/-- Copy every statistics counter of port `n` into its snapshot set at one instant. -/
def State.snapshotPort (s : State) (n : Nat) : State :=
  let t := (numbersFrom 0 0x30).foldl
    (fun u k => u.setNum (Od.snapshotCounter + 256 * n + k) (u.num (Od.rxOctets + 256 * n + k))) s
  let t := t.setPnum Od.snapshotGtc n s.gtc
  t.setPnum Od.snapshotSeq n ((s.pnum Od.snapshotSeq n + 1) % 2 ^ 32)

def portSnapshot (who : Caller) (n value : Nat) (s : State) : Act := do
  s.gateRange who (Od.portCounterSnapshot + 256 * n) false 0 (.num value)
  need (s.tenantPort who n) .notOwner
  .ok (s.snapshotPort n)

def execPortCounterSnapshot (who : Caller) (n : Fin 256) (value : Nat) (s : State) : Res :=
  .next (s.answer who (portSnapshot who n.val value s))

def allPortSnapshot (who : Caller) (value : Nat) (s : State) : Act := do
  s.gateRange who Od.allPortSnapshot false 0 (.num value)
  .ok ((numbersFrom 0 256).foldl (fun u n => u.snapshotPort n) s)

def execAllPortSnapshot (who : Caller) (value : Nat) (s : State) : Res := .next (s.answer who (allPortSnapshot who value s))

/-- Clear the live counters and the snapshot set of port `n` together, with its forwarding counters (R188, R234). -/
def State.clearPort (s : State) (n : Nat) : State :=
  let t := (numbersFrom 0 0x30).foldl
    (fun u k => (u.setNum (Od.rxOctets + 256 * n + k) 0).setNum (Od.snapshotCounter + 256 * n + k) 0) s
  let t := t.setPnum Od.snapshotGtc n 0
  (numbersFrom 0 7).foldl (fun u k => u.setNum (Od.policerDrops + 256 * n + k) 0) t

def portClear (who : Caller) (n value : Nat) (s : State) : Act := do
  s.gateRange who (Od.portCounterClear + 256 * n) false 0 (.num value)
  .ok (s.clearPort n)

def execPortCounterClear (who : Caller) (n : Fin 256) (value : Nat) (s : State) : Res :=
  .next (s.answer who (portClear who n.val value s))

/-! ### Filters (R171) -/

def filterEnabled (v : Nat) : Bool := v.testBit 48

/-- The filter entries of port `n` that are enabled. -/
def State.filters (s : State) (n : Nat) : List Nat :=
  ((numbersFrom 0 16).map fun k => s.num (Od.filterEntry + 256 * n + k)).filter filterEnabled

def State.checkFilter (s : State) (who : Caller) (n slot value : Nat) : Except Code Unit := do
  need (decide (value < 2 ^ 50)) .reservedBitSet
  need (s.tenantPort who n) .notOwner
  need (!(filterEnabled value && (numbersFrom 0 16).any fun k =>
    k != slot && filterEnabled (s.num (Od.filterEntry + 256 * n + k))
      && s.num (Od.filterEntry + 256 * n + k) % 2 ^ 48 == value % 2 ^ 48)) .heldElsewhere
  need (!s.absorbed n) .precondition

def filterWrite (who : Caller) (n slot value : Nat) (s : State) : Act := do
  let id := Od.filterEntry + 256 * n + slot
  let _ ← s.gate who id false 0 (.num value)
  s.checkFilter who n slot value
  .ok ((s.setNum id value).bumpVersion id 0)

def execFilterEntryWrite (who : Caller) (n : Fin 256) (slot : Fin 16) (value : Nat) (s : State) : Res :=
  .next (s.answer who (filterWrite who n.val slot.val value s))

/-! ### Octets (R151, R190) -/

/-- The ports of octet `k` that run. -/
def State.octetPorts (s : State) (k : Nat) : List Nat := (numbersFrom (8 * k) 8).filter s.portLit

/-- A PLL that loses lock takes every port of its octet out of Up (R190). -/
def octetPllLockLoss (k : Nat) (s : State) : State :=
  if s.pllState k = 2 then
    let t := (s.setPnum Od.octetPllState k 1).count32 (Od.octetPllLockLoss + 256 * k)
    let t := t.raiseOcc (8 * k) 0x01 (8 * k) 9 k
    (t.octetPorts k).foldl (fun u n => if u.portUp n then u.leaveUp n 5 else u) t
  else s

def execOctetPllLockLoss (k : Fin 32) (s : State) : Res := .next (octetPllLockLoss k.val s)

/-- The PLL has locked: ports that it took out of Up restart their bring-up. -/
def octetPllLocked (k : Nat) (s : State) : State :=
  if s.pllState k = 1 then
    let t := s.setPnum Od.octetPllState k 2
    (t.octetPorts k).foldl (fun u n => if u.portState n = 5 then u.startTraining n else u) t
  else s

def execOctetPllLocked (k : Fin 32) (s : State) : Res := .next (octetPllLocked k.val s)

/-- The PLL stops 1 ms after its last lane went Off (R151). -/
def octetPllStop (k : Nat) (s : State) : State :=
  match tabGet none s.port.pllOff k with
  | some g => if g + 1000000 ≤ s.gtc ∧ ¬ s.octetLit k then (s.setPllOff k none).setPnum Od.octetPllState k 0 else s
  | none => s

def execOctetPllStop (k : Fin 32) (s : State) : Res := .next (octetPllStop k.val s)

/-- SGMII reports a speed of 10, 100 or 1,000 Mbit/s; admitted bandwidth beyond the new limit raises an event, and
admitted entries stay (R150). -/
def sgmiiSpeed (n speed : Nat) (s : State) : State :=
  if s.pnum Od.portMode n = 8 ∧ s.portEnabled n ∧ (speed = 10 ∨ speed = 100 ∨ speed = 1000) then
    let t := s.setPort n { s.portAt n with sgmii := speed }
    if t.portLimit (speed * 1000000) < t.admittedThrough n then t.raiseOcc n 0x01 n 10 speed else t
  else s

def execSgmiiSpeedChange (n : Fin 256) (speed : Nat) (s : State) : Res := .next (sgmiiSpeed n.val speed s)

end Sys2Proof.Machine
end

