-- ==== Sys2Proof/Machine/Rings.lean ====
section
/-! DEFINITION. Rings, the basket and receive packets (Chapter 14, R527 to R536). -/

namespace Sys2Proof.Machine

/-- Rings by instance × 16 + block: 0 to 3 receive, 4 to 7 transmit, 8 basket inbound, 9 basket outbound. -/
def ringKey (i r : Nat) : Nat := i * 16 + r

def State.ring (s : State) (i r : Nat) : Ring := tabGet .init s.inst.rings (ringKey i r)

def State.setRing (s : State) (i r : Nat) (x : Ring) : State :=
  { s with inst := { s.inst with rings := tabSet .init s.inst.rings (ringKey i r) x } }

def State.ringConfig (s : State) (i r : Nat) : Bytes := s.blob (Od.ringConfig + r) i

/-- The basket's rings are there while the instance has its basket enabled; a packet ring by its own Enable. -/
def State.ringEnabled (s : State) (i r : Nat) : Bool :=
  if r < 8 then (byteAt (s.ringConfig i r) 0).testBit 0 else s.num Od.basketEnable i == 1

/-- S: the slots of a ring. -/
def State.ringSlots (s : State) (i r : Nat) : Nat := if r < 8 then 2 ^ byteAt (s.ringConfig i r) 2 else 64

/-- The host produces on transmit rings and on the basket inbound ring (Table 14-4). -/
def hostProduces (r : Nat) : Bool := (decide (4 ≤ r) && decide (r ≤ 7)) || r == 8

/-- The slots that a ring holds. -/
def Ring.held (x : Ring) : Nat := (x.prod + 2 ^ 32 - x.cons) % 2 ^ 32

/-- The packets with a slot at or after RingCons. -/
def Ring.trim (x : Ring) : Ring :=
  { x with packets := x.packets.filter fun p =>
      decide ((p.1 + p.2 + 2 ^ 32 - x.cons) % 2 ^ 32 ≤ x.held) && decide ((p.1 + p.2) % 2 ^ 32 ≠ x.cons) }

/-- Write slot `j` of a ring: into HBM, into the host memory of the bound function, or into the basket. -/
def State.writeSlot (s : State) (i r j : Nat) (b : Bytes) : State :=
  let pos := j % s.ringSlots i r
  if 8 ≤ r then
    { s with inst := { s.inst with baskets := tabSet [] s.inst.baskets ((i * 2 + (r - 8)) * 64 + pos) b } }
  else
    let a := leAt (s.ringConfig i r) 8 8 + 64 * pos
    if byteAt (s.ringConfig i r) 1 = 0 then s.hbmWrite a b
    else match s.functionOf i with
      | some fn => s.emit (.hostWrite fn a b)
      | none => s

def State.basketSlot (s : State) (i dir pos : Nat) : Bytes :=
  let b := tabGet [] s.inst.baskets ((i * 2 + dir) * 64 + pos)
  b ++ List.replicate (64 - b.length) 0

/-- Write octets into consecutive slots from slot `j` on. -/
def State.writeSlots (s : State) (i r j : Nat) : Nat → Bytes → State
  | 0, _ => s
  | k + 1, b => (s.writeSlot i r j (slice b 0 64)).writeSlots i r ((j + 1) % 2 ^ 32) k (b.drop 64)

/-- The die of an instance's scan processor, from which its events come. -/
def State.instDie (s : State) (i : Nat) : Die := if s.num Od.scanProcessor i < 16 then .c0 else .c1

def basketSource (i : Nat) : Nat := 0x901 + 2 * i

/-- An occasion of the basket's source (R543). -/
def State.basketOcc (s : State) (i pos value : Nat) : State :=
  s.raiseIn (s.instDie i) (basketSource i) (0xA000 + pos) 0x81 i (value % 2 ^ 64 + 2 ^ 64)

/-- Overrun of a ring is set, with its event. -/
def State.setOverrun (s : State) (i r : Nat) : State :=
  let x := s.ring i r
  if x.overrun then s else (s.setRing i r { x with overrun := true }).basketOcc i 2 r

/-- Add to RingCounters: Packets at 0, Bytes at 8 (48 bits), Drops at 16, Rejects at 24 (saturating). The basket's rings
have none. -/
def State.ringCount (s : State) (i r off k : Nat) : State :=
  if 8 ≤ r then s
  else
    let b := s.blob (Od.ringCounters + r) i
    let v := leAt b off 8 + k
    s.setBlob (Od.ringCounters + r) (splice b off (toLE 8 (if off < 16 then v % 2 ^ 48 else satAt (2 ^ 64 - 1) v))) i

/-- A packet finds too little room (R529). -/
def State.ringFull (s : State) (i r : Nat) : State :=
  let x := s.ring i r
  ((s.setRing i r { x with full := true, drops := sat32 (x.drops + 1) }).setOverrun i r).ringCount i r 16 1

/-- A producer that is the module appends one packet, padded to whole slots: with too little room nothing is written and
Full, Overrun and RingDrops say so (R528, R529). -/
def State.ringAppend (s : State) (i r : Nat) (b : Bytes) : State × Bool :=
  let x := s.ring i r
  let k := ceilDiv b.length 64
  if x.held + k ≤ s.ringSlots i r then
    let t := s.writeSlots i r x.prod k b
    (t.setRing i r { x with prod := (x.prod + k) % 2 ^ 32, packets := x.packets ++ [(x.prod, k)] }, true)
  else (s.ringFull i r, false)

/-- A receive packet: descriptor (Table 14-9) and frame octets. -/
def receivePacket (kind src : Nat) (truncated fcsOk tagOk coarse : Bool) (stamp seq : Nat) (b : Bytes) : Bytes :=
  toLE 2 b.length ++ toLE 2 (kind * 4096 + src) ++ toLE 2 (ceilDiv (32 + b.length) 64)
    ++ toLE 1 (boolNat truncated + 2 * boolNat fcsOk + 4 * boolNat tagOk + 8 * boolNat coarse) ++ [0]
    ++ toLE 8 stamp ++ toLE 4 seq ++ List.replicate 12 0 ++ b

/-- Put a receive packet into ring `r` of instance `i`, dropped when the ring is disabled or full, or the instance is in
reset or gone (R536). Reports whether it was taken. -/
def State.receiveInto (s : State) (i r : Nat) (b : Bytes) : State × Bool :=
  if s.instExists i && s.ringEnabled i r && !s.inReset i then
    let (t, ok) := s.ringAppend i r b
    (if ok then (t.ringCount i r 0 1).ringCount i r 8 (leAt b 0 2) else t, ok)
  else (s, false)

/-- The local copy of a frame of port `n` (Table 14-8). -/
def State.localCopy (s : State) (n : Nat) (b : Bytes) (truncated fcsOk : Bool) : State :=
  let i := (s.itemInstance 0x01 n).getD 0
  let (t, ok) := s.receiveInto i (s.num Od.ringLocal i)
    (receivePacket 0 n truncated fcsOk false (!s.fine .n) s.gtc 0 b)
  if ok then t.portCount Od.rxLocalDelivered n else t.portCount Od.rxLocalDrops n

/-- Deliver a GOOSE copy of entry `e` that passed its tag check (R267). -/
def State.gooseCopy (s : State) (e : Nat) (b : Bytes) (tagOk : Bool) (stamp : Nat) : State :=
  match s.itemInstance 0x02 e with
  | some i => (s.receiveInto i (s.num Od.ringGoose i) (receivePacket 1 e false true tagOk (!s.fine .n) stamp 0 b)).1
  | none => s

/-! ### Register writes of the host (R527 to R530) -/

def ringProd (i r value : Nat) (s : State) : State :=
  let x := s.ring i r
  if hostProduces r ∧ s.instExists i ∧ s.ringEnabled i r then
    let v := value % 2 ^ 32
    let add := (v + 2 ^ 32 - x.prod) % 2 ^ 32
    if s.inReset i then s.setRing i r { x with drops := sat32 (x.drops + 1) }
    else if x.held + add ≤ s.ringSlots i r then s.setRing i r { x with prod := v }
    else s.ringFull i r
  else s

def execRingProd (inst : Fin 256) (ring : Fin 10) (value : Nat) (s : State) : Res :=
  .next (ringProd inst.val ring.val value s)

def ringCons (i r value : Nat) (s : State) : State :=
  let x := s.ring i r
  if ¬ hostProduces r ∧ s.instExists i ∧ s.ringEnabled i r then
    let v := value % 2 ^ 32
    let add := (v + 2 ^ 32 - x.cons) % 2 ^ 32
    if add ≤ x.held then s.setRing i r ({ x with cons := v, full := x.full && add == 0 } : Ring).trim
    else s.setOverrun i r
  else s

def execRingCons (inst : Fin 256) (ring : Fin 10) (value : Nat) (s : State) : Res :=
  .next (ringCons inst.val ring.val value s)

/-- Drop the rest of the current packet (R530). -/
def ringCommand (i r value : Nat) (s : State) : State :=
  let x := (s.ring i r).trim
  if value = 1 ∧ ¬ hostProduces r ∧ s.instExists i ∧ s.ringEnabled i r ∧ 0 < x.held then
    match x.packets with
    | (first, k) :: _ => s.setRing i r ({ x with cons := (first + k) % 2 ^ 32, full := false } : Ring).trim
    | [] => s
  else s

def execRingCommand (inst : Fin 256) (ring : Fin 10) (value : Nat) (s : State) : Res :=
  .next (ringCommand inst.val ring.val value s)

/-- Overrun is cleared by writing 1 to it (R529, Table 14-4). -/
def ringKnock (i r value : Nat) (s : State) : State :=
  if s.instExists i ∧ value.testBit 29 then s.setRing i r { s.ring i r with overrun := false } else s

def execRingStatusKnock (inst : Fin 256) (ring : Fin 10) (value : Nat) (s : State) : Res :=
  .next (ringKnock inst.val ring.val value s)

/-! ### Configuration (R535) -/

/-- The form of a RingConfig; its fields are judged when the ring is enabled. -/
def checkRingForm (b : Bytes) : Except Code Unit := do
  need ((byteAt b 0) / 2 == 0 && (slice b 3 5).all (· == 0)) .reservedBitSet
  need (!(byteAt b 0).testBit 0 || (decide (byteAt b 1 ≤ 1) && decide (6 ≤ byteAt b 2) && decide (byteAt b 2 ≤ 16)
    && leAt b 8 8 % 4096 == 0)) .outOfRange

/-- The chapter's checks of a RingConfig write against the configuration in force. -/
def State.checkRing (s : State) (i r : Nat) (b : Bytes) : Except Code Unit := do
  checkRingForm b
  let old := s.ringConfig i r
  if (byteAt b 0).testBit 0 then
    need (byteAt b 1 != 0 || (decide (leAt b 8 8 + 64 * 2 ^ byteAt b 2 ≤ 2 ^ 36)
      && (pagesOf (leAt b 8 8) (64 * 2 ^ byteAt b 2)).all fun p => s.holderOf 0x0A p == i)) .notOwner
    need (!((byteAt old 0).testBit 0) || old == b) .busy
    need (byteAt b 1 != 1 || (s.functionOf i).isSome) .precondition
  else need (!((byteAt old 0).testBit 0) || old.drop 1 == b.drop 1) .busy

/-- RingConfig in force; a ring that is disabled is emptied. -/
def State.applyRing (s : State) (i r : Nat) (b : Bytes) : State :=
  let t := s.setBlob (Od.ringConfig + r) b i
  if (byteAt b 0).testBit 0 then t else t.setRing i r { t.ring i r with
    prod := 0, cons := 0, full := false, overrun := false, packets := [] }

def ringConfigWrite (who : Caller) (i r : Nat) (b : Bytes) (s : State) : Act := do
  let _ ← s.gate who (Od.ringConfig + r) true i (.bytes b)
  s.checkRing i r b
  .ok ((s.applyRing i r b).bumpVersion (Od.ringConfig + r) i)

def execRingConfig (who : Caller) (inst : Fin 256) (ring : Fin 8) (value : Bytes) (s : State) : Res :=
  .next (s.answer who (ringConfigWrite who inst.val ring.val value s))

end Sys2Proof.Machine
end

