-- ==== Sys2Proof/Machine/Keys.lean ====
section
/-! DEFINITION. The keys that the key slots hold and the tags checked with them (R272, R276 to R278, R612, R618). -/

namespace Sys2Proof.Machine

/-- The journal record of slot or vault record `n` in a bank. -/
def State.keyRec (s : State) (n bank : Nat) : Option KeyRec := tabGet none s.sec.records (n * 2 + bank)

def State.setKeyRec (s : State) (n bank : Nat) (r : Option KeyRec) : State :=
  { s with sec := { s.sec with records := tabSet none s.sec.records (n * 2 + bank) r } }

/-- Measurement chain MC_j, 48 zero octets until something is extended into it. -/
def State.measureChain (s : State) (j : Nat) : Bytes :=
  let b := tabGet [] s.sec.chains j
  if b.isEmpty then List.replicate 48 0 else b

/-- JournalEpoch in use: the larger of the valid copies (R624). -/
def State.epoch (s : State) : Nat :=
  match s.sec.epoch0, s.sec.epoch1 with
  | (a, true), (b, true) => max a b
  | (a, true), (_, false) => a + 1
  | (_, false), (b, true) => b + 1
  | (a, false), (b, false) => max a b + 1

/-- The context of a record key (Table 17-6): a slot's names its chains, a vault record's does not. -/
def State.keyContext (s : State) (n mask : Nat) : Bytes :=
  toBE 8 (s.num Od.serialNumber) ++ toBE 4 s.epoch ++ toBE 1 n
    ++ (if n < 64 then toBE 1 mask ++ (numbersFrom 0 8).flatMap fun j => if mask.testBit j then s.measureChain j else [] else [])

/-- BindingDigest of Table 17-9. -/
def State.keyDigest (s : State) (n mask : Nat) : Bytes := (sha384 (s.keyContext n mask)).take 16

/-- The record is good, or sealed (R618); a write that is under way leaves neither. -/
def State.recGood (s : State) (n : Nat) (r : KeyRec) : Bool := r.crcOk && decide (r.written ≤ s.gtc) && r.st == 2 && r.digest == s.keyDigest n r.chainMask

def State.recSealed (s : State) (n : Nat) (r : KeyRec) : Bool := r.crcOk && r.digest != s.keyDigest n r.chainMask

/-- The good records of a slot or vault record. -/
def State.goodRecs (s : State) (n : Nat) : List KeyRec :=
  ([s.keyRec n 0, s.keyRec n 1].filterMap id).filter (s.recGood n)

/-- The content of a slot: its good record of the highest Generation. -/
def State.keyContent (s : State) (n : Nat) : Option KeyRec :=
  (s.goodRecs n).foldl (fun a r => match a with
    | none => some r
    | some b => if b.generation < r.generation then some r else a) none

/-- Write State 0 to both banks of slot `n` and clear what its actions came to (R621). -/
def State.eraseSlot (s : State) (n : Nat) : State :=
  let t := (s.setKeyRec n 0 none).setKeyRec n 1 none
  ({ t with sec := { t.sec with pends := tabSet .init t.sec.pends n .init } }).raiseDone (0xD20 + n) 0x09 n (Od.keyErase + n) 0

/-- The key slots that stream `e` names, A before B (R278). -/
def State.keySlots (s : State) (e : Nat) : List Nat :=
  let v := s.num (Od.intakeKeySlots + e)
  [v / 256 % 256, v % 256].filter (· != 0xFF)

/-- A slot of algorithm 1 to 5 verifies a tag over signed octets (Table 17-8). -/
def tagMatches (r : KeyRec) (iv signed tag : Bytes) : Bool :=
  match r.algorithm with
  | 1 => (hmacSha256 r.key signed).take 10 == tag
  | 2 => (hmacSha256 r.key signed).take 16 == tag
  | 3 => hmacSha256 r.key signed == tag
  | 4 => (aesGmac r.key iv signed).take 8 == tag
  | 5 => aesGmac r.key iv signed == tag
  | _ => false

/-- N, S and the place of the tag of a KWSV frame, counted from the start of its header. -/
def kwsvTagPlace (o : Bytes) (p : Nat) : Nat :=
  let n := byteAt o (p + 6)
  32 + 4 * ceilDiv n 2 + 2 * n * byteAt o (p + 7)

/-- The tag that an intake frame carries (octets without FCS): key identifier, initialisation vector, signed octets, tag;
for KWSV the 802.1Q tag is not signed (R272). -/
def frameTag (cls : Nat) (o : Bytes) : Option (Nat × Bytes × Bytes × Bytes) :=
  if cls = 3 then
    let p := (parseFrame o).body
    if (byteAt o (p + 1)).testBit 6 then
      let k := kwsvTagPlace o p
      some (beAt o (p + 28) 2, [], o.take 12 ++ (o.drop (p - 2)).take (2 + k), slice o (p + k) 16)
    else none
  else Config.authTag o

/-- Checks 1 to 3 of Table 7-5: the cause that discards the frame, or whether a tag was verified. -/
def State.checkTag (s : State) (e cls : Nat) (o : Bytes) : Except Nat Bool :=
  let slots := s.keySlots e
  let required := (byteAt (s.blob (Od.intakeStreamConfig + e)) 5).testBit 3
  if slots.isEmpty ∧ ¬ required then .ok false
  else match frameTag cls o with
    | none => if required then .error 8 else .ok false
    | some (keyId, iv, signed, tag) =>
      if slots.isEmpty then .ok false
      else match (slots.filterMap s.keyContent).find? fun r => r.usage.testBit 0 && r.keyId == keyId with
        | none => .error 9
        | some r => if (cls != 3 || r.algorithm == 2) && tagMatches r iv signed tag then .ok true else .error 7

/-- Both named slots hold the key identifier of the frame. -/
def State.tagAmbiguous (s : State) (e cls : Nat) (o : Bytes) : Bool :=
  match s.keySlots e with
  | [a, b] => match s.keyContent a, s.keyContent b with
    | some x, some y => x.keyId == y.keyId && (match frameTag cls o with
        | some (k, _) => k == x.keyId
        | none => false)
    | _, _ => false
  | _ => false

/-- Note the first frame whose key identifier both named slots hold (R278). -/
def State.noteAmbiguous (s : State) (e cls : Nat) (o : Bytes) : State :=
  if s.tagAmbiguous e cls o ∧ ¬ tabGet false s.intake.sameKey e then
    ({ s with intake := { s.intake with sameKey := tabSet false s.intake.sameKey e true } }).raiseOcc
      (0x200 + e / 2) 0x02 e 5 0
  else s

end Sys2Proof.Machine
end

