-- ==== Sys2Proof/Machine/Switch.lean ====
section
/-! DEFINITION. Forwarding, learning and traffic classes (Chapter 5): the pipeline of Table 5-1, admission, learning,
policers and shapers, sounding and redundancy. -/

namespace Sys2Proof.Machine

/-! ### Buckets and the buffer -/

/-- The test of R203: a frame of `len` octets finds the bucket at 0 or above and is then charged length + 20. -/
def State.policeBucket (s : State) (k rate burst len : Nat) : State × Bool :=
  let l := (s.bucket k).levelAt rate burst s.gtc
  if 0 ≤ l then (s.setBucket k ⟨l - ((len + 20 : Nat) : Int) * byteUnits, s.gtc⟩, true)
  else (s.setBucket k ⟨l, s.gtc⟩, false)

/-- A policer of best effort: one with rate 0 drops every frame it checks (R222). -/
def State.policePort (s : State) (k rate burst len : Nat) : State × Bool :=
  if rate = 0 then (s, false) else s.policeBucket k rate burst len

/-- Fill a bucket to its burst. -/
def State.fillBucket (s : State) (k burst : Nat) : State := s.setBucket k ⟨burst * byteUnits, s.gtc⟩

/-- ceil(L / 64) cells (R211). -/
def cellsOf (len : Nat) : Nat := ceilDiv len 64

/-- The shared and the reserve cells (R209). -/
def sharedCells : Nat := 1572864 - 131072
def reserveCells : Nat := 131072

/-- Give a frame a place in the buffer for `copies` queues. -/
def State.bufferFrame (s : State) (cells copies : Nat) (reserve : Bool) : State × Nat :=
  let id := s.sw.nextFrame
  let t := s.setBufEnt id ⟨cells, reserve, copies⟩
  ({ t with sw := { t.sw with nextFrame := id + 1 } }, id)

/-- The cells of the frames in queue `q` of port `n`. -/
def State.queueCells (s : State) (n q : Nat) : Nat :=
  (((s.portAt n).queue q).map fun f => cellsOf f.octets.length).sum

/-- Buffer admission of a protection frame (R210): reserve cells, then shared ones, then a drop. -/
def State.admitProtection (s : State) (cells copies : Nat) : State × Option Nat :=
  if s.cellsUsed true + cells ≤ reserveCells then
    let (t, id) := s.bufferFrame cells copies true
    (t, some id)
  else if s.cellsUsed false + cells ≤ sharedCells then
    let t := (s.count32 Od.reserveOverflows).raiseOcc 0x10C 0x80 0 1 0
    let (t, id) := t.bufferFrame cells copies false
    (t, some id)
  else (s.count32 Od.protectionBufferDrops, none)

/-- Every egress queue passes the dynamic threshold of R211. -/
def State.sharedRoom (s : State) (ports : List Nat) (q cells : Nat) : Bool :=
  let free := sharedCells - s.cellsUsed false
  ports.all fun n => decide (s.queueCells n q + cells ≤ free / 2 ^ s.num Od.dynamicThresholdShift)

/-! ### VLANs (R198, Table 5-3) -/

def State.vlanEntry (s : State) (v : Nat) : Bytes := s.blob (Od.vlanEntry + v)

def State.vlanMember (s : State) (v n : Nat) : Bool := maskBit (s.vlanEntry v) 0 n

/-- The VLAN of a frame on ingress port `n`. -/
def State.frameVlan (s : State) (n : Nat) (f : Frame) : Nat :=
  if f.tagged ∧ f.vid ≠ 0 then f.vid else s.pnum Od.portDefaultVlan n

/-- The priority of a best-effort frame (R197). -/
def State.frameQueue (s : State) (n : Nat) (f : Frame) : Nat :=
  if f.tagged ∧ f.vid ≠ 0 then field (s.pnum Od.pcpMap n) (4 * f.pcp) 4 else s.pnum Od.portDefaultPriority n

/-- The octets of a best-effort frame as they leave port `n` on VLAN `v` (R198). -/
def State.egressOctets (s : State) (n v prio : Nat) (o : Bytes) : Bytes :=
  let f := parseFrame o
  if maskBit (s.vlanEntry v) 32 n then (if f.tagged then untagFrame o else o)
  else if f.tagged then (if f.vid = 0 then tagFrame (untagFrame o) f.pcp v else o)
  else tagFrame o prio v

/-! ### Learning (R213 to R218) -/

/-- The key of a learning table entry, and its bucket (R213). -/
def macKey (vid addr : Nat) : Nat := vid * 2 ^ 48 + addr

def macBucket (key : Nat) : Nat := crc32c (toBE 2 (key / 2 ^ 48) ++ toBE 6 key) % 2 ^ 15

def State.macEnt (s : State) (key : Nat) : Option MacEnt :=
  let e := tabGet MacEnt.init s.sw.macs key
  if e = .init then none else some e

def State.setMac (s : State) (key : Nat) (e : Option MacEnt) : State :=
  { s with sw := { s.sw with macs := tabSet MacEnt.init s.sw.macs key (e.getD .init) } }

/-- The entries of a bucket. -/
def State.bucketOf (s : State) (key : Nat) : List (Nat × MacEnt) :=
  s.sw.macs.filter fun x => macBucket x.1 == macBucket key

/-- LearnedOnPort of port `n`. -/
def State.learnedOn (s : State) (n : Nat) : Nat :=
  (s.sw.macs.filter fun x => x.2.port == n && x.2.static.isNone).length

/-- Queue a learn in the pipeline of port `n`; one that finds the queue full is counted (R216). -/
def State.queueLearn (s : State) (n key : Nat) : State :=
  let l := tabGet [] s.sw.learns (n / 32)
  if l.length < 1024 then { s with sw := { s.sw with learns := tabSet [] s.sw.learns (n / 32) (l ++ [(key, n)]) } }
  else s.count32 Od.learnFailures

/-- Perform one learn. -/
def State.learnOne (s : State) (key n : Nat) : State :=
  match s.macEnt key with
  | some e =>
    if e.static.isSome then s
    else if e.port = n then s.setMac key (some { e with hit := true, sweeps := 0 })
    else
      let moves := s.gtc :: e.moves.filter fun g => decide (s.gtc < g + 1000000000)
      let t := (s.setMac key (some ⟨n, true, 0, none, moves⟩)).count48ev Od.stationMoves 0x108 0x80 0
      if 10 < moves.length then t.raiseOcc 0x108 0x80 0 1 (key % 2 ^ 48) else t
  | none =>
    if s.pnum Od.learnLimit n ≤ s.learnedOn n then s.portCount Od.learnLimitDrops n
    else if 8 ≤ (s.bucketOf key).length then
      (s.count32 Od.learnFailures).raiseLimited 0x108 0x80 0 0xA002 (key % 2 ^ 48)
    else s.setMac key (some ⟨n, true, 0, none, []⟩)

def learn (pipeline : Nat) (s : State) : State :=
  match tabGet [] s.sw.learns pipeline with
  | [] => s
  | (key, n) :: rest =>
    ({ s with sw := { s.sw with learns := tabSet [] s.sw.learns pipeline rest } }).learnOne key n

def execLearn (pipeline : Fin 8) (s : State) : Res := .next (learn pipeline.val s)

/-- One sweep over every entry, once per SkimmerInterval while AgingEnable is 1 (R218). -/
def skimmerSweep (s : State) : State :=
  if s.num Od.agingEnable = 1 ∧ s.sw.lastSweep + s.num Od.skimmerInterval * 1000000000 ≤ s.gtc then
    let macs := s.sw.macs.filterMap fun x =>
      if x.2.static.isSome then some x
      else if x.2.hit then some (x.1, { x.2 with hit := false })
      else if 1 ≤ x.2.sweeps then none
      else some (x.1, { x.2 with sweeps := 1 })
    { s with sw := { s.sw with macs := macs, lastSweep := s.gtc } }
  else s

def execSkimmerSweep (s : State) : Res := .next (skimmerSweep s)

/-! ### Static entries (R221, Table 5-6) -/

def smAddr (b : Bytes) : Nat := beAt b 0 6
def smVlan (b : Bytes) : Nat := leAt b 6 2 % 4096
def smMask (b : Bytes) : Bool := (leAt b 8 2).testBit 15
def smTarget (b : Bytes) : Nat := leAt b 8 2 % 4096
def smValid (b : Bytes) : Bool := (byteAt b 10).testBit 0
def smDrop (b : Bytes) : Bool := (byteAt b 10).testBit 1
def smKey (b : Bytes) : Nat := macKey (smVlan b) (smAddr b)

def State.staticMac (s : State) (k : Nat) : Bytes := s.blob (Od.staticMacEntry + k)

/-- The valid static slots. -/
def State.staticSlots (s : State) : List Nat := (s.listed Od.staticMacEntry 16384).filter fun k => smValid (s.staticMac k)

/-- The form of a static slot. -/
def checkStaticForm (b : Bytes) : Except Code Unit := do
  need (leAt b 6 2 / 4096 == 0 && leAt b 8 2 / 4096 % 8 == 0 && byteAt b 10 / 4 == 0
    && (slice b 11 5).all (· == 0)) .reservedBitSet
  need (!smValid b || (decide (1 ≤ smVlan b) && decide (smVlan b ≤ 4094)
    && (smMask b || decide (smTarget b < 256)))) .outOfRange

/-- The checks of a static slot write. -/
def State.checkStatic (s : State) (k : Nat) (b : Bytes) : Except Code Unit := do
  checkStaticForm b
  let others := s.staticSlots.filter (· != k)
  need (!smValid b || others.all fun j => smKey (s.staticMac j) != smKey b) .heldElsewhere
  need (!smValid b || decide ((others.filter fun j => macBucket (smKey (s.staticMac j)) == macBucket (smKey b)).length < 8))
    .noResource

/-- Put a static slot into force; a learned entry of a full bucket gives way, which one is open. -/
def State.applyStatic (s : State) (k : Nat) (b : Bytes) : State :=
  let old := s.staticMac k
  let t := if smValid old then s.setMac (smKey old) none else s
  let t := t.setBlob (Od.staticMacEntry + k) b
  if smValid b then
    let key := smKey b
    let t := if (t.macEnt key).isNone ∧ 8 ≤ (t.bucketOf key).length then
        let learned := (t.bucketOf key).filter fun x => x.2.static.isNone
        (t.setMac ((learned[t.free % learned.length]?).map Prod.fst |>.getD key) none).tookFree
      else t
    t.setMac key (some ⟨smTarget b, false, 0, some k, []⟩)
  else t

def staticMacWrite (who : Caller) (k : Nat) (b : Bytes) (s : State) : Act := do
  let _ ← s.gate who (Od.staticMacEntry + k) false 0 (.bytes b)
  s.checkStatic k b
  .ok ((s.applyStatic k b).bumpVersion (Od.staticMacEntry + k) 0)

def execStaticMacWrite (who : Caller) (slot : Fin 16384) (value : Bytes) (s : State) : Res :=
  .next (s.answer who (staticMacWrite who slot.val value s))

/-! ### PRP and HSR (R231, R232; IEC 62439-3) -/

/-- The redundancy number of a frame: sequence, LAN or path identifier, and the frame without it. -/
def prpTrailer (o : Bytes) : Option (Nat × Nat × Bytes) :=
  let n := o.length
  if 24 ≤ n ∧ beAt o (n - 6) 2 = 0x88FB then
    some (beAt o (n - 10) 2, beAt o (n - 8) 2 / 4096, withFcs (o.take (n - 10)))
  else none

def hsrTag (o : Bytes) : Option (Nat × Nat × Bytes) :=
  let f := parseFrame o
  if f.etype = 0x892F then
    let p := f.body
    some (beAt o (p + 2) 2, beAt o p 2 / 4096, withFcs (o.take (p - 2) ++ (o.take (o.length - 4)).drop (p + 4)))
  else none

/-- The frame with a PRP trailer for LAN 0xA or 0xB. -/
def addTrailer (o : Bytes) (seq lan : Nat) : Bytes :=
  let b := o.take (o.length - 4)
  let size := b.length - (parseFrame o).body + 6
  withFcs (b ++ toBE 2 seq ++ toBE 2 (lan * 4096 + size % 4096) ++ toBE 2 0x88FB)

/-- The frame with an HSR tag of a path. -/
def addHsrTag (o : Bytes) (seq path : Nat) : Bytes :=
  let b := o.take (o.length - 4)
  let p := (parseFrame o).body
  let size := b.length - p + 6
  withFcs (b.take (p - 2) ++ toBE 2 0x892F ++ toBE 2 (path * 4096 + size % 4096) ++ toBE 2 seq ++ b.drop (p - 2))

def nodeKey (g addr : Nat) : Nat := g * 2 ^ 48 + addr

def State.node (s : State) (g addr : Nat) : Option RedNode := tabGet none s.sw.nodes (nodeKey g addr)

def State.setNode (s : State) (g addr : Nat) (x : Option RedNode) : State :=
  { s with sw := { s.sw with nodes := tabSet none s.sw.nodes (nodeKey g addr) x } }

/-- Take sequence number `seq` into a node's window of 64: the node after, and whether the number is new. -/
def RedNode.take (x : RedNode) (seq now : Nat) : RedNode × Bool :=
  let ahead := (seq + 65536 - x.newest) % 65536
  let behind := (x.newest + 65536 - seq) % 65536
  if ahead = 0 then ({ x with last := now }, false)
  else if ahead < 32768 then
    ({ x with newest := seq, seen := ((x.seen * 2 + 1) * 2 ^ (ahead - 1)) % 2 ^ 63, last := now }, true)
  else if behind < 64 then
    if x.seen.testBit (behind - 1) then ({ x with last := now }, false)
    else ({ x with seen := x.seen + 2 ^ (behind - 1), last := now }, true)
  else ({ x with newest := seq, seen := 0, last := now }, true)

/-- Evict the source used longest ago that no admitted stream has, when the node table is full. -/
def State.evictNode (s : State) : State :=
  if s.sw.nodes.length < 16384 then s
  else
    let old := s.sw.nodes.foldl (fun (a : Option (Nat × Nat)) x => match x.2 with
      | some y => if y.stream then a else (match a with
          | none => some (x.1, y.last)
          | some (k, l) => if y.last < l then some (x.1, y.last) else some (k, l))
      | none => a) none
    match old with
    | none => s
    | some (k, _) =>
      let g := k / 2 ^ 48
      let t := { s with sw := { s.sw with nodes := tabSet none s.sw.nodes k none } }
      (t.count32 (Od.redNodeTableFull + 256 * g)).raiseOcc (0x110 + g) 0x85 g 2 (k % 2 ^ 48)

/-- Stage 4 on port `n` of group `g`: the frame without its redundancy number, that number, and whether it is the first
copy. -/
def State.redundancy (s : State) (g n : Nat) (o : Bytes) : State × Bytes × Option Nat × Bool :=
  let f := parseFrame o
  if f.etype = 0x88F7 then (s, o, none, true)
  else match (if s.gnum Od.redMode g = 1 then prpTrailer o else hsrTag o) with
    | none => (s, o, none, true)
    | some (seq, lan, inner) =>
      let onB := s.gnum Od.redPortB g == n
      let t := if s.gnum Od.redMode g = 1 then
          (if lan = 0xB ∧ ¬ onB then s.count48ev (Od.redWrongLanA + 256 * g) (0x110 + g) 0x85 g
           else if lan = 0xA ∧ onB then s.count48ev (Od.redWrongLanB + 256 * g) (0x110 + g) 0x85 g else s)
        else s
      match t.node g f.src with
      | none => (t.evictNode.setNode g f.src (some ⟨seq, 0, s.gtc, false⟩), inner, some seq, true)
      | some x =>
        let x := if x.last + s.gnum Od.redForgetTime g * 1000000 ≤ s.gtc then { x with newest := (seq + 65535) % 65536, seen := 0 } else x
        let (y, fresh) := x.take seq s.gtc
        let t := t.setNode g f.src (some y)
        (if fresh then t else t.count48ev (Od.redDuplicates + 256 * g) (0x110 + g) 0x85 g, inner, some seq, fresh)

/-- Queue a frame that a group doubles: a trailer or tag of its own number on each of its two Up ports. -/
def State.sendDoubled (s : State) (g q id : Nat) (o : Bytes) : State :=
  let seq := tabGet 0 s.sw.redSeq g
  let mode := s.gnum Od.redMode g
  let a := s.gnum Od.redPortA g
  let b := s.gnum Od.redPortB g
  let form (lan : Nat) : Bytes := if mode = 1 then addTrailer o seq (0xA + lan) else addHsrTag o seq lan
  let t := { s with sw := { s.sw with redSeq := tabSet 0 s.sw.redSeq g ((seq + 1) % 65536) } }
  let t := if t.portUp a then t.enqueue a q ⟨id, form 0, false, s.gtc, .none⟩ else t
  if t.portUp b then t.enqueue b q ⟨0, form 1, false, s.gtc, .none⟩ else t

/-- The group doubles frames from ingress port `n`, or, for none, the module's own (Table 5-10). -/
def State.doubles (s : State) (g : Nat) : Option Nat → Bool
  | none => true
  | some n => s.gnum Od.redRole g == 2 && maskBit (s.blob (Od.redSanMask + 256 * g)) 0 n

/-- Queue one copy of a frame on port `n`, doubled where its group does so. -/
def State.sendCopy (s : State) (src : Option Nat) (n q id : Nat) (o : Bytes) (stomp : Bool) : State :=
  match s.groupOf n with
  | some g => if s.doubles g src ∧ ¬ stomp then s.sendDoubled g q id o else s.enqueue n q ⟨id, o, stomp, s.gtc, .none⟩
  | none => s.enqueue n q ⟨id, o, stomp, s.gtc, .none⟩

def redSupervisionSend (g : Nat) (s : State) : State :=
  if s.gnum Od.redMode g ≠ 0 ∧ tabGet 0 s.sw.redSent g + s.gnum Od.redLifeCheckInterval g * 1000000 ≤ s.gtc then
    let a := s.gnum Od.redPortA g
    let seq := tabGet 0 s.sw.redSeq g
    let tlv := (if s.gnum Od.redMode g = 1 then 20 else 23)
    let o := withFcs (padFrame (toBE 6 0x01154E000100 ++ toBE 6 (s.portMac a) ++ toBE 2 0x88FB ++ toBE 2 1 ++ toBE 2 seq
      ++ toBE 1 tlv ++ toBE 1 6 ++ toBE 6 (s.portMac a) ++ toBE 2 0))
    let t := { s with sw := { s.sw with redSent := tabSet 0 s.sw.redSent g s.gtc } }
    t.sendDoubled g (t.pnum Od.portDefaultPriority a) 0 o
  else s

def execRedSupervisionSend (g : Fin 32) (s : State) : Res := .next (redSupervisionSend g.val s)

def redNodeForget (g addr : Nat) (s : State) : State :=
  match s.node g addr with
  | some x => if x.last + s.gnum Od.redForgetTime g * 1000000 ≤ s.gtc then s.setNode g addr none else s
  | none => s

def execRedNodeForget (g : Fin 32) (address : Nat) (s : State) : Res := .next (redNodeForget g.val address s)

/-! ### Stage 6a: admitted frames (R199 to R203, R210, R227) -/

/-- The class of an EtherType, 0 for none. -/
def classOf (etype : Nat) : Nat := if etype = 0x88BA then 1 else if etype = 0x88B8 then 2 else if etype = 0x88B5 then 3 else 0

/-- The stream identifier of a frame of a class. -/
def streamIdent (cls : Nat) (o : Bytes) (f : Frame) : Nat := if cls = 3 then beAt o (f.body + 2) 2 else beAt o f.body 2

/-- The admitted entry that a frame from `n` matches (R201). -/
def State.matchStream (s : State) (n : Nat) (o : Bytes) (f : Frame) : Option Nat :=
  let cls := classOf f.etype
  if cls = 0 then none
  else s.admitted.find? fun e =>
    let b := s.streamEntry e
    seClass b == cls && seIdent b == streamIdent cls o f && seDest b == f.dst && (seIn b == n || seAlt b == n)
      && (!seMatchVlan b || seVlan b == s.frameVlan n f)

/-- The frame would leave port `m` cut-through (R196). -/
def State.cutThrough (s : State) (n m q : Nat) : Bool :=
  s.pnum Od.cutThrough n == 1 && decide (s.macRate m ≤ s.macRate n) && ((s.portAt m).queue q).isEmpty

/-- A redundancy number is not newer than the last one accepted from its source (R227); numbers count modulo `m`. -/
def notNewer (m last seq : Nat) : Bool := let d := (seq + m - last) % m; d == 0 || decide (m / 2 ≤ d)

/-- Take the redundancy number of a frame of an entry with two ingress ports: whether the frame is new. -/
def State.takeStreamSeq (s : State) (e src m : Nat) (seq : Option Nat) : State × Bool :=
  match seq with
  | none => (s, true)
  | some x =>
    if seAlt (s.streamEntry e) = 0xFFFF then (s, true)
    else
      let k := e * 2 ^ 48 + src
      match tabGet none s.sw.streamSeq k with
      | some l => if notNewer m l x then (s, false)
          else ({ s with sw := { s.sw with streamSeq := tabSet none s.sw.streamSeq k (some x) } }, true)
      | none => ({ s with sw := { s.sw with streamSeq := tabSet none s.sw.streamSeq k (some x) } }, true)

/-- Send the copies of a frame of stream entry `e` on the paths of its flow `f` (R255). -/
def State.sendFlow (s : State) (f : Nat) (o : Bytes) : State :=
  let b := s.flowEntry f
  let x := s.flowAt f
  let carried := o.take (o.length - 4)
  let len := 34 + carried.length
  let live := [(x.a, false), (x.b, true)].filter fun p => p.1.st == 2
  if live.isEmpty then s
  else
    let (t, ok) := s.policeBucket (0x4000 + f) (feRate b) (feBurst b) len
    if ok then
      let h (pathB : Bool) : XosynHead :=
        { t.originHead 7 f (leAt b 2 2 % 4096) false pathB with sequence := x.seq }
      let prio := if seHigh (s.streamEntry (leAt b 0 2)) then 7 else 6
      let t := live.foldl (fun u p => u.sendXosyn p.1.port 7 (h p.2) carried .none prio) t
      let t := t.setFlow f { t.flowAt f with seq := (x.seq + 1) % 2 ^ 32 }
      t.blobCount (Od.flowStatus + f) 8 (0x160 + f / 64) 0x86 f
    else t.blobCount (Od.flowStatus + f) 16 (0x160 + f / 64) 0x86 f

/-- The enabled flows that carry stream entry `e`. -/
def State.flowsOf (s : State) (e : Nat) : List Nat :=
  s.flows.filter fun f => !(byteAt (s.flowEntry f) 4).testBit 2 && leAt (s.flowEntry f) 0 2 == e

/-- Stage 6a: the stream policer, the intake copy, the flows of the entry, and the egress ports of its mask. `bad` is a
frame that turned out bad after its header (Table 4-5); `stamp` is its receive stamp. -/
def State.admittedFrame (s : State) (n e : Nat) (o : Bytes) (bad : Bool) (stamp : Nat) : State :=
  let b := s.streamEntry e
  let id := Od.streamCounters + e
  let src := 0x140 + e / 64
  let t := s.blobCount id 0 src 0x02 e
  let t := t.setBlob id (splice (t.blob id) 16 (toLE 8 stamp))
  let (t, ok) := t.policeBucket e (seRate b) (seBurst b) o.length
  if ¬ ok then t.blobCount id 8 src 0x02 e
  else
    let q := if seHigh b then 7 else 6
    let ports := (maskPorts b 28).filter t.portUp
    if bad then
      match ports with
      | [m] => if t.cutThrough n m q then t.sendCopy (some n) m q 0 o true else t
      | _ => t
    else
      let t := if seCopy b then
          (if seClass b = 2 then
            (match t.checkTag e 2 (o.take (o.length - 4)) with
              | .ok tagOk => (t.noteAmbiguous e 2 o).gooseCopy e o tagOk stamp
              | .error _ => t)
           else { t with intake := { t.intake with
             copies := t.intake.copies ++ [⟨e, o.take (o.length - 4), stamp⟩] } })
        else t
      let t := (t.flowsOf e).foldl (fun u f => u.sendFlow f o) t
      if ports.isEmpty then t
      else match t.admitProtection (cellsOf o.length) ports.length with
        | (t, some id) => ports.foldl (fun u m => u.sendCopy (some n) m q id o false) t
        | (t, none) => t

/-- An admitted or carried frame from port `n` with a redundancy number counted modulo `m`. -/
def State.streamFrame (s : State) (n e : Nat) (o : Bytes) (bad : Bool) (stamp m : Nat) (seq : Option Nat) : State :=
  let (t, fresh) := s.takeStreamSeq e (parseFrame o).src m seq
  if fresh then t.admittedFrame n e o bad stamp else t

/-! ### Stage 6b: best effort (R197, R198, R211, R214, R222) -/

/-- Where a best-effort frame goes: its egress ports before the VLAN's, whether it is flooded, or dropped. -/
def State.lookup (s : State) (n v dst : Nat) : List Nat × Bool :=
  match s.macEnt (macKey v dst) with
  | some e =>
    (match e.static with
      | some k =>
        let b := s.staticMac k
        if smDrop b then ([], false)
        else if smMask b then ((maskPorts (s.blob (Od.portMask + smTarget b)) 0).filter fun m => s.vlanMember v m && m != n, false)
        else ([smTarget b].filter (· != n), false)
      | none => ([e.port].filter (· != n), false))
  | none => ((maskPorts (s.vlanEntry v) 0).filter (· != n), true)

/-- The twin of a port of a running PRP group: one frame never crosses between its LANs. -/
def State.prpTwin (s : State) (n m : Nat) : Bool :=
  match s.groupOf n, s.groupOf m with
  | some g, some h => g == h && s.gnum Od.redMode g == 1
  | _, _ => false

/-- Take one of the two ports of a group that doubles frames from `n` out of a list of egress ports. -/
def State.onePerGroup (s : State) (n : Nat) (l : List Nat) : List Nat :=
  l.filter fun m => match s.groupOf m with
    | some g => !(s.doubles g (some n) && s.gnum Od.redPortB g == m && l.contains (s.gnum Od.redPortA g))
    | none => true

/-- Stage 6b to 8 for a best-effort frame on its VLAN. -/
def State.bestEffort (s : State) (n : Nat) (o : Bytes) (bad : Bool) : State :=
  let f := parseFrame o
  let v := s.frameVlan n f
  let s := if classOf f.etype = 0 then s else s.portCount Od.unadmittedStreamFrames n
  if f.dst / 16 = 0x0180C200000 then s
  else if ¬ s.vlanMember v n then s.portCount Od.vlanDrops n
  else
    let q := s.frameQueue n f
    let (s, pass) := if s.pnum Od.policerEnable n = 1
      then s.policePort (0x1000 + n) (s.pnum Od.policerRate n) (s.pnum Od.policerBurst n) o.length else (s, true)
    if ¬ pass then s.portCount Od.policerDrops n
    else
      let learns := !bad && !isGroup f.src
      let overLimit := learns && (s.macEnt (macKey v f.src)).isNone && decide (s.pnum Od.learnLimit n ≤ s.learnedOn n)
      let s := if learns then s.queueLearn n (macKey v f.src) else s
      if overLimit ∧ s.pnum Od.learnLimitAction n = 1 then s
      else
        let (ports, flooded) := s.lookup n v f.dst
        let (s, pass) := if flooded
          then s.policePort (0x2000 + n) (s.pnum Od.floodRate n) (s.pnum Od.floodBurst n) o.length else (s, true)
        if ¬ pass then s.portCount Od.floodPolicerDrops n
        else
          let ports := s.onePerGroup n (ports.filter fun m => s.vlanMember v m && s.portUp m && !s.prpTwin n m)
          if bad then
            match ports with
            | [m] => if ¬ flooded ∧ s.cutThrough n m q then s.sendCopy (some n) m q 0 (s.egressOctets m v q o) true else s
            | _ => s
          else if ports.isEmpty then s
          else
            let cells := cellsOf o.length
            if s.sharedRoom ports q cells then
              let (s, id) := s.bufferFrame cells ports.length false
              ports.foldl (fun u m => u.sendCopy (some n) m q id (u.egressOctets m v q o) false) s
            else s.portCount Od.bufferDrops n

/-- Stages 2 to 8 for a frame that has passed its MAC (Table 5-1). -/
def State.switchFrame (s : State) (n : Nat) (o : Bytes) (bad : Bool) : State :=
  let fs := s.pnum Od.portForwardState n
  if fs ≠ 2 then
    let f := parseFrame o
    let t := if fs = 1 ∧ ¬ bad ∧ ¬ isGroup f.src then s.queueLearn n (macKey (s.frameVlan n f) f.src) else s
    t.portCount Od.stateDrops n
  else
    let (t, o, seq, fresh) := match s.groupOf n with
      | some g => if bad then (s, o, none, true) else s.redundancy g n o
      | none => (s, o, none, true)
    if ¬ fresh then t
    else
      let f := parseFrame o
      match t.matchStream n o f with
      | some e =>
        let t := if ¬ bad ∧ ¬ isGroup f.src then t.queueLearn n (macKey (t.frameVlan n f) f.src) else t
        let t := match t.groupOf n with
          | some g => (match t.node g f.src with
              | some x => t.setNode g f.src (some { x with stream := true })
              | none => t)
          | none => t
        t.streamFrame n e o bad t.gtc 65536 seq
      | none => t.bestEffort n o bad

/-- On an HSR ring a frame not addressed to the module alone goes on from one ring port to the other (R232). -/
def State.hsrForward (s : State) (n : Nat) (o : Bytes) (fresh : Bool) : State :=
  match s.groupOf n with
  | some g =>
    let m := if s.gnum Od.redPortA g = n then s.gnum Od.redPortB g else s.gnum Od.redPortA g
    if s.gnum Od.redMode g = 2 ∧ (hsrTag o).isSome ∧ fresh ∧ s.portUp m ∧ (parseFrame o).dst ≠ s.portMac n then
      s.enqueue m (s.pnum Od.portDefaultPriority n) ⟨0, o, false, s.gtc, .none⟩
    else s
  | none => s

/-! ### Admission (R204 to R208) -/

/-- Check 1 of Table 5-5. -/
def checkStreamForm (b : Bytes) : Except Code Unit := do
  need (byteAt b 3 / 16 == 0 && leAt b 10 2 / 4096 == 0 && (slice b 24 4).all (· == 0) && (slice b 60 4).all (· == 0))
    .reservedBitSet
  need (decide (1 ≤ seClass b) && decide (seClass b ≤ 3) && decide (seIn b < 256)
    && (decide (seAlt b < 256) || seAlt b == 0xFFFF) && decide (1000 ≤ seRate b) && decide (seRate b ≤ 4000000000)
    && decide (64 ≤ seBurst b) && decide (seBurst b ≤ 1048576)) .outOfRange

/-- The ports whose limit an entry would break at the rates in force, or, with `up`, with shifting ports at
100 Gbit/s. -/
def State.overLimit (s : State) (b : Bytes) (up : Bool) : List Nat :=
  let rate (n : Nat) : Nat := if up && s.shifts n && s.pnum Od.portRate n == 2 then 100000000000 else s.macRate n
  let rx := ((if seAlt b = 0xFFFF ∨ seAlt b = seIn b then [seIn b] else [seIn b, seAlt b]).filter fun n =>
    decide (s.portLimit (rate n) < s.rxBandwidth n + seRate b))
  let tx := (maskPorts b 28).filter fun n => decide (s.portLimit (rate n) < s.txBandwidth n + seRate b)
  rx ++ tx

/-- The checks of Table 5-5 in order; `who` of a configuration load is the Manager. -/
def State.checkAdmission (s : State) (who : Caller) (e : Nat) (b : Bytes) : Except Code Unit := do
  checkStreamForm b
  need ((seIn b :: (if seAlt b = 0xFFFF then [] else [seAlt b]) ++ maskPorts b 28).all fun n => s.tenantPort who n) .notOwner
  need (s.admitted.all fun k => k == e || seIdent (s.streamEntry k) != seIdent b) .heldElsewhere
  need (s.overLimit b false).isEmpty .noResource
  need (decide (s.reserveCharged + 2 * seBurst b ≤ 8388608)) .noResource

/-- The admission waits for an upshift: checks 1 to 3 pass, a port of 50 Gbit/s stands in the way, and at 100 Gbit/s none
does (R205). -/
def State.admissionShift (s : State) (who : Caller) (e : Nat) (b : Bytes) : Bool :=
  match s.checkAdmission who e b with
  | .error .noResource =>
    !(s.overLimit b false).isEmpty && (s.overLimit b true).isEmpty && decide (s.reserveCharged + 2 * seBurst b ≤ 8388608)
  | _ => false

/-- Admit entry `e`: its bucket is full at that instant (R203). -/
def State.admitStream (s : State) (e : Nat) (b : Bytes) : State :=
  ((s.setBlob (Od.streamEntry + e) b).fillBucket e (seBurst b)).raiseAdmission 0x10B 0x02 e 1 0

def State.refuseStream (s : State) (e : Nat) (c : Code) : State := s.raiseAdmission 0x10B 0x02 e 2 c.value

/-- A Tenant reaches a stream's objects only while its pond holds the entry. -/
def State.checkEntryOwner (s : State) (who : Caller) (e : Nat) : Except Code Unit := need (s.tenantHolds who 0x02 e) .notOwner

/-- A write of an entry with Admitted 1 that is judged at once: the state after (an event is raised either way) and the
code, 0 for Done. -/
def State.tryAdmit (s : State) (who : Caller) (e : Nat) (b : Bytes) : State × Nat :=
  match s.checkAdmission who e b with
  | .ok _ => ((s.admitStream e b).bumpVersion (Od.streamEntry + e) 0, 0)
  | .error c => (s.refuseStream e c, c.value)

/-- The checks of a stream entry write before Table 5-5. -/
def streamGate (who : Caller) (e : Nat) (b : Bytes) (s : State) : Except Code Unit := do
  let _ ← s.gate who (Od.streamEntry + e) false 0 (.bytes b)
  s.checkEntryOwner who e

/-- An admission that waits is decided once its ports run at 100 Gbit/s, or refused after 10 ms (R205). -/
def admissionShiftWait (e : Nat) (s : State) : State :=
  match s.sw.waiting.find? fun w => w.entry == e with
  | none => s
  | some w =>
    let ready := w.ports.all fun n => s.pnum Od.portRate n != 2
    if ready ∨ w.since + 10000000 ≤ s.gtc then
      let t := { s with sw := { s.sw with waiting := s.sw.waiting.filter fun x => x.entry != e } }
      let (t, c) := if ready then t.tryAdmit ⟨w.sess, .manager, 0⟩ e w.value
        else (t.refuseStream e .noResource, Code.noResource.value)
      t.emit (.answer w.sess c)
    else s

def execAdmissionShiftWait (e : Fin 2048) (s : State) : Res := .next (admissionShiftWait e.val s)

/-! ### Drop events (R223, R264, R296) -/

/-- The source, item and code of a drop counter; none for another number. Numbers from 2^24 on name the discards of an
intake stream: 2^24 + entry × 16 + cause. -/
def dropSource (id : Nat) : Option (Nat × Nat × Nat × Nat) :=
  let n := id / 256 % 256
  if 2 ^ 24 ≤ id then
    let e := (id - 2 ^ 24) / 16
    if e < 2048 then some (0x200 + e / 2, 0x02, e, 0x4000 + id % 16) else none
  else if 0x450000 ≤ id ∧ id < 0x460000 ∧ (id % 256 = 0 ∨ id % 256 = 1 ∨ id % 256 = 2 ∨ id % 256 = 5) then
    some (0x130 + n / 16, 0x01, n, 0x4000 + id % 256)
  else if Od.streamCounters ≤ id ∧ id < Od.streamCounters + 2048 then
    some (0x140 + (id - Od.streamCounters) / 64, 0x02, id - Od.streamCounters, 0x4000 + id % 256)
  else if Od.xosynMalformed ≤ id ∧ id ≤ Od.rpfDrops then some (0x154, 0x80, 0, 0x4000 + id % 256)
  else none

/-- What a drop counter counts now. -/
def State.dropCount (s : State) (id : Nat) : Nat :=
  if 2 ^ 24 ≤ id then (tabGet (0, 0) s.intake.discards (id - 2 ^ 24)).1
  else if Od.streamCounters ≤ id ∧ id < Od.streamCounters + 2048 then leAt (s.blob id) 8 8
  else s.num id

/-- A drop counter that changed raises at most one event per second, with the drops since the last one. -/
def dropEvent (id : Nat) (s : State) : State :=
  match dropSource id with
  | none => s
  | some (src, kind, num, code) =>
    let seen := tabGet (0, 0) s.sw.drops id
    let now := s.dropCount id
    if now = seen.2 ∨ (seen.1 ≠ 0 ∧ s.gtc < seen.1 + 1000000000) then s
    else
      let t := { s with sw := { s.sw with drops := tabSet (0, 0) s.sw.drops id (s.gtc, now) } }
      t.raise src code kind num ((now + 2 ^ 48 - seen.2) % 2 ^ 48)

def execDropEvent (counter : Nat) (s : State) : Res := .next (dropEvent counter s)

/-! ### Shapers (R224, R225) -/

/-- The MAC rate of a port's mode, the port rate of ShaperRate, PolicerRate and FloodRate. -/
def State.modeRate (s : State) (n : Nat) : Nat :=
  match s.pnum Od.portMode n with
  | 1 => 100000000000 | 2 => 50000000000 | 3 => 200000000000 | 4 => 400000000000 | 5 => 25000000000
  | 6 => 10000000000 | 7 | 8 => 1000000000 | _ => 400000000000

def State.applyShaperRate (s : State) (n q value : Nat) : State :=
  (s.shaperSettle n q).setNum (Od.shaperRate + 256 * n + q) value

/-- A burst below L lowers L to it. -/
def State.applyShaperBurst (s : State) (n q value : Nat) : State :=
  let t := (s.shaperSettle n q).setNum (Od.shaperBurst + 256 * n + q) value
  t.setBucket (shaperKey n q) ⟨min (s.shaperLevel n q) (value * byteUnits), s.gtc⟩

/-- Enabling a shaper sets L to its burst; disabling it stops L. -/
def State.applyShaperEnable (s : State) (n value : Nat) : State :=
  let t := (numbersFrom 0 6).foldl (fun u q =>
    if value.testBit q ∧ ¬ s.shaperOn n q then u.fillBucket (shaperKey n q) (s.shaperBurst n q)
    else u.shaperSettle n q) s
  t.setPnum Od.shaperEnable n value

def State.checkShaperRate (s : State) (who : Caller) (n value : Nat) : Except Code Unit := do
  need (decide (value ≤ s.modeRate n)) .outOfRange
  s.checkPort who n

def shaperRateWrite (who : Caller) (n q value : Nat) (s : State) : Act := do
  let id := Od.shaperRate + 256 * n + q
  let _ ← s.gate who id false 0 (.num value)
  s.checkShaperRate who n value
  .ok ((s.applyShaperRate n q value).bumpVersion id 0)

def execShaperRateWrite (who : Caller) (n : Fin 256) (q : Fin 6) (value : Nat) (s : State) : Res :=
  .next (s.answer who (shaperRateWrite who n.val q.val value s))

/-! ### Sounding (R229, R230, Table 5-9) -/

/-- The tables in the order of Table 5-9: first object, rows, octets of a row, offset of the shadow. -/
def soundingTables : List (Nat × Nat × Nat × Nat × Nat) :=
  [(1, Od.streamEntry, 2048, 64, 0), (2, Od.vlanEntry, 4096, 64, 0x20000), (3, Od.portMask, 4096, 32, 0x60000),
    (4, Od.staticMacEntry, 16384, 16, 0x80000)]

/-- The rows that differ from the shadow, as table × 2^16 + row. -/
def State.soundingDiffs (s : State) : List Nat :=
  soundingTables.flatMap fun x =>
    let (tab, id, rows, len, off) := x
    (numbersFrom 0 rows).filterMap fun r =>
      if s.blob (id + r) = s.hbmRead (s.num Od.soundingShadowBase + off + r * len) len then none else some (tab * 2 ^ 16 + r)

/-- One pass: rows that differed on the previous pass too, at least 10 ms before, are counted and reported. -/
def soundingPass (s : State) : State :=
  if s.num Od.soundingEnable = 1 ∧ s.num Od.soundingPassGtc + 10000000 ≤ s.gtc then
    let now := s.soundingDiffs
    let t := (now.filter s.sw.sounding.contains).foldl (fun u x =>
      let row := x / 2 ^ 16 * 2 ^ 28 + x % 2 ^ 16
      (((u.count32 Od.soundingDifferences).setNum Od.soundingLastRow row)).raiseOcc 0x10A 0x80 0 1 row) s
    ({ t with sw := { t.sw with sounding := now } }).setNum Od.soundingPassGtc s.gtc
  else s

def execSoundingPass (s : State) : Res := .next (soundingPass s)

end Sys2Proof.Machine
end

