-- ==== Sys2Proof/Machine/Intake.lean ====
section
/-! DEFINITION. The sampled-value intake (Chapter 7): binding, validation, placement, closing and the grid. -/

namespace Sys2Proof.Machine

/-! ### Configuration of a stream (Table 7-3) -/

def icDomain (b : Bytes) : Nat := byteAt b 0
def icRateCode (b : Bytes) : Nat := byteAt b 1
def icChannels (b : Bytes) : Nat := byteAt b 2
def icGrouping (b : Bytes) : Nat := byteAt b 3
def icPolicy (b : Bytes) : Nat := byteAt b 4
def icFlags (b : Bytes) : Nat := byteAt b 5
def icHorizon (b : Bytes) : Nat := let h := leAt b 6 2; if h = 0 then 150 else h
def icConfRev (b : Bytes) : Nat := leAt b 8 4
def icGm (b : Bytes) : Nat := beAt b 12 8

/-- Samples per second of a RateCode (Tables 7-1 and 7-2). -/
def intakeRate : Nat → Nat
  | 1 => 4800 | 2 => 14400 | 3 => 96000 | 4 => 1000000 | 5 => 2000000 | 6 => 2500000 | 7 => 5000000 | _ => 0

/-- The samples of one grid instant: a block of S for class 3. -/
def icStep (b : Bytes) : Nat := if 4 ≤ icRateCode b then icGrouping b else 1

/-- Grid instants per second of the domain. -/
def icUnit (b : Bytes) : Nat := if icStep b = 0 then 0 else intakeRate (icRateCode b) / icStep b

def State.intakeConfig (s : State) (e : Nat) : Bytes := s.blob (Od.intakeStreamConfig + e)

def State.stream (s : State) (e : Nat) : Option StreamSt := tabGet none s.intake.streams e

def State.setStream (s : State) (e : Nat) (x : Option StreamSt) : State :=
  { s with intake := { s.intake with streams := tabSet none s.intake.streams e x } }

/-- The streams that are bound. -/
def State.boundStreams (s : State) : List Nat := s.intake.streams.filterMap fun x => if x.2.isSome then some x.1 else none

/-- The source of stream `e`'s events (R296). -/
def intakeSource (e : Nat) : Nat := 0x200 + e / 2

/-! ### Instants (R279 to R282) -/

/-- The number of the last instant at or before domain value `v`, at `u` instants per second. -/
def instantAt (v : Int) (u : Nat) : Int := v * (u : Int) / secondUnits

/-- The number of the first instant at or after domain value `v`. -/
def instantFrom (v : Int) (u : Nat) : Int := ceilDivInt (v * (u : Int)) secondUnits.toNat

/-- The intervals of domain values that forward steps skipped, newest first: from, to. -/
def skippedOf : List TParam → List (Int × Int)
  | p :: q :: r => let v := q.valueAt p.g; (if v < p.d then [(v, p.d)] else []) ++ skippedOf (q :: r)
  | _ => []

/-- Take the instants from `a` up to but not including `b` out of ranges of first instant and count. -/
def cutRange (a b : Nat) : List (Nat × Nat) → List (Nat × Nat)
  | [] => []
  | (lo, n) :: r =>
    (if lo < min a (lo + n) then [(lo, min a (lo + n) - lo)] else [])
      ++ (if max b lo < lo + n then [(max b lo, lo + n - max b lo)] else []) ++ cutRange a b r

/-- The instants after `a` up to `b` that exist, as ranges of first instant and count, in order (R282). -/
def Dom.instants (x : Dom) (u a b : Nat) : List (Nat × Nat) :=
  if b ≤ a then []
  else (skippedOf x.params).foldl
    (fun l z => cutRange (instantFrom z.1 u).toNat (instantFrom z.2 u).toNat l) [(a + 1, b - a)]

/-! ### Slots of the grid -/

/-- The place of a slot in the grid: CH s at s, WCH w at 2^16 + w. -/
def gridKey (cls3 : Bool) (slot : Nat) : Nat := if cls3 then 2 ^ 16 + slot else slot

def State.gridSlot (s : State) (k : Nat) : GridSlot := tabGet .init s.intake.grid k

def State.setGridSlot (s : State) (k : Nat) (x : GridSlot) : State :=
  { s with intake := { s.intake with grid := tabSet .init s.intake.grid k x } }

/-- The grid places that stream `e` maps, with the member each takes. -/
def State.gridKeys (s : State) (e : Nat) : List (Nat × Nat) :=
  (s.mappedSlots e).map fun x => (x.1, gridKey (decide (4 ≤ s.streamRateCode e)) x.2)

/-- The instants that the grid keeps: 25 ms of them (R290). -/
def gridDepth (u : Nat) : Nat := ceilDiv (u * 25) 1000 + 1

/-- The number of the status object of a slot: IntakeSlotSource or IntakeWavefrontSlotSource. -/
def slotSourceId (k : Nat) : Nat := if 2 ^ 16 ≤ k then Od.intakeWavefrontSlotSource + (k - 2 ^ 16) else Od.intakeSlotSource + k

/-- The stream that feeds a slot, with the member it takes. -/
def State.slotFeed (s : State) (k : Nat) : Option (Nat × Nat) :=
  let v := s.num (slotSourceId k)
  if v.testBit 31 then some (field v 16 11, v % 32) else none

/-- The gap fill of one missing entry of a standard slot (Table 7-6), with MissingRun `r` at 1 or more. -/
def fillStandard (held : Option GridEnt) (k r : Nat) : GridEnt :=
  let run := min r 255 * 2 ^ 24
  match held with
  | some h => if r ≤ 2 then ⟨k, h.values, (h.quality % 2 ^ 24 ||| 0x10400) + run⟩ else ⟨k, h.values, 0x10401 + run⟩
  | none => ⟨k, [0], 0x10401 + run⟩

/-- The gap fill of a missing block of `n` samples (R289); `two` is HeldTwo. -/
def fillBlock (held : Option GridEnt) (n k r : Nat) (two : Bool) : GridEnt :=
  let v : Int := match held with
    | some h => h.values.getLast?.getD 0
    | none => 0
  ⟨k, List.replicate n v, 0x10401 + min r 255 * 2 ^ 24 + boolNat two * 2 ^ 19⟩

/-- The entry that slot `g` receives when instant `k` closes as missing; `first` says that it follows the newest final
entry. -/
def GridSlot.fill (g : GridSlot) (step k r : Nat) (first : Bool) : GridEnt :=
  if step = 1 then fillStandard g.held k r else fillBlock g.held step k r (g.placed && first)

/-- The last `n` instants of ranges that are listed newest first, each with its distance from the last. -/
def lastInstants : Nat → Nat → List (Nat × Nat) → List (Nat × Nat)
  | _, _, [] => []
  | n, d, (lo, c) :: r =>
    let m := min n c
    (numbersFrom 0 m).map (fun j => (lo + c - 1 - j, d + j)) ++ lastInstants (n - m) (d + c) r

/-! ### Status, counters and causes -/

/-- Change the State field of IntakeStreamStatus with its event (R295, R296). -/
def State.streamState (s : State) (e st : Nat) : State :=
  let w := s.num (Od.intakeStreamStatus + e)
  if field w 28 4 = st then s
  else
    (s.setNum (Od.intakeStreamStatus + e) (setField w 28 4 st)).raiseState (intakeSource e) 0x02 e (field w 28 4) st
      (field w 16 8) 0

def State.streamField (s : State) (e lo w v : Nat) : State :=
  s.setNum (Od.intakeStreamStatus + e) (setField (s.num (Od.intakeStreamStatus + e)) lo w v)

/-- Count in IntakeStreamCounters at octet `i` (Table 7-11). -/
def State.streamCount (s : State) (e i k : Nat) : State :=
  s.blobCount (Od.intakeStreamCounters + e) i (intakeSource e) 0x02 e k

/-- Discard a frame or a sample with a cause: its counter, LastCause, and the count for its event (R275, R296). -/
def State.intakeDiscard (s : State) (e cause : Nat) : State :=
  let i := if 7 ≤ cause ∧ cause ≤ 9 then 40 else if cause = 10 ∨ cause = 12 then 24 else if cause = 11 then 32 else 48
  let t := (s.streamCount e i 1).streamField e 16 8 cause
  let k := e * 16 + cause
  let x := tabGet (0, 0) t.intake.discards k
  { t with intake := { t.intake with discards := tabSet (0, 0) t.intake.discards k (x.1 + 1, x.2) } }

/-! ### Closing (R286, R288, R289) -/

/-- Close instants of stream `e` as missing. -/
def State.closeMissing (s : State) (e : Nat) (ranges : List (Nat × Nat)) : State :=
  let n := (ranges.map (·.2)).sum
  match s.stream e, ranges.getLast? with
  | some x, some (lo, c) =>
    let cfg := s.intakeConfig e
    let step := icStep cfg
    let run := x.missing
    let t := s.setStream e (some { x with closed := max x.closed (lo + c - 1), missing := min 255 (run + n) })
    let t := (t.streamField e 0 8 (min 255 (run + n))).streamCount e 16 (n * step)
    let depth := gridDepth (icUnit cfg)
    let l := lastInstants depth 0 ranges.reverse
    (s.gridKeys e).foldl (fun u m =>
      let g := u.gridSlot m.2
      let new := l.map fun z => g.fill step z.1 (run + n - z.2) (z.2 + 1 == n)
      u.setGridSlot m.2 { g with ents := (new ++ g.ents).take depth, placed := false }) t
  | _, _ => s

/-- The instants of stream `e` that are still open at domain value `v`. -/
def State.openInstants (s : State) (e : Nat) (x : StreamSt) (v : Int) : List (Nat × Nat) :=
  let cfg := s.intakeConfig e
  (s.dom (icDomain cfg)).instants (icUnit cfg) x.closed (instantAt v (icUnit cfg)).toNat

/-- H and 24 µs in units of 2^−48 ns. -/
def icHorizonUnits (b : Bytes) : Int := ((icHorizon b * 1000 * 2 ^ 48 : Nat) : Int)

/-- The intake runs at shed levels 0 to 3 (R299). -/
def State.intakeRuns (s : State) : Bool := decide (s.shedLevel ≤ 3)

/-- HORIZON_CLOSE (R286 event 3): every open instant that the domain has passed by H + 24 µs closes as missing. -/
def horizonClose (e : Nat) (s : State) : State :=
  match s.stream e with
  | none => s
  | some x =>
    let cfg := s.intakeConfig e
    if x.frozen.isSome ∨ ¬ s.intakeRuns then s
    else s.closeMissing e (s.openInstants e x ((s.dom (icDomain cfg)).valueAt s.gtc - icHorizonUnits cfg - 24000 * 2 ^ 48))

/-! ### Frames of class 1 -/

/-- One sample of a stream: its instant, its smpSynch, the grandmaster it names, and for every member its values and
quality. -/
structure Sample where
  at_ : Int
  synch : Nat
  gm : Option Nat
  members : List (List Int × Nat)
  deriving DecidableEq, Repr

/-- Split one BER element with a definite length off octets: tag, contents, rest. -/
def berSplit (b : Bytes) : Option (Nat × Bytes × Bytes) :=
  match b with
  | t :: l :: r =>
    let n := l.toNat
    let (n, r, ok) := if n < 128 then (n, r, true)
      else if n = 0x81 then (byteAt r 0, r.drop 1, decide (1 ≤ r.length))
      else if n = 0x82 then (beAt r 0 2, r.drop 2, decide (2 ≤ r.length)) else (0, r, false)
    if ok ∧ n ≤ r.length then some (t.toNat, r.take n, r.drop n) else none
  | _ => none

/-- All elements of octets, at most `k`. -/
def berAll : Nat → Bytes → Option (List (Nat × Bytes))
  | _, [] => some []
  | 0, _ => none
  | k + 1, b => match berSplit b with
    | none => none
    | some (t, c, r) => (berAll k r).map fun l => (t, c) :: l

/-- An ASDU (IEC 61850-9-2). -/
structure Asdu where
  svId : Bytes
  smpCnt : Nat
  confRev : Nat
  synch : Nat
  rate : Option Nat
  mode : Option Nat
  data : Bytes
  gm : Option Nat
  deriving DecidableEq, Repr

/-- The tags rise strictly and lie in 0x80 to 0x89. -/
def tagsRise : Nat → List (Nat × Bytes) → Bool
  | _, [] => true
  | a, (t, _) :: r => decide (a ≤ t) && decide (t ≤ 0x89) && tagsRise (t + 1) r

def parseAsdu (c : Bytes) : Option Asdu := do
  let l ← berAll 16 c
  if !tagsRise 0x80 l then none
  let get (t : Nat) : Option Bytes := (l.find? fun x => x.1 == t).map (·.2)
  let num (t : Nat) : Option (Option Nat) := match get t with
    | none => some none
    | some b => if 1 ≤ b.length ∧ b.length ≤ 4 then some (some (ofBE b)) else none
  let id ← get 0x80
  let cnt ← (← num 0x82)
  let rev ← (← num 0x83)
  let syn ← get 0x85
  let rate ← num 0x86
  let data ← get 0x87
  let mode ← num 0x88
  let gm ← match get 0x89 with
    | none => some none
    | some b => if b.length = 8 then some (some (ofBE b)) else none
  if syn.length ≠ 1 then none
  if (match get 0x84 with | some b => b.length != 8 | none => false) then none
  some ⟨id, cnt, rev, ofBE syn, rate, mode, data, gm⟩

/-- The ASDUs of a class 1 frame (octets without FCS), with noASDU. -/
def parseSv (o : Bytes) : Option (Nat × List Asdu) := do
  let p := (parseFrame o).body
  let len := beAt o (p + 2) 2
  if len < 8 ∨ o.length < p + len then none
  let (t, c, r) ← berSplit ((o.drop (p + 8)).take (len - 8))
  if t ≠ 0x60 ∨ !r.isEmpty then none
  let l ← berAll 4 c
  let n ← (l.find? fun x => x.1 == 0x80).map (·.2)
  let q ← (l.find? fun x => x.1 == 0xA2).map (·.2)
  if !(l.map (·.1) == [0x80, 0xA2] || l.map (·.1) == [0x80, 0x81, 0xA2]) || n.isEmpty then none
  let ds ← berAll 64 q
  if ds.any (fun x => x.1 != 0x30) then none
  let asdus ← ds.mapM fun x => parseAsdu x.2
  if asdus.length ≠ ofBE n then none
  some (ofBE n, asdus)

/-- smpRate and smpMod agree with the rate (Table 7-1). -/
def rateAgrees (rate : Nat) (r m : Option Nat) : Bool :=
  match r, m with
  | none, none => true
  | some x, some 1 => x == rate
  | some x, none => x * 50 == rate || x * 60 == rate
  | some x, some 0 => x * 50 == rate || x * 60 == rate
  | _, _ => false

/-- Members of seqData: an INT32 and a quality of 32 bits each. -/
def seqMembers : Nat → Bytes → List (List Int × Nat)
  | 0, _ => []
  | n + 1, b => ([toInt 32 (beAt b 0 4)], beAt b 4 4 % 2 ^ 14) :: seqMembers n (b.drop 8)

/-- The first check of a list that fails gives its cause. -/
def firstCause : List (Bool × Nat) → Except Nat Unit
  | [] => .ok ()
  | (ok, c) :: r => if ok then firstCause r else .error c

/-- Checks 4 to 9 of Table 7-5 for class 1, and the samples of the frame; `v` is the domain value at its stamp. -/
def State.samplesSv (s : State) (e : Nat) (o : Bytes) (v : Int) : Except Nat (List Sample) :=
  let cfg := s.intakeConfig e
  let rate := intakeRate (icRateCode cfg)
  match parseSv o with
  | none => .error 1
  | some (n, l) =>
    match firstCause [
        ((beAt o ((parseFrame o).body + 4) 2).testBit 15 == (icFlags cfg).testBit 0, 6),
        (!(icFlags cfg).testBit 1 || l.all (fun a => a.svId == s.blob (Od.intakeSvId + e)), 2),
        (l.all fun a => a.confRev == icConfRev cfg, 3),
        (n == icGrouping cfg && l.all (fun a => a.data.length == 8 * icChannels cfg), 4),
        (l.all fun a => decide (a.smpCnt < rate) && rateAgrees rate a.rate a.mode, 5)] with
    | .error c => .error c
    | .ok _ => .ok (l.map fun a =>
        let m := instantAt (v + 20000 * 2 ^ 48) rate
        ⟨m - (m - a.smpCnt) % (rate : Int), a.synch, a.gm, seqMembers (icChannels cfg) a.data⟩)

/-! ### Frames of class 3 (Table 7-2) -/

/-- The 48-bit second whose low 32 bits are `low` and that lies nearest to second `near` (R280). -/
def nearestSecond (near : Int) (low : Nat) : Int :=
  let base := near - near % (2 ^ 32 : Int) + low
  let d := base - near
  if (2 ^ 31 : Int) < d then base - 2 ^ 32 else if d < -(2 ^ 31 : Int) then base + 2 ^ 32 else base

/-- Checks 4 to 9 of Table 7-5 for class 3, and the block of the frame. -/
def State.samplesKwsv (s : State) (e : Nat) (o : Bytes) (v : Int) : Except Nat (List Sample) :=
  let cfg := s.intakeConfig e
  let p := (parseFrame o).body
  let h (i n : Nat) : Nat := beAt o (p + i) n
  let n := h 6 1
  let sz := h 7 1
  let qs := numbersFrom 0 n |>.map fun c => h (32 + 2 * c) 2
  let len := kwsvTagPlace o p + (if (h 1 1).testBit 6 then 16 else 0)
  let rate := intakeRate (h 5 1)
  let ix := h 16 4
  match firstCause [
      (h 0 1 == 0x10 && h 1 1 % 64 == 0 && h 30 2 == 0 && qs.all (fun q => decide (q < 2 ^ 14)) && o.length == p + len
        && (rate == 0 || sz == 0 || (decide (ix < rate) && ix % sz == 0)), 1),
      ((h 1 1).testBit 7 == (icFlags cfg).testBit 0, 6),
      (h 8 4 == icConfRev cfg, 3),
      (h 2 2 == seIdent (s.streamEntry e) && h 5 1 == icRateCode cfg && n == icChannels cfg && sz == icGrouping cfg, 4)] with
  | .error c => .error c
  | .ok _ =>
    let sec := nearestSecond (v / secondUnits) (h 12 4)
    let base := 32 + 4 * ceilDiv n 2
    let gm := h 20 8
    .ok [⟨sec * (icUnit cfg : Int) + ((ix / sz : Nat) : Int), h 4 1, if gm = 0 then none else some gm,
      (numbersFrom 0 n).map fun c =>
        ((numbersFrom 0 sz).map fun j => toInt 16 (h (base + 2 * (c * sz + j)) 2), h (32 + 2 * c) 2 % 2 ^ 14)⟩]

/-! ### Placement -/

/-- smpSynch as Table 7-1 takes it: 3 and 4 as 0, 5 to 254 as 1. -/
def synchClass (v : Nat) : Nat := if v = 3 ∨ v = 4 then 0 else if 5 ≤ v ∧ v ≤ 254 then 1 else v

/-- A placed sample is Unsynchronised (R281). -/
def State.unsynchronised (s : State) (cfg : Bytes) (a : Sample) : Bool :=
  let y := synchClass a.synch
  let x := s.dom (icDomain cfg)
  y == 0 || (icPolicy cfg == 0 && y != 2) || (icPolicy cfg == 1 && y != 1 && y != 2)
    || ((icFlags cfg).testBit 2 && a.gm != some (icGm cfg))
    || x.state == 1 || x.state == 6 || x.state == 5 || (x.state == 2 && !x.lockedSinceEnable)

/-- The quality word of a placed sample. -/
def placedQuality (q : Nat) (unsync : Bool) : Nat :=
  if unsync then (if q % 4 = 0 then q + 3 else q) + 2 ^ 18 else q

/-- Place a sample on every mapped slot and close its instant as placed. -/
def State.placeSample (s : State) (e k : Nat) (a : Sample) : State :=
  match s.stream e with
  | none => s
  | some x =>
    let cfg := s.intakeConfig e
    let un := s.unsynchronised cfg a
    let depth := gridDepth (icUnit cfg)
    let t := s.setStream e (some { x with last := k, closed := k, missing := 0, lastPlaced := s.gtc })
    let t := (s.gridKeys e).foldl (fun u m =>
      let z := a.members.getD m.1 ([], 0)
      let ent : GridEnt := ⟨k, z.1, placedQuality z.2 un⟩
      let g := u.gridSlot m.2
      u.setGridSlot m.2 { ents := (ent :: g.ents).take depth, held := some ent, placed := true }) t
    let id := Od.intakeStreamCounters + e
    let t := t.streamCount e 8 (icStep cfg)
    let t := t.setBlob id (splice (t.blob id) 56 (toLE 8 s.gtc))
    let was := (t.num (Od.intakeStreamStatus + e)).testBit 8
    let t := (t.streamField e 0 8 0).streamField e 8 1 (boolNat un)
    let t := t.streamState e 2
    if was = un then t else t.raiseFlag (intakeSource e) 0x02 e un 8 (t.num (Od.intakeStreamStatus + e))

/-- One accepted ASDU or block (R283 to R286); `v` is the domain value at the receive stamp. -/
def State.takeSample (s : State) (e : Nat) (v : Int) (a : Sample) : State :=
  match s.stream e with
  | none => s
  | some x =>
    let cfg := s.intakeConfig e
    if icHorizonUnits cfg * (icUnit cfg : Int) < v * (icUnit cfg : Int) - a.at_ * secondUnits then s.intakeDiscard e 10
    else if a.at_ ≤ (x.last : Int) then s.intakeDiscard e 11
    else
      let k := a.at_.toNat
      let t := s.closeMissing e ((s.dom (icDomain cfg)).instants (icUnit cfg) x.closed (k - 1))
      if k ≤ x.closed then t.intakeDiscard e 12 else t.placeSample e k a

/-- Checks 1 to 9 of Table 7-5. -/
def State.intakeSamples (s : State) (e : Nat) (o : Bytes) (v : Int) : Except Nat (List Sample) :=
  let cls := seClass (s.streamEntry e)
  match s.checkTag e cls o with
  | .error c => .error c
  | .ok _ => if cls = 3 then s.samplesKwsv e o v else s.samplesSv e o v

/-- INTAKE_FRAME: the oldest copy is validated and its samples placed. -/
def intakeFrame (s : State) : State :=
  match s.intake.copies with
  | [] => s
  | c :: rest =>
    let t := { s with intake := { s.intake with copies := rest } }
    match t.stream c.entry with
    | none => t
    | some x =>
      if ¬ t.intakeRuns ∨ c.stamp < x.since then t
      else
        let e := c.entry
        let v := (t.dom (icDomain (t.intakeConfig e))).valueAt c.stamp
        let t := t.setStream e (some { x with lastFrame := t.gtc })
        let t := t.noteAmbiguous e (seClass (t.streamEntry e)) c.octets
        match t.intakeSamples e c.octets v with
        | .error cause => t.intakeDiscard e cause
        | .ok l =>
          let t := t.streamCount e 0 1
          if x.frozen.isSome then t else l.foldl (fun u a => u.takeSample e v a) (horizonClose e t)

/-- STREAM_SILENT (R295): a stream whose last placement lies 1 ms or 10 periods back is Silent, or Rejecting where
frames came meanwhile. -/
def streamSilent (e : Nat) (s : State) : State :=
  match s.stream e with
  | none => s
  | some x =>
    let st := field (s.num (Od.intakeStreamStatus + e)) 28 4
    let rate := intakeRate (icRateCode (s.intakeConfig e))
    let limit := max 1000000 (ceilDiv 10000000000 rate)
    if st < 2 ∨ s.gtc ≤ x.lastPlaced + limit then s
    else s.streamState e (if x.lastPlaced < x.lastFrame ∧ s.gtc ≤ x.lastFrame + limit then 4 else 3)

def execStreamSilent (e : Fin 2048) (s : State) : Res := .next (streamSilent e.val s)

/-! ### The provisional view (R287, R290, R291) -/

/-- A slot's entry at instant `k` as the image freeze sees it at domain value `v`: final, provisional while it is open, or
invalid where the grid does not keep it. -/
def State.gridView (s : State) (key k : Nat) : GridEnt :=
  let g := s.gridSlot key
  match g.ents.find? fun x => x.at_ == k with
  | some x => x
  | none =>
    match s.slotFeed key with
    | none => ⟨k, [0], 1⟩
    | some (e, _) =>
      match s.stream e with
      | none => ⟨k, [0], 1⟩
      | some x =>
        let cfg := s.intakeConfig e
        if k ≤ x.closed then ⟨k, [0], 1⟩
        else
          let n := (((s.dom (icDomain cfg)).instants (icUnit cfg) x.closed k).map (·.2)).sum
          let f := g.fill (icStep cfg) k (x.missing + n) (n == 1)
          { f with quality := f.quality + 2 ^ 17 }

/-! ### Binding (Table 7-4) -/

/-- The form, reserved bits and ranges of an IntakeStreamConfig write. -/
def checkIntakeConfig (b : Bytes) : Except Code Unit := do
  need (icFlags b / 16 == 0 && (b.drop 20).all (· == 0)) .reservedBitSet
  need (icRateCode b == 0 || (decide (icDomain b ≤ 7) && decide (icRateCode b ≤ 7) && decide (1 ≤ icChannels b)
    && decide (icChannels b ≤ 32)
    && (if icRateCode b ≤ 3 then decide (1 ≤ icGrouping b) && decide (icGrouping b ≤ 8)
        else [16, 32, 64].contains (icGrouping b) && intakeRate (icRateCode b) % icGrouping b == 0)
    && decide (icPolicy b ≤ 2) && (leAt b 6 2 == 0 || (decide (20 ≤ leAt b 6 2) && decide (leAt b 6 2 ≤ 10000))))) .outOfRange

/-- Loads of bound streams and `extra` (R293): standard and wavefront samples/s, and frames/s × 840. -/
def State.intakeLoads (s : State) (l : List Nat) : Nat × Nat × Nat :=
  l.foldl (fun a e =>
    let c := s.intakeConfig e
    let r := intakeRate (icRateCode c)
    let load := r * (s.mappedSlots e).length
    (if icRateCode c ≤ 3 then a.1 + load else a.1, if icRateCode c ≤ 3 then a.2.1 else a.2.1 + load,
      a.2.2 + (if icGrouping c = 0 then 0 else r * 840 / icGrouping c))) (0, 0, 0)

/-- Entries that count as keyed: bound streams and GOOSE entries with a key slot (R277). -/
def State.keyedStreams (s : State) (l : List Nat) : List Nat :=
  (s.listed Od.intakeKeySlots 2048).filter fun e =>
    !(s.keySlots e).isEmpty && (l.contains e || seClass (s.streamEntry e) == 2)

/-- No slot appears twice. -/
def distinct : List Nat → Bool
  | [] => true
  | a :: r => !r.contains a && distinct r

/-- The checks of Table 7-4 on the configuration that `s` holds for stream `e`. -/
def State.checkBinding (s : State) (who : Caller) (e : Nat) : Except Code Unit := do
  let c := s.intakeConfig e
  let slots := (s.mappedSlots e).map (·.2)
  let keys := (s.gridKeys e).map (·.2)
  let kind := s.slotKind e
  need (icRateCode c != 0
    && (numbersFrom 0 32).all fun i => let v := s.mapSlot e i
        v == 0xFFFF || (decide (i < icChannels c) && decide (v < itemCount kind))) .outOfRange
  let b := s.streamEntry e
  need (slots.all (fun k => s.holderOf kind k == s.holderOf 0x02 e)
    && (who.role != .tenant
      || (s.tenantPort who (seIn b) && (seAlt b == 0xFFFF || s.tenantPort who (seAlt b))))) .notOwner
  need (distinct slots && keys.all fun k => match s.slotFeed k with
    | some (f, _) => f == e
    | none => true) .heldElsewhere
  need (seAdmitted b && seCopy b && seClass b == (if icRateCode c ≤ 3 then 1 else 3)
    && (s.dom (icDomain c)).state != 0) .precondition
  let l := if s.bound e then s.boundStreams else e :: s.boundStreams
  let (std, wave, fr) := s.intakeLoads l
  need (decide (l.length ≤ 2048) && decide (std ≤ 400000000) && decide (wave ≤ 5120000000)
    && decide (fr ≤ 50000000 * 840) && decide ((s.keyedStreams l).length ≤ 512)) .noResource

/-- The slot sources of stream `e`: set, or cleared. -/
def State.setSources (s : State) (e : Nat) (on : Bool) : State :=
  (s.gridKeys e).foldl (fun u m => u.setNum (slotSourceId m.2) (if on then 2 ^ 31 + e * 2 ^ 16 + m.1 else 0)) s

/-- Start the grid of stream `e` anew from domain value `v` (R273). -/
def State.startGrid (s : State) (e : Nat) (v : Int) : State :=
  let k := (instantAt v (icUnit (s.intakeConfig e))).toNat
  let t := (s.gridKeys e).foldl (fun u m => u.setGridSlot m.2 .init) s
  let t := t.setStream e (some ⟨s.gtc, k, k, 0, s.gtc, 0, none⟩)
  (t.streamField e 0 8 0).streamState e 1

/-- Bind stream `e` (R273). -/
def State.bindStream (s : State) (e : Nat) : State :=
  let t := s.setNum (Od.intakeEnable + e) 1
  (t.setSources e true).startGrid e ((t.dom (icDomain (t.intakeConfig e))).valueAt t.gtc)

/-- Unbind stream `e`: its slots lose their source. -/
def State.unbindStream (s : State) (e : Nat) : State :=
  if s.bound e then
    let t := ((s.setSources e false).setStream e none).setNum (Od.intakeEnable + e) 0
    (t.streamField e 0 9 0).streamState e 0
  else s

/-- The checks of an IntakeEnable write. -/
def State.checkIntakeEnable (s : State) (who : Caller) (e value : Nat) : Except Code Unit := do
  s.checkEntryOwner who e
  if value = 1 then s.checkBinding who e else need (!s.streamRead e) .precondition

def State.applyIntakeEnable (s : State) (e value : Nat) : State :=
  if value = 1 then (if s.bound e then s else s.bindStream e) else s.unbindStream e

/-- INTAKE_ENABLE (R273, R274). -/
def intakeEnable (who : Caller) (e value : Nat) (s : State) : Act := do
  s.gateRange who (Od.intakeEnable + e) false 0 (.num value)
  s.checkIntakeEnable who e value
  .ok ((s.applyIntakeEnable e value).bumpVersion (Od.intakeEnable + e) 0)

/-- A changed configuration of bound stream `e` takes force (R274): `s` holds the old objects, `t` the new ones. With
the domain and rate unchanged the grid goes on, and a newly mapped slot begins empty. -/
def State.rebindStream (s t : State) (e : Nat) : State :=
  let c := s.intakeConfig e
  let d := t.intakeConfig e
  let old := (s.gridKeys e).map (·.2)
  let cleared := old.foldl (fun u k => u.setNum (slotSourceId k) 0) t
  let wired := cleared.setSources e true
  if icDomain c = icDomain d ∧ icRateCode c = icRateCode d ∧ icStep c = icStep d then
    (t.gridKeys e).foldl (fun u m => if old.contains m.2 then u else u.setGridSlot m.2 .init) wired
  else
    match s.stream e with
    | none => t
    | some x =>
      let done := s.closeMissing e (s.openInstants e x ((s.dom (icDomain c)).valueAt s.gtc))
      let counted := wired.setBlob (Od.intakeStreamCounters + e) (done.blob (Od.intakeStreamCounters + e))
      counted.startGrid e ((t.dom (icDomain d)).valueAt t.gtc)

/-- The domain of bound streams is being disabled: their open instants stay open until it is enabled again (R282). -/
def State.freezeStreams (s : State) (d : Nat) : State :=
  (s.boundStreams.filter fun e => icDomain (s.intakeConfig e) == d).foldl (fun u e =>
    match u.stream e with
    | some x => if x.frozen.isSome then u
        else (u.setStream e (some { x with frozen := some (u.openInstants e x ((u.dom d).valueAt u.gtc)) })).streamState e 1
    | none => u) s

/-- The domain has been enabled again: the instants left open close as missing and new grids start (R282). -/
def State.thawStreams (s : State) (d : Nat) : State :=
  (s.boundStreams.filter fun e => icDomain (s.intakeConfig e) == d).foldl (fun u e =>
    match u.stream e with
    | some x => (match x.frozen with
        | some l => (u.closeMissing e l).startGrid e (match (u.dom d).params with
            | p :: _ => p.d
            | [] => 0)
        | none => u)
    | none => u) s

/-- The intake starts again after shed level 4: instants that passed meanwhile are never created (R299). -/
def State.resumeIntake (s : State) : State :=
  s.boundStreams.foldl (fun u e =>
    match u.stream e with
    | some x =>
      let c := u.intakeConfig e
      if x.frozen.isSome then u
      else u.setStream e (some { x with
        closed := max x.closed (instantAt ((u.dom (icDomain c)).valueAt u.gtc) (icUnit c)).toNat, missing := 0 })
    | none => u) s

/-! ### Key slots of a stream (R278) -/

/-- The conditions of an IntakeKeySlots write. -/
def State.checkKeySlots (s : State) (who : Caller) (e value : Nat) : Except Code Unit := do
  s.checkEntryOwner who e
  let a := value / 256
  let b := value % 256
  need ((decide (a < 64) || a == 0xFF) && (decide (b < 64) || b == 0xFF)) .outOfRange
  let named := [a, b].filter (· != 0xFF)
  need (named.all fun k => s.holderOf 0x09 k == s.holderOf 0x02 e) .notOwner
  need (!(named.length == 2 && match s.keyContent a, s.keyContent b with
    | some x, some y => x.keyId == y.keyId
    | _, _ => false)) .heldElsewhere
  let t := s.setNum (Od.intakeKeySlots + e) value
  need (decide ((t.keyedStreams t.boundStreams).length ≤ 512)) .noResource

def State.applyKeySlots (s : State) (e value : Nat) : State :=
  { s.setNum (Od.intakeKeySlots + e) value with intake := { s.intake with sameKey := tabSet false s.intake.sameKey e false } }

/-- INTAKE_KEY_SLOTS. -/
def intakeKeySlots (who : Caller) (e value : Nat) (s : State) : Act := do
  s.gateRange who (Od.intakeKeySlots + e) false 0 (.num value)
  s.checkKeySlots who e value
  .ok ((s.applyKeySlots e value).bumpVersion (Od.intakeKeySlots + e) 0)

def execIntakeKeySlots (who : Caller) (e : Fin 2048) (value : Nat) (s : State) : Res :=
  .next (s.answer who (intakeKeySlots who e.val value s))

/-! ### Stream table entries: admission and withdrawal (R204 to R207) -/

/-- Withdraw entry `e` (R207): its flows and sums are released with it, and a bound stream is unbound (R274). -/
def State.withdrawStream (s : State) (e : Nat) (b : Bytes) : State :=
  ((s.unbindStream e).setBlob (Od.streamEntry + e) b).raiseAdmission 0x10B 0x02 e 3 0

/-- A write of a stream table entry that is judged at once (R204, R206, R207): the state after (a refused admission raises
its event) and the code. -/
def State.streamPut (s : State) (who : Caller) (e : Nat) (b : Bytes) : State × Nat :=
  let old := s.streamEntry e
  let id := Od.streamEntry + e
  if seAdmitted b then
    if seAdmitted old then (if old = b then (s.bumpVersion id 0, 0) else (s, Code.busy.value))
    else s.tryAdmit who e b
  else match checkStreamForm b with
    | .error .reservedBitSet => (s, Code.reservedBitSet.value)
    | _ =>
      if seAdmitted old then
        (if s.streamFeeds e then (s, Code.precondition.value) else ((s.withdrawStream e b).bumpVersion id 0, 0))
      else ((s.setBlob id b).bumpVersion id 0, 0)

/-- A write of a stream table entry: an admission that an upshift can satisfy waits for it (R205). -/
def streamWrite (who : Caller) (e : Nat) (b : Bytes) (s : State) : State :=
  match streamGate who e b s with
  | .error c => s.emit (.answer who.sess c.value)
  | .ok _ =>
    if seAdmitted b ∧ ¬ seAdmitted (s.streamEntry e) ∧ s.admissionShift who e b then
      { s with sw := { s.sw with waiting := s.sw.waiting ++ [⟨e, b, s.gtc, s.overLimit b false, who.sess⟩] } }
    else
      let (t, c) := s.streamPut who e b
      t.emit (.answer who.sess c)

end Sys2Proof.Machine
end

