-- ==== Sys2Proof/Machine/Xosyn.lean ====
section
/-! DEFINITION. The Xosyn fabric (Chapter 6): neighbours, link delay, the database, routes, flows, sinks and time. -/

namespace Sys2Proof.Machine

/-- A fabric port that is Up. -/
def State.xosynUp (s : State) (n : Nat) : Bool := s.fabricOn && s.pnum Od.portKind n == 1 && s.portUp n

def State.ownSerial (s : State) : Nat := s.num Od.serialNumber

/-- Three Hello intervals in ns (R241). -/
def State.helloLimit (s : State) : Nat := 3000000 * s.num Od.helloInterval

/-! ### Hello (R241) -/

/-- XOSYN_HELLO_SEND: one Hello per HelloInterval on an Up port of PortKind 1 (Table 6-3). -/
def xosynHelloSend (n : Nat) (s : State) : State :=
  let x := s.nb n
  if s.xosynUp n ∧ (x.helloAt = 0 ∨ x.helloAt + 1000000 * s.num Od.helloInterval ≤ s.gtc) then
    let seen := s.pnum Od.neighbourState n != 0 && decide (s.gtc ≤ x.heard + s.helloLimit)
    let a := match s.ownAddress with
      | some a => 0x8000 + a
      | none => 0
    (s.setNb n { x with helloAt := s.gtc }).sendLink n 0 0
      (toBE 8 s.ownSerial ++ toBE 4 (s.num Od.fabricId) ++ toBE 2 a ++ toBE 1 n ++ toBE 1 (boolNat seen))
  else s

def execXosynHelloSend (n : Fin 256) (s : State) : Res := .next (xosynHelloSend n.val s)

/-- XOSYN_HELLO: a Hello arrives on port `n`. -/
def xosynHello (n serial fabric : Nat) (address : Option Nat) (seen : Bool) (s : State) : State :=
  if s.xosynUp n then
    let st := if fabric ≠ s.num Od.fabricId ∨ serial = s.ownSerial then 3 else if seen then 2 else 1
    let t := s.setNb n { s.nb n with heard := s.gtc }
    let t := (t.setPnum Od.neighbourSerial n serial).setPnum Od.neighbourAddress n (address.getD 0xFFFF)
    t.setNeighbour n st
  else s

def execXosynHello (n : Fin 256) (serial : Nat) (fabricId : Nat) (address : Option Nat) (seen : Bool) (s : State) : Res :=
  .next (xosynHello n.val serial fabricId address seen s)

/-- NEIGHBOUR_TIMEOUT: 3 × HelloInterval without a Hello. -/
def neighbourTimeout (n : Nat) (s : State) : State :=
  if s.pnum Od.neighbourState n ≠ 0 ∧ (s.nb n).heard + s.helloLimit ≤ s.gtc then s.setNeighbour n 0 else s

def execNeighbourTimeout (n : Fin 256) (s : State) : Res := .next (neighbourTimeout n.val s)

/-! ### Link delay (R242, R243) -/

/-- DELAY_REQ_SEND: a DelayReq per DelayInterval on a TwoWay link. -/
def delayReqSend (n : Nat) (s : State) : State :=
  let x := s.nb n
  if s.twoWay n ∧ (x.delayAt = 0 ∨ x.delayAt + 1000000 * s.num Od.delayInterval ≤ s.gtc) then
    (s.setNb n { x with delayAt := s.gtc, asked := none }).sendLink n 2 0 []
  else s

def execDelayReqSend (n : Fin 256) (s : State) : Res := .next (delayReqSend n.val s)

/-- DELAY_REQ: the answer carries t2 and, inserted one-step, the residence. -/
def delayReq (n seq : Nat) (s : State) : State :=
  if s.twoWay n then s.sendLink n 3 0 (toBE 8 s.gtc ++ toBE 4 0 ++ toBE 4 seq) .residence else s

def execDelayReq (n : Fin 256) (source : Option Nat) (seq : Nat) (s : State) : Res :=
  let _ := source
  .next (delayReq n.val seq s)

/-- An exact quotient, or one of the two integers around an inexact one, by a free value. -/
def State.freeDiv (s : State) (a : Int) (b : Nat) : Int := a / (b : Int) + (if a % (b : Int) = 0 then 0 else ((s.free % 2 : Nat) : Int))

/-- The sum of the last measurements, in half nanoseconds. -/
def intSum (l : List Int) : Int := l.foldl (· + ·) 0

/-- The standard deviation of measurements in half nanoseconds, in whole ns. -/
def deviation (l : List Int) : Nat :=
  let n := l.length
  let m := intSum l
  let v := (l.map fun x => ((x * n - m) * (x * n - m)).natAbs).sum
  if n = 0 then 0 else Nat.sqrt (v / (4 * n * n * n))

/-- LinkDelayRx, LinkDelayTx and LinkDelayJitter from the accepted measurements; an advertised delay that has moved by
more than 10 ns calls for an Lsa (R243, R244). -/
def State.publishDelay (s : State) (n : Nat) : State :=
  let l := (s.nb n).means
  if l.length < 8 then s
  else
    let k := l.length
    let a := toInt 64 (s.pnum Od.linkAsymmetry n)
    let rx := s.freeDiv (intSum l * 65536 + a * k) (2 * k)
    let tx := s.freeDiv (intSum l * 65536 - a * k) (2 * k)
    let t := ((s.tookFree.setPnum Od.linkDelayRx n (ofInt 64 rx)).setPnum Od.linkDelayTx n (ofInt 64 tx)).setPnum
      Od.linkDelayJitter n (sat32 (deviation l))
    if 655360 < (tx - ((s.nb n).advertised : Int)).natAbs then { t with fab := { t.fab with lsaDue := true } } else t

/-- DELAY_RESP: one measurement of the link of port `n`. -/
def delayResp (n residence seq : Nat) (s : State) : State :=
  let x := s.nb n
  match x.asked with
  | some (q, t1) =>
    if ¬ s.twoWay n ∨ q ≠ seq then s
    else
      let t := s.setNb n { x with asked := none }
      if t1 + 5000000 < s.gtc then t
      else
        let m : Int := (s.gtc : Int) - t1 - residence
        let k := x.means.length
        if 8 ≤ k ∧ 200 * k < (m * k - intSum x.means).natAbs then
          let t := t.count32 (Od.delayOutliers + 256 * n)
          if x.outliers + 1 = 8 then (t.restartDelay n).raiseOcc 0x153 0x01 n 2 0
          else t.setNb n { x with asked := none, outliers := x.outliers + 1 }
        else (t.setNb n { x with asked := none, outliers := 0, means := (m :: x.means).take 16 }).publishDelay n
  | none => s

/-- t2 is the responder's own count and takes no part in the measurement. -/
def execDelayResp (n : Fin 256) (t2 : Nat) (residence : Nat) (seq : Nat) (s : State) : Res :=
  let _ := t2
  .next (delayResp n.val residence seq s)

/-! ### The database (R244 to R246) -/

/-- The value of a link delay object in units of 2^−8 ns, if it is valid. -/
def delayUnits (v : Nat) : Option Nat := if v = 2 ^ 63 then none else some ((roundDiv (toInt 64 v) 256).toNat)

/-- This module's Lsa as it stands. -/
def State.ownLsa (s : State) : LsaRec :=
  { seq := s.fab.ownSeq, priority := s.num Od.rootPriority, addr := s.ownAddress,
    request := s.num Od.fabricAddressRequest, offer := s.num Od.timeOffer,
    links := ((s.xosynPorts.filter s.twoWay).take 64).map fun n =>
      ⟨s.pnum Od.neighbourSerial n, s.pnum Od.linkCost n, n, (delayUnits (s.pnum Od.linkDelayTx n)).isSome,
        (delayUnits (s.pnum Od.linkDelayTx n)).getD 0 % 2 ^ 32⟩,
    at_ := s.gtc }

/-- The modules of the database with this one, by serial number. -/
def State.modules (s : State) : List (Nat × LsaRec) :=
  (s.ownSerial, s.ownLsa) :: s.fab.db.filterMap fun x => match x.2 with
    | some r => if x.1 = s.ownSerial then none else some (x.1, r)
    | none => none

def lsaOf (l : List (Nat × LsaRec)) (u : Nat) : Option LsaRec := (l.find? fun x => x.1 == u).map (·.2)

/-- The links that module `u` may use: both ends advertise each other (R245); of parallel links the cheapest. -/
def edgesOf (l : List (Nat × LsaRec)) (u : Nat) : List (Nat × Nat) :=
  match lsaOf l u with
  | none => []
  | some r => r.links.foldl (fun acc k =>
      match lsaOf l k.far with
      | some z =>
        if z.links.any fun q => q.far == u then
          match acc.find? fun x => x.1 == k.far with
          | some x => if k.cost < x.2 then (acc.filter fun y => y.1 != k.far) ++ [(k.far, k.cost)] else acc
          | none => acc ++ [(k.far, k.cost)]
        else acc
      | none => acc) []

/-- Lexicographic order of (cost, serial of the first hop). -/
def pairLt (a b : Nat × Nat) : Bool := decide (a.1 < b.1) || (a.1 == b.1 && decide (a.2 < b.2))

/-- One more link: the best paths of at most one link more. -/
def pathRound (l : List (Nat × LsaRec)) (origin : Nat) (t : Tab (Option (Nat × Nat))) : Tab (Option (Nat × Nat)) :=
  t.foldl (fun acc x => match x.2 with
    | none => acc
    | some (c, f) => (edgesOf l x.1).foldl (fun acc e =>
        let cand := (c + e.2, if x.1 = origin then e.1 else f)
        match tabGet none acc e.1 with
        | some b => if pairLt cand b then tabSet none acc e.1 (some cand) else acc
        | none => tabSet none acc e.1 (some cand)) acc) t

/-- The least-cost paths from `origin` of at most `k` links: cost and first hop by serial (R249). -/
def leastPaths (l : List (Nat × LsaRec)) (origin : Nat) : Nat → Tab (Option (Nat × Nat))
  | 0 => [(origin, some (0, 0))]
  | k + 1 => pathRound l origin (leastPaths l origin k)

/-- The members: modules that are stored and reachable (R246). -/
def State.members (s : State) : List (Nat × LsaRec) :=
  let l := s.modules
  let t := leastPaths l s.ownSerial l.length
  l.filter fun x => (tabGet none t x.1).isSome

/-- The root: least (RootPriority, Serial). -/
def State.rootOf (s : State) : Nat :=
  (s.members.foldl (fun b x => if pairLt (x.2.priority, x.1) b then (x.2.priority, x.1) else b)
    (s.num Od.rootPriority, s.ownSerial)).2

/-- The TwoWay port of least cost, then lowest number, among those that `p` takes. -/
def State.bestPort (s : State) (p : Nat → Bool) : Option Nat :=
  (s.xosynPorts.filter fun n => s.twoWay n && s.portUp n && p n).foldl (fun b n => match b with
    | none => some n
    | some m => if s.pnum Od.linkCost n < s.pnum Od.linkCost m then some n else b) none

def State.portToSerial (s : State) (v : Nat) : Option Nat := s.bestPort fun n => s.pnum Od.neighbourSerial n == v
def State.portToAddress (s : State) (a : Nat) : Option Nat := s.bestPort fun n => s.pnum Od.neighbourAddress n == a

def encodeLsa (serial : Nat) (r : LsaRec) : Bytes :=
  toBE 8 serial ++ toBE 4 r.seq ++ toBE 2 r.priority
    ++ toBE 2 (match r.addr with
        | some a => 0x8000 + a
        | none => 0)
    ++ toBE 2 r.request ++ toBE 1 r.links.length ++ toBE 1 r.offer ++ toBE 4 0
    ++ r.links.flatMap fun k => toBE 8 k.far ++ toBE 2 k.cost ++ toBE 1 k.port ++ toBE 1 (boolNat k.valid) ++ toBE 4 k.delay

/-- Originate an Lsa: its number rises by 1 and it is sent on every TwoWay port. -/
def State.originateLsa (s : State) : State :=
  let t := { s with fab := { s.fab with ownSeq := s.fab.ownSeq + 1, lsaDue := false, lsaAt := s.gtc } }
  let r := t.ownLsa
  let h := t.originHead 4 0 0 true false
  let t := (t.xosynPorts.foldl (fun u n => if u.twoWay n then u.sendXosyn n 4 h (encodeLsa u.ownSerial r) else u) t).bumpSeq 4 0
  t.xosynPorts.foldl (fun u n =>
    u.setNb n { u.nb n with advertised := if u.pnum Od.linkDelayTx n = 2 ^ 63 then 0 else u.pnum Od.linkDelayTx n }) t

/-- The database has changed. -/
def State.dbChanged (s : State) : State :=
  { s.count32 Od.lsaChanges with fab := { s.fab with changed := true, undecided := true } }

/-- LSA_ORIGINATE (R244). -/
def lsaOriginate (s : State) : State :=
  if ¬ s.fabricOn then s
  else if s.fab.lsaDue then s.originateLsa.dbChanged
  else if s.fab.lsaAt + 30000000000 ≤ s.gtc then s.originateLsa else s

def execLsaOriginate (s : State) : Res := .next (lsaOriginate s)

/-- LinkDelayRx of the arrival port is added to PathDelay; an invalid one clears DelayValid (R250). -/
def State.arrivedHead (s : State) (n : Nat) (h : XosynHead) : XosynHead :=
  match delayUnits (s.pnum Od.linkDelayRx n) with
  | none => { h with delayValid := false }
  | some d => if h.pathDelay + d < 2 ^ 32 then { h with pathDelay := h.pathDelay + d }
      else { h with pathDelay := 0xFFFFFFFF, delayValid := false }

/-- Count a drop of the fabric (R250). -/
def State.fabricDrop (s : State) (id : Nat) : State := s.count48ev id 0x154 0x80 0

/-- A frame of another module goes on, with the residence added on its way out (R251). -/
def State.relay (s : State) (n kind : Nat) (h : XosynHead) (body : Bytes) (prio : Nat := 6) : State :=
  s.sendXosyn n kind { h with hopsLeft := h.hopsLeft - 1 } body .pathDelay prio

def lsaRecord (m : LsaMsg) (g : Nat) : LsaRec :=
  ⟨m.seq, m.priority, m.address, m.request, m.offer, m.links.map fun k => ⟨k.far, k.cost, k.port, k.valid, k.delay⟩, g⟩

/-- LSA: an Lsa arrives on port `n` (R244, R245). -/
def lsa (n : Nat) (head : XosynHead) (m : LsaMsg) (s : State) : State :=
  if ¬ (s.xosynUp n ∧ s.twoWay n) then s
  else if head.hopsLeft = 0 then s.fabricDrop Od.hopLimitDrops
  else if m.serial = s.ownSerial then
    if s.fab.ownSeq < m.seq then ({ s with fab := { s.fab with ownSeq := m.seq } }).originateLsa else s
  else
    let old := tabGet none s.fab.db m.serial
    if (match old with
      | some r => decide (m.seq ≤ r.seq)
      | none => false) then s
    else if old.isNone ∧ 4096 ≤ s.fab.db.length + 1 then s.raiseOcc 0x151 0x80 0 1 m.serial
    else
      let t := { s with fab := { s.fab with db := tabSet none s.fab.db m.serial (some (lsaRecord m s.gtc)) } }
      let t := if (old.map fun r => { r with seq := m.seq, at_ := s.gtc }) = some (lsaRecord m s.gtc) then t else t.dbChanged
      let h := s.arrivedHead n head
      t.xosynPorts.foldl (fun u k =>
        if k ≠ n ∧ u.twoWay k then u.relay k 4 h (encodeLsa m.serial (lsaRecord m s.gtc)) else u) t

def execLsa (n : Fin 256) (head : XosynHead) (msg : LsaMsg) (s : State) : Res := .next (lsa n.val head msg s)

/-- LSA_AGE_OUT: an Lsa not refreshed for 120 s is removed, and with it the transit entries of its module (R257). -/
def lsaAgeOut (serial : Nat) (s : State) : State :=
  match tabGet none s.fab.db serial with
  | none => s
  | some r =>
    if s.gtc < r.at_ + 120000000000 then s
    else
      let keep (l : Tab (Option Transit)) : Tab (Option Transit) := l.filter fun x => match x.2 with
        | some t => t.origin != serial
        | none => true
      ({ s with fab := { s.fab with
          db := tabSet none s.fab.db serial none, transit := keep s.fab.transit, arrivals := keep s.fab.arrivals } }).dbChanged

def execLsaAgeOut (serial : Nat) (s : State) : Res := .next (lsaAgeOut serial s)

/-! ### Addresses (R247, R248) -/

/-- The root by the database now, with its event when it has changed. -/
def State.updateRoot (s : State) : State :=
  let r := s.rootOf
  let t := s.setNum Od.fabricMembers s.members.length
  if s.num Od.rootSerial = r then t else (t.setNum Od.rootSerial r).raiseOcc 0x150 0x80 0 2 r

/-- Insert by serial number. -/
def insertSerial (x : Nat × LsaRec) : List (Nat × LsaRec) → List (Nat × LsaRec)
  | [] => [x]
  | y :: r => if x.1 ≤ y.1 then x :: y :: r else y :: insertSerial x r

/-- The decisions of the root in order of rule and serial: serial, address or none, cause. -/
def decideAddresses (members : List (Nat × LsaRec)) : List (Nat × Option Nat × Nat) :=
  let l := members.foldr insertSerial []
  let losers := l.filter fun x => match x.2.addr with
    | some a => l.any fun y => decide (y.1 < x.1) && y.2.addr == some a
    | none => false
  let held := l.filterMap fun x => x.2.addr
  let asking := l.filter fun x => x.2.addr.isNone
  let (taken, two) := asking.foldl (fun acc x =>
      if x.2.request = 0xFFFF then acc
      else if acc.1.contains x.2.request then (acc.1, acc.2 ++ [(x.1, none, 1)])
      else (x.2.request :: acc.1, acc.2 ++ [(x.1, some x.2.request, 0)])) (held, ([] : List (Nat × Option Nat × Nat)))
  let (_, three) := asking.foldl (fun acc x =>
      if x.2.request = 0xFFFF then
        match (numbersFrom 0 4096).find? fun a => !acc.1.contains a with
        | some a => (a :: acc.1, acc.2 ++ [(x.1, some a, 0)])
        | none => acc
      else acc) (taken, ([] : List (Nat × Option Nat × Nat)))
  losers.map (fun x => (x.1, none, 1)) ++ two ++ three

/-- Take path `p` of a flow away: a Release goes along it (R254, R257). -/
def encodeFlow (op : Nat) (m : FlowMsg) : Bytes :=
  toBE 1 op ++ toBE 1 m.hops.length ++ toBE 1 m.cause ++ toBE 1 m.refusedAt ++ toBE 4 m.rate ++ toBE 4 m.burst
    ++ (numbersFrom 0 15).flatMap (fun i => toBE 2 (m.hops.getD i 0)) ++ [0, 0]

def FlowSt.path (x : FlowSt) (pathB : Bool) : PathSt := if pathB then x.b else x.a

def State.setPath (s : State) (f : Nat) (pathB : Bool) (p : PathSt) : State :=
  s.setFlow f (if pathB then { s.flowAt f with b := p } else { s.flowAt f with a := p })

/-- Send a FlowSetup message of this module for its flow `f`. -/
def State.sendSetup (s : State) (f : Nat) (pathB : Bool) (op port : Nat) (hops : List Nat) : State :=
  let b := s.flowEntry f
  (s.sendXosyn port 6 (s.originHead 6 f (hops.getLast?.getD 0) false pathB)
    (encodeFlow op ⟨feRate b, feBurst b, hops, 0, 0⟩)).bumpSeq 6 f

def State.releasePath (s : State) (f : Nat) (pathB : Bool) : State :=
  let p := (s.flowAt f).path pathB
  let t := if p.live then s.sendSetup f pathB 4 p.port p.hops else s
  t.setPath f pathB .init

/-- A module that loses its address releases every flow it originates (R248). -/
def State.releaseFlows (s : State) : State := s.flows.foldl (fun u f => (u.releasePath f false).releasePath f true) s

/-- ADDRESS_ASSIGN: the root's decision for a module reaches this one (R247, R248). -/
def addressAssign (serial : Nat) (address : Option Nat) (cause : Nat) (s : State) : State :=
  if ¬ s.fabricOn ∨ serial ≠ s.ownSerial then s
  else
    let due (t : State) : State := { t with fab := { t.fab with lsaDue := true, changed := true } }
    match address with
    | some a =>
      if s.ownAddress = some a then s
      else ((due (s.setNum Od.fabricAddress a)).raiseOcc 0x150 0x80 0 3 a).fabricUpdate
    | none =>
      if cause ≠ 1 then s
      else
        let t := s.raiseOcc 0x152 0x80 0 1 (s.num Od.fabricAddress)
        if s.ownAddress.isNone then t
        else (due (t.releaseFlows.setNum Od.fabricAddress 0xFFFF)).setFabricState 4

def execAddressAssign (serial : Nat) (address : Option Nat) (cause : Nat) (s : State) : Res :=
  .next (addressAssign serial address cause s)

/-- Broadcast one decision, and take it if it is this module's own. -/
def State.announceAddress (s : State) (x : Nat × Option Nat × Nat) : State :=
  let (serial, a, cause) := x
  let w := match a with
    | some v => 0x8000 + v
    | none => 0
  let h := s.originHead 5 0 0 true false
  let t := (s.xosynPorts.foldl (fun u n =>
    if u.twoWay n then u.sendXosyn n 5 h (toBE 8 serial ++ toBE 2 w ++ toBE 1 cause ++ List.replicate 5 0) else u) s).bumpSeq 5 0
  addressAssign serial a cause t

/-- ADDRESS_DECIDE: the root decides after a change of the database. -/
def addressDecide (s : State) : State :=
  if ¬ s.fabricOn ∨ ¬ s.fab.undecided then s
  else
    let t := ({ s with fab := { s.fab with undecided := false } }).updateRoot
    if t.num Od.rootSerial = t.ownSerial ∧ t.num Od.fabricState ≠ 0 then
      (decideAddresses t.members).foldl State.announceAddress t
    else t

def execAddressDecide (s : State) : Res := .next (addressDecide s)

/-! ### Paths of flows (R252, R257) -/

/-- Every loop-free path of at most `k` links from `u` to `dest`: the serials after `u`, and the cost. Only modules with
an address can be named in a hop list. -/
def simplePaths (l : List (Nat × LsaRec)) (dest : Nat) : Nat → Nat → List Nat → List (List Nat × Nat)
  | 0, _, _ => []
  | k + 1, u, seen => (edgesOf l u).flatMap fun e =>
    if seen.contains e.1 || ((lsaOf l e.1).bind (·.addr)).isNone then []
    else if e.1 = dest then [([e.1], e.2)]
    else (simplePaths l dest k e.1 (e.1 :: seen)).map fun p => (e.1 :: p.1, e.2 + p.2)

/-- A path of a flow: addresses after the origin, cost, serial of the first hop. -/
structure FlowPath where
  hops : List Nat
  cost : Nat
  first : Nat
  deriving DecidableEq, Repr

/-- Consecutive pairs of a hop list, the origin's address first. -/
def hopPairs : Nat → List Nat → List (Nat × Nat)
  | _, [] => []
  | a, b :: r => (a, b) :: hopPairs b r

/-- The number by which a path avoids a link between two addresses; a plain address avoids a module. -/
def avoidLink (a b : Nat) : Nat := 2 ^ 24 + a * 4096 + b

/-- The paths from this module to an address, without the modules and links to avoid. -/
def State.flowPaths (s : State) (dest : Nat) (avoid : List Nat) : List FlowPath :=
  let l := s.members
  match l.find? fun x => x.2.addr == some dest with
  | none => []
  | some (serial, _) =>
    ((simplePaths l serial (s.num Od.hopLimit) s.ownSerial [s.ownSerial]).map fun p =>
        (⟨p.1.map fun v => ((lsaOf l v).bind (·.addr)).getD 0, p.2, p.1.headD 0⟩ : FlowPath)).filter fun p =>
      p.hops.all (fun a => !avoid.contains a)
        && (hopPairs (s.num Od.fabricAddress) p.hops).all fun x => !avoid.contains (avoidLink x.1 x.2)

/-- No module but the destination lies on both paths. -/
def nodeDisjoint (p q : List Nat) : Bool := p != q && (p.dropLast.all fun a => !q.dropLast.contains a)

/-- The elements of least key; more than one are left to a free value (R252, R254). -/
def State.pickLeast {α : Type} (s : State) (key : α → Nat × Nat) (l : List α) : Option α :=
  match l with
  | [] => none
  | a :: r =>
    let best := r.foldl (fun b x => if pairLt (key x) b then key x else b) (key a)
    (l.filter fun x => key x == best).drop (s.free % (l.filter fun x => key x == best).length) |>.head?

/-- The least-cost path, a tie going to the lower first hop. -/
def State.onePath (s : State) (l : List FlowPath) : Option FlowPath := s.pickLeast (fun p => (p.cost, p.first)) l

/-- The node-disjoint pair of least summed cost; A is the cheaper. -/
def State.twoPaths (s : State) (l : List FlowPath) : Option (FlowPath × FlowPath) :=
  s.pickLeast (fun z => (z.1.cost + z.2.cost, 0))
    (l.flatMap fun p => (l.filter fun q => nodeDisjoint p.hops q.hops
      && (pairLt (p.cost, p.first) (q.cost, q.first) || (p.cost, p.first) == (q.cost, q.first))).map fun q => (p, q))

/-- FlowStatus of flow `f` from its paths (R254). -/
def State.flowSync (s : State) (f : Nat) : State :=
  let x := s.flowAt f
  let st := if !flowEnabled (s.flowEntry f) then 0
    else if s.num Od.fabricState ≠ 2 then 6
    else match x.a.st == 2, x.b.st == 2 with
      | true, true => 2
      | true, false | false, true => 3
      | false, false => if x.a.st = 1 ∨ x.b.st = 1 then 1 else if x.a.st = 3 ∨ x.b.st = 3 then 4 else 5
  let b := s.blob (Od.flowStatus + f)
  let n (p : PathSt) : Nat := if p.live then p.hops.length else 0
  (s.setBlob (Od.flowStatus + f) (splice b 1 (toLE 1 (n x.a) ++ toLE 1 (n x.b)))).setFlowState f st

/-- Send the Setup of one path. -/
def State.startPath (s : State) (f : Nat) (pathB : Bool) (p : FlowPath) (tries : Nat) (avoid : List Nat) : State :=
  match s.portToAddress (p.hops.headD 0) with
  | none => s.setPath f pathB { PathSt.init with st := 3 }
  | some n => (s.setPath f pathB ⟨1, p.hops, n, s.gtc, tries, avoid⟩).sendSetup f pathB 1 n p.hops

/-- Compute and set up the paths of an enabled flow of a Member (R252). -/
def State.setupFlow (s : State) (f : Nat) : State :=
  let b := s.flowEntry f
  let l := s.flowPaths (leAt b 2 2 % 4096) []
  let t := s.fillBucket (0x4000 + f) (feBurst b)
  let t := match (if (byteAt b 4).testBit 1 then s.twoPaths l else none) with
    | some (p, q) => (t.startPath f false p 0 []).startPath f true q 0 []
    | none => match s.onePath l with
      | some p => t.startPath f false p 0 []
      | none => t
  t.tookFree.flowSync f

/-- A path is missing: set up one that is disjoint from the other where the flow is doubled (R254, R257). -/
def State.replacePath (s : State) (f : Nat) (pathB : Bool) (tries : Nat) (avoid : List Nat) : State :=
  let b := s.flowEntry f
  let other := (s.flowAt f).path (!pathB)
  let l := (s.flowPaths (leAt b 2 2 % 4096) avoid).filter fun p => !other.live || nodeDisjoint p.hops other.hops
  match s.onePath l with
  | some p => s.tookFree.startPath f pathB p tries avoid
  | none => s

/-- Every link of a path is still in the database, and its first port serves it. -/
def State.pathStands (s : State) (p : PathSt) : Bool :=
  let l := s.members
  let serial (a : Nat) : Nat := ((l.find? fun x => x.2.addr == some a).map (·.1)).getD 0
  s.twoWay p.port && s.portUp p.port
    && (hopPairs (s.num Od.fabricAddress) p.hops).all fun x => (edgesOf l (serial x.1)).any fun e => e.1 == serial x.2

/-- Bring the paths of a flow up to date with the database. -/
def State.repairFlow (s : State) (f : Nat) : State :=
  let drop (u : State) (pathB : Bool) : State :=
    let p := (u.flowAt f).path pathB
    if p.live ∧ ¬ u.pathStands p then u.releasePath f pathB else u
  let t := drop (drop s false) true
  let x := t.flowAt f
  if ¬ x.a.live ∧ ¬ x.b.live then ((t.setPath f false .init).setPath f true .init).setupFlow f
  else
    let two := (byteAt (t.flowEntry f) 4).testBit 1
    let t := if ¬ x.a.live then t.replacePath f false 0 [] else t
    let t := if ¬ x.b.live ∧ two then t.replacePath f true 0 [] else t
    t.flowSync f

/-- The routes of the database: destination address to port and first hop (R249). -/
def State.routesNow (s : State) : Tab (Option (Nat × Nat)) :=
  let l := s.modules
  let t := leastPaths l s.ownSerial (s.num Od.hopLimit)
  l.foldl (fun acc x =>
    match x.2.addr, tabGet none t x.1 with
    | some a, some (_, f) =>
      if x.1 = s.ownSerial then acc
      else match s.portToSerial f with
        | some n => tabSet none acc a (some (n, f))
        | none => acc
    | _, _ => acc) []

/-- ROUTE_COMPUTE: routes, membership and flows after a change of the database (R249, R252, R257, R259). -/
def routeCompute (s : State) : State :=
  if ¬ s.fabricOn ∨ ¬ s.fab.changed then s
  else
    let t := { s with fab := { s.fab with changed := false, routes := s.routesNow } }
    let t : State := t.updateRoot
    let here := t.members.filterMap fun x => x.2.addr
    let t : State := { t with fab := { t.fab with reports := t.fab.reports.filter (fun x => here.contains x.1) } }
    let t := t.setNum Od.staleMembers (t.fab.reports.filter fun x => (x.2.map (·.stale)).getD false).length
    if t.num Od.fabricState = 2 then t.flows.foldl State.repairFlow t else t

def execRouteCompute (s : State) : Res := .next (routeCompute s)

/-! ### Flow entries (Table 6-7) -/

/-- The form of a flow entry. -/
def checkFlowForm (b : Bytes) : Except Code Unit := do
  need (leAt b 2 2 / 4096 == 0 && byteAt b 4 / 8 == 0 && leAt b 5 3 == 0) .reservedBitSet
  need (!flowEnabled b || (((byteAt b 4).testBit 2 || decide (leAt b 0 2 < 2048)) && decide (1000 ≤ feRate b)
    && decide (feRate b ≤ 4000000000) && decide (64 ≤ feBurst b) && decide (feBurst b ≤ 1048576))) .outOfRange

/-- The checks of a FlowEntry write. -/
def State.checkFlow (s : State) (f : Nat) (b : Bytes) : Except Code Unit := do
  let old := s.flowEntry f
  checkFlowForm b
  if flowEnabled b then
    let trig := (byteAt b 4).testBit 2
    need (!flowEnabled old || old == b) .busy
    need (trig || seAdmitted (s.streamEntry (leAt b 0 2))) .precondition
    need (leAt b 2 2 != (match s.ownAddress with
      | some a => a
      | none => s.num Od.fabricAddressRequest)) .outOfRange

/-- Put a flow entry into force: enabling sets its paths up, disabling releases them. -/
def State.applyFlow (s : State) (f : Nat) (b : Bytes) : State :=
  let old := s.flowEntry f
  if old = b then s
  else if flowEnabled b then
    let t := s.setBlob (Od.flowEntry + f) b
    if t.num Od.fabricState = 2 then t.setupFlow f else t.flowSync f
  else if flowEnabled old then (((s.releasePath f false).releasePath f true).setBlob (Od.flowEntry + f) b).flowSync f
  else s.setBlob (Od.flowEntry + f) b

def flowWrite (who : Caller) (f : Nat) (b : Bytes) (s : State) : Act := do
  let _ ← s.gate who (Od.flowEntry + f) false 0 (.bytes b)
  s.checkFlow f b
  .ok ((s.applyFlow f b).bumpVersion (Od.flowEntry + f) 0)

def execFlowEnable (who : Caller) (f : Fin 1024) (value : Bytes) (s : State) : Res :=
  .next (s.answer who (flowWrite who f.val value s))

def execFlowDisable (who : Caller) (f : Fin 1024) (value : Bytes) (s : State) : Res :=
  .next (s.answer who (flowWrite who f.val value s))

/-! ### FlowSetup messages (R253, R254) -/

def transitKey (source flow : Nat) (pathB : Bool) : Nat := source * 2 ^ 17 + flow * 2 + boolNat pathB

def transitOf (l : Tab (Option Transit)) (k : Nat) : Option Transit := tabGet none l k

/-- The serial of the module that holds an address, 0 if none is known. -/
def State.serialOf (s : State) (a : Nat) : Nat := ((s.modules.find? fun x => x.2.addr == some a).map (·.1)).getD 0

/-- The sink of a flow (Table 6-16). -/
def State.sinkEntry (s : State) (k : Nat) : Bytes := s.blob (Od.sinkEntry + k)
def sinkValid (b : Bytes) : Bool := (leAt b 0 2).testBit 15
def sinkSource (b : Bytes) : Nat := leAt b 0 2 % 4096
def sinkFlow (b : Bytes) : Nat := leAt b 2 2
def sinkStream (b : Bytes) : Nat := leAt b 4 2

def State.sinkOf (s : State) (source flow : Nat) : Option Nat :=
  (s.listed Od.sinkEntry 2048).find? fun k =>
    let b := s.sinkEntry k
    sinkValid b && sinkSource b == source && sinkFlow b == flow

/-- Answer a Setup back along its hop list: `i` is this module's place in it. -/
def State.answerSetup (s : State) (h : XosynHead) (m : FlowMsg) (i op cause : Nat) : State :=
  let back := if i = 0 then h.source else m.hops.getD (i - 1) 0
  match s.portToAddress back with
  | none => s
  | some n =>
    (s.sendXosyn n 6 (s.originHead 6 h.flow h.source false h.pathB)
      (encodeFlow op { m with cause := cause, refusedAt := if op = 3 then i else 0 })).bumpSeq 6 h.flow

/-- The port limit of R205 holds on port `n` with `rate` more. -/
def State.rxFits (s : State) (n rate : Nat) : Bool := decide (s.rxBandwidth n + rate ≤ s.portLimit (s.macRate n))
def State.txFits (s : State) (n rate : Nat) : Bool := decide (s.txBandwidth n + rate ≤ s.portLimit (s.macRate n))

/-- A FlowSetup message passes this module: hop limit and the next hop (R250). -/
def State.passFlow (s : State) (h : XosynHead) (m : FlowMsg) (op : Nat) (next : Option Nat) : State :=
  if h.hopsLeft = 0 then s.fabricDrop Od.hopLimitDrops
  else match next with
    | some n => s.relay n 6 h (encodeFlow op m)
    | none => s

/-- The place of this module in a hop list. -/
def State.hopIndex (s : State) (l : List Nat) : Option Nat :=
  match s.ownAddress with
  | some a => l.findIdx? (· == a)
  | none => none

/-- FLOW_SETUP: a Setup arrives on port `n` (R253). -/
def flowSetup (n : Nat) (head : XosynHead) (m : FlowMsg) (s : State) : State :=
  match s.twoWay n, s.hopIndex m.hops with
  | true, some i =>
    let h := s.arrivedHead n head
    let k := transitKey h.source h.flow h.pathB
    if i + 1 = m.hops.length then
      let t := { s with fab := { s.fab with arrivals := tabSet none s.fab.arrivals k none } }
      if (s.sinkOf h.source h.flow).isNone then s.answerSetup h m i 3 6
      else if ¬ t.rxFits n m.rate then s.answerSetup h m i 3 3
      else
        ({ t with fab := { t.fab with
            arrivals := tabSet none t.fab.arrivals k (some ⟨n, none, m.rate, m.burst, s.serialOf h.source⟩) } }).answerSetup h m i 2 0
    else if h.hopsLeft = 0 then s.fabricDrop Od.hopLimitDrops
    else
      let t := { s with fab := { s.fab with transit := tabSet none s.fab.transit k none } }
      let refuse (c : Nat) : State := (s.raiseAdmission 0x155 0x80 0 2 c).answerSetup h m i 3 c
      match s.portToAddress (m.hops.getD (i + 1) 0) with
      | none => refuse 2
      | some p =>
        if 8192 ≤ t.fab.transit.length then refuse 5
        else if ¬ (t.rxFits n m.rate ∧ t.txFits p m.rate) then refuse 3
        else if 8388608 < t.reserveCharged + 2 * m.burst then refuse 4
        else
          ({ t with fab := { t.fab with
              transit := tabSet none t.fab.transit k (some ⟨n, some p, m.rate, m.burst, s.serialOf h.source⟩) } }).passFlow h m 1 (some p)
  | _, _ => s

def execFlowSetup (n : Fin 256) (head : XosynHead) (msg : FlowMsg) (s : State) : Res := .next (flowSetup n.val head msg s)

/-- Pass an Ack or a Refuse back towards the origin. -/
def State.passBack (s : State) (h : XosynHead) (m : FlowMsg) (op : Nat) : State :=
  match s.hopIndex m.hops with
  | none => s
  | some i => s.passFlow h m op (s.portToAddress (if i = 0 then h.destination else m.hops.getD (i - 1) 0))

/-- FLOW_ACK: at the origin the path is up; on the way it goes on. -/
def flowAck (n : Nat) (head : XosynHead) (m : FlowMsg) (s : State) : State :=
  if ¬ s.twoWay n then s
  else if s.ownAddress = some head.destination then
    let p := (s.flowAt head.flow).path head.pathB
    if head.flow < 1024 ∧ p.st = 1 ∧ p.hops = m.hops then
      (s.setPath head.flow head.pathB { p with st := 2 }).flowSync head.flow
    else s
  else s.passBack (s.arrivedHead n head) m 2

def execFlowAck (n : Fin 256) (head : XosynHead) (msg : FlowMsg) (s : State) : Res := .next (flowAck n.val head msg s)

/-- A path of flow `f` is refused (R254): what it installed is released; the first refusal tries once more without the
refusing link or module, the second leaves the path down until the database changes. -/
def State.refusePath (s : State) (f : Nat) (pathB : Bool) (cause at_ : Nat) : State :=
  let p := (s.flowAt f).path pathB
  let who := p.hops.getD at_ 0
  let t := s.releasePath f pathB
  let b := t.blob (Od.flowStatus + f)
  let t := t.setBlob (Od.flowStatus + f) (splice b 3 (toLE 1 cause ++ toLE 2 (if cause = 8 then 0 else who)))
  let from_ := if at_ = 0 then s.num Od.fabricAddress else p.hops.getD (at_ - 1) 0
  let avoid := if cause = 8 then []
    else if cause = 2 then [avoidLink who (p.hops.getD (at_ + 1) 0)]
    else if at_ + 1 = p.hops.length then [avoidLink from_ who] else [who]
  let t := if p.tries = 0 then t.replacePath f pathB 1 avoid else t.setPath f pathB { PathSt.init with st := 3 }
  t.flowSync f

/-- FLOW_REFUSE. -/
def flowRefuse (n : Nat) (head : XosynHead) (m : FlowMsg) (s : State) : State :=
  if ¬ s.twoWay n then s
  else if s.ownAddress = some head.destination then
    let p := (s.flowAt head.flow).path head.pathB
    if head.flow < 1024 ∧ p.st = 1 ∧ p.hops = m.hops then s.refusePath head.flow head.pathB m.cause m.refusedAt else s
  else s.passBack (s.arrivedHead n head) m 3

def execFlowRefuse (n : Fin 256) (head : XosynHead) (msg : FlowMsg) (s : State) : Res := .next (flowRefuse n.val head msg s)

/-- FLOW_RELEASE: the entry goes, and with it its bandwidth and reserve charge (R257). -/
def flowRelease (n : Nat) (head : XosynHead) (m : FlowMsg) (s : State) : State :=
  match s.twoWay n, s.hopIndex m.hops with
  | true, some i =>
    let h := s.arrivedHead n head
    let k := transitKey h.source h.flow h.pathB
    if i + 1 = m.hops.length then { s with fab := { s.fab with arrivals := tabSet none s.fab.arrivals k none } }
    else ({ s with fab := { s.fab with transit := tabSet none s.fab.transit k none } }).passFlow h m 4
      (s.portToAddress (m.hops.getD (i + 1) 0))
  | _, _ => s

def execFlowRelease (n : Fin 256) (head : XosynHead) (msg : FlowMsg) (s : State) : Res := .next (flowRelease n.val head msg s)

/-- FLOW_SETUP_TIMEOUT: no Ack within 100 ms (cause 8). -/
def flowSetupTimeout (f : Nat) (pathB : Bool) (s : State) : State :=
  let p := (s.flowAt f).path pathB
  if p.st = 1 ∧ p.sentAt + 100000000 ≤ s.gtc then s.refusePath f pathB 8 0 else s

def execFlowSetupTimeout (f : Fin 1024) (pathB : Bool) (s : State) : Res := .next (flowSetupTimeout f.val pathB s)

/-! ### Forwarding (R250, R251) -/

/-- The neighbour of port `k` reaches `source` through this module. -/
def State.treeChild (s : State) (source k : Nat) : Bool :=
  let l := s.modules
  let v := s.pnum Od.neighbourSerial k
  match tabGet none (leastPaths l v (s.num Od.hopLimit)) (s.serialOf source) with
  | some (_, f) => f == s.ownSerial && s.serialOf source != v
  | none => false

/-- A non-link-layer frame, its head as `arrivedHead` leaves it: forwarded or discarded, and whether it is delivered
here. A port that is not Forwarding stops it (stage 2 of Table 5-1), not the engine's copy. -/
def State.forwardXosyn (s : State) (n kind : Nat) (h : XosynHead) (body : Bytes) : State × Bool :=
  if s.pnum Od.portForwardState n ≠ 2 then
    (s.portCount Od.stateDrops n, (!h.broadcast && s.ownAddress == some h.destination)
      || (h.broadcast && ((tabGet none s.fab.routes h.source).map Prod.fst == some n)))
  else if ¬ h.broadcast ∧ s.ownAddress = some h.destination then (s, true)
  else if h.hopsLeft = 0 then (s.fabricDrop Od.hopLimitDrops, false)
  else if h.broadcast then
    match tabGet none s.fab.routes h.source with
    | some (p, _) =>
      if p ≠ n then (s.fabricDrop Od.rpfDrops, false)
      else (s.xosynPorts.foldl (fun u k =>
        if k ≠ n ∧ u.twoWay k ∧ u.treeChild h.source k then u.relay k kind h body h.priority else u) s, true)
    | none => (s.fabricDrop Od.rpfDrops, false)
  else if kind = 0xC then
    match tabGet none s.fab.routes h.destination with
    | some (p, _) => (s.relay p kind h body h.priority, false)
    | none => (s.fabricDrop Od.noRouteDrops, false)
  else if kind = 7 ∨ kind = 0xA then
    match (transitOf s.fab.transit (transitKey h.source h.flow h.pathB)).bind (·.outPort) with
    | some p => (s.relay p kind h body 6, false)
    | none => (s.fabricDrop Od.flowDrops, false)
  else (s, false)

/-! ### Sinks (R256) -/

def State.sinkAt (s : State) (k : Nat) : SinkSt := tabGet .init s.fab.sinks k

def State.setSink (s : State) (k : Nat) (x : SinkSt) : State :=
  { s with fab := { s.fab with sinks := tabSet .init s.fab.sinks k x } }

/-- Take a flow frame at sink `k`: counters, the instant of its path, and whether it is the first copy. -/
def State.takeSink (s : State) (k : Nat) (h : XosynHead) : State × Bool :=
  let x := s.sinkAt k
  let id := Od.sinkCounters + k
  let t := s.blobCount id (if h.pathB then 8 else 0) (0x170 + k / 128) 0x87 k
  let t := t.setBlob id (splice (t.blob id) (if h.pathB then 20 else 16) (toLE 4 h.pathDelay))
  let x := if h.pathB then { x with atB := s.gtc, silentB := false } else { x with atA := s.gtc, silentA := false }
  match x.last with
  | some l => if notNewer (2 ^ 32) l h.sequence then (t.setSink k x, false)
      else (t.setSink k { x with last := some h.sequence }, true)
  | none => (t.setSink k { x with last := some h.sequence }, true)

/-- The port on which a sink's carried frame counts as received. -/
def State.sinkPort (s : State) (k : Nat) (pathB : Bool) : Nat :=
  let b := s.streamEntry (sinkStream (s.sinkEntry k))
  if pathB ∧ seAlt b ≠ 0xFFFF then seAlt b else seIn b

/-- Present a frame to stage 5 as received on port `n` (Table 5-1). -/
def State.presentFrame (s : State) (n : Nat) (o : Bytes) : State :=
  match s.matchStream n o (parseFrame o) with
  | some e => s.admittedFrame n e o false s.gtc
  | none => s.bestEffort n o false

/-- FLOW_DATA: a FlowData frame arrives on port `n`. -/
def flowData (n : Nat) (head : XosynHead) (carried : Bytes) (s : State) : State :=
  if ¬ (s.xosynUp n ∧ s.twoWay n) then s
  else
    let h := s.arrivedHead n head
    let (t, here) := s.forwardXosyn n 7 h carried
    if ¬ here then t
    else match t.sinkOf h.source h.flow with
      | none => t
      | some k =>
        if sinkStream (t.sinkEntry k) = 0xFFFF then t
        else
          let (t, fresh) := t.takeSink k h
          if fresh then t.presentFrame (t.sinkPort k h.pathB) (withFcs (padFrame carried)) else t

def execFlowData (n : Fin 256) (head : XosynHead) (carried : Bytes) (s : State) : Res := .next (flowData n.val head carried s)

/-- The form of a sink entry. -/
def checkSinkForm (b : Bytes) : Except Code Unit := do
  need (field (leAt b 0 2) 12 3 == 0 && leAt b 6 2 == 0) .reservedBitSet
  need (!sinkValid b || decide (sinkStream b < 2048) || sinkStream b == 0xFFFF) .outOfRange

/-- The checks of a SinkEntry write. -/
def State.checkSink (s : State) (k : Nat) (b : Bytes) : Except Code Unit := do
  checkSinkForm b
  if sinkValid b then
    need ((s.listed Od.sinkEntry 2048).all fun j => j == k || !(sinkValid (s.sinkEntry j)
      && sinkSource (s.sinkEntry j) == sinkSource b && sinkFlow (s.sinkEntry j) == sinkFlow b)) .heldElsewhere

def State.applySink (s : State) (k : Nat) (b : Bytes) : State := (s.setBlob (Od.sinkEntry + k) b).setSink k { SinkSt.init with atA := s.gtc, atB := s.gtc }

/-- SINK_ENTRY_WRITE. -/
def sinkWrite (who : Caller) (k : Nat) (b : Bytes) (s : State) : Act := do
  let _ ← s.gate who (Od.sinkEntry + k) false 0 (.bytes b)
  s.checkSink k b
  .ok ((s.applySink k b).bumpVersion (Od.sinkEntry + k) 0)

def execSinkEntryWrite (who : Caller) (k : Fin 2048) (value : Bytes) (s : State) : Res :=
  .next (s.answer who (sinkWrite who k.val value s))

/-- SINK_PATH_SILENT: a path of sink `k` has delivered nothing for 10 ms (R264). -/
def sinkPathSilent (k : Nat) (pathB : Bool) (s : State) : State :=
  let x := s.sinkAt k
  let quiet (g : Nat) : Bool := decide (g + 10000000 ≤ s.gtc)
  let mine := if pathB then x.atB else x.atA
  let other := if pathB then x.atA else x.atB
  let told := if pathB then x.silentB else x.silentA
  if ¬ sinkValid (s.sinkEntry k) ∨ told ∨ ¬ quiet mine then s
  else
    let t := s.setSink k (if pathB then { x with silentB := true } else { x with silentA := true })
    t.raiseOcc (0x170 + k / 128) 0x87 k (if quiet other then 2 else 1) (boolNat pathB)

def execSinkPathSilent (k : Fin 2048) (pathB : Bool) (s : State) : Res := .next (sinkPathSilent k.val pathB s)

/-! ### Datagrams -/

/-- DATAGRAM: a routed frame arrives; one for this module goes to the ring that DatagramRing names. -/
def datagram (n : Nat) (head : XosynHead) (payload : Bytes) (s : State) : State :=
  if ¬ (s.xosynUp n ∧ s.twoWay n) then s
  else
    let h := s.arrivedHead n head
    let (t, here) := s.forwardXosyn n 0xC h payload
    if here then
      let r := t.num Od.datagramRing
      (t.receiveInto (r / 256) (r % 256)
        (receivePacket 2 h.source false true false (!t.fine .n) t.gtc h.sequence payload)).1
    else t

def execDatagram (n : Fin 256) (head : XosynHead) (payload : Bytes) (s : State) : Res := .next (datagram n.val head payload s)

/-! ### Time over the fabric (R258) -/

def offerKey (d a : Nat) : Nat := d * 4096 + a

def State.offer (s : State) (d a : Nat) : Option Offer := tabGet none s.fab.offers (offerKey d a)

/-- The offers of domain `d`, with their addresses. -/
def State.offersOf (s : State) (d : Nat) : List (Nat × Offer) :=
  s.fab.offers.filterMap fun x => if x.1 / 4096 = d then x.2.map fun o => (x.1 % 4096, o) else none

/-- The keys of the choice, in turn (R258); the rank of a state is that of R122. -/
def offerKeys (a : Nat) (o : Offer) : List Nat := [trimRank o.st, o.depth, o.class_, o.err, a]

/-- The module that domain `d` follows. -/
def State.followed (s : State) (d : Nat) : Option Nat :=
  let want := s.num (Od.fabricSource + 256 * d)
  if want ≠ 0xFFFF then ((s.offersOf d).find? fun x => x.1 == want).map (·.1)
  else ((s.offersOf d).foldl (fun b x => match b with
    | none => some x
    | some y => if keyBefore (offerKeys x.1 x.2) (offerKeys y.1 y.2) then some x else b) none).map (·.1)

/-- TIME_SEND: a member broadcasts the time of an offered domain. -/
def timeSend (d : Nat) (s : State) : State :=
  let x := s.dom d
  if s.num Od.fabricState = 2 ∧ (s.num Od.timeOffer).testBit d ∧ x.state ≠ 0 then
    let depth := if x.source = 3 then (match s.followed d with
      | some a => ((s.offer d a).map fun o => o.depth + 1).getD 0
      | none => 0) else 0
    s.sendBroadcast 8 0
      (toBE 1 d ++ toBE 1 x.state ++ toBE 1 x.clockClass ++ toBE 1 (s.domQuality d % 256) ++ toBE 1 depth ++ [0, 0, 0]
        ++ List.replicate 12 0) (.domainTime d)
  else s

def execTimeSend (d : Fin 8) (s : State) : Res := .next (timeSend d.val s)

/-- The modules tracked as time sources. -/
def State.offerers (s : State) : List Nat :=
  s.fab.offers.foldl (fun l x => if l.contains (x.1 % 4096) then l else x.1 % 4096 :: l) []

/-- TIME: a Time message is delivered here, with the delay of its path. -/
def timeMessage (source d : Nat) (m : TimeMsg) (pathDelay : Nat) (valid : Bool) (s : State) : State :=
  if m.depth = 15 then s
  else if ¬ s.offerers.contains source ∧ 32 ≤ s.offerers.length then s.raiseOcc 0x157 0x80 0 1 source
  else
    let t := { s with fab := { s.fab with
      offers := tabSet none s.fab.offers (offerKey d source) (some ⟨m.st, m.depth, m.clockClass, m.errorLog2, s.gtc⟩) } }
    if valid ∧ t.followed d = some source then
      let x := t.dom d
      let r := match x.paramAt t.gtc with
        | some p => p.r
        | none => 0
      let off := x.valueAt t.gtc - (valueOfTime m.origin + (pathDelay : Int) * (rateOne + r) / 256)
      t.measure d 3 (roundDiv off (2 ^ 32)) m.clockClass
    else t

def execTime (source : Nat) (d : Fin 8) (offer : TimeMsg) (pathDelay : Nat) (valid : Bool) (s : State) : Res :=
  .next (timeMessage source d.val offer pathDelay valid s)

/-- FABRIC_SOURCE_LOST: three intervals of 125 ms without a Time message of an offering module. -/
def fabricSourceLost (d a : Nat) (s : State) : State :=
  match s.offer d a with
  | none => s
  | some o =>
    if s.gtc < o.at_ + 375000000 then s
    else
      let was := s.followed d
      let t := { s with fab := { s.fab with offers := tabSet none s.fab.offers (offerKey d a) none } }
      if was = some a ∧ (t.followed d).isNone then t.loseSource d 3 else t

def execFabricSourceLost (d : Fin 8) (address : Nat) (s : State) : Res := .next (fabricSourceLost d.val address s)

/-! ### Reports (R259) -/

/-- POND_REPORT: the report of a member. -/
def pondReport (source : Nat) (m : ReportMsg) (s : State) : State :=
  let old := tabGet none s.fab.reports source
  let t := { s with fab := { s.fab with
    reports := tabSet none s.fab.reports source (some ⟨m.seq, m.health, m.share, m.used, m.held, m.inUse, s.gtc, false⟩) } }
  match old with
  | some r => if r.stale then
      (t.setNum Od.staleMembers (s.num Od.staleMembers - 1)).raiseOcc 0x156 0x80 0 2 source else t
  | none => t

def execPondReport (source : Nat) (msg : ReportMsg) (s : State) : Res := .next (pondReport source msg s)

/-- MEMBER_STALE: a report older than 3 × ReportInterval. -/
def memberStale (a : Nat) (s : State) : State :=
  match tabGet none s.fab.reports a with
  | none => s
  | some r =>
    if r.stale ∨ s.gtc ≤ r.at_ + 3000000 * s.num Od.reportInterval then s
    else
      let t := { s with fab := { s.fab with reports := tabSet none s.fab.reports a (some { r with stale := true }) } }
      (t.setNum Od.staleMembers (s.num Od.staleMembers + 1)).raiseOcc 0x156 0x80 0 1 a

def execMemberStale (address : Nat) (s : State) : Res := .next (memberStale address s)

/-! ### Joining and leaving (R241, R265) -/

/-- FabricEnable changes: joining begins with an empty database, leaving takes every neighbour Down and releases the
flows' paths. -/
def State.applyFabricEnable (s : State) (value : Nat) : State :=
  if s.num Od.fabricEnable = value then s
  else if value = 1 then
    let t := s.setNum Od.fabricEnable 1
    ({ t with fab := { t.fab with lsaDue := true, undecided := true, changed := true } }).fabricUpdate
  else
    let t := s.releaseFlows
    let t := t.xosynPorts.foldl (fun u n => u.setNeighbour n 0) t
    let t := (t.setNum Od.fabricEnable 0).setNum Od.fabricAddress 0xFFFF
    let t := { t with fab := { FabricSt.reset with
      flows := t.fab.flows, ownSeq := t.fab.ownSeq, seqs := t.fab.seqs, sinks := t.fab.sinks, nbs := t.fab.nbs } }
    t.setFabricState 0

end Sys2Proof.Machine
end

