-- ==== Sys2Proof/Machine/Chain.lean ====
section
/-! DEFINITION. The filter and decimation chain (Chapter 8): channels, detectors, phasors and trackers. -/

namespace Sys2Proof.Machine

/-! ### Floating point (R306) -/

def d64 (i : Int) : Nat := (f64.ofRat i 1).1
def fadd (a b : Nat) : Nat := (f64.add a b).1
def fsub (a b : Nat) : Nat := (f64.sub a b).1
def fmul (a b : Nat) : Nat := (f64.mul a b).1
def fdiv (a b : Nat) : Nat := (f64.div a b).1
def fsqrt (a : Nat) : Nat := (f64.sqrt a).1
def fabs (a : Nat) : Nat := f64.mag a
def widen (a : Nat) : Nat := (f32.convert f64 a).1
def pi64 : Nat := (f64.ofRat (piUnits fnBits) (2 ^ fnBits)).1
def two64 : Nat := d64 2

/-- a < b on binary64 values. -/
def flt (a b : Nat) : Bool := f64.cmp a b == some .lt

/-- A binary64 result as binary32, never a NaN or an infinity: where the value lies beyond binary32 the spec names no
result, and it is a free finite one. -/
def narrow (a : Nat) : Nat :=
  let x := (f64.convert f32 a).1
  if f32NotFinite x then let v := Config.beyondF32 a % 2 ^ 32
    (if f32NotFinite v then v % 0x7F800000 else v) else x

/-! ### Channels, slots and configuration -/

/-- A filter channel number is a wavefront one. -/
def isWave (c : Nat) : Bool := decide (2 ^ 16 ≤ c)

/-- The place of a channel in the per-channel object tables. -/
def chOff (c : Nat) : Nat := if isWave c then 0x4000 + (c - 2 ^ 16) else c

def chExists (c : Nat) : Bool := decide (c < 16384) || (isWave c && decide (c < 2 ^ 16 + 1024))

/-- The kind and number of the channel's own slot (R301). -/
def chItem (c : Nat) : Nat × Nat := if isWave c then (0x04, c - 2 ^ 16) else (0x03, c)

def State.filter (s : State) (c : Nat) : Option FilterSt := tabGet none s.chain.filters c

def State.setFilter (s : State) (c : Nat) (x : Option FilterSt) : State :=
  { s with chain := { s.chain with filters := tabSet none s.chain.filters c x } }

def State.filterConfig (s : State) (c : Nat) : Bytes := s.blob (Od.filterConfig + chOff c)
def fcAlign (b : Bytes) : Nat := leAt b 0 2
def fcDelay (b : Bytes) : Int := toInt 64 (leAt b 4 8)
def fcN (b : Bytes) : Nat := byteAt b 12
def fcR (b : Bytes) : Nat := leAt b 14 2
def fcL (b : Bytes) : Nat := leAt b 16 2
def fcFir (b : Bytes) : Nat := byteAt b 18
def fcQ (b : Bytes) : Nat := byteAt b 19
def fcStrict (b : Bytes) : Bool := (byteAt b 20).testBit 0

def State.filterOn (s : State) (c : Nat) : Bool := s.num (Od.filterEnable + chOff c) == 1

/-- The enabled channels. -/
def State.enabledFilters (s : State) : List Nat :=
  (s.chain.filters.map (·.1)).filter s.filterOn

/-- The slot that a channel reads by its object, as a grid place. -/
def State.inputKey (s : State) (c : Nat) : Nat := gridKey (isWave c) (s.num (Od.filterInput + chOff c))

/-- The domain, sample rate and stream that feed a grid place. -/
def State.feedOf (s : State) (key : Nat) : Option (Nat × Nat × Nat) :=
  match s.slotFeed key with
  | none => none
  | some (e, _) => let c := s.intakeConfig e
    if s.bound e then some (icDomain c, intakeRate (icRateCode c), e) else none

/-- The rate of a running channel. -/
def FilterSt.rate (x : FilterSt) : Nat := match x.feed with
  | some (_, f) => f
  | none => 0

/-! ### FIR sets (Table 8-2) -/

def State.firSet (s : State) (k : Nat) : Bytes := s.blob (Od.firSet + k)
def firTaps (b : Bytes) : Nat := byteAt b 0
def firDelay (b : Bytes) : Nat := leAt b 4 4
def firCoef (b : Bytes) (i : Nat) : Int := toInt 32 (leAt b (8 + 4 * i) 4)

/-- The set can be used: it is loaded and not Corrupt. -/
def State.firUsable (s : State) (k : Nat) : Bool := firTaps (s.firSet k) != 0 && !s.chain.corrupt.contains k

/-- The set is named by an enabled channel (R312). -/
def State.firNamed (s : State) (k : Nat) : Bool := s.enabledFilters.any fun c => fcFir (s.filterConfig c) == k

/-! ### Derived figures (R307 to R319) -/

/-- δ in units of 2^−10 samples, exact numerator over 64 × 10^9. -/
def deltaNum (b : Bytes) (fs : Nat) : Int := (fcAlign b : Int) * 64000000000 - fcDelay b * fs
def delta (b : Bytes) (fs : Nat) : Nat := (roundDiv (deltaNum b fs) 64000000000).toNat

/-- Taps of the FIR stage; 1 when it is bypassed. -/
def State.taps (s : State) (b : Bytes) : Nat := if fcFir b = 0xFF then 1 else firTaps (s.firSet (fcFir b))

def spans (b : Bytes) (fs taps : Nat) : Nat × Nat × Nat × Nat :=
  (delta b fs / 1024 + 3, fcN b * (fcR b - 1) + 1, fcL b, taps)

/-- S_total of R319. -/
def settleSpan (b : Bytes) (fs taps : Nat) : Nat :=
  let (s1, s2, s3, s4) := spans b fs taps
  s1 + (s2 - 1) + fcR b * (s3 - 1) + fcR b * (s4 - 1)

/-- The static ranges of a FilterConfig (Table 8-11). -/
def checkFilterForm (b : Bytes) : Except Code Unit := do
  need (leAt b 2 2 == 0 && byteAt b 13 == 0 && byteAt b 20 / 2 == 0 && (b.drop 21).all (· == 0)) .reservedBitSet
  need (decide (1024 ≤ fcAlign b) && decide (fcAlign b ≤ 31744) && decide ((fcDelay b).natAbs ≤ 65536000000)
    && decide (fcN b ≤ 5) && decide (fcR b ≤ 256) && decide (1 ≤ fcL b) && decide (fcL b ≤ 1024)
    && (decide (fcFir b < 64) || fcFir b == 0xFF) && decide (1 ≤ fcQ b) && decide (fcQ b ≤ 16)
    && (fcFir b != 0xFF || fcQ b == 1)) .outOfRange

/-- FilterConfig is valid for an input rate (R307 to R311). -/
def State.filterValid (s : State) (b : Bytes) (fs : Nat) : Bool :=
  decide (1 ≤ fcR b) && (fcN b != 0 || fcR b == 1)
    && decide (1024 * 64000000000 ≤ deltaNum b fs) && decide (deltaNum b fs ≤ 31 * 1024 * 64000000000)
    && fs % (fcR b * fcQ b) == 0 && (fcFir b == 0xFF || s.firUsable (fcFir b))

/-! ### Fixed-point stages (R306 to R311) -/

/-- Saturate to a word of `w` bits; whether it saturated. -/
def saturate (q : Int) (w : Nat) : Int × Bool :=
  let m : Int := 2 ^ (w - 1)
  if m - 1 < q then (m - 1, true) else if q < -m then (-m, true) else (q, false)

def roundShift (v : Int) (k : Nat) : Int := roundDiv v (2 ^ k)

def wordBits (c : Nat) : Nat := if isWave c then 32 else 48

/-- The Lagrange coefficients at μ = u / 1024, in units of 2^−16. -/
def lagrange (u : Int) : List Int :=
  [roundDiv (-(u * (u - 1024) * (u - 2048))) (6 * 2 ^ 14), roundDiv ((1024 + u) * (u - 1024) * (u - 2048)) (2 ^ 15),
   roundDiv (-((1024 + u) * u * (u - 2048))) (2 ^ 15), roundDiv ((1024 + u) * u * (u - 1024)) (6 * 2 ^ 14)]

def dot : List Int → List Int → Int
  | a :: r, b :: q => a * b + dot r q
  | _, _ => 0

/-- Stage 1 on the newest inputs. -/
def stage1 (d : Nat) (xs : List Int) (w : Nat) : Int × Bool :=
  saturate (roundShift (dot (lagrange ((d % 1024 : Nat) : Int)) (xs.drop (d / 1024 - 1))) 16) w

/-- One step of the integrators modulo 2^a. -/
def integrate (a : Nat) : Nat → List Nat → List Nat
  | _, [] => []
  | x, i :: r => let v := (i + x) % 2 ^ a
    v :: integrate a v r

/-- One step of the combs modulo 2^a: the new memory and the output. -/
def comb (a : Nat) : Nat → List Nat → List Nat × Nat
  | x, [] => ([], x)
  | x, c :: r => let (l, y) := comb a ((x + 2 ^ a - c) % 2 ^ a) r
    (x :: l, y)

/-- The normalisation of R308 and R310: gain `g` removed. -/
def normalise (v : Int) (g w : Nat) : Int × Bool :=
  let s := g.log2 + 24
  saturate (roundShift (v * roundDiv (2 ^ s) g) s) w

/-! ### Scale (R313) -/

def scW (b : Bytes) : Nat := widen (leAt b 0 4)
def scG (b : Bytes) : Nat := widen (leAt b 4 4)
def scO (b : Bytes) : Nat := widen (leAt b 8 4)

/-- g × w. -/
def scaleGain (b : Bytes) : Nat := fmul (scG b) (scW b)

/-- The engineering value of a chain word. -/
def engineering (b : Bytes) (y : Int) : Nat := narrow (fadd (fmul (scaleGain b) (fdiv (d64 y) (d64 256))) (scO b))

/-- The entry of a list of (after, value) in force at an instant, newest first. -/
def inForce {α : Type} (d : α) (n : Nat) : List (Nat × α) → α
  | [] => d
  | (a, v) :: r => if a < n ∨ r.isEmpty then v else inForce d n r

/-! ### Detectors (R322 to R324) -/

def State.detConfig (s : State) (c : Nat) : Bytes := s.blob (Od.detectorConfig + chOff c)
def dcTap (b : Bytes) : Nat := byteAt b 0
def dcPeak (b : Bytes) : Bool := (byteAt b 1).testBit 0
def dcRms (b : Bytes) : Bool := (byteAt b 1).testBit 1
def dcEnv (b : Bytes) : Bool := (byteAt b 1).testBit 2
def dcTracked (b : Bytes) : Bool := byteAt b 2 == 1
def dcTracker (b : Bytes) : Nat := byteAt b 3
def dcPeakWindow (b : Bytes) : Nat := leAt b 4 2
def dcRmsWindow (b : Bytes) : Nat := leAt b 6 2
def dcShift (b : Bytes) : Nat := byteAt b 8

def State.tracker (s : State) (t : Nat) : Option TrackerSt := tabGet none s.chain.trackers t
def State.setTracker (s : State) (t : Nat) (x : Option TrackerSt) : State :=
  { s with chain := { s.chain with trackers := tabSet none s.chain.trackers t x } }
def State.trackerConfig (s : State) (t : Nat) : Bytes := s.blob (Od.trackerConfig + t)
def tcMode (b : Bytes) : Nat := byteAt b 0
def tcNominal (b : Bytes) : Nat := byteAt b 1
def tcRefs (b : Bytes) : List Nat := if tcMode b = 2 then [leAt b 2 2, leAt b 4 2, leAt b 6 2] else [leAt b 2 2]
def tcMin (b : Bytes) : Nat := leAt b 8 4

def State.phasor (s : State) (p : Nat) : Option PhasorSt := tabGet none s.chain.phasors p
def State.setPhasor (s : State) (p : Nat) (x : Option PhasorSt) : State :=
  { s with chain := { s.chain with phasors := tabSet none s.chain.phasors p x } }
def State.phasorConfig (s : State) (p : Nat) : Bytes := s.blob (Od.phasorConfig + p)
def pcSource (b : Bytes) : Nat := leAt b 0 2
def pcHarmonic (b : Bytes) : Nat := byteAt b 2
def pcCycles (b : Bytes) : Nat := byteAt b 3
def pcTracker (b : Bytes) : Nat := byteAt b 4
def pcCompensate (b : Bytes) : Bool := (byteAt b 5).testBit 0
def pcNominal (b : Bytes) : Nat := byteAt b 6

/-- The domain, input rate and output rate of a running filter channel. -/
def State.filterRates (s : State) (c : Nat) : Option (Nat × Nat × Nat) :=
  match s.filter c with
  | some x => match x.feed with
    | some (d, f) => let b := s.filterConfig c
      some (d, f, f / (fcR b * fcQ b))
    | none => none
  | none => none

/-- The rates of the phasors that a tracker refers to. -/
def State.trackerRates (s : State) (t : Nat) : Option (Nat × Nat × Nat) :=
  s.filterRates (pcSource (s.phasorConfig ((tcRefs (s.trackerConfig t)).headD 0)))

/-- The latest record of tracker `t` whose instant is not later than `n` at rate `fs`. -/
def State.trackerAt (s : State) (t n fs : Nat) : Option TrackerEnt :=
  match s.tracker t, s.trackerRates t with
  | some x, some (_, f, _) => x.ents.find? fun e => decide (e.at_ * fs ≤ n * f)
  | _, _ => none

/-- The frequency in use of a tracker at an instant, binary64: its estimate while it is Settled, else the nominal. -/
def State.frequencyAt (s : State) (t n fs : Nat) : Nat × Bool :=
  match s.trackerAt t n fs with
  | some e => if e.quality.testBit 31 then (e.f, true) else (d64 (tcNominal (s.trackerConfig t)), false)
  | none => (d64 (tcNominal (s.trackerConfig t)), false)

/-- Take one tap sample: instant `pos` within its second and settled state. -/
def DetSt.take (x : DetSt) (b : Bytes) (pos : Nat) (y : Int) (ok : Bool) (keep : Nat) : DetSt :=
  let run := if ok then min (x.run + 1) (2 ^ 24) else 0
  let w := dcPeakWindow b
  let start := w != 0 && pos % w == 0
  let z : DetSt := if start then { x with count := 1, hi := y, lo := y, ok := ok }
    else { x with count := x.count + 1, hi := max x.hi y, lo := min x.lo y, ok := x.ok && ok }
  let z : DetSt := if w ≠ 0 ∧ pos % w = w - 1 then
      { z with repHi := z.hi, repLo := z.lo, repOk := z.ok && z.count == w } else z
  let k := dcShift b
  let decay := if k = 0 then y.natAbs else max y.natAbs ((x.env : Int) - roundShift x.env k).toNat
  { z with run := run, words := (y :: x.words).take keep, env := decay }

/-- The largest whole number not above a positive binary64 value. -/
def floor64 (a : Nat) : Nat := (f64.toInt 2 a).1.toNat

/-- Σ a_i y_i² in binary64, newest first, with weight `last` on word `n`. -/
def sumSquares (last : Nat) : Nat → Nat → List Int → Nat
  | acc, _, [] => acc
  | acc, 0, y :: _ => fadd acc (fmul last (d64 (y * y)))
  | acc, n + 1, y :: r => sumSquares last (fadd acc (d64 (y * y))) n r

/-- The words of RMS, envelope and peak, and the detector bits of the quality word, for a channel at tap instant `n`. -/
def State.detectorWords (s : State) (b sc : Bytes) (x : DetSt) (n fs : Nat) (tapRate : Nat) : (Nat × Nat × Nat × Nat) × Nat :=
  let gw := scaleGain sc
  let agw := fabs gw
  let (win, sum) := if dcTracked b then
      let l := fdiv (fmul (d64 (dcRmsWindow b)) (d64 tapRate)) (s.frequencyAt (dcTracker b) n fs).1
      let fl := floor64 l
      (l, sumSquares (fsub l (d64 fl)) 0 fl x.words)
    else
      (d64 (dcRmsWindow b), d64 ((x.words.take (dcRmsWindow b)).map fun y => y * y).sum)
  let need_ := if dcTracked b then (f64.toInt 3 win).1.toNat else dcRmsWindow b
  let rms := if dcRms b then narrow (fdiv (fmul agw (fsqrt (fdiv sum win))) (d64 256)) else 0
  let env := if dcEnv b then narrow (fdiv (fmul agw (d64 x.env)) (d64 256)) else 0
  let hi := engineering sc x.repHi
  let lo := engineering sc x.repLo
  let (hi, lo) := if f64.neg gw then (lo, hi) else (hi, lo)
  let (hi, lo) := if dcPeak b then (hi, lo) else (0, 0)
  ((rms, env, hi, lo),
    (if dcRms b && decide (need_ ≤ x.run) then 2 ^ 29 else 0) + (if dcPeak b && x.repOk then 2 ^ 28 else 0)
      + (if dcEnv b && decide (2 ^ (dcShift b + 2) ≤ x.run) then 2 ^ 27 else 0))

/-- How many tap words a configuration needs. -/
def State.detectorKeep (s : State) (b : Bytes) (tapRate : Nat) : Nat :=
  if !dcRms b then 1
  else if dcTracked b then dcRmsWindow b * tapRate * 100 / (85 * max 1 (tcNominal (s.trackerConfig (dcTracker b)))) + 2
  else max 1 (dcRmsWindow b)

/-! ### One input sample (R317 to R321) -/

/-- A sample is usable (R317). -/
def usable (strict : Bool) (q : Nat) : Bool :=
  if strict then q % 4 == 0 && !q.testBit 10 && !q.testBit 18 else q % 4 == 0 || q % 4 == 3

/-- Count settled inputs up to a span. -/
def settleCount (n span : Nat) (ok : Bool) : Nat := if ok then min (n + 1) span else 0

/-- The marks that a sample of quality `q` at input `n` sets. -/
def markSample (m : Tab Nat) (q n : Nat) : Tab Nat :=
  let bits := ([2, 3, 4, 5, 6, 7, 8, 9, 10, 11, 12, 13, 16, 18].filter q.testBit)
    ++ (if q % 4 = 3 ∨ q.testBit 10 then [0] else [])
  bits.foldl (fun t b => tabSet 0 t b (n + 1)) m

/-- The quality word of an output at input `n` by the marks within the span (Table 8-5, R320). -/
def outQuality (m : Tab Nat) (n span : Nat) (settled : Bool) : Nat :=
  let on (b : Nat) : Bool := let i := tabGet 0 m b
    i != 0 && decide (n < i - 1 + span)
  let detail := ([2, 3, 4, 5, 6, 7, 8, 9, 10, 11, 12, 13, 16, 18].map fun b => if on b then 2 ^ b else 0).sum
  let v := if !settled then 1 else if on 0 || on 18 || on 30 then 3 else 0
  boolNat settled * 2 ^ 31 + (if on 30 then 2 ^ 30 else 0) + detail + v

/-- One input sample of a running channel: its new state, whether a stage saturated, and its output, if one is due. -/
def State.chainStep (s : State) (c : Nat) (x : FilterSt) (value : Int) (q : Nat) :
    FilterSt × Bool × Option ChainEnt :=
  let b := s.filterConfig c
  let fs := x.rate
  let n := x.next
  let w := wordBits c
  let taps := s.taps b
  let (s1, s2, s3, s4) := spans b fs taps
  let span := settleSpan b fs taps
  let fresh := x.restarts.any fun r => decide (r ≤ n)
  let k := if fresh then [0, 0, 0, 0] else x.counts
  let k1 := settleCount (k.getD 0 0) s1 (usable (fcStrict b) q)
  let ok1 := k1 == s1
  let d := delta b fs
  let xs := (value * 256 :: x.xs).take (d / 1024 + 3)
  let (y1, o1) := stage1 d xs w
  let det := s.detConfig c
  let detTap (z : DetSt) (pos : Nat) (y : Int) (ok : Bool) (rate : Nat) : DetSt := z.take det pos y ok (s.detectorKeep det rate)
  let z := if dcTap det = 0 then detTap x.det (n % fs) y1 ok1 fs else x.det
  let a := w + fcN b * log2Ceil (fcR b)
  let ints := integrate a (ofInt a y1) x.ints
  let k2 := settleCount (k.getD 1 0) s2 ok1
  let base := { x with
    next := n + 1, restarts := x.restarts.filter (fun r => decide (n < r)), xs := xs, ints := ints,
    marks := markSample x.marks q n, det := z }
  if n % fs % fcR b ≠ 0 then
    let marks := if o1 then tabSet 0 base.marks 30 (n + 1) else base.marks
    ({ base with counts := [k1, k2, k.getD 2 0, k.getD 3 0], marks := marks }, o1, none)
  else
    let (combs, v) := comb a (if fcN b = 0 then ofInt a y1 else ints.getLast?.getD 0) x.combs
    let (y2, o2) := if fcN b = 0 then (y1, false) else normalise (toInt a v) (fcR b ^ fcN b) w
    let k3 := settleCount (k.getD 2 0) s3 (k2 == s2)
    let avg := (y2 :: x.avg).take (fcL b)
    let (y3, o3) := normalise (intSum avg) (fcL b) w
    let k4 := settleCount (k.getD 3 0) s4 (k3 == s3)
    let fir := (y3 :: x.fir).take taps
    let base := { base with combs := combs, avg := avg, fir := fir, counts := [k1, k2, k3, k4] }
    if n % fs % (fcR b * fcQ b) ≠ 0 then
      let marks := if o1 || o2 || o3 then tabSet 0 base.marks 30 (n + 1) else base.marks
      ({ base with marks := marks }, o1 || o2 || o3, none)
    else
      let set := s.firSet (fcFir b)
      let (y4, o4) := if fcFir b = 0xFF then (y3, false)
        else saturate (roundShift (dot ((numbersFrom 0 taps).map (firCoef set)) fir) 22) w
      let hit := o1 || o2 || o3 || o4
      let marks := if hit then tabSet 0 base.marks 30 (n + 1) else base.marks
      let settled := k4 == s4
      let fo := fs / (fcR b * fcQ b)
      let z := if dcTap det = 1 then detTap z (n % fs / (fcR b * fcQ b)) y4 settled fo else z
      let sc := inForce (s.blob (Od.filterScale + chOff c)) n x.scales
      let ((rms, env, hi, lo), bits) := s.detectorWords det sc z n fs (if dcTap det = 1 then fo else fs)
      let quality := outQuality marks n span settled + (if isWave c then 0 else bits)
      let e : ChainEnt := ⟨n, y4, engineering sc y4, quality, rms, env, hi, lo⟩
      ({ base with marks := marks, det := z, ents := (e :: x.ents).take (gridDepth fo) }, hit, some e)

/-- The next input that exists at or after instant `k` (R282). -/
def nextInstant (x : Dom) (u k : Nat) : Nat :=
  (skippedOf x.params).foldl (fun k z =>
    let a := (instantFrom z.1 u).toNat
    let b := (instantFrom z.2 u).toNat
    if a ≤ k ∧ k < b then b else k) k

/-- Sample `n` of a grid place, once final: value and quality; a wavefront sample takes its validity from its block
(R289, R317). -/
def State.gridSample (s : State) (key e n : Nat) : Option (Int × Nat) :=
  match s.stream e with
  | none => none
  | some st =>
    let step := icStep (s.intakeConfig e)
    let k := n / step
    let j := n % step
    if st.closed < k then none
    else
      let ents := (s.gridSlot key).ents
      match ents.find? fun x => x.at_ == k with
      | none => some (0, 1)
      | some x =>
        let v := x.values.getD j 0
        if step = 1 ∨ ¬ x.quality.testBit 16 then some (v, x.quality)
        else if x.quality.testBit 19 ∧ j < 2 then
          let prev := match ents.find? fun y => decide (y.at_ < k) with
            | some y => y.quality
            | none => 1
          some (v, prev % 2 ^ 19 ||| 0x10400)
        else some (v, x.quality % 2 ^ 19)

def chSource (c : Nat) : Nat := if isWave c then 0x700 + (c - 2 ^ 16) / 8 else 0x600 + c / 64

/-- The State field of FilterStatus: Off, Idle or Running. -/
def State.filterState (s : State) (c : Nat) : Nat :=
  if !s.filterOn c then 0 else match s.filter c with
    | some x => if x.feed.isSome then 2 else 1
    | none => 1

/-- Consume inputs of channel `c` until an output is produced or no final input is left. -/
def State.chainRun (s : State) (c : Nat) : Nat → State
  | 0 => s
  | k + 1 =>
    match s.filter c with
    | none => s
    | some x =>
      match x.feed with
      | none => s
      | some (d, fs) =>
        let step := if isWave c then (match s.feedOf (gridKey true (inForce 0 x.next x.slots)) with
          | some (_, _, e) => icStep (s.intakeConfig e)
          | none => 1) else 1
        let b := nextInstant (s.dom d) (fs / step) (x.next / step)
        let x := if b = x.next / step then x else { x with next := b * step }
        let key := gridKey (isWave c) (inForce 0 x.next x.slots)
        match s.feedOf key with
        | none => s
        | some (_, _, e) =>
          match s.gridSample key e x.next with
          | none => s
          | some (v, q) =>
            let (y, hit, out) := s.chainStep c x v q
            let y := if hit then { y with overflows := sat32 (y.overflows + 1) } else y
            match out with
            | none =>
              let t := s.setFilter c (some y)
              let t := if hit then t.raiseLimited (chSource c) 0xA003 0x82 c 0 else t
              t.chainRun c k
            | some o =>
              let ok := o.quality.testBit 31
              let lost := x.settled && !ok
              let y := { y with settled := ok, losses := if lost then sat32 (y.losses + 1) else y.losses }
              let t := s.setFilter c (some y)
              let t := if hit then t.raiseLimited (chSource c) 0xA003 0x82 c 0 else t
              if lost then t.raiseLimited (chSource c) 0xA002 0x82 c 0 else t

/-- FILTER_OUTPUT: the next output of a running channel, once its inputs are final (R315). -/
def filterOutput (c : Nat) (s : State) : State :=
  if s.shedLevel ≤ 3 then s.chainRun c (fcR (s.filterConfig c) * fcQ (s.filterConfig c) + 1) else s

/-! ### Starting and stopping a channel (R302 to R305, R321) -/

def DetSt.init : DetSt := ⟨0, 0, 0, false, 0, 0, false, [], 0, 0⟩

/-- The first sample of a stream after the domain time now. -/
def State.firstSample (s : State) (e : Nat) : Nat :=
  let c := s.intakeConfig e
  let u := icUnit c
  (((instantAt ((s.dom (icDomain c)).valueAt s.gtc) u).toNat) + 1) * icStep c

/-- A change of the State field with its event. -/
def State.filterEvent (s : State) (c old : Nat) : State :=
  let new := s.filterState c
  if old = new then s else s.raiseState (chSource c) 0x82 c old new 0 0

/-- Start channel `c` with its memory cleared, or leave it Idle where no stream of a valid rate feeds it. -/
def State.startFilter (s : State) (c : Nat) : State :=
  let old := s.filterState c
  let x := s.filter c
  let losses := (x.map (·.losses)).getD 0
  let overs := (x.map (·.overflows)).getD 0
  let idle : FilterSt := ⟨none, [], [], 0, [], [], List.replicate (fcN (s.filterConfig c)) 0,
    List.replicate (fcN (s.filterConfig c)) 0, [], [], [0, 0, 0, 0], [], false, losses, overs, .init, []⟩
  let new : FilterSt := match s.feedOf (s.inputKey c) with
    | some (d, fs, e) =>
      if s.filterValid (s.filterConfig c) fs then
        { idle with
          feed := some (d, fs), slots := [(0, s.num (Od.filterInput + chOff c))],
          scales := [(0, s.blob (Od.filterScale + chOff c))], next := s.firstSample e }
      else idle
    | none => idle
  (s.setFilter c (some new)).filterEvent c old

/-- Put channel `c` Idle. -/
def State.idleFilter (s : State) (c : Nat) : State :=
  let old := s.filterState c
  match s.filter c with
  | some x => (s.setFilter c (some { x with feed := none })).filterEvent c old
  | none => s

/-- After a change of bindings, channels whose slot lost its stream go Idle, and channels whose slot is fed again or by
another domain or rate start (R305). -/
def State.reconcileFilters (s : State) : State :=
  s.enabledFilters.foldl (fun u c =>
    match u.filter c, u.feedOf (u.inputKey c) with
    | some x, some (d, f, _) => if x.feed = some (d, f) then u else u.startFilter c
    | some x, none => if x.feed.isSome then u.idleFilter c else u
    | none, _ => u) s

/-- Settling starts again in every channel of domain `d` at the first instant after a step from value `v` to `w`
(R321). -/
def State.restartSettling (s : State) (d : Nat) (v w : Int) : State :=
  s.enabledFilters.foldl (fun u c =>
    match u.filter c with
    | some x => (match x.feed with
        | some (q, f) => if q = d then
            u.setFilter c (some { x with restarts := max ((instantAt v f).toNat + 1) (instantFrom w f).toNat :: x.restarts })
          else u
        | none => u)
    | none => u) s

/-- Domain `d` has left Disabled: its channels go on from the first instant of the new grid (R321). -/
def State.regridFilters (s : State) (d : Nat) : State :=
  s.enabledFilters.foldl (fun u c =>
    match u.filter c with
    | some x => (match x.feed, u.feedOf (u.inputKey c) with
        | some (q, _), some (_, _, e) => if q = d then
            (let n := match u.stream e with
              | some st => (st.last + 1) * icStep (u.intakeConfig e)
              | none => 0
             u.setFilter c (some { x with
               next := n, restarts := [n], ents := [], slots := x.slots.take 1, scales := x.scales.take 1, marks := [] }))
          else u
        | _, _ => u)
    | none => u) s

/-- The loads of Table 8-9 over channels: standard and wavefront samples/s, then standard and wavefront MAC/s. -/
def State.chainLoads (s : State) (l : List Nat) : Nat × Nat × Nat × Nat :=
  l.foldl (fun a c =>
    let b := s.filterConfig c
    let fs := match s.feedOf (s.inputKey c) with
      | some (_, f, _) => f
      | none => 0
    let mac := if fcFir b = 0xFF ∨ fcR b * fcQ b = 0 then 0 else s.taps b * (fs / (fcR b * fcQ b))
    if isWave c then (a.1, a.2.1 + fs, a.2.2.1, a.2.2.2 + mac) else (a.1 + fs, a.2.1, a.2.2.1 + mac, a.2.2.2)) (0, 0, 0, 0)

def State.chainFits (s : State) (l : List Nat) : Bool :=
  let (a, b, c, d) := s.chainLoads l
  decide (a ≤ 400000000) && decide (b ≤ 5120000000) && decide (c ≤ 4000000000) && decide (d ≤ 64000000000)

/-- A Tenant reaches a channel while its pond holds the channel's own slot (R301). -/
def State.checkChannelOwner (s : State) (who : Caller) (c : Nat) : Except Code Unit := do
  need (chExists c) .noSuchSubindex
  need (s.tenantHolds who (chItem c).1 (chItem c).2) .notOwner

/-! ### What a running instance reads (R303, R370) -/

def State.scanOf (s : State) (i : Nat) : ScanSt := (tabGet none s.scan.insts i).getD .init

/-- The image maps of the running instances. -/
def State.runningMaps (s : State) : List MapEnt :=
  (s.inst.present.filter s.instRunning).flatMap fun i => match (s.scanOf i).prog with
    | some p => p.map
    | none => []

/-- A running instance has one of the kinds `ks` of number `n` in its input image. -/
def State.imageReads (s : State) (ks : List Nat) (n : Nat) : Bool := s.runningMaps.any fun m => ks.contains m.kind && m.num == n

/-- A running instance has the filter channel in its input image. -/
def State.channelRead (s : State) (c : Nat) : Bool :=
  if isWave c then s.imageReads [9, 10, 11] (c - 2 ^ 16) else s.imageReads [3, 4, 5, 6, 7, 8] c

/-- The phasor channels that are enabled. -/
def State.enabledPhasors (s : State) : List Nat := s.chain.phasors.map (·.1)

def State.enabledTrackers (s : State) : List Nat := s.chain.trackers.map (·.1)

/-! ### Writes of channel objects -/

/-- The conditions of a FilterEnable write (R303). -/
def State.checkFilterEnable (s : State) (who : Caller) (c value : Nat) : Except Code Unit := do
  s.checkChannelOwner who c
  if value = 1 then
    match s.feedOf (s.inputKey c) with
    | none => .error .precondition
    | some (_, fs, _) =>
      need (s.filterValid (s.filterConfig c) fs) .outOfRange
      need (s.chainFits (if s.filterOn c then s.enabledFilters else c :: s.enabledFilters)) .noResource
  else
    need (!s.channelRead c
      && (isWave c || !s.enabledPhasors.any fun p => pcSource (s.phasorConfig p) == c)) .precondition

def State.applyFilterEnable (s : State) (c value : Nat) : State :=
  let old := s.filterState c
  if value = 1 then
    if s.filterOn c then s
    else
      -- the state before is Off, whatever the table still holds
      (((s.setFilter c none).startFilter c).setNum (Od.filterEnable + chOff c) 1).filterEvent c old
  else ((s.setNum (Od.filterEnable + chOff c) 0).setFilter c none).filterEvent c old

def filterEnable (who : Caller) (c value : Nat) (s : State) : Act := do
  need (chExists c) .noSuchSubindex
  s.gateRange who (Od.filterEnable + chOff c) false 0 (.num value)
  s.checkFilterEnable who c value
  .ok ((s.applyFilterEnable c value).bumpVersion (Od.filterEnable + chOff c) 0)

/-- The conditions of a FilterInput write (R302). -/
def State.checkFilterInput (s : State) (who : Caller) (c value : Nat) : Except Code Unit := do
  s.checkChannelOwner who c
  let kind := (chItem c).1
  need (decide (value < itemCount kind)) .outOfRange
  need (s.holderOf kind value == s.holderOf kind (chItem c).2) .notOwner
  match s.feedOf (gridKey (isWave c) value), s.feedOf (s.inputKey c) with
  | some (d, f, _), some (d', f', _) => need (d == d' && f == f') .precondition
  | some _, none => .ok ()
  | none, _ => .error .precondition

/-- The last sample of a channel's domain time now. -/
def State.sampleNow (s : State) (x : FilterSt) : Nat := match x.feed with
  | some (d, f) => (instantAt ((s.dom d).valueAt s.gtc) f).toNat
  | none => 0

def State.applyFilterInput (s : State) (c value : Nat) : State :=
  let t := s.setNum (Od.filterInput + chOff c) value
  match s.filter c with
  | some x =>
    if x.feed.isSome then
      let n := s.sampleNow x
      t.setFilter c (some { x with slots := ((n, value) :: x.slots).take 8, restarts := (n + 1) :: x.restarts })
    else t.reconcileFilters
  | none => t

def filterInput (who : Caller) (c value : Nat) (s : State) : Act := do
  need (chExists c) .noSuchSubindex
  s.gateRange who (Od.filterInput + chOff c) false 0 (.num value)
  s.checkFilterInput who c value
  .ok ((s.applyFilterInput c value).bumpVersion (Od.filterInput + chOff c) 0)

/-- The conditions of a FilterScale write (R313). -/
def State.checkFilterScale (s : State) (who : Caller) (c : Nat) (b : Bytes) : Except Code Unit := do
  s.checkChannelOwner who c
  need (!f32NotFinite (leAt b 0 4) && !f32NotFinite (leAt b 4 4) && !f32NotFinite (leAt b 8 4)) .invalidFloat
  need (leAt b 0 4 % 2 ^ 31 != 0 && decide (0x3F000000 ≤ leAt b 4 4) && decide (leAt b 4 4 ≤ 0x40000000)) .outOfRange

def State.applyFilterScale (s : State) (c : Nat) (b : Bytes) : State :=
  let t := s.setBlob (Od.filterScale + chOff c) b
  match s.filter c with
  | some x => t.setFilter c (some { x with scales := ((s.sampleNow x, b) :: x.scales).take 8 })
  | none => t

def filterScale (who : Caller) (c : Nat) (b : Bytes) (s : State) : Act := do
  need (chExists c) .noSuchSubindex
  let r ← s.gate who (Od.filterScale + chOff c) false 0 (.bytes b)
  r.checkRange (.bytes b)
  s.checkFilterScale who c b
  .ok ((s.applyFilterScale c b).bumpVersion (Od.filterScale + chOff c) 0)

def execFilterScale (who : Caller) (c : Nat) (value : Bytes) (s : State) : Res :=
  .next (s.answer who (filterScale who c value s))

/-- The form of a FirSet (Table 8-2). -/
def checkFirForm (b : Bytes) : Except Code Unit := do
  need (leAt b 1 3 == 0) .reservedBitSet
  need (decide (firTaps b ≤ 64)
    && (numbersFrom 0 64).all fun i =>
      let h := firCoef b i
      decide (-(2 ^ 23) ≤ h) && decide (h < 2 ^ 23) && (decide (i < firTaps b) || h == 0)) .outOfRange

/-- The conditions of a FirSet write (R312). -/
def State.checkFir (s : State) (k : Nat) (b : Bytes) : Except Code Unit := do
  checkFirForm b
  need (!s.firNamed k || s.chain.corrupt.contains k) .busy

def State.applyFir (s : State) (k : Nat) (b : Bytes) : State :=
  let was := s.chain.corrupt.contains k
  let t := s.setBlob (Od.firSet + k) b
  let t := { t with chain := { t.chain with corrupt := t.chain.corrupt.filter (· != k) } }
  if was then (t.enabledFilters.filter fun c => fcFir (t.filterConfig c) == k).foldl State.startFilter t else t

def firSetWrite (who : Caller) (k : Nat) (b : Bytes) (s : State) : Act := do
  let _ ← s.gate who (Od.firSet + k) false 0 (.bytes b)
  s.checkFir k b
  .ok ((s.applyFir k b).bumpVersion (Od.firSet + k) 0)

def execFirSetWrite (who : Caller) (k : Fin 64) (value : Bytes) (s : State) : Res :=
  .next (s.answer who (firSetWrite who k.val value s))

/-- The form and ranges of a DetectorConfig (Table 8-6, R324). -/
def checkDetectorForm (b : Bytes) : Except Code Unit := do
  need (byteAt b 1 / 8 == 0 && (b.drop 9).all (· == 0)) .reservedBitSet
  need (decide (dcTap b ≤ 1) && decide (byteAt b 2 ≤ 1) && (!dcTracked b || decide (dcTracker b < 64))
    && (!dcPeak b || dcPeakWindow b != 0)
    && (!dcRms b || (if dcTracked b then decide (1 ≤ dcRmsWindow b) && decide (dcRmsWindow b ≤ 8) else dcRmsWindow b != 0))
    && decide (dcShift b ≤ 20)) .outOfRange

/-- The conditions of a DetectorConfig write. -/
def State.checkDetector (s : State) (c : Nat) (b : Bytes) : Except Code Unit := do
  checkDetectorForm b
  match s.filterRates c with
  | some (d, fs, fo) =>
    need (!dcPeak b || (if dcTap b = 0 then fs else fo) % dcPeakWindow b == 0) .outOfRange
    need (!dcTracked b || (match s.tracker (dcTracker b), s.trackerRates (dcTracker b) with
      | some _, some (d', _, _) => d == d'
      | _, _ => true)) .precondition
  | none => .ok ()

/-- A DetectorConfig takes force: the detectors restart, the filter path goes on (R304). -/
def State.applyDetector (s : State) (c : Nat) (b : Bytes) : State :=
  let t := s.setBlob (Od.detectorConfig + chOff c) b
  match s.filter c with
  | some x => t.setFilter c (some { x with det := .init })
  | none => t

/-- A FilterConfig takes force: the channel restarts with its memory cleared (R304). -/
def State.applyFilterConfig (s : State) (c : Nat) (b : Bytes) : State :=
  let t := s.setBlob (Od.filterConfig + chOff c) b
  if s.filterOn c then t.startFilter c else t

/-! ### Phasors and trackers (R325 to R328) -/

/-- Σ a_i v e^(−j2πh f0 τ) over a window of source outputs, newest first; weight `last` on output number `n`. -/
def phasorSum (h f0 fs step : Nat) (fo last : Nat) : Nat × Nat → Nat → List ChainEnt → Nat × Nat
  | acc, _, [] => acc
  | acc, n, e :: r =>
    let tau := fdiv (d64 ((e.at_ % fs / step : Nat) : Int)) fo
    let th := fmul (fmul (fmul (fmul two64 pi64) (d64 h)) (d64 f0)) tau
    let v := widen e.value
    let av := if n = 0 then fmul last v else v
    let acc := (fadd acc.1 (fmul av (cos64 th)), fsub acc.2 (fmul av (sin64 th)))
    if n = 0 then acc else phasorSum h f0 fs step fo last acc (n - 1) r

/-- One phasor from the window `win` (newest first) with frequency `f`: delivered real and imaginary parts and the
uncompensated ones, binary64, and the outputs in the window. -/
def phasorValue (b : Bytes) (fs step : Nat) (win : List ChainEnt) (f : Nat) (compensate : Bool) : (Nat × Nat) × (Nat × Nat) × Nat :=
  let fo := d64 ((fs / step : Nat) : Int)
  let h := pcHarmonic b
  let f0 := pcNominal b
  let l := fdiv (fmul (d64 (pcCycles b)) fo) f
  let fl := floor64 l
  let frac := fsub l (d64 fl)
  let whole := f64.isZero frac
  let n := if whole then fl else fl + 1
  let (re, im) := phasorSum h f0 fs step fo (if whole then d64 1 else frac) (0, 0) (n - 1) win
  let k := fdiv (fsqrt two64) l
  let x := (fmul k re, fmul k im)
  if compensate then
    let dl := fmul (d64 h) (fsub f (d64 f0))
    let th := fdiv (fmul (fmul pi64 dl) (fsub l (d64 1))) fo
    let a := fdiv (fmul pi64 dl) fo
    let g := if f64.isZero dl then d64 1
      else fdiv (fmul l (sin64 a)) (sin64 (fdiv (fmul (fmul pi64 dl) l) fo))
    let c := cos64 th
    let s := sin64 th
    let y := (fsub (fmul x.1 c) (fmul x.2 s), fadd (fmul x.1 s) (fmul x.2 c))
    ((fmul y.1 g, fmul y.2 g), x, n)
  else (x, x, n)

/-- Magnitude and angle of a complex value, the angle in (−π, π]. -/
def magnitude (z : Nat × Nat) : Nat := fsqrt (fadd (fmul z.1 z.1) (fmul z.2 z.2))
def angle (g : Fmt) (z : Nat × Nat) : Nat := atan2Of g (if f64.isZero z.2 then 0 else z.2) z.1

/-- The quality of a phasor (Table 8-7, R320) over its window of `n` outputs. -/
def phasorQuality (win : List ChainEnt) (n : Nat) (tracked comp : Bool) : Nat :=
  let l := win.take n
  let settled := l.length == n && l.all fun e => e.quality.testBit 31
  let any (b : Nat) : Bool := l.any fun e => e.quality.testBit b
  let detail := ([2, 3, 4, 5, 6, 7, 8, 9, 10, 11, 12, 13, 16, 18].map fun b => if any b then 2 ^ b else 0).sum
  let v := if !settled then 1
    else if any 18 || any 30 || any 10 || l.any (fun e => e.quality % 4 == 3) then 3 else 0
  boolNat settled * 2 ^ 31 + boolNat tracked * 2 ^ 30 + boolNat comp * 2 ^ 29 + detail + v

/-- Wrap an angle to (−π, π]. -/
def wrapAngle (a : Nat) : Nat :=
  let two := fmul two64 pi64
  if flt pi64 a then fsub a two else if flt (f64.flip pi64) a then a else fadd a two

/-- Σ of binary64 values, first to last. -/
def fsum (l : List Nat) : Nat := l.foldl fadd 0

/-- The reference phasor of a tracker at an instant (R327). -/
def referencePhasor (mode : Nat) (l : List (Nat × Nat)) : Nat × Nat :=
  match mode, l with
  | 2, [a, b, c] =>
    -- α = −1/2 + j √3/2
    let h := fdiv (d64 1) two64
    let q := fdiv (fsqrt (d64 3)) two64
    let mulA (z : Nat × Nat) : Nat × Nat :=
      (fsub (fmul (f64.flip h) z.1) (fmul q z.2), fadd (fmul (f64.flip h) z.2) (fmul q z.1))
    let mulA2 (z : Nat × Nat) : Nat × Nat :=
      (fadd (fmul (f64.flip h) z.1) (fmul q z.2), fsub (fmul (f64.flip h) z.2) (fmul q z.1))
    let b := mulA b
    let c := mulA2 c
    (fdiv (fadd (fadd a.1 b.1) c.1) (d64 3), fdiv (fadd (fadd a.2 b.2) c.2) (d64 3))
  | _, a :: _ => a
  | _, [] => (0, 0)

def trackerSource (t : Nat) : Nat := 0x7C0 + t

/-- Raise the flag events of a tracker (Table 8-12). -/
def State.trackerFlags (s : State) (t old new : Nat) : State :=
  [31, 30, 29].foldl (fun u b =>
    if old.testBit b = new.testBit b then u else u.raiseFlag (trackerSource t) 0x84 t (new.testBit b) b new) s

/-- One record of tracker `t` at source instant `n`, once every reference phasor has produced it (R327, R328). -/
def State.trackerRecord (s : State) (t n : Nat) : State :=
  match s.tracker t, s.trackerRates t with
  | some x, some (_, fs, fo) =>
    let cfg := s.trackerConfig t
    let refs := (tcRefs cfg).map fun p => (s.phasor p).bind fun z =>
      match z.raw.find? (fun r => r.1 == n), z.ents.find? (fun e => e.at_ == n) with
      | some r, some e => some (r.2, e.quality)
      | _, _ => none
    if n ≤ x.last ∨ refs.any (·.isNone) then s
    else
      let l := refs.filterMap id
      let p := referencePhasor (tcMode cfg) (l.map (·.1))
      let f0 := d64 (tcNominal cfg)
      let fod := d64 fo
      let k := (roundDiv fo (tcNominal cfg)).toNat
      let m := (roundDiv fo 10).toNat
      let arg := angle f64 p
      let old := x.angles.getD (k - 1) 0
      let raw := fadd f0 (fdiv (fmul (wrapAngle (fsub arg old)) fod) (fmul (fmul two64 pi64) (d64 k)))
      let raws := (raw :: x.raws).take k
      let weak := flt (magnitude p) (widen (tcMin cfg))
      let mean := fmul (fdiv (d64 1) (d64 k)) (fsum raws)
      let lo := fmul (fdiv (d64 85) (d64 100)) f0
      let hi := fmul (fdiv (d64 115) (d64 100)) f0
      let limited := !weak && (flt mean lo || flt hi mean)
      let f := if weak then x.freqs.headD f0 else if flt mean lo then lo else if flt hi mean then hi else mean
      let rocof := fdiv (fmul (fsub f (x.freqs.getD (m - 1) 0)) fod) (d64 m)
      let good := !weak && l.all fun r => r.2.testBit 31
      let run := if good then min (x.run + 1) (2 * k + m) else 0
      let settled := run == 2 * k + m
      let v := if !settled then 1 else if limited || l.any (fun r => r.2 % 4 == 3) then 3 else 0
      let q := boolNat settled * 2 ^ 31 + boolNat limited * 2 ^ 30 + boolNat weak * 2 ^ 29 + v
      let was := match x.ents with
        | e :: _ => e.quality
        | [] => 1
      let y : TrackerSt := { x with
        last := n, angles := (arg :: x.angles).take k, raws := raws, freqs := (f :: x.freqs).take m, run := run,
        ents := ((⟨n, f, narrow f, narrow rocof, q⟩ : TrackerEnt) :: x.ents).take (gridDepth (fs / (fs / fo))) }
      (s.setTracker t (some y)).trackerFlags t was q
  | _, _ => s

/-- PHASOR_OUTPUT: the phasor of the next source output, and the records of the trackers it completes. -/
def phasorOutput (p : Nat) (s : State) : State :=
  let b := s.phasorConfig p
  match s.phasor p, s.filter (pcSource b), s.filterRates (pcSource b) with
  | some x, some src, some (_, fs, fo) =>
    let step := fs / fo
    match (src.ents.filter fun e => decide (x.last < e.at_)).getLast? with
    | none => s
    | some e =>
      let t := pcTracker b
      -- the tracker's record of the output before, which this phasor uses, must be there first
      let waits := match s.tracker t with
        | some tr => x.last != 0 && decide (tr.last < x.last) && (tcRefs (s.trackerConfig t)).all fun r =>
            (s.phasor r).isSome && (s.filterRates (pcSource (s.phasorConfig r))).isSome
        | none => false
      if waits || decide (3 < s.shedLevel) then s
      else
        let (f, tracked) := if t = 0xFF then (d64 (pcNominal b), false)
          else match s.trackerAt t x.last fs with
            | some r => if r.quality.testBit 31 then (r.f, true) else (d64 (pcNominal b), false)
            | none => (d64 (pcNominal b), false)
        let win := (e :: x.win).take 8192
        let comp := pcCompensate b && tracked
        let (z, raw, n) := phasorValue b fs step win f comp
        let q := phasorQuality win n tracked comp
        let ent : PhasorEnt := ⟨e.at_, narrow z.1, narrow z.2, narrow (magnitude z), angle f32 z, q, narrow f⟩
        let ok := q.testBit 31
        let y : PhasorSt := ⟨e.at_, win, ((e.at_, raw) :: x.raw).take (gridDepth fo), ok, (ent :: x.ents).take (gridDepth fo)⟩
        let u := s.setPhasor p (some y)
        let u := if x.settled && !ok then u.raiseLimited (0x780 + p / 64) 0xA003 0x83 p 0 else u
        (u.enabledTrackers.filter fun k => (tcRefs (u.trackerConfig k)).contains p).foldl
          (fun w k => w.trackerRecord k e.at_) u
  | _, _, _ => s

/-- The form of a PhasorConfig (Table 8-11). -/
def checkPhasorForm (b : Bytes) : Except Code Unit := do
  need (byteAt b 5 / 2 == 0 && (b.drop 7).all (· == 0)) .reservedBitSet
  need (decide (pcSource b < 16384) && decide (1 ≤ pcHarmonic b) && decide (pcHarmonic b ≤ 15)
    && [1, 2, 4].contains (pcCycles b) && (decide (pcTracker b < 64) || pcTracker b == 0xFF)
    && (pcNominal b == 50 || pcNominal b == 60)) .outOfRange

def checkTrackerForm (b : Bytes) : Except Code Unit := do
  need ((b.drop 12).all (· == 0)) .reservedBitSet
  need (!f32NotFinite (tcMin b)) .invalidFloat
  need ((tcMode b == 1 || tcMode b == 2) && (tcNominal b == 50 || tcNominal b == 60)
    && (tcRefs b).all (fun p => decide (p < 2048)) && (decide (tcMin b < 2 ^ 31) || tcMin b == 2 ^ 31)) .outOfRange

/-- The phasor's pond is its source's (R301). -/
def State.checkPhasorOwner (s : State) (who : Caller) (p : Nat) : Except Code Unit :=
  need (s.tenantHolds who 0x03 (pcSource (s.phasorConfig p))) .notOwner

/-- The checks of PhasorEnable 1 in order, and the conditions of writing 0. -/
def State.checkPhasorEnable (s : State) (who : Caller) (p value : Nat) : Except Code Unit := do
  s.checkPhasorOwner who p
  let b := s.phasorConfig p
  if value = 1 then
    match s.filterRates (pcSource b) with
    | none => .error .precondition
    | some (d, _, fo) =>
      need (s.filterOn (pcSource b) && (pcTracker b == 0xFF || (match s.trackerRates (pcTracker b) with
        | some (d', _, fo') => d == d' && fo == fo'
        | none => true))) .precondition
      need (decide (16 * pcHarmonic b * pcNominal b ≤ fo) && decide (pcCycles b * fo * 100 ≤ 8192 * 85 * pcNominal b)) .outOfRange
      let load := (s.enabledPhasors.filter (· != p)).foldl (fun a q => a + (match s.filterRates (pcSource (s.phasorConfig q)) with
        | some (_, _, f) => f
        | none => 0)) fo
      need (decide (load ≤ 40000000)) .noResource
  else
    need (!s.imageReads [12, 13, 19] p
      && !s.enabledTrackers.any fun t => (tcRefs (s.trackerConfig t)).contains p) .precondition

def State.applyPhasorEnable (s : State) (p value : Nat) : State :=
  let id := Od.phasorEnable + p
  let src := 0x780 + p / 64
  if s.num id = value then s
  else if value = 1 then
    let last := match s.filter (pcSource (s.phasorConfig p)) with
      | some x => (match x.ents with
          | e :: _ => e.at_
          | [] => 0)
      | none => 0
    ((s.setNum id 1).setPhasor p (some ⟨last, [], [], false, []⟩)).raiseAdmission src 0x83 p 1 0
  else ((s.setNum id 0).setPhasor p none).raiseAdmission src 0x83 p 3 0

def phasorEnable (who : Caller) (p value : Nat) (s : State) : Act := do
  s.gateRange who (Od.phasorEnable + p) false 0 (.num value)
  s.checkPhasorEnable who p value
  .ok ((s.applyPhasorEnable p value).bumpVersion (Od.phasorEnable + p) 0)

/-- The checks of TrackerEnable (R324, R327). -/
def State.checkTrackerEnable (s : State) (t value : Nat) : Except Code Unit := do
  let b := s.trackerConfig t
  if value = 1 then
    let rates := (tcRefs b).map fun p => s.filterRates (pcSource (s.phasorConfig p))
    need ((tcRefs b).all (fun p => s.enabledPhasors.contains p && pcHarmonic (s.phasorConfig p) == 1
        && pcNominal (s.phasorConfig p) == tcNominal b)
      && rates.all (fun r => r.isSome && r == rates.headD none)) .precondition
    let d := match rates.headD none with
      | some (d, _, _) => d
      | none => 0
    need (s.enabledFilters.all fun c =>
      let k := s.detConfig c
      !(dcRms k && dcTracked k && dcTracker k == t) || (match s.filterRates c with
        | some (d', _, _) => d == d'
        | none => true)) .precondition
  else need (!s.imageReads [14, 15, 20] t) .precondition

def State.applyTrackerEnable (s : State) (t value : Nat) : State :=
  let id := Od.trackerEnable + t
  if s.num id = value then s
  else if value = 1 then (s.setNum id 1).setTracker t (some ⟨0, [], [], [], 0, []⟩)
  else (s.setNum id 0).setTracker t none

def trackerEnable (who : Caller) (t value : Nat) (s : State) : Act := do
  s.gateRange who (Od.trackerEnable + t) false 0 (.num value)
  s.checkTrackerEnable t value
  .ok ((s.applyTrackerEnable t value).bumpVersion (Od.trackerEnable + t) 0)

/-! ### Memory errors (R329) -/

/-- CHAIN_ECC_ERROR: corrected ones are counted; an uncorrectable one restarts a channel or marks a FIR set Corrupt. -/
def chainEccError (corrected fir : Bool) (n : Nat) (s : State) : State :=
  if corrected then s.count32 Od.chainEccCorrected
  else
    let t := s.count32 Od.chainEccUncorrectable
    if fir then
      if n < 64 ∧ firTaps (s.firSet n) ≠ 0 then
        let was := if s.firNamed n then 2 else 1
        let t := { t with chain := { t.chain with corrupt := if t.chain.corrupt.contains n then t.chain.corrupt else n :: t.chain.corrupt } }
        let t := (t.enabledFilters.filter fun c => fcFir (t.filterConfig c) == n).foldl State.idleFilter t
        t.raiseState 0x7A0 0x80 0 was 3 0 n
      else t
    else if s.filterState n = 2 then (t.startFilter n).raiseOcc (chSource n) 0x82 n 4 0 else t

/-- CHAIN_SCRUB_PASS: the duration of the pass, with an event beyond 100 ms. -/
def chainScrubPass (micros : Nat) (s : State) : State :=
  let t := s.setNum Od.chainScrubPassTime (sat32 micros)
  if 100000 < micros then t.raiseOcc 0x7A0 0x80 0 2 micros else t

def execChainScrubPass (micros : Nat) (s : State) : Res := .next (chainScrubPass micros s)

end Sys2Proof.Machine
end

