-- ==== Sys2Proof/Machine/Acquisition.lean ====
section
/-! DEFINITION. Trigger units, capture, records, ripple lines and trigger messages (Chapter 9). -/

namespace Sys2Proof.Machine

/-! ### Domain times in units of 2^−48/9 ns, in which every sample instant is a whole number -/

def nsUnits : Int := 9 * 2 ^ 48

/-- Instant `n` of rate `f`, divided into `k` parts. -/
def instantUnits (n f k : Nat) : Int := ((n : Int) * (1000000000 * nsUnits)) / ((f * k : Nat) : Int)

/-- The time of a domain at GTC g / 2^sh, by the parameter set in force then (R109, R135). -/
def Dom.unitsAt (x : Dom) (g : Int) (sh : Nat) : Int :=
  if x.state = 0 then 0 else match x.paramAt (g / 2 ^ sh).toNat with
    | none => 0
    | some p => roundDiv (9 * (p.d * 2 ^ sh + (g - p.g * 2 ^ sh) * (rateOne + p.r))) (2 ^ sh)

/-- The parameter set that reaches value `v`: R108 inverted by the set of R109. -/
def Dom.paramOf (x : Dom) (v : Int) : Option TParam :=
  match x.params.find? fun p => decide (9 * p.d ≤ v) with
  | some p => some p
  | none => x.params.getLast?

/-- The GTC at which the domain reaches `v`, times 2^sh: rounded to nearest, or down. -/
def Dom.gtcUnits (x : Dom) (v : Int) (sh : Nat) (down : Bool) : Int :=
  match x.paramOf v with
  | none => 0
  | some p =>
    let a := (v - 9 * p.d) * 2 ^ sh
    let b := 9 * (rateOne + p.r)
    p.g * 2 ^ sh + (if down then a / b else roundDiv a b.toNat)

/-- A time as a TIME number, rounded by R710. -/
def timeOfUnits (v : Int) : Nat :=
  let u := (roundDiv v (9 * 2 ^ 32)).toNat
  let ns := u / 2 ^ 16
  ns / 1000000000 * 2 ^ 48 + ns % 1000000000 * 2 ^ 16 + u % 2 ^ 16

/-! ### Sources (Table 9-1, R336) -/

def floatKind (k : Nat) : Bool := (decide (4 ≤ k) && decide (k ≤ 8)) || decide (10 ≤ k)

/-- A source as a unit reads it: domain, rate, and for kind 2 the block length. -/
def State.source (s : State) (kind num : Nat) : Option (Nat × Nat × Nat) :=
  match kind with
  | 1 => if num < 16384 then (s.feedOf (gridKey false num)).map fun x => (x.1, x.2.1, 1) else none
  | 2 => if num < 1024 then (s.feedOf (gridKey true num)).map fun x => (x.1, x.2.1, icStep (s.intakeConfig x.2.2)) else none
  | 12 | 13 => if (s.phasor num).isSome then
      (s.filterRates (pcSource (s.phasorConfig num))).map fun x => (x.1, x.2.2, 1) else none
  | 14 | 15 => if (s.tracker num).isSome then (s.trackerRates num).map fun x => (x.1, x.2.2, 1) else none
  | k =>
    let c := if 9 ≤ k then 2 ^ 16 + num else num
    if 3 ≤ k ∧ k ≤ 11 ∧ chExists c then (s.filterRates c).map fun x => (x.1, x.2.2, 1) else none

/-- The count of a source kind. -/
def sourceCount (kind : Nat) : Nat :=
  match kind with
  | 1 => 16384 | 2 => 1024 | 12 | 13 => 2048 | 14 | 15 => 64
  | k => if 3 ≤ k ∧ k ≤ 8 then 16384 else if 9 ≤ k ∧ k ≤ 11 then 1024 else 0

/-- What a source has produced, newest first: its instant at its own rate, stored word, quality. -/
def State.sourceEnts (s : State) (kind num : Nat) : List (Nat × Int × Nat) :=
  let chain (c : Nat) (f : ChainEnt → Int) : List (Nat × Int × Nat) :=
    match s.filter c, s.filterRates c with
    | some x, some (_, fs, fo) => x.ents.map fun e => (e.at_ / (fs / fo), f e, e.quality)
    | _, _ => []
  let phas (f : PhasorEnt → Nat) : List (Nat × Int × Nat) :=
    match s.phasor num, s.filterRates (pcSource (s.phasorConfig num)) with
    | some x, some (_, fs, fo) => x.ents.map fun e => (e.at_ / (fs / fo), ((f e : Nat) : Int), e.quality)
    | _, _ => []
  let trk (f : TrackerEnt → Nat) : List (Nat × Int × Nat) :=
    match s.tracker num, s.trackerRates num with
    | some x, some (_, fs, fo) => x.ents.map fun e => (e.at_ / (fs / fo), ((f e : Nat) : Int), e.quality)
    | _, _ => []
  let w := 2 ^ 16 + num
  match kind with
  | 1 => (s.gridSlot (gridKey false num)).ents.map fun e => (e.at_, e.values.headD 0, e.quality)
  | 2 => (s.gridSlot (gridKey true num)).ents.flatMap fun e =>
      let n := e.values.length
      (numbersFrom 0 n).map fun j => (e.at_ * n + (n - 1 - j), e.values.getD (n - 1 - j) 0, e.quality)
  | 3 => chain num fun e => e.raw
  | 4 => chain num fun e => (e.value : Int)
  | 5 => chain num fun e => (e.rms : Int)
  | 6 => chain num fun e => (e.envelope : Int)
  | 7 => chain num fun e => (e.peakMax : Int)
  | 8 => chain num fun e => (e.peakMin : Int)
  | 9 => chain w fun e => e.raw
  | 10 => chain w fun e => (e.envelope : Int)
  | 11 => chain w fun e => (e.rms : Int)
  | 12 => phas fun e => e.mag
  | 13 => phas fun e => e.angle
  | 14 => trk fun e => e.freq
  | 15 => trk fun e => e.rocof
  | _ => []

/-- The newest instant of a source. -/
def State.sourceNewest (s : State) (kind num : Nat) : Nat := (((s.sourceEnts kind num).head?).map (·.1)).getD 0

/-! ### Configuration (Tables 9-13 and 9-14) -/

def State.unitConfig (s : State) (u : Nat) : Bytes := s.blob (Od.triggerConfig + 256 * u)
def State.captureConfig (s : State) (u : Nat) : Bytes := s.blob (Od.captureConfig + 256 * u)
def ucCond (b : Bytes) : Nat := byteAt b 0
def ucEdge (b : Bytes) : Nat := byteAt b 1
def ucKind (b : Bytes) : Nat := byteAt b 2
def ucFlag (b : Bytes) (i : Nat) : Bool := (byteAt b 3).testBit i
def ucNum (b : Bytes) : Nat := leAt b 4 2
def ucDist (b : Bytes) : Nat := leAt b 6 2
def ucMask (b : Bytes) : Nat := leAt b 24 8
def ucValue (b : Bytes) : Nat := leAt b 32 8
def ucHold (b : Bytes) : Nat := leAt b 40 2
def ucRipple (b : Bytes) (k : Nat) : Bool := (byteAt b 42).testBit k
def ucLine (b : Bytes) : Nat := byteAt b 43
def ucSink (b : Bytes) : Nat := leAt b 44 2
def ucOrigin (b : Bytes) : Nat := leAt b 46 2
def ucRemoteUnit (b : Bytes) : Nat := byteAt b 48
def ucCapture (b : Bytes) : Bool := (byteAt b 49).testBit 0
def ucEvent (b : Bytes) : Bool := (byteAt b 49).testBit 1
def ucCross (b : Bytes) : Bool := (byteAt b 49).testBit 2
def ucSend (b : Bytes) : Nat := leAt b 50 2
def ucCrossMask (b : Bytes) : Nat := leAt b 52 8

/-- The condition reads a source: Level, Window, Rate and Pattern. -/
def ucSourced (b : Bytes) : Bool := decide (1 ≤ ucCond b) && decide (ucCond b ≤ 4)

def ccDomain (b : Bytes) : Nat := byteAt b 0
def ccOverwrite (b : Bytes) : Bool := byteAt b 1 == 1
def ccSlots (b : Bytes) : Nat := leAt b 2 2
def ccPre (b : Bytes) : Nat := leAt b 4 4
def ccPost (b : Bytes) : Nat := leAt b 8 4
def ccExtend (b : Bytes) : Nat := leAt b 12 4
def ccRetro (b : Bytes) : Nat := let r := leAt b 16 4; if r = 0 then 1000000 else r
def ccShift (b : Bytes) : Nat := byteAt b 20

/-- The sources of the capture list: kind and number. -/
def State.captureSources (s : State) (u : Nat) : List (Nat × Nat) :=
  let b := s.blob (Od.captureList + 256 * u)
  ((numbersFrom 0 32).map fun i => (byteAt b (4 * i + 3), leAt b (4 * i) 2)).filter fun x => x.1 != 0

/-! ### Units -/

def State.unit (s : State) (u : Nat) : Option UnitSt := tabGet none s.acq.units u

def State.setUnit (s : State) (u : Nat) (x : Option UnitSt) : State :=
  { s with acq := { s.acq with units := tabSet none s.acq.units u x } }

def State.unitState (s : State) (u : Nat) : Nat := s.num (Od.unitState + 256 * u)

def State.armed (s : State) (u : Nat) : Bool := s.unitState u != 0

/-- The armed units. -/
def State.armedUnits (s : State) : List Nat := (s.acq.units.map (·.1)).filter s.armed

def unitSource (u : Nat) : Nat := 0x800 + u

/-- Change UnitState, with its event (R371). -/
def State.enterUnit (s : State) (u st : Nat) : State :=
  let old := s.unitState u
  if old = st then s
  else (s.setNum (Od.unitState + 256 * u) st).raiseState (unitSource u) 0x05 u old st 0 0

/-- A slot of a unit. -/
def UnitSt.slot (x : UnitSt) (k : Nat) : SlotSt := tabGet .init x.slots k
def UnitSt.setSlot (x : UnitSt) (k : Nat) (z : SlotSt) : UnitSt := { x with slots := tabSet .init x.slots k z }

/-- A slot is free (R352). -/
def UnitSt.slotFree (x : UnitSt) (overwrite : Bool) (k : Nat) : Bool :=
  (x.slot k).st == 0 || (overwrite && (x.slot k).st == 3)

/-- The next free slot after `k` in the order of slot numbers. -/
def UnitSt.freeAfter (x : UnitSt) (b : Bytes) (k : Nat) : Option Nat :=
  ((numbersFrom 1 (ccSlots b)).map fun j => (k + j) % ccSlots b).find? (x.slotFree (ccOverwrite b))

/-- The capture's stored instant of a source, in units: the first sample that it sums. -/
def CapSrc.units (c : CapSrc) (j : Nat) : Int := instantUnits j c.rate 1

/-- The number of the last stored instant at or before a time, and of the first at or after it. -/
def CapSrc.atOrBefore (c : CapSrc) (v : Int) : Int := v * (c.rate : Int) / (1000000000 * nsUnits)
def CapSrc.atOrAfter (c : CapSrc) (v : Int) : Int := ceilDivInt (v * (c.rate : Int)) (1000000000 * nsUnits).toNat

/-! ### Geometry of a slot (R347) -/

def align64 (n : Nat) : Nat := ceilDiv n 64 * 64

def wordSize (kind k : Nat) : Nat :=
  match kind with
  | 1 => if k = 0 then 4 else 8
  | 2 => if k = 0 then 2 else 4
  | 3 => 8
  | _ => 4

/-- The geometry of one capture source of a unit; none while it is not enabled or bound. -/
def State.captureGeometry (s : State) (b : Bytes) (x : Nat × Nat) : Option CapSrc :=
  (s.source x.1 x.2).map fun z =>
    let k := if x.1 ≤ 2 then ccShift b else 0
    let rate := z.2.1 / 2 ^ k
    let group := max 1 (z.2.2 / 2 ^ k)
    let span := ccPre b + ccPost b + ccExtend b + ccRetro b
    { kind := x.1, num := x.2, rate := rate, word := wordSize x.1 k, group := group
      len := ceilDiv (ceilDiv (span * rate) 1000000000) group * group, last := 0 }

def CapSrc.dataBytes (c : CapSrc) : Nat := align64 (c.len * c.word)
def CapSrc.qualityBytes (c : CapSrc) : Nat := align64 (c.len / c.group * 4)

def slotBytesOf (l : List CapSrc) : Nat := 256 + 64 * l.length + (l.map fun c => c.dataBytes + c.qualityBytes).sum

/-- The stored bytes per second of sources, written twice by R351. -/
def captureLoadOf (l : List CapSrc) : Nat := (l.map fun c => 2 * (c.rate * c.word + ceilDiv (c.rate * 4) c.group)).sum

/-- The pages bound to units and the load of the armed ones (R369). -/
def State.acqPages (s : State) : Nat := (s.acq.units.map fun x => match x.2 with
  | some z => z.pages.length
  | none => 0).sum

def State.acqLoad (s : State) : Nat := (s.armedUnits.map fun u => match s.unit u with
  | some z => captureLoadOf z.srcs
  | none => 0).sum

/-- The energy charge of a unit (Table 18-2) in mW. -/
def unitCharge (l : List CapSrc) : Nat × Nat := (5000000000 + 30 * captureLoadOf l, 1000000000)

/-- The first run of `n` unbound pages that a pond holds. -/
def State.pageRun (s : State) (pond n : Nat) : Option Nat :=
  let r := (numbersFrom 0 32768).foldl (fun (a : Nat × Option Nat) p =>
    match a.2 with
    | some _ => a
    | none => if s.holderOf 0x0A p = pond ∧ s.pageBinding p = 0 then
        (if n ≤ a.1 + 1 then (a.1 + 1, some (p - (n - 1))) else (a.1 + 1, none))
      else (0, none)) (0, none)
  r.2

/-! ### Arming (R348, Table 9-4) -/

/-- Reserved bits of the three configurations. -/
def checkTriggerBits (b : Bytes) : Except Code Unit :=
  need (byteAt b 3 / 64 == 0 && byteAt b 49 / 8 == 0 && leAt b 60 4 == 0) .reservedBitSet
def checkListBits (b : Bytes) : Except Code Unit :=
  need ((numbersFrom 0 32).all fun i => byteAt b (4 * i + 2) == 0) .reservedBitSet
def checkCaptureBits (b : Bytes) : Except Code Unit := need ((b.drop 21).all (· == 0)) .reservedBitSet

/-- The ranges of a TriggerConfig; fields that its condition does not use are not looked at. -/
def checkTriggerRange (u : Nat) (b : Bytes) : Except Code Unit := do
  let c := ucCond b
  let i64 (k : Nat) : Int := toInt 64 (leAt b k 8)
  let fl (k : Nat) : Nat := leAt b k 4
  let isF := floatKind (ucKind b)
  need (decide (c ≤ 7) && (!ucSourced b || decide (ucNum b < sourceCount (ucKind b)))
    && (c != 1 && c != 3 || (decide (1 ≤ ucEdge b) && decide (ucEdge b ≤ 3)))
    && (c != 2 || ucEdge b == 1 || ucEdge b == 2)
    && (c != 3 || (decide (1 ≤ ucDist b) && decide (ucDist b ≤ 4096)))
    && (!ucSourced b || ucHold b != 0) && (c != 6 || decide (ucLine b < 8))
    && (c != 5 || ((decide (ucSink b < 2048) || ucSink b == 0xFFFE) && (decide (ucOrigin b < 4096) || ucOrigin b == 0xFFFF)
      && (decide (ucRemoteUnit b < 64) || ucRemoteUnit b == 0xFF)))
    && (decide (ucSend b < 1024) || ucSend b == 0xFFFE || ucSend b == 0xFFFF)
    && !(ucCrossMask b).testBit u) .outOfRange
  if 1 ≤ c ∧ c ≤ 3 then
    need (!isF || (!f32NotFinite (fl 8) && !f32NotFinite (fl 16))) .invalidFloat
    let va : Int := if isF then f32.val (fl 8) else i64 8
    let vb : Int := if isF then f32.val (fl 16) else i64 16
    need (if c = 1 then decide (0 ≤ vb) else if c = 2 then decide (va ≤ vb) else decide (0 < va)) .outOfRange

def State.checkCaptureRange (s : State) (u : Nat) (b : Bytes) : Except Code Unit :=
  need (decide (ccDomain b < 8) && decide (byteAt b 1 ≤ 1) && decide (1 ≤ ccSlots b) && decide (ccSlots b ≤ 256)
    && decide (ccPre b ≤ 10000000000) && decide (1000 ≤ ccRetro b) && decide (ccRetro b ≤ 100000000)
    && decide (ccShift b ≤ 6)
    && (s.captureSources u).all (fun x => decide (x.2 < sourceCount x.1))
    && (!ucCapture (s.unitConfig u) || !(s.captureSources u).isEmpty)) .outOfRange

/-- The item that stands for a source, by R301; trackers are no items. -/
def State.sourceItem (s : State) (x : Nat × Nat) : Option (Nat × Nat) :=
  match x.1 with
  | 2 | 9 | 10 | 11 => some (0x04, x.2)
  | 12 | 13 => some (0x03, pcSource (s.phasorConfig x.2))
  | 14 | 15 => none
  | _ => some (0x03, x.2)

/-- The sources that a unit names: its capture list, and the source of its condition. -/
def State.namedSources (s : State) (u : Nat) : List (Nat × Nat) :=
  s.captureSources u ++ (if ucSourced (s.unitConfig u) then [(ucKind (s.unitConfig u), ucNum (s.unitConfig u))] else [])

/-- The units that a mask names. -/
def maskUnits (m : Nat) : List Nat := (numbersFrom 0 64).filter m.testBit

/-- The checks of Table 9-4 in order. -/
def State.checkArm (s : State) (u : Nat) : Except Code Unit := do
  let b := s.unitConfig u
  let c := s.captureConfig u
  checkTriggerBits b
  checkListBits (s.blob (Od.captureList + 256 * u))
  checkCaptureBits c
  checkTriggerRange u b
  s.checkCaptureRange u c
  let pond := s.holderOf 0x05 u
  let named := s.namedSources u
  need (named.all fun x => match s.sourceItem x with
    | some (k, n) => s.holderOf k n == pond
    | none => true) .notOwner
  let d := ccDomain c
  let k := ccShift c
  let others := maskUnits (ucCrossMask b) ++ (if ucCond b = 4 then (maskUnits (ucMask b)).filter (· != u) else [])
  need (named.all (fun x => match s.source x.1 x.2 with
      | some (d', _, _) => d' == d
      | none => false)
    && others.all (fun v => ccDomain (s.captureConfig v) == d)
    && (s.captureSources u).all (fun x => decide (2 < x.1) || (match s.source x.1 x.2 with
      | some (_, f, _) => f % 2 ^ k == 0
      | none => false))
    && (s.dom d).state != 0
    && (numbersFrom 0 8).all (fun l => !ucRipple b l || s.num (Od.rippleDriveEnable + l) == 1)) .precondition
  let srcs := (s.captureSources u).filterMap (s.captureGeometry c)
  let n := ceilDiv (slotBytesOf srcs * ccSlots c) 0x200000
  let own := match s.unit u with
    | some z => if z.slotBytes = slotBytesOf srcs ∧ n ≤ z.pages.length then some z.base else none
    | none => none
  need ((own.isSome || (s.pageRun pond n).isSome)
    && decide ((if own.isSome then 0 else n) + s.acqPages ≤ 24576)
    && decide (captureLoadOf srcs + s.acqLoad ≤ 64000000000) && srcs.all (fun x => decide (x.len < 2 ^ 32))) .noResource
  let _ ← s.admitCharge 0x05 u (unitCharge srcs)

def UnitSt.init : UnitSt :=
  { last := 0, up := .init, down := .init, prev := none, hist := [], bits := [], evaluated := 0, srcs := [], base := 0
    slotBytes := 0, pages := [], slots := [], active := 0, next := none, open_ := none, nextNumber := 0, armGtc := 0
    endGtc := none, missed := 0, disarmAfter := false, lastSeq := 0, lastRecord := 0xFFFFFFFF, lastCause := 0
    lastInterp := 0xFFFF, lastPlaced := 2 ^ 63, lastFlags := 0 }

/-- Take slot `k` for capture: it becomes active with empty rings. -/
def UnitSt.take (x : UnitSt) (k : Nat) : UnitSt :=
  x.setSlot k { SlotSt.init with
    st := 1, addr := x.base + k * x.slotBytes, rings := List.replicate x.srcs.length ⟨[], 0⟩ }

/-- The newest stored instant of a capture source now. -/
def State.captureNewest (s : State) (b : Bytes) (c : CapSrc) : Nat :=
  s.sourceNewest c.kind c.num / 2 ^ (if c.kind ≤ 2 then ccShift b else 0)

/-- Begin to fill slot `k`: capture goes on after what the sources hold now. -/
def State.fillSlot (s : State) (u k : Nat) : State :=
  match s.unit u with
  | none => s
  | some x =>
    let b := s.captureConfig u
    let y := { x.take k with active := k, srcs := x.srcs.map fun c => { c with last := s.captureNewest b c } }
    (s.setUnit u (some y)).enterUnit u 1

/-- An armed unit whose capture waits starts on a free slot, or is Full (R352). -/
def State.resumeUnit (s : State) (u from_ : Nat) : State :=
  match s.unit u with
  | none => s
  | some x => match x.freeAfter (s.captureConfig u) from_ with
    | some k => s.fillSlot u k
    | none => s.enterUnit u 4

/-- Arm a unit whose checks passed. -/
def State.arm (s : State) (u : Nat) : State :=
  let b := s.unitConfig u
  let c := s.captureConfig u
  let srcs := (s.captureSources u).filterMap (s.captureGeometry c)
  let size := slotBytesOf srcs
  let n := ceilDiv (size * ccSlots c) 0x200000
  let z := (s.unit u).getD .init
  let (t, z) := if z.slotBytes = size ∧ n ≤ z.pages.length then (s, z)
    else
      let p := (s.pageRun (s.holderOf 0x05 u) n).getD 0
      ((numbersFrom p n).foldl (fun w q => w.setBinding q 3) s,
        { z with base := p * 0x200000, pages := z.pages ++ numbersFrom p n, slotBytes := size })
  let x : UnitSt := { UnitSt.init with
    last := s.sourceNewest (ucKind b) (ucNum b), srcs := srcs, base := z.base, slotBytes := size, pages := z.pages
    slots := z.slots, nextNumber := z.nextNumber, evaluated := instantUnits (s.sourceNewest (ucKind b) (ucNum b))
      (match s.source (ucKind b) (ucNum b) with
        | some (_, f, _) => f
        | none => 1) 1 }
  let t := (((t.setUnit u (some x)).setCharge 0x05 u (unitCharge srcs)).setNum (Od.maxDeadTime + 256 * u) 0).setNum (Od.lastDeadTime + 256 * u) 0
  t.resumeUnit u (ccSlots c - 1)

/-! ### Records (R355, R356) -/

/-- Put `v` into octets at `i`. -/
def putLE (b : Bytes) (i n v : Nat) : Bytes := splice b i (toLE n v)

/-- The places of a source's rings in the slot. -/
def ringOffsets : Nat → List CapSrc → List (Nat × Nat)
  | _, [] => []
  | o, c :: r => (o, o + c.dataBytes) :: ringOffsets (o + c.dataBytes + c.qualityBytes) r

/-- Write the words a ring holds into its place in memory: word number total − 1 − i at ring position modulo RingLength, and
the quality of its group. -/
def State.writeRing (s : State) (c : CapSrc) (r : RingData) (data quality : Nat) : State :=
  let place (i : Nat) : Nat := (r.total - 1 - i) % c.len
  let l := (numbersFrom 0 r.words.length).zip r.words
  l.foldl (fun u x =>
    let p := place x.1
    (u.hbmWrite (data + p * c.word) (toLE c.word (ofInt (8 * c.word) x.2.2.1))).hbmWrite
      (quality + p / c.group * 4) (toLE 4 x.2.2.2)) s

/-- ScaleFactor and ScaleOffset of a source, binary32 (R356). -/
def State.recordScale (s : State) (c : CapSrc) : Nat × Nat :=
  let k := if c.kind = 2 ∨ c.kind = 9 then 2 ^ 16 + c.num else c.num
  let b := s.blob (Od.filterScale + chOff k)
  match c.kind with
  | 1 | 2 => (narrow (scaleGain b), leAt b 8 4)
  | 3 | 9 => (narrow (fdiv (scaleGain b) (d64 256)), leAt b 8 4)
  | _ => (0x3F800000, 0)

/-- The directory entry of a source (Table 9-8) for the words of the record: newest first, with how many newer words the
ring holds. -/
def State.directoryEntry (s : State) (c : CapSrc) (r : RingData) (keep : List (Nat × Int × Nat)) (newer : Nat)
    (crc data quality : Nat) : Bytes :=
  let first := ((keep.getLast?).map (·.1)).getD 0
  let start := if c.len = 0 then 0 else (r.total - newer - keep.length) % c.len
  let (sf, so) := s.recordScale c
  toLE 1 c.kind ++ toLE 1 c.word ++ toLE 1 c.group ++ [0] ++ toLE 2 c.num ++ [0, 0] ++ toLE 4 c.rate
    ++ toLE 4 (if c.rate = 0 then 0 else first % c.rate) ++ toLE 8 (if c.rate = 0 then 0 else first / c.rate)
    ++ toLE 4 keep.length ++ toLE 4 c.len ++ toLE 4 start ++ toLE 4 crc ++ toLE 8 data ++ toLE 8 quality
    ++ toLE 4 sf ++ toLE 4 so

/-- The header of a record (Table 9-6) with its CRC. -/
def State.recordHeader (s : State) (u : Nat) (r : OpenRec) (channels bytes : Nat) (postShort suspect : Bool) : Bytes :=
  let c := s.captureConfig u
  let d := ccDomain c
  let k := ccShift c
  let flags := r.flags ||| (if postShort then 8 else 0) ||| (if k ≠ 0 then 2 else 0) ||| (if suspect then 2 ^ 11 else 0)
  let body := toLE 4 0x4345524B ++ toLE 2 1 ++ toLE 1 u ++ toLE 1 d ++ toLE 4 r.number ++ toLE 4 flags
    ++ timeMemory (timeOfUnits r.t) ++ toLE 8 ((s.dom d).gtcUnits r.t 0 true).toNat ++ toLE 1 r.cause ++ toLE 1 r.count
    ++ toLE 2 r.interp ++ toLE 4 0 ++ toLE 8 r.armGtc ++ toLE 8 (r.endGtc.getD s.gtc) ++ toLE 4 r.deadTime
    ++ toLE 4 (sat32 r.missed) ++ toLE 4 (ccPre c) ++ toLE 4 ((r.stop - r.t) / nsUnits).toNat
    ++ toLE 2 channels ++ toLE 1 k ++ List.replicate 5 0 ++ toLE 8 bytes ++ toLE 8 s.ownSerial
    ++ toLE 2 (s.ownAddress.getD 0xFFFF) ++ toLE 2 r.originAddr ++ toLE 1 r.originUnit ++ toLE 1 r.originState
    ++ toLE 1 r.originErr ++ [0] ++ timeMemory r.originTime
    ++ (r.retrig.flatMap fun x => toLE 8 (ofInt 64 x)) ++ List.replicate (64 - 8 * r.retrig.length) 0
    ++ toLE 8 r.placed ++ List.replicate 52 0
  body ++ toLE 4 (crc32c body)

/-- Write the open record of a unit into its slot: rings, directory and header. -/
def State.writeRecord (s : State) (u : Nat) (x : UnitSt) (r : OpenRec) (postShort : Bool) : State :=
  let z := x.slot x.active
  let pre := r.t - (ccPre (s.captureConfig u) : Int) * nsUnits
  let all := (x.srcs.zip z.rings).zip (ringOffsets (256 + 64 * x.srcs.length) x.srcs)
  let t := all.foldl (fun w y => w.writeRing y.1.1 y.1.2 (z.addr + y.2.1) (z.addr + y.2.2)) s
  let dir := all.flatMap fun y =>
    let c := y.1.1
    let ring := y.1.2
    let newer := ring.words.filter fun e => decide (r.stop < c.units e.1)
    let keep := ring.words.filter fun e => decide (pre ≤ c.units e.1) && decide (c.units e.1 ≤ r.stop)
    let crc := crc32c (t.hbmRead (z.addr + y.2.1) (c.len * c.word) ++ t.hbmRead (z.addr + y.2.2) (c.len / c.group * 4))
    s.directoryEntry c ring keep newer.length crc y.2.1 y.2.2
  let t := t.hbmWrite (z.addr + 256) dir
  t.hbmWrite z.addr (s.recordHeader u r x.srcs.length x.slotBytes postShort z.suspect)

/-- The active slot holds PreTime before its newest instant (Table 9-5). -/
def UnitSt.holdsPre (x : UnitSt) (pre : Nat) : Bool :=
  (x.srcs.zip (x.slot x.active).rings).all fun y =>
    match y.2.words.head?, y.2.words.getLast? with
    | some a, some b => decide ((pre : Int) * nsUnits ≤ y.1.units a.1 - y.1.units b.1)
    | _, _ => false

/-- The dead time of a record whose ArmGtc is now (R351). -/
def UnitSt.deadTime (x : UnitSt) (g : Nat) : Nat := match x.endGtc with
  | some e => sat32 (g - e)
  | none => 0

/-- Enter Armed or Filling by what the active slot holds. -/
def State.settleUnit (s : State) (u : Nat) : State :=
  match s.unit u with
  | none => s
  | some x =>
    if x.holdsPre (ccPre (s.captureConfig u)) then
      let dt := x.deadTime s.gtc
      let t := (s.setUnit u (some { x with armGtc := s.gtc })).setNum (Od.lastDeadTime + 256 * u) dt
      (t.setNum (Od.maxDeadTime + 256 * u) (max dt (s.num (Od.maxDeadTime + 256 * u)))).enterUnit u 2
    else s.enterUnit u 1

/-- Release the pages of a disarmed unit whose slots are all empty (R348). -/
def State.releasePages (s : State) (u : Nat) : State :=
  match s.unit u with
  | none => s
  | some x =>
    if s.unitState u = 0 ∧ x.slots.isEmpty then
      let t := x.pages.foldl (fun w p => if w.pageBinding p = 3 then w.setBinding p 0 else w) s
      t.setUnit u (some { x with pages := [], slotBytes := 0 })
    else s

/-- Freeze the open record; the next slot becomes active (R349, R351). The unit's state follows from `settle`. -/
def State.freezeRecord (s : State) (u : Nat) (postShort : Bool) : State :=
  match s.unit u with
  | none => s
  | some x => match x.open_ with
    | none => s
    | some r =>
      let t := s.writeRecord u x r postShort
      let d := ccDomain (s.captureConfig u)
      let z := { x.slot x.active with
        st := 3, number := r.number, bytes := x.slotBytes, trigGtc := ((s.dom d).gtcUnits r.t 0 true).toNat, rings := [] }
      let y := { x.setSlot x.active z with open_ := none, endGtc := some (r.endGtc.getD s.gtc) }
      ((t.setUnit u (some y)).count48 (Od.unitRecords + 256 * u)).raiseOcc (unitSource u) 0x05 u 3 r.number

/-- Leave the capture under way: the active slot and the one prepared become empty. -/
def UnitSt.dropCapture (x : UnitSt) : UnitSt :=
  let clear (y : UnitSt) (k : Nat) : UnitSt := if (y.slot k).st = 1 then y.setSlot k .init else y
  match x.next with
  | some k => { clear (clear x x.active) k with next := none }
  | none => clear x x.active

/-- Disarm a unit: an open record freezes with PostShort (R370). -/
def State.disarm (s : State) (u : Nat) : State :=
  let t := s.freezeRecord u true
  match t.unit u with
  | none => t
  | some x =>
    (((t.setUnit u (some { x.dropCapture with disarmAfter := false })).setCharge 0x05 u (0, 1)).enterUnit u 0).releasePages u

/-- After a freeze: disarm by SingleShot or by request, or go on with the next slot (R351, R352). -/
def State.afterFreeze (s : State) (u : Nat) : State :=
  match s.unit u with
  | none => s
  | some x =>
    if ucFlag (s.unitConfig u) 5 ∨ x.disarmAfter then s.disarm u
    else match x.next with
      | some k => (s.setUnit u (some { x with active := k, next := none })).settleUnit u
      | none => s.resumeUnit u x.active

/-- RECORD_FREEZE: once every source has stored the instant at or before E. -/
def recordFreeze (u : Nat) (s : State) : State :=
  match s.unit u with
  | some x => (match x.open_ with
      | some r => if r.endGtc.isSome then (s.freezeRecord u false).afterFreeze u else s
      | none => s)
  | none => s

def execRecordFreeze (u : Fin 64) (s : State) : Res := .next (recordFreeze u.val s)

/-! ### Capture (R346, R351, R354) -/

/-- The exact sum of 2^k samples with its quality (R354). -/
def sumSamples (l : List (Nat × Int × Nat)) : Int × Nat :=
  let q := l.map fun x => x.2.2
  let detail := q.foldl (fun a b => a ||| (b % 2 ^ 24 / 4 * 4)) 0
  let run := q.foldl (fun a b => max a (b / 2 ^ 24)) 0
  let v := if q.any fun b => b % 4 == 1 then 1 else if q.any fun b => b % 4 == 3 then 3 else 0
  (intSum (l.map fun x => x.2.1), run % 256 * 2 ^ 24 + detail + v)

/-- The stored words of a source after its last stored one, oldest first. -/
def State.newWords (s : State) (b : Bytes) (c : CapSrc) : List (Nat × Int × Nat) :=
  let k := if c.kind ≤ 2 then ccShift b else 0
  let l := ((s.sourceEnts c.kind c.num).filter fun e => decide (c.last < e.1 / 2 ^ k)).reverse
  if k = 0 then l
  else
    ((l.map fun e => e.1 / 2 ^ k).eraseDups).filterMap fun j =>
      let g := l.filter fun e => e.1 / 2 ^ k == j
      if g.length = 2 ^ k then let z := sumSamples g
        some (j, z.1, z.2) else none

/-- Store words into a ring; the oldest ones give way. -/
def RingData.store (r : RingData) (c : CapSrc) (l : List (Nat × Int × Nat)) : RingData :=
  ⟨(l.reverse ++ r.words).take c.len, r.total + l.length⟩

/-- The open record has all its instants: every source has stored the one at or before E. -/
def UnitSt.complete (x : UnitSt) (stop : Int) : Bool := x.srcs.all fun c => decide (c.atOrBefore stop ≤ (c.last : Int))

/-- Store the new words of every capture source of unit `u`. -/
def State.captureUnit (s : State) (u : Nat) : State :=
  match s.unit u with
  | none => s
  | some x =>
    let st := s.unitState u
    if st = 0 ∨ 4 ≤ st then s
    else
      let b := s.captureConfig u
      let new : List (CapSrc × List (Nat × Int × Nat)) := x.srcs.map fun c => (c, s.newWords b c)
      let storeIn (y : UnitSt) (k : Nat) : UnitSt :=
        let z := y.slot k
        y.setSlot k { z with rings := (z.rings.zip new).map fun (p : RingData × CapSrc × List (Nat × Int × Nat)) => p.1.store p.2.1 p.2.2 }
      let y := storeIn x x.active
      let y := match x.next with
        | some k => storeIn y k
        | none => y
      let y := { y with srcs := new.map fun (p : CapSrc × List (Nat × Int × Nat)) => match p.2.getLast? with
        | some e => { p.1 with last := e.1 }
        | none => p.1 }
      let y := match y.open_ with
        | some r => if r.endGtc.isNone && y.complete r.stop then { y with open_ := some { r with endGtc := some s.gtc } } else y
        | none => y
      let t := s.setUnit u (some y)
      if st = 1 then t.settleUnit u else t

/-- Every armed unit stores what its sources have produced. -/
def State.captureAll (s : State) : State := s.armedUnits.foldl State.captureUnit s

/-! ### Decisions (R349 to R352, R357, R360, R364) -/

/-- A decided trigger: its point, cause, interpolation, record flags, and what a remote one brings. -/
structure Decision where
  t : Int
  cause : Nat
  interp : Nat
  flags : Nat
  originAddr : Nat
  originUnit : Nat
  originState : Nat
  originErr : Nat
  originTime : Nat
  placed : Nat
  deriving DecidableEq, Repr

/-- A trigger of this module's own. -/
def Decision.own (t : Int) (cause interp flags : Nat) : Decision :=
  { t := t, cause := cause, interp := interp, flags := flags, originAddr := 0xFFFF, originUnit := 0xFF, originState := 0
    originErr := 0, originTime := timeOfUnits t, placed := 2 ^ 63 }

/-- Count a missed trigger (R352). -/
def State.missTrigger (s : State) (u : Nat) : State :=
  let t := (s.count32 (Od.missedTriggers + 256 * u)).raiseLimited (unitSource u) 0xA004 0x05 u 0
  match t.unit u with
  | some x => t.setUnit u (some { x with missed := sat32 (x.missed + 1) })
  | none => t

/-- Open a record at a trigger point, from Armed or from Filling (R349, R351). -/
def State.openRecord (s : State) (u : Nat) (x : UnitSt) (e : Decision) (filling : Bool) : State :=
  let b := s.captureConfig u
  let z := x.slot x.active
  let pairs := x.srcs.zip z.rings
  let held := pairs.any fun y => y.2.words.any fun w => decide (y.1.units w.1 ≤ e.t)
  if !held then (s.count32 (Od.lateTriggers + 256 * u)).raiseLimited (unitSource u) 0xA005 0x05 u 0
  else
    let from_ := e.t - (ccPre b : Int) * nsUnits
    let short := filling || pairs.any fun y => match y.2.words.getLast? with
      | some w => decide (y.1.atOrAfter from_ < (w.1 : Int))
      | none => true
    let stop := e.t + (ccPost b : Int) * nsUnits
    let dead := x.deadTime s.gtc
    let r : OpenRec :=
      { number := x.nextNumber, t := e.t, stop := stop, cause := e.cause, interp := e.interp
        flags := e.flags ||| (if short then 4 else 0), count := 1, retrig := [], decided := s.gtc
        armGtc := if filling then s.gtc else x.armGtc, deadTime := if filling then dead else s.num (Od.lastDeadTime + 256 * u)
        missed := x.missed, endGtc := if x.complete stop then some s.gtc else none
        originAddr := e.originAddr, originUnit := e.originUnit, originState := e.originState, originErr := e.originErr
        originTime := e.originTime, placed := e.placed }
    let y := x.setSlot x.active { z with st := 2 }
    let next := y.freeAfter b x.active
    let y := match next with
      | some k => y.take k
      | none => y
    let y := { y with open_ := some r, next := next, nextNumber := (x.nextNumber + 1) % 2 ^ 32, missed := 0, lastRecord := r.number }
    let t := s.setUnit u (some y)
    let t := if filling then (t.setNum (Od.lastDeadTime + 256 * u) dead).setNum (Od.maxDeadTime + 256 * u)
        (max dead (s.num (Od.maxDeadTime + 256 * u))) else t
    t.enterUnit u 3

/-- A retrigger of the open record (R350). -/
def State.retrigger (s : State) (u : Nat) (x : UnitSt) (r : OpenRec) (e : Decision) : State :=
  if e.cause = 8 ∧ e.t = r.t ∧ r.decided = s.gtc then s
  else
    let b := s.captureConfig u
    let off := roundDiv (e.t - r.t) (9 * 2 ^ 40)
    let room := decide (r.retrig.length < 8)
    let limit := r.t + ((ccPost b + ccExtend b : Nat) : Int) * nsUnits
    let stop := if ucFlag (s.unitConfig u) 3 then max r.stop (min limit (e.t + (ccPost b : Int) * nsUnits)) else r.stop
    let r := { r with
      retrig := if room then r.retrig ++ [off] else r.retrig
      flags := r.flags ||| (if room then 0 else 16) ||| (if ucFlag (s.unitConfig u) 3 then 32 else 0)
      count := satAt 255 (r.count + 1), stop := stop
      endGtc := if stop = r.stop then r.endGtc else if x.complete stop then some s.gtc else none }
    s.setUnit u (some { x with open_ := some r, lastRecord := r.number })

/-- A trigger of unit `u` opens or extends its record, or is missed. -/
def State.captureTrigger (s : State) (u : Nat) (e : Decision) : State :=
  match s.unit u with
  | none => s
  | some x =>
    match s.unitState u with
    | 1 => if ucFlag (s.unitConfig u) 4 then s.openRecord u x e true else s.missTrigger u
    | 2 => s.openRecord u x e false
    | 3 => (match x.open_ with
        | some r => s.retrigger u x r e
        | none => s)
    | 4 | 5 => s.missTrigger u
    | _ => s

/-! ### Ripple lines (R357 to R359) -/

def State.rippleAt (s : State) (k : Nat) : RippleSt := tabGet .init s.acq.ripple k

def State.setRipple (s : State) (k : Nat) (x : RippleSt) : State :=
  { s with acq := { s.acq with ripple := tabSet .init s.acq.ripple k x } }

/-- The line is asserted, by this module or another. -/
def RippleSt.on (x : RippleSt) : Bool := x.level || x.drive.isSome

/-- Assert RIPPLE_k for RippleWidth (R357). -/
def State.driveRipple (s : State) (k : Nat) : State :=
  let x := s.rippleAt k
  if s.num (Od.rippleDriveEnable + k) ≠ 1 then s
  else
    let t := if x.on then s else s.count48ev (Od.rippleEdges + k) (0x840 + k) 0x80 0
    t.setRipple k { x with
      drive := some (s.gtc + s.num (Od.rippleWidth + k)), since := if x.on then x.since else s.gtc }

/-! ### Trigger messages sent (R360) -/

/-- The body of a Trigger message (Table 9-9), its Age still to be inserted. -/
def encodeTrigger (m : TriggerMsg) : Bytes :=
  let (sec, ns, fr) := timeParts m.crossing
  toBE 1 m.unit ++ toBE 1 m.domain ++ toBE 1 m.cause ++ toBE 1 (boolNat m.interpolated + 2 * boolNat m.locked)
    ++ toBE 4 m.record ++ toBE 6 sec ++ toBE 4 ns ++ toBE 2 fr ++ toBE 8 m.age ++ toBE 1 m.st ++ toBE 1 m.errorLog2 ++ [0, 0]

/-- Send the message of a decision by FabricSend. -/
def State.sendTrigger (s : State) (u : Nat) (e : Decision) : State :=
  let b := s.unitConfig u
  let d := ccDomain (s.captureConfig u)
  let q := s.domQuality d
  let st := (s.dom d).state
  let m : TriggerMsg :=
    { unit := u, domain := d, cause := e.cause, interpolated := e.interp != 0xFFFF, locked := st == 3 || st == 4
      record := match s.unit u with
        | some x => (match x.open_ with
            | some r => r.number
            | none => 0xFFFFFFFF)
        | none => 0xFFFFFFFF
      crossing := timeOfUnits e.t, age := 0, st := st, errorLog2 := q % 256 }
  let fix := OneStep.age ((s.dom d).gtcUnits e.t 8 false)
  if ucSend b = 0xFFFE then s.sendBroadcast 0xA 0 (encodeTrigger m) fix
  else if ucSend b = 0xFFFF then s
  else
    let f := ucSend b
    let fe := s.flowEntry f
    let x := s.flowAt f
    let live := [(x.a, false), (x.b, true)].filter fun p => p.1.st == 2
    if !(flowEnabled fe && (byteAt fe 4).testBit 2) || live.isEmpty then s
    else
      let (t, ok) := s.policeBucket (0x4000 + f) (feRate fe) (feBurst fe) (34 + 32)
      if ok then
        let h (pathB : Bool) : XosynHead :=
          { t.originHead 0xA f (leAt fe 2 2 % 4096) false pathB with sequence := x.seq }
        let t := live.foldl (fun w p => w.sendXosyn p.1.port 0xA (h p.2) (encodeTrigger m) fix) t
        let t := t.setFlow f { t.flowAt f with seq := (x.seq + 1) % 2 ^ 32 }
        t.blobCount (Od.flowStatus + f) 8 (0x160 + f / 64) 0x86 f
      else t.blobCount (Od.flowStatus + f) 16 (0x160 + f / 64) 0x86 f

/-- A decided trigger of an armed unit does its actions, without crossing to other units. -/
def State.decideOn (s : State) (u : Nat) (e : Decision) : State :=
  let b := s.unitConfig u
  let t := (s.count48ev (Od.unitTriggers + 256 * u) (unitSource u) 0x05 u).setNum (Od.lastTriggerTime + 256 * u) (timeOfUnits e.t)
  let t := match t.unit u with
    | some x => t.setUnit u (some { x with
        lastSeq := (x.lastSeq + 1) % 2 ^ 32, lastCause := e.cause, lastInterp := e.interp, lastPlaced := e.placed
        lastFlags := e.flags, lastRecord := 0xFFFFFFFF })
    | none => t
  let t := if ucCapture b then t.captureTrigger u e else t
  let t := (numbersFrom 0 8).foldl (fun w k => if ucRipple b k then w.driveRipple k else w) t
  let t := t.sendTrigger u e
  if ucEvent b then t.raiseOcc (unitSource u) 0x05 u 2 (timeOfUnits e.t) else t

/-- A unit decides a trigger (R364): its own actions, and with CrossTrigger those of the armed units of CrossMask. -/
def State.decideTrigger (s : State) (u : Nat) (e : Decision) : State :=
  let b := s.unitConfig u
  let t := s.decideOn u e
  if ucCross b then
    (maskUnits (ucCrossMask b)).foldl (fun w v =>
      if v ≠ u ∧ w.armed v then w.decideOn v { e with cause := 8, flags := e.flags ||| 2 ^ 9 } else w) t
  else t

/-! ### Conditions (R337 to R343) -/

/-- A word of a source kind as a comparable integer: exact, and for F32 kinds in units of the smallest binary64. -/
def comparable (kind : Nat) (v : Int) : Int := if floatKind kind then f64.val (widen v.toNat) else v

/-- A threshold field as a binary64 pattern or an integer, and the sums of thresholds. -/
def threshold (kind : Nat) (b : Bytes) (i : Nat) : Int := if floatKind kind then f64.val (widen (leAt b i 4)) else toInt 64 (leAt b i 8)

/-- A − B and A + B; for F32 kinds rounded to binary64. -/
def thresholdSum (kind : Nat) (b : Bytes) (minus : Bool) : Int :=
  let x := widen (leAt b 8 4)
  let y := widen (leAt b 16 4)
  if floatKind kind then f64.val (if minus then fsub x y else fadd x y)
  else if minus then threshold kind b 8 - threshold kind b 16 else threshold kind b 8 + threshold kind b 16

/-- The test of one direction on a value (y, or r of R339): whether it would become true, and whether it would become
false. -/
def testOf (b : Bytes) (down : Bool) (y : Int) : Bool × Bool :=
  let k := ucKind b
  let a := threshold k b 8
  let lo := thresholdSum k b true
  match ucCond b with
  | 1 => if down then (decide (y ≤ a), decide (thresholdSum k b false < y)) else (decide (a ≤ y), decide (y < lo))
  | 2 =>
    let inside := decide (a ≤ y) && decide (y ≤ threshold k b 16)
    let on := if ucEdge b = 1 then inside else !inside
    (on, !on)
  | 3 =>
    let z := if ucEdge b = 1 then y else if ucEdge b = 2 then -y else (y.natAbs : Int)
    (decide (a ≤ z), !decide (lo ≤ z))
  | _ => (false, false)

/-- F of R342 between the sample before and this one. -/
def crossing (b : Bytes) (y0 y1 : Int) : Nat :=
  let k := ucKind b
  if floatKind k then
    let w (v : Int) : Nat := widen v.toNat
    let ratio := fdiv (fsub (widen (leAt b 8 4)) (w y0)) (fsub (w y1) (w y0))
    min 256 (f64.toInt 0 (fmul (d64 256) ratio)).1.toNat
  else
    let num := 256 * (threshold k b 8 - y0)
    let den := y1 - y0
    min 256 (roundDiv (if den < 0 then -num else num) den.natAbs).toNat

/-- One evaluated sample `n` of one direction: the test's new state, and F of the trigger that completes its hold, with its
first sample. -/
def CondSt.step (x : CondSt) (b : Bytes) (n : Nat) (tests : Bool × Bool) (interp : Nat) : CondSt × Option (Nat × Nat) :=
  let on := if x.on then !tests.2 else tests.1
  if !on then ({ CondSt.init with on := false }, none)
  else
    let x := if x.hold = 0 then { x with first := n, interp := interp } else x
    let hold := min (x.hold + 1) 65535
    let fire := !x.fired && hold == ucHold b
    ({ x with on := true, hold := hold, fired := x.fired || fire }, if fire then some (x.first, x.interp) else none)

/-- The source's output is usable for a condition (R341). -/
def evaluates (b : Bytes) (q : Nat) : Bool :=
  (!ucFlag b 1 || usable false q) && (!ucFlag b 2 || decide (ucKind b < 3) || q.testBit 31)

/-- The bit of a unit in the pattern vector at a time (R343). -/
def UnitSt.bitAt (x : UnitSt) (v : Int) : Bool := match x.bits.find? fun z => decide (z.1 ≤ v) with
  | some z => z.2
  | none => false

/-- Note a unit's bit after it has evaluated the instant `v`. -/
def UnitSt.noteBit (x : UnitSt) (v : Int) (bit : Bool) : UnitSt :=
  { x with evaluated := v, bits := if x.bitAt v = bit then x.bits else (v, bit) :: x.bits }

/-- The pattern's vector matches at a time; none while a unit with a care bit has not come that far. -/
def State.patternMatch (s : State) (u : Nat) (x : UnitSt) (v : Int) : Option Bool :=
  let b := s.unitConfig u
  let care := maskUnits (ucMask b)
  let waits := care.any fun w => w != u && s.armed w && ucSourced (s.unitConfig w) && (match s.unit w with
    | some z => decide (z.evaluated < v)
    | none => false)
  if waits then none
  else
    some (care.all fun w =>
      let bit := if w = u then x.bitAt (v - 1)
        else s.armed w && ucSourced (s.unitConfig w) && (match s.unit w with
          | some z => z.bitAt v
          | none => false)
      bit == (ucValue b).testBit w)

/-- Evaluate one source instant of unit `u`; none while the pattern waits. The triggers it completes: point and F. -/
def State.evaluate (s : State) (u : Nat) (x : UnitSt) (rate : Nat) (e : Nat × Int × Nat) : Option (UnitSt × List (Int × Nat)) :=
  let b := s.unitConfig u
  let n := e.1
  let v := instantUnits n rate 1
  let y := comparable (ucKind b) e.2.1
  let point (z : Nat × Nat) : Int × Nat :=
    if z.2 = 0xFFFF then (instantUnits z.1 rate 1, 0xFFFF) else (instantUnits ((z.1 - 1) * 256 + z.2) rate 256, z.2)
  let bitOf (z : UnitSt) : Bool := z.up.on || z.down.on
  if !evaluates b e.2.2 then
    let z := { x with
      last := n, prev := none, up := { x.up with hold := 0 }, down := { x.down with hold := 0 }
      hist := ((n, y) :: x.hist).take 4097 }
    match ucCond b with
    | 4 => (match s.patternMatch u x v with
        | some _ => some (z.noteBit v (bitOf x), [])
        | none => none)
    | _ => some (z.noteBit v (bitOf x), [])
  else
    match ucCond b with
    | 4 => (match s.patternMatch u x v with
        | none => none
        | some m =>
          let (c, f) := x.up.step b n (m, !m) 0xFFFF
          some (({ x with last := n, up := c }).noteBit v m, (f.toList).map point))
    | 3 =>
      let hist := ((n, y) :: x.hist).take 4097
      (match x.hist.find? fun z => z.1 + ucDist b == n with
        | none => some (({ x with last := n, hist := hist }).noteBit v (bitOf x), [])
        | some z =>
          let (c, f) := x.up.step b n (testOf b false (y - z.2)) 0xFFFF
          let w := { x with last := n, hist := hist, up := c }
          some (w.noteBit v (bitOf w), (f.toList).map point))
    | c =>
      let rising := c == 2 || ucEdge b != 2
      let falling := c == 1 && ucEdge b != 1
      let f := match x.prev with
        | some (m, y0) => if ucFlag b 0 ∧ c = 1 ∧ m + 1 = n then crossing b y0 e.2.1 else 0xFFFF
        | none => 0xFFFF
      let (p, a) := if rising then x.up.step b n (testOf b false y) f else (x.up, none)
      let (q, d) := if falling then x.down.step b n (testOf b true y) f else (x.down, none)
      let w := { x with last := n, prev := some (n, e.2.1), up := p, down := q }
      some (w.noteBit v (bitOf w), (a.toList ++ d.toList).map point)

/-- Evaluate instants, oldest first, up to the first that decides a trigger. -/
def State.evaluateAll (s : State) (u rate : Nat) : List (Nat × Int × Nat) → State
  | [] => s
  | e :: r =>
    match s.unit u with
    | none => s
    | some x => match s.evaluate u x rate e with
      | none => s
      | some (y, []) => (s.setUnit u (some y)).evaluateAll u rate r
      | some (y, l) => l.foldl (fun w p => w.decideTrigger u
          (Decision.own p.1 (ucCond (s.unitConfig u)) p.2 (if p.2 = 0xFFFF then 0 else 1))) (s.setUnit u (some y))

/-- TRIGGER_DECIDE: a unit reads its source in order of instant, up to the next trigger (R336, R344). -/
def triggerDecide (u : Nat) (s : State) : State :=
  let b := s.unitConfig u
  match s.unit u, s.source (ucKind b) (ucNum b) with
  | some x, some (_, rate, _) =>
    if s.armed u && ucSourced b && decide (s.shedLevel ≤ 3) then
      s.evaluateAll u rate ((s.sourceEnts (ucKind b) (ucNum b)).filter fun e => decide (x.last < e.1)).reverse
    else s
  | _, _ => s

def execTriggerDecide (u : Fin 64) (s : State) : Res := .next (triggerDecide u.val s)

/-! ### Unit objects -/

/-- A Tenant reaches a unit while its pond holds it (R335). -/
def State.checkUnitOwner (s : State) (who : Caller) (u : Nat) : Except Code Unit := need (s.tenantHolds who 0x05 u) .notOwner

/-- UnitArm 1, 2 and 3. An armed unit stays as it is when it is armed again. -/
def unitArm (who : Caller) (u value : Nat) (s : State) : Act := do
  s.gateRange who (Od.unitArm + 256 * u) false 0 (.num value)
  s.checkUnitOwner who u
  match value with
  | 1 => if s.armed u then .ok s else do
      s.checkArm u
      .ok (s.arm u)
  | 2 => .ok (if s.armed u then s.disarm u else s)
  | _ =>
    if s.unitState u = 3 then (match s.unit u with
      | some x => .ok (s.setUnit u (some { x with disarmAfter := true }))
      | none => .ok s)
    else .ok (if s.armed u then s.disarm u else s)

def execUnitArm (who : Caller) (u : Fin 64) (s : State) : Res := .next (s.answer who (unitArm who u.val 1 s))

def execUnitDisarm (who : Caller) (u : Fin 64) (s : State) : Res := .next (s.answer who (unitArm who u.val 2 s))

def execUnitDisarmAfterFreeze (who : Caller) (u : Fin 64) (s : State) : Res := .next (s.answer who (unitArm who u.val 3 s))

/-- UnitSoftTrigger: the trigger point is the domain time at the write's effective GTC. -/
def unitSoftTrigger (who : Caller) (u value : Nat) (s : State) : Act := do
  s.gateRange who (Od.unitSoftTrigger + 256 * u) false 0 (.num value)
  s.checkUnitOwner who u
  need (s.armed u) .precondition
  .ok (s.decideTrigger u (.own ((s.dom (ccDomain (s.captureConfig u))).unitsAt s.gtc 0) 7 0xFFFF 64))

def execUnitSoftTrigger (who : Caller) (u : Fin 64) (value : Nat) (s : State) : Res :=
  .next (s.answer who (unitSoftTrigger who u.val value s))

/-- The checks and the effect of a write of a unit's configuration while it may apply: reserved bits, the ranges follow at
arming. An armed unit is quiesced: disarmed, and armed again by Table 9-4 (R370). -/
def State.checkUnitWrite (s : State) (who : Caller) (u id : Nat) (b : Bytes) : Except Code Unit := do
  s.checkUnitOwner who u
  if id = Od.triggerConfig then checkTriggerBits b
  else if id = Od.captureList then checkListBits b else checkCaptureBits b

def State.applyUnitWrite (s : State) (u id : Nat) (b : Bytes) : State :=
  let t := if s.armed u then s.disarm u else s
  let t := t.setBlob (id + 256 * u) b
  if s.armed u then (match t.checkArm u with
    | .ok _ => t.arm u
    | .error _ => t)
  else t

/-- A running instance reads the unit through its input image (R78, Table 10-9). -/
def State.unitRead (s : State) (u : Nat) : Bool := s.imageReads [16] u

/-- RecordControl (R353). -/
def recordControl (who : Caller) (u k value : Nat) (s : State) : Act := do
  s.gateRange who (Od.recordControl + 256 * u + k) false 0 (.num value)
  s.checkUnitOwner who u
  let x := (s.unit u).getD .init
  let z := x.slot k
  let put (st : Nat) : State := s.setUnit u (some (x.setSlot k { z with st := st }))
  let freed (t : State) : State := if t.unitState u = 4 then t.resumeUnit u x.active else t
  match value with
  | 1 => do
    need (z.st == 3 || z.st == 4) .precondition
    .ok (put 4)
  | 2 => .ok (if z.st = 4 then freed (put 3) else s)
  | _ => do
    need (z.st != 5) .busy
    need (z.st == 3 || z.st == 4) .precondition
    .ok (freed ((s.setUnit u (some (x.setSlot k .init))).releasePages u))

def execRecordLock (who : Caller) (u : Fin 64) (slot : Fin 256) (s : State) : Res :=
  .next (s.answer who (recordControl who u.val slot.val 1 s))

def execRecordUnlock (who : Caller) (u : Fin 64) (slot : Fin 256) (s : State) : Res :=
  .next (s.answer who (recordControl who u.val slot.val 2 s))

def execRecordRelease (who : Caller) (u : Fin 64) (slot : Fin 256) (s : State) : Res :=
  .next (s.answer who (recordControl who u.val slot.val 3 s))

/-- RecordInfo of a slot (Table 9-15). -/
def State.recordInfoOf (s : State) (u k : Nat) : Bytes :=
  let z := match s.unit u with
    | some x => x.slot k
    | none => .init
  toLE 1 z.st ++ toLE 1 (boolNat z.suspect) ++ [0, 0] ++ toLE 4 z.number ++ toLE 8 z.addr ++ toLE 8 z.bytes ++ toLE 8 z.trigGtc

/-! ### Ripple input -/

/-- RIPPLE_EDGE: other modules assert or release the line. A Stuck line is ignored. -/
def rippleEdge (k : Nat) (asserted : Bool) (s : State) : State :=
  let x := s.rippleAt k
  let y := { x with level := asserted }
  let y := if y.on = x.on then y else { y with since := s.gtc }
  let t := s.setRipple k y
  if !asserted || x.on || x.stuck then t
  else
    let t := t.count48ev (Od.rippleEdges + k) (0x840 + k) 0x80 0
    let delay : Int := toInt 64 (s.num (Od.factoryRippleInDelay + k)) + toInt 64 (s.num (Od.userRippleInDelay + k))
    (t.armedUnits.filter fun u => ucCond (t.unitConfig u) == 6 && ucLine (t.unitConfig u) == k).foldl (fun w u =>
      w.decideTrigger u (.own ((w.dom (ccDomain (w.captureConfig u))).unitsAt ((s.gtc : Int) * 2 ^ 16 - delay) 16) 6 0xFFFF 128)) t

def execRippleEdge (line : Fin 8) (asserted : Bool) (s : State) : Res := .next (rippleEdge line.val asserted s)

/-- RIPPLE_RELEASE: the module's own pulse ends after RippleWidth. -/
def rippleRelease (k : Nat) (s : State) : State :=
  let x := s.rippleAt k
  match x.drive with
  | some g => if g ≤ s.gtc then s.setRipple k { x with drive := none, since := if x.level then x.since else s.gtc } else s
  | none => s

def execRippleRelease (line : Fin 8) (s : State) : Res := .next (rippleRelease line.val s)

/-- RIPPLE_STUCK: a line asserted for more than 1 ms is Stuck (R359). -/
def rippleStuck (k : Nat) (s : State) : State :=
  let x := s.rippleAt k
  if x.on && !x.stuck && decide (x.since + 1000000 < s.gtc) then
    ((s.setRipple k { x with stuck := true }).count32 (Od.rippleStuckCount + k)).raiseState (0x840 + k) 0x80 0
      (if x.drive.isSome then 2 else 1) 3 0 0
  else s

def execRippleStuck (line : Fin 8) (s : State) : Res := .next (rippleStuck line.val s)

/-- RIPPLE_STUCK_CLEAR: a Stuck line deasserted for 1 ms is no longer ignored. -/
def rippleStuckClear (k : Nat) (s : State) : State :=
  let x := s.rippleAt k
  if !x.on && x.stuck && decide (x.since + 1000000 ≤ s.gtc) then
    (s.setRipple k { x with stuck := false }).raiseState (0x840 + k) 0x80 0 3 0 0 0
  else s

def execRippleStuckClear (line : Fin 8) (s : State) : Res := .next (rippleStuckClear line.val s)

/-- RippleState (Table 9-16). -/
def State.rippleStateOf (s : State) (k : Nat) : Nat :=
  let x := s.rippleAt k
  if x.stuck then 3 else if x.drive.isSome then 2 else if x.level then 1 else 0

/-! ### Trigger messages received (R361 to R363) -/

/-- Raise the drops of a counter, limited by R223 (class 0x4): the drops since the previous such event. -/
def State.raiseDrops (s : State) (src code kind num : Nat) : State :=
  let k := (src * 2 ^ 16 + code) * 2 ^ 32 + itemKey kind num
  let (next, n) := tabGet (0, 0) s.inst.rateLimit k
  let put (t : State) (x : Nat × Nat) : State :=
    { t with inst := { t.inst with rateLimit := tabSet (0, 0) t.inst.rateLimit k x } }
  if s.gtc < next then put s (next, n + 1)
  else (put s (s.gtc + 1000000000, 0)).raise src code kind num (n + 1)

def State.discardTrigger (s : State) : State :=
  (s.count48ev Od.remoteTriggersDiscarded 0x848 0x80 0).raiseDrops 0x848 0x4003 0x80 0

/-- Offer a message to one Remote unit. -/
def State.offerTrigger (s : State) (u source : Nat) (valid : Bool) (pathDelay : Nat) (m : TriggerMsg) : State :=
  let x := s.dom (ccDomain (s.captureConfig u))
  let g : Int := (s.gtc : Int) * 256 - pathDelay - toInt 64 m.age
  let placedAt := x.unitsAt g 8
  let cross := valueOfTime m.crossing * 9
  let locked := m.locked && (x.state == 3 || x.state == 4)
  let point := if locked then cross else if valid then placedAt else cross
  let flags := 256 + (if locked || valid then 0 else 2 ^ 10)
  s.decideTrigger u
    { t := point, cause := 5, interp := 0xFFFF, flags := flags, originAddr := source, originUnit := m.unit
      originState := m.st, originErr := m.errorLog2, originTime := m.crossing
      placed := if valid then ofInt 64 (roundDiv (placedAt - cross) (9 * 2 ^ 32)) else 2 ^ 63 }

/-- Offer a message that this module took to its Remote units. -/
def State.takeTrigger (s : State) (sink source : Nat) (valid : Bool) (pathDelay : Nat) (m : TriggerMsg) : State :=
  let l := s.armedUnits.filter fun u =>
    let b := s.unitConfig u
    ucCond b == 5 && ucSink b == sink && (ucOrigin b == 0xFFFF || ucOrigin b == source)
      && (ucRemoteUnit b == 0xFF || ucRemoteUnit b == m.unit) && ccDomain (s.captureConfig u) == m.domain
  let sec := s.gtc / 1000000000
  let n := if s.acq.received.1 = sec then s.acq.received.2 + 1 else 1
  let t := { s with acq := { s.acq with received := (sec, n) } }
  if l.isEmpty || decide (1000000 < n) then t.discardTrigger
  else
    l.foldl (fun w u => w.offerTrigger u source valid pathDelay m)
      (t.count48ev Od.remoteTriggersReceived 0x848 0x80 0)

/-- TRIGGER: a Trigger message arrives on port `n`. -/
def trigger (n : Nat) (head : XosynHead) (m : TriggerMsg) (s : State) : State :=
  if ¬ (s.xosynUp n ∧ s.twoWay n) then s
  else
    let h := s.arrivedHead n head
    let (t, here) := s.forwardXosyn n 0xA h (encodeTrigger m)
    if ¬ here then t
    else if h.broadcast then t.takeTrigger 0xFFFE h.source h.delayValid h.pathDelay m
    else match t.sinkOf h.source h.flow with
      | none => t.discardTrigger
      | some k =>
        if sinkStream (t.sinkEntry k) ≠ 0xFFFF then t.discardTrigger
        else
          let (t, fresh) := t.takeSink k h
          if fresh then t.takeTrigger k h.source h.delayValid h.pathDelay m else t

def execTrigger (n : Fin 256) (head : XosynHead) (msg : TriggerMsg) (s : State) : Res := .next (trigger n.val head msg s)

/-! ### Memory errors, sources, shedding and resets -/

/-- ACQ_ECC_ERROR (R368): an uncorrectable error in a slot marks its record Suspect. -/
def acqEccError (corrected : Bool) (u k : Nat) (s : State) : State :=
  if corrected then s.count32 Od.acqEccCorrected
  else
    let t := s.count32 Od.acqEccUncorrectable
    match t.unit u with
    | none => t
    | some x =>
      let z := x.slot k
      if z.st = 0 then t
      else
        -- bit 11 of the header's Flags
        let t := t.setUnit u (some (x.setSlot k { z with suspect := true }))
        let t := if 3 ≤ z.st then t.hbmWrite (z.addr + 13) [BitVec.ofNat 8 (byteAt (t.hbmRead (z.addr + 13) 1) 0 ||| 8)] else t
        t.raiseFlag 0x84A 0x05 u true 11 (2 ^ 11)

def execAcqEccError (corrected : Bool) (u : Fin 64) (slot : Fin 256) (s : State) : Res :=
  .next (acqEccError corrected u.val slot.val s)

/-- Units whose capture or condition source has stopped freeze, go Idle and say so (R372). -/
def State.stopLostUnits (s : State) : State :=
  s.armedUnits.foldl (fun w u =>
    if (w.namedSources u).all fun x => (w.source x.1 x.2).isSome then w
    else (w.disarm u).raiseOcc (unitSource u) 0x05 u 6 0) s

/-- Shed level 2: every armed unit freezes its open record and stops (R376). -/
def State.stopUnits (s : State) : State :=
  s.armedUnits.foldl (fun w u =>
    let t := w.freezeRecord u true
    match t.unit u with
    | some x =>
      let t := t.setUnit u (some x.dropCapture)
      if ucFlag (s.unitConfig u) 5 ∨ x.disarmAfter then t.disarm u else t.enterUnit u 5
    | none => t) s

/-- Back at level 0 or 1, Stopped units fill their next free slot. -/
def State.resumeUnits (s : State) : State :=
  s.armedUnits.foldl (fun w u => if w.unitState u = 5 then (match w.unit u with
    | some x => w.resumeUnit u x.active
    | none => w) else w) s

/-- An instance reset disarms the units of the instance's ponds (R374). -/
def State.disarmInstance (s : State) (i : Nat) : State :=
  s.armedUnits.foldl (fun w u => if w.itemInstance 0x05 u = some i then w.disarm u else w) s

end Sys2Proof.Machine
end

