-- ==== Sys2Proof/Machine/Comtrade.lean ====
section
/-! DEFINITION. Export of a record to IEEE C37.111 (R365 to R367). -/

namespace Sys2Proof.Machine

/-! ### Text -/

def ascii (t : String) : Bytes := t.toList.map fun c => BitVec.ofNat 8 c.toNat

/-- The decimal digits of a number. -/
def natText (n : Nat) : Bytes := ascii (toString n)

def intText (i : Int) : Bytes := ascii (toString i)

/-- Exactly `k` digits. -/
def digits (k n : Nat) : Bytes := (List.replicate (k - (natText n).length) 0x30) ++ natText n

def hexDigits : Nat → Nat → Bytes
  | 0, _ => []
  | k + 1, n => hexDigits k (n / 16) ++ [BitVec.ofNat 8 (if n % 16 < 10 then 48 + n % 16 else 55 + n % 16)]

def newLine : Bytes := [13, 10]

/-- Fields with commas, and the end of the line. -/
def csv : List Bytes → Bytes
  | [] => newLine
  | [a] => a ++ newLine
  | a :: r => a ++ ascii "," ++ csv r

/-- Day, month and year of a day counted from 1970-01-01. -/
def civilDate (days : Nat) : Nat × Nat × Nat :=
  let z := days + 719468
  let era := z / 146097
  let doe := z % 146097
  let yoe := (doe - doe / 1460 + doe / 36524 - doe / 146096) / 365
  let doy := doe - (365 * yoe + yoe / 4 - yoe / 100)
  let mp := (5 * doy + 2) / 153
  let d := doy - (153 * mp + 2) / 5 + 1
  let m := if mp < 10 then mp + 3 else mp - 9
  (d, m, yoe + era * 400 + (if m ≤ 2 then 1 else 0))

/-- A time in UTC, truncated to the microsecond: `v` in units of 2^−48/9 ns, `off` seconds of TAI beyond UTC. -/
def dateText (v : Int) (off : Int) : Bytes :=
  let us := (v / (1000 * nsUnits) - off * 1000000).toNat
  let sec := us / 1000000
  let (d, m, y) := civilDate (sec / 86400)
  digits 2 d ++ ascii "/" ++ digits 2 m ++ ascii "/" ++ digits 4 y ++ ascii "," ++ digits 2 (sec % 86400 / 3600)
    ++ ascii ":" ++ digits 2 (sec % 3600 / 60) ++ ascii ":" ++ digits 2 (sec % 60) ++ ascii "." ++ digits 6 (us % 1000000)

/-- TAI seconds and nanoseconds of a TIME number. -/
def taiText (t : Nat) : Bytes :=
  let (s, n, f) := timeParts t
  natText s ++ ascii "." ++ digits 9 n ++ ascii " " ++ natText f

/-! ### Channels of a record in memory -/

/-- A channel of the record (Table 9-8). -/
structure ExpChan where
  kind : Nat
  num : Nat
  word : Nat
  group : Nat
  rate : Nat
  first : Nat
  count : Nat
  len : Nat
  start : Nat
  data : Nat
  quality : Nat
  factor : Nat
  offset : Nat
  crcOk : Bool
  deriving DecidableEq, Repr

def State.expChan (s : State) (addr i : Nat) : ExpChan :=
  let b := s.hbmRead (addr + 256 + 64 * i) 64
  let rate := leAt b 8 4
  let len := leAt b 28 4
  let word := byteAt b 1
  let group := max 1 (byteAt b 2)
  let data := addr + leAt b 40 8
  let q := addr + leAt b 48 8
  { kind := byteAt b 0, num := leAt b 4 2, word := word, group := group, rate := rate
    first := leAt b 16 8 * rate + leAt b 12 4, count := leAt b 24 4, len := len, start := leAt b 32 4
    data := data, quality := q, factor := leAt b 56 4, offset := leAt b 60 4
    crcOk := crc32c (s.hbmRead data (len * word) ++ s.hbmRead q (len / group * 4)) == leAt b 36 4 }

/-- Stored word `i` of a channel and its quality. -/
def State.expWord (s : State) (c : ExpChan) (i : Nat) : Int × Nat :=
  let p := if c.len = 0 then 0 else (c.start + i) % c.len
  let w := ofLE (s.hbmRead (c.data + p * c.word) c.word)
  (if floatKind c.kind then (w : Int) else toInt (8 * c.word) w, ofLE (s.hbmRead (c.quality + p / c.group * 4) 4))

/-- The right shift of a channel of I64 words (R365): the smallest that fits every word. -/
def State.expShift (s : State) (c : ExpChan) : Nat :=
  if c.word ≠ 8 then 0
  else
    let l := (numbersFrom 0 c.count).map fun i => (s.expWord c i).1
    ((numbersFrom 0 33).find? fun m => l.all fun w => decide ((roundShift w m).natAbs < 2 ^ 31)).getD 32

/-- The name of a channel by its slot. -/
def State.expName (s : State) (c : ExpChan) : Bytes :=
  match c.kind with
  | 2 | 9 | 10 | 11 => ascii "WCH " ++ natText c.num
  | 12 | 13 => ascii "CH " ++ natText (pcSource (s.phasorConfig c.num))
  | 14 | 15 => ascii "TR " ++ natText c.num
  | _ => ascii "CH " ++ natText c.num

/-- tmq_code: the smallest code whose bound is not below the error. -/
def tmqCode (log2 : Nat) : Bytes :=
  if log2 = 0xFF then ascii "F"
  else match (numbersFrom 1 11).find? fun k => decide (2 ^ log2 ≤ 10 ^ (k - 1)) with
    | some k => hexDigits 1 k
    | none => ascii "F"

/-- Status words of 16 channels each; a record has at most 32. -/
def statusWords (l : List Bool) : Bytes :=
  let word (r : List Bool) : Bytes := toLE 2 (r.foldr (fun b a => a * 2 + boolNat b) 0)
  (if l.isEmpty then [] else word (l.take 16)) ++ (if 16 < l.length then word (l.drop 16) else [])

/-- The export file of the record at `addr` of a unit, and whether a CRC failed. -/
def State.exportFile (s : State) (addr : Nat) : Bytes × Bool :=
  let h := s.hbmRead addr 256
  let float := s.num Od.exportFloat == 1
  let d := byteAt h 7
  let k := byteAt h 82
  let all := (numbersFrom 0 (leAt h 80 2)).map (s.expChan addr)
  let rate := if s.num Od.exportRate = 0 then ((all.head?).map (·.rate)).getD 0 else s.num Od.exportRate
  let chosen (c : ExpChan) : Bool := c.rate == rate && (float || !floatKind c.kind)
  let inn := all.filter chosen
  let out := all.filter fun c => !chosen c
  let shifted := inn.map fun c => (c, if float then 0 else s.expShift c)
  let suspect := leAt h 252 4 != crc32c (h.take 252) || all.any fun c => !c.crcOk
  let from_ := inn.foldl (fun a c => max a c.first) 0
  let upto := inn.foldl (fun a c => min a (c.first + c.count)) ((inn.head?.map fun c => c.first + c.count).getD 0)
  let rows := upto - from_
  let tai : Int := toInt 32 (s.num (Od.taiUtcOffset + 256 * d))
  let trig := leAt h 24 6 * 2 ^ 48 + leAt h 16 4 * 2 ^ 16 + leAt h 20 2
  let orig := leAt h 120 6 * 2 ^ 48 + leAt h 112 4 * 2 ^ 16 + leAt h 116 2
  let n := inn.length
  let q := s.domQuality d
  let leap := if q.testBit 13 then 1 else if q.testBit 12 then 2 else 0
  let num (i : Nat) := natText (i + 1)
  let idx := numbersFrom 0 n
    let limit := natText 2147483647
  let a (c : ExpChan) (m : Nat) : Nat :=
    fmul (fdiv (widen c.factor) (d64 (2 ^ (if c.kind ≤ 2 then k else 0)))) (d64 (2 ^ m))
  let cfg := csv [[], natText (leAt h 96 8), ascii "2013"]
    ++ csv [natText (2 * n), natText n ++ ascii "A", natText n ++ ascii "D"]
    ++ ((idx.zip shifted).flatMap fun x => csv [num x.1, s.expName x.2.1, [], [], [], Config.decimalText (a x.2.1 x.2.2),
        Config.decimalText (widen x.2.1.offset), ascii "0", ascii "-" ++ limit, limit, ascii "1", ascii "1", ascii "P"])
    ++ ((idx.zip shifted).flatMap fun x => csv [num x.1, s.expName x.2.1 ++ ascii " valid", [], [], ascii "0"])
    ++ csv [[]] ++ csv [ascii "1"] ++ csv [natText rate, natText rows]
    ++ dateText (if rate = 0 then 0 else instantUnits from_ rate 1) tai ++ newLine
    ++ dateText (valueOfTime trig * 9) tai ++ newLine
    ++ (if float then ascii "FLOAT32" else ascii "BINARY32") ++ newLine ++ csv [ascii "1"]
    ++ csv [ascii "0", ascii "0"] ++ csv [tmqCode (q % 256), natText leap]
  let inf := ascii "[Ovmond KDM7256]" ++ newLine ++ ascii "TriggerTime=" ++ taiText trig ++ newLine
    ++ ascii "OriginTime=" ++ taiText orig ++ newLine ++ ascii "Interp=" ++ natText (leAt h 42 2) ++ newLine
    ++ ascii "PlacedOffset=" ++ intText (toInt 64 (leAt h 192 8)) ++ newLine
    ++ ascii "Flags=" ++ hexDigits 8 (leAt h 12 4) ++ newLine
    ++ (if suspect then ascii "Suspect=1" ++ newLine else [])
    ++ ((numbersFrom 0 (min 8 (byteAt h 41 - 1))).flatMap fun i =>
        ascii "Retrigger=" ++ intText (toInt 64 (leAt h (128 + 8 * i) 8)) ++ newLine)
    ++ (shifted.flatMap fun x => if x.1.word = 8 ∧ ¬ float then ascii "Shift=" ++ s.expName x.1 ++ ascii "," ++ natText x.2 ++ newLine else [])
    ++ (out.flatMap fun c => ascii "LeftOut=" ++ s.expName c ++ newLine)
  let hdr := ascii "Serial " ++ natText (leAt h 96 8) ++ newLine ++ ascii "Address " ++ hexDigits 4 (leAt h 104 2) ++ newLine
    ++ ascii "Unit " ++ natText (byteAt h 6) ++ newLine
  let data := (numbersFrom 0 rows).flatMap fun r =>
    let ws := shifted.map fun x => (x, s.expWord x.1 (from_ + r - x.1.first))
    toLE 4 (r + 1) ++ toLE 4 0xFFFFFFFF
      ++ (ws.flatMap fun y =>
        if float then toLE 4 (if floatKind y.1.1.kind then y.2.1.toNat else (f32.ofRat y.2.1 1).1)
        else toLE 4 (ofInt 32 (roundShift y.2.1 y.1.2)))
      ++ statusWords (ws.map fun y => y.2.2 % 4 == 0 || y.2.2 % 4 == 3)
  let sec (t : String) : Bytes := ascii "--- file type: " ++ ascii t ++ ascii " ---" ++ newLine
  (sec "CFG" ++ cfg ++ sec "INF" ++ inf ++ sec "HDR" ++ hdr
    ++ ascii (if float then "--- file type: DAT FLOAT32: " else "--- file type: DAT BINARY32: ") ++ natText data.length
    ++ ascii " ---" ++ newLine ++ data, suspect)

/-- EXPORT_REQUEST (R367). -/
def exportRequest (who : Caller) (value : Nat) (s : State) : Act := do
  s.gateRange who Od.exportRequest false 0 (.num value)
  let u := value / 256
  let k := value % 256
  need (decide (u < 64)) .outOfRange
  let x := (s.unit u).getD .init
  let z := x.slot k
  need (z.st == 3 || z.st == 4 || z.st == 5) .precondition
  let b := (s.exportFile z.addr).1
  let target := s.num Od.exportTarget
  need (s.tenantHolds who 0x05 u && ((pagesOf target b.length).all fun p => s.tenantHolds who 0x0A p)) .notOwner
  need (decide (b.length ≤ s.num Od.exportLimit)) .noResource
  need s.acq.export_.isNone .inProgress
  let t := s.setUnit u (some (x.setSlot k { z with st := 5 }))
  .ok (({ t with acq := { t.acq with export_ := some (u, k, z.st) } }).setNum Od.exportStatus 1)

def execExportRequest (who : Caller) (value : Nat) (s : State) : Res := .next (s.answer who (exportRequest who value s))

/-- EXPORT_DONE: the file stands at ExportTarget, or its writing failed. -/
def exportDone (failed : Bool) (s : State) : State :=
  match s.acq.export_ with
  | none => s
  | some (u, k, st) =>
    let x := (s.unit u).getD .init
    let z := x.slot k
    let (b, suspect) := s.exportFile z.addr
    let new := if failed then 3 else if suspect then 4 else 2
    let t := if failed then s else (s.hbmWrite (s.num Od.exportTarget) b).setNum Od.exportLength b.length
    let t := (t.setUnit u (some (x.setSlot k { z with st := st }))).setNum Od.exportStatus new
    let t := { t with acq := { t.acq with export_ := none } }
    let t := if t.unitState u = 4 then t.resumeUnit u x.active else t
    t.raiseState 0x849 0x80 0 1 new 0 (u * 256 + k)

def execExportDone (failed : Bool) (s : State) : Res := .next (exportDone failed s)

end Sys2Proof.Machine
end

