-- ==== Sys2Proof/Machine/Scan.lean ====
section
/-! DEFINITION. Scan processors, programs, image layout, admission and faults (Chapter 10, R377 to R398, R407 to R410). -/

namespace Sys2Proof.Machine

def State.setScan (s : State) (i : Nat) (x : ScanSt) : State :=
  { s with scan := { s.scan with insts := tabSet none s.scan.insts i (some x) } }

/-! ### Configuration (Table 10-14) and events (R412) -/

/-- P in ns of a ScanPeriod code (Table 10-1). -/
def periodNs : Nat → Nat
  | 0 => 62500 | 1 => 125000 | 2 => 250000 | 3 => 500000 | 4 => 1000000 | 5 => 2000000 | 6 => 5000000 | _ => 10000000

def State.scanP (s : State) (i : Nat) : Nat := periodNs (s.num Od.scanPeriod i)
def State.scanM (s : State) (i : Nat) : Nat := s.num Od.alignMargin i
def State.scanA (s : State) (i : Nat) : Nat := s.num Od.arrivalAllowance i
def State.scanSp (s : State) (i : Nat) : Nat := s.num Od.scanProcessor i
def State.scanD (s : State) (i : Nat) : Nat := s.num Od.scanDomain i
def State.instState (s : State) (i : Nat) : Nat := s.num Od.instanceState i

/-- The instance scans by InstanceState. -/
def State.instRunningState (s : State) (i : Nat) : Bool := s.instState i == 2 || s.instState i == 3

def instSource (i : Nat) : Nat := 0x900 + 2 * i

def State.instRaise (s : State) (i code detail : Nat) : State := s.raiseIn (s.instDie i) (instSource i) code 0x81 i detail

/-- Enter an instance state, with its event, which carries FaultCause. -/
def State.enterInst (s : State) (i st cause : Nat) : State :=
  let old := s.instState i
  if old = st then s else (s.setNum Od.instanceState st i).instRaise i (0x1000 + st) (payState old st cause 0)

/-- An occurrence of the instance's source, with a value; and `k` drops, limited by R223 (class 0x4). -/
def State.instOcc (s : State) (i pos value : Nat) : State := s.instRaise i (0xA000 + pos) (value % 2 ^ 64 + 2 ^ 64)

def State.instLimited (s : State) (i code k : Nat) : State :=
  let key := (instSource i * 2 ^ 16 + code) * 2 ^ 32 + itemKey 0x81 i
  let (next, n) := tabGet (0, 0) s.inst.rateLimit key
  let put (t : State) (x : Nat × Nat) : State :=
    { t with inst := { t.inst with rateLimit := tabSet (0, 0) t.inst.rateLimit key x } }
  if k = 0 then s
  else if s.gtc < next then put s (next, n + k)
  else (put s (s.gtc + 1000000000, 0)).instRaise i code (n + k)

/-- The completion of an action of the instance. -/
def State.instDone (s : State) (i id code : Nat) : State := s.instRaise i (0x5000 + id % 256) (payDone (id / 256) code)

/-- The instances that are assigned to processor `p` and running. -/
def State.spRunning (s : State) (p : Nat) : List Nat := s.inst.present.filter fun i => s.instRunningState i && s.scanSp i == p

def spSource (p : Nat) : Nat := 0xC20 + p
def spDie (p : Nat) : Die := if p < 16 then .c0 else .c1
def State.spRaise (s : State) (p code detail : Nat) : State := s.raiseIn (spDie p) (spSource p) code 0x89 (p + 0x100) detail

def State.enterSp (s : State) (p st : Nat) : State :=
  let old := s.num (Od.spState + p)
  if old = st then s else (s.setNum (Od.spState + p) st).spRaise p (0x1000 + st) (payState old st 0 0)

/-! ### The input image's layout (R392 to R394) -/

/-- The domain, rate and block length of an image source; kinds 16 to 18 have none. -/
def State.imageSource (s : State) (kind num : Nat) : Option (Nat × Nat × Nat) :=
  s.source (if kind = 19 then 12 else if kind = 20 then 14 else kind) num

/-- The bytes of an element (Table 10-10). -/
def elementBytes (kind : Nat) : Nat :=
  match kind with
  | 2 => 2 | 3 => 16 | 16 => 48 | 19 => 24 | 20 => 16 | _ => 8

def align8 (n : Nat) : Nat := ceilDiv n 8 * 8

/-- The quality words of a kind 2 entry. -/
def maxBlocks (max step : Nat) : Nat := ceilDiv max (Nat.max 1 step) + 1

/-- The size of an entry. -/
def entrySize (kind max step : Nat) : Nat :=
  16 + align8 (if kind = 2 then ceilDiv (2 * max) 4 * 4 + 4 * maxBlocks max step else max * elementBytes kind)

/-- Lay out the entries of a map from a data offset on, for period `P`. -/
def State.layoutFrom (s : State) (p : Nat) : Nat → List MapEnt → List EntryLay
  | _, [] => []
  | off, m :: r =>
    let (rate, step) := match s.imageSource m.kind m.num with
      | some (_, f, st) => (f, st)
      | none => (0, 1)
    let max := if m.mode = 1 then 1 else ceilDiv (p * rate) 1000000000
    let size := entrySize m.kind max step
    ⟨m.kind, m.num, m.mode, off, max, rate, step, size⟩ :: s.layoutFrom p (off + size) r

def State.layoutOf (s : State) (i : Nat) (p : Prog) : List EntryLay := s.layoutFrom (s.scanP i) (p.imageOffset + 64) p.map

/-- The size of an image (R392). -/
def imageSize (l : List EntryLay) : Nat := 64 + (l.map (·.size)).sum

/-! ### Programs (Tables 10-2 to 10-4) -/

/-- The places of the sections of an image: map, layout, code, initial data, end. -/
def imageSections (b : Bytes) : Nat × Nat × Nat × Nat × Nat :=
  let map := 128
  let lay := align64 (map + 8 * leAt b 24 2)
  let code := align64 (lay + 16 * leAt b 26 2)
  let init := align64 (code + leAt b 8 4)
  (map, lay, code, init, init + leAt b 16 4)

/-- The number of octets of the image whose header is `b`. -/
def imageLength (b : Bytes) : Nat := (imageSections b).2.2.2.2

def parseMap (b : Bytes) (n : Nat) : List MapEnt :=
  (numbersFrom 0 n).map fun i => ⟨byteAt b (8 * i), byteAt b (8 * i + 1), leAt b (8 * i + 2) 2⟩

def parseLayout (b : Bytes) (n : Nat) : List LayEnt :=
  (numbersFrom 0 n).map fun i =>
    ⟨leAt b (16 * i) 4, leAt b (16 * i + 4) 4, leAt b (16 * i + 8) 4, leAt b (16 * i + 12) 2, leAt b (16 * i + 14) 2⟩

def LayEnt.carry (v : LayEnt) : Bool := v.flags.testBit 0
def LayEnt.retained (v : LayEnt) : Bool := v.flags.testBit 1

def parseProgram (b : Bytes) : Prog :=
  let (map, lay, code, init, _) := imageSections b
  { dataSize := leAt b 12 4, budget := leAt b 20 4, imageOffset := leAt b 28 4, imageArea := leAt b 32 4
    outputOffset := leAt b 36 4, varOffset := leAt b 40 4, varSize := leAt b 44 4, retOffset := leAt b 48 4
    retSize := leAt b 52 4, entry := leAt b 56 4, version := leAt b 60 4, id := leAt b 64 8, digest := slice b 72 48
    map := parseMap (b.drop map) (leAt b 24 2), layout := parseLayout (b.drop lay) (leAt b 26 2)
    code := slice b code (leAt b 8 4), init := slice b init (leAt b 16 4) }

/-- Ranges (offset, size) do not overlap; empty ones never do. -/
def disjoint : List (Nat × Nat) → Bool
  | [] => true
  | (o, n) :: r => (r.all fun x => n == 0 || x.2 == 0 || decide (o + n ≤ x.1) || decide (x.1 + x.2 ≤ o)) && disjoint r

/-- The VarIds of a layout table are unique. -/
def uniqueIds : List Nat → Bool
  | [] => true
  | a :: r => !r.contains a && uniqueIds r

/-- A kind of Table 10-10 with a mode it allows. -/
def mapAllowed (m : MapEnt) : Bool :=
  decide (1 ≤ m.kind) && decide (m.kind ≤ 20) && decide (m.mode ≤ 1) && (!(decide (16 ≤ m.kind) && decide (m.kind ≤ 18)) || m.mode == 1)

/-- The checks of Table 10-4 in order. -/
def State.checkProgram (s : State) (b : Bytes) : Except Code Prog := do
  let (map, lay, _, _, _) := imageSections b
  let n := leAt b 24 2
  let v := leAt b 26 2
  need (leAt b 0 4 == 0x53434E4B && leAt b 4 2 == 1 && leAt b 120 8 == 0
    && (numbersFrom 0 n).all (fun i => leAt b (map + 8 * i + 4) 4 == 0)
    && (numbersFrom 0 v).all (fun i => decide (leAt b (lay + 16 * i + 14) 2 < 4))
    && decide (imageLength b ≤ b.length)) .verifyFailed
  need (sha384 (splice b 72 (List.replicate 48 0)) == slice b 72 48) .verifyFailed
  let rev := s.num Od.scanIsaRevision
  need (decide (rev % 2 ^ 16 ≤ leAt b 6 2) && decide (leAt b 6 2 ≤ rev / 2 ^ 16)) .precondition
  let p := parseProgram b
  let code := leAt b 8 4
  let init := leAt b 16 4
  let regions := [(p.imageOffset, p.imageArea), (p.outputOffset, 2112), (p.varOffset, p.varSize), (p.retOffset, p.retSize)]
  need (decide (4 ≤ code) && decide (code ≤ 262144) && code % 4 == 0 && decide (4096 ≤ p.dataSize)
    && decide (p.dataSize ≤ 262144) && p.dataSize % 4096 == 0 && decide (init ≤ p.dataSize)
    && decide (1600 ≤ p.budget) && decide (p.budget ≤ 15998400) && decide (1 ≤ n) && decide (n ≤ 512) && decide (v ≤ 8192)
    && p.imageOffset % 64 == 0 && p.outputOffset % 64 == 0 && p.retOffset % 64 == 0 && decide (p.varSize ≤ 16384)
    && decide (p.retSize ≤ 65536) && regions.all (fun x => decide (x.1 + x.2 ≤ p.dataSize)) && disjoint regions
    && p.layout.all (fun x => decide (1 ≤ x.size) && decide (x.size ≤ 65536) && decide (x.off + x.size ≤ p.dataSize))
    && uniqueIds (p.layout.map (·.var))) .outOfRange
  need (p.map.all mapAllowed
    && p.layout.all fun x => !x.retained || (decide (p.retOffset ≤ x.off) && decide (x.off + x.size ≤ p.retOffset + p.retSize))) .outOfRange
  .ok p

/-! ### Admission (R388 to R390) -/

/-- The execution budget of a program in an instance, in units of 1/32 ns. -/
def State.execBudget (s : State) (i : Nat) (p : Prog) (image : Nat) : Nat :=
  let cycles := p.budget + ceilDiv p.budget 16 + 128
  let gap := s.scanP i + s.scanA i - s.scanM i
  16000 + image + cycles * 20 + (if p.retSize = 0 then 0 else (4000 - gap) * 32)

/-- The octets that the basket adds to an image copy (R531). -/
def State.basketBytes (s : State) (i : Nat) : Nat := if s.num Od.basketEnable i = 1 then 4096 else 0

/-- The budget of the program that instance `i` runs. -/
def State.runningBudget (s : State) (i : Nat) : Nat :=
  match (s.scanOf i).prog with
  | some p => s.execBudget i p (imageSize (s.scanOf i).lay + s.basketBytes i)
  | none => 0

/-- The jobs of an instance over two cycles of 10 ms: release, deadline (ns, offset by 20 ms) and cost. -/
def State.jobsOf (s : State) (i cost : Nat) : List (Nat × Nat × Nat) :=
  let p := s.scanP i
  (numbersFrom 0 (40000000 / p)).map fun k =>
    (20000000 + k * p + s.scanA i - s.scanM i, 20000000 + k * p - 20000, cost)

/-- The sum of budget over period in 1/(32 × 10^7) units. -/
def State.spLoad (s : State) (l : List (Nat × Nat)) : Nat := (l.map fun x => x.2 * (10000000 / s.scanP x.1)).sum

/-- The demand check of R390 over the instances with their budgets; `extra` is 2 µs while a switch is pending. -/
def State.demandFits (s : State) (l : List (Nat × Nat)) (extra : Nat) : Bool :=
  let jobs := l.flatMap fun x => s.jobsOf x.1 x.2
  let rs := ((jobs.map fun j => j.1).filter fun r => decide (20000000 ≤ r) && decide (r < 30000000)).eraseDups
  let ds := (jobs.map fun j => j.2.1).eraseDups
  rs.all fun r => ds.all fun d =>
    decide (d ≤ r) || decide (r + 10000000 < d)
      || decide (((jobs.filter fun j => decide (r ≤ j.1) && decide (j.2.1 ≤ d)).map fun j => j.2.2).sum + extra * 32 ≤ (d - r) * 32)

/-- A ferry switch is pending on the processor. -/
def State.spSwitching (s : State) (p : Nat) : Bool := (s.spRunning p).any fun i => (s.scanOf i).switchAt.isSome

/-- R389 and R390 for instance `i` at a cost, with `switching` of its own. -/
def State.scanAdmits (s : State) (i cost : Nat) (switching : Bool) : Bool :=
  let p := s.scanSp i
  let l := (i, cost) :: ((s.spRunning p).filter (· != i)).map fun j => (j, s.runningBudget j)
  decide (s.spLoad l * 100 ≤ 85 * 320000000) && s.demandFits l (if switching || s.spSwitching p then 2000 else 0)

/-- Code and data memory that the running instances of a processor hold, with candidates that passed and programs kept by
R481. -/
def State.spUsed (s : State) (p : Nat) : Nat × Nat :=
  (s.spRunning p).foldl (fun a i =>
    let x := s.scanOf i
    let size (o : Option Prog) : Nat × Nat := match o with
      | some q => (q.code.length, q.dataSize)
      | none => (0, 0)
    let old := match tabGet none s.pair.insts i with
      | some y => size (y.oldProg.map fun (z : Prog × List Host.Cell) => z.1)
      | none => (0, 0)
    (a.1 + (size x.prog).1 + (size x.cand).1 + old.1, a.2 + (size x.prog).2 + (size x.cand).2 + old.2)) (0, 0)

/-- The energy charge of an instance (Table 18-2) in mW. -/
def State.instCharge (s : State) (i budget : Nat) : Nat × Nat :=
  (20 * (32 * s.scanP i) + budget * 2000, 32 * s.scanP i)

/-! ### Faults, overrun and the end of a scan -/

/-- Charge nothing more for a block that stopped (R637). -/
def State.releaseInst (s : State) (i : Nat) : State := s.setCharge 0x81 i (0, 1)

def State.instPairState (s : State) (i : Nat) : Nat := s.num Od.instancePairState i

def pairInstSource (i : Nat) : Nat := 0xB10 + i / 16

/-- Enter a state of Table 12-6. -/
def State.setInstPair (s : State) (i st : Nat) : State :=
  let old := s.instPairState i
  if old = st then s else (s.setNum Od.instancePairState st i).raiseState (pairInstSource i) 0x81 i old st 0 0

/-- Fewer than AutoRestartLimit automatic starts have occurred in the preceding hour (R398). -/
def State.autoAllowed (s : State) (i : Nat) : Bool :=
  decide (((s.scanOf i).autoStarts.filter fun g => decide (s.gtc < g + 3600000000000)).length < s.num Od.autoRestartLimit i)

/-- The instance becomes Faulted (Table 10-5): a pending switch is withdrawn (R410), and safe outputs follow at the next
boundary. -/
def State.faultInstance (s : State) (i cause : Nat) : State :=
  if ¬ s.instRunningState i then s
  else
    let x := s.scanOf i
    let y := { x with phase := 2, switchAt := none, safeDue := true, commits := [], extra := 0, stopDue := false
                      faultAt := s.gtc, autoWanted := (cause == 1 || cause == 2 || cause == 4 || cause == 6) && s.autoAllowed i }
    let t := (s.setScan i y).setNum Od.faultCause cause i
    let t := if x.switchAt.isSome then t.setNum Od.ferryState 2 i else t
    ((t.enterInst i 4 cause).releaseInst i).setInstPair i 0

/-- The scan overruns (R397): cause 1 Overrun or 2 Deadline. In the last scan before a switch the switch still takes
place (R410). -/
def State.overrunInst (s : State) (i cause : Nat) : State :=
  let x := s.scanOf i
  let pending := if x.switchAt = some (x.scan + 1) then x.switchAt else none
  let t := (s.faultInstance i cause).count32 Od.overruns 1 i
  let t := if pending.isSome then (t.setScan i { t.scanOf i with switchAt := pending }).setNum Od.ferryState 3 i else t
  t.instOcc i 2 cause

/-- The GTC at which the domain reaches boundary number `k` of period `P`. -/
def State.boundaryValue (s : State) (i k : Nat) : Int := ((k * s.scanP i : Nat) : Int) * 2 ^ 48

/-- The GTC of the instance's boundary under way; one at a step instant keeps the GTC of the step. -/
def State.boundaryGtc (s : State) (i : Nat) : Option Nat :=
  let x := s.scanOf i
  match x.dueGtc with
  | some g => some g
  | none => (s.dom (s.scanD i)).gtcOf (s.boundaryValue i x.boundary)

/-- The deadline B_k − 20 µs has come. -/
def State.deadlinePassed (s : State) (i : Nat) : Bool :=
  match s.boundaryGtc i with
  | some g => decide (g ≤ s.gtc + 20000)
  | none => false

/-- Bytes of an instance's data memory. -/
def ScanSt.read (x : ScanSt) (a n : Nat) : Bytes := memRead x.data a n

/-- The output digest (R395): the area's header, its first CommitCount entries and the output variables. -/
def ScanSt.digestOut (x : ScanSt) (p : Prog) : Nat :=
  let n := min 64 (ofLE (x.read p.outputOffset 2))
  ofBE ((sha256 (x.read p.outputOffset (16 + 32 * n) ++ x.read p.varOffset p.varSize)).take 8)

/-- A commit entry (Table 10-12); its form is right when `ok`. -/
def commitOf (b : Bytes) : CommitEnt :=
  let op := byteAt b 1
  let width := leAt b 4 4
  let timed := (byteAt b 2).testBit 0
  let t := leAt b 16 6 * 2 ^ 48 + leAt b 8 4 * 2 ^ 16 + leAt b 12 2
  { pin := byteAt b 0, op := op, at_ := if timed then some t else none, width := width, tag := leAt b 24 8
    ok := decide (byteAt b 0 < 48) && decide (op ≤ 4) && byteAt b 2 / 2 == 0 && byteAt b 3 == 0
      && (op != 3 || (decide (4 ≤ width) && decide (width ≤ 2000000000)))
      && (!timed || (leAt b 14 2 == 0 && leAt b 22 2 == 0 && decide (leAt b 8 4 < 1000000000))) }

/-- The commit entry of the output area at data offset `a`. -/
def ScanSt.commitAt (x : ScanSt) (a : Nat) : CommitEnt := commitOf (x.read a 32)

/-- ENDSCAN (R438): the engine reads the output area and computes OutputDigest. -/
def State.endScan (s : State) (i : Nat) : State :=
  let x := s.scanOf i
  match x.prog with
  | none => s
  | some p =>
    let n := ofLE (x.read p.outputOffset 2)
    let d := x.digestOut p
    let c := x.isa.cycles
    let y := { x with phase := 2, outDigest := d, extra := n - 64
                      commits := (numbersFrom 0 (min 64 n)).map fun j => x.commitAt (p.outputOffset + 16 + 32 * j) }
    let t := ((s.setScan i y).setNum Od.outputDigest d i).setNum Od.lastExecCycles c i
    t.setNum Od.maxExecCycles (max c (s.num Od.maxExecCycles i)) i

/-- Among the ready jobs of its processor this instance's comes first: the earliest deadline, then the lower instance
number (R391). -/
def State.jobFirst (s : State) (i : Nat) : Bool :=
  let key (j : Nat) : Nat := (s.boundaryGtc j).getD 0
  (s.spRunning (s.scanSp i)).all fun j =>
    j == i || (s.scanOf j).phase != 1 || decide (key i < key j) || (key i == key j && decide (i < j))

/-- The instance executes its scan now. -/
def State.executing (s : State) (i : Nat) : Bool :=
  s.instState i == 3 && (s.scanOf i).phase == 1 && s.num (Od.spState + s.scanSp i) == 0 && s.jobFirst i

/-! ### Processor events (R377 to R380) -/

/-- LOCKSTEP_MISMATCH (R378). -/
def lockstepMismatch (p : Nat) (s : State) : State :=
  if s.num (Od.spState + p) ≠ 0 then s
  else
    let t := (s.enterSp p 1).count32 (Od.spLockstepErrors + p)
    (s.spRunning p).foldl (fun u i => u.faultInstance i 5) t

def execLockstepMismatch (p : Fin 32) (s : State) : Res := .next (lockstepMismatch p.val s)

/-- SpRecover (R379). -/
def spRecover (who : Caller) (p value : Nat) (s : State) : Act := do
  s.gateRange who (Od.spRecover + p) false 0 (.num value)
  need (s.spRunning p).isEmpty .busy
  if s.num (Od.spState + p) = 1 then
    let t := s.enterSp p 2
    .ok { t with scan := { t.scan with testing := tabSet none t.scan.testing p (some t.gtc) } }
  else .ok s

def execSpRecover (who : Caller) (p : Fin 32) (value : Nat) (s : State) : Res := .next (s.answer who (spRecover who p.val value s))

/-- SP_SELF_TEST_DONE: Ready with its memories cleared, or Failed. -/
def spSelfTestDone (p : Nat) (pass : Bool) (s : State) : State :=
  if s.num (Od.spState + p) = 2 then
    let t := { s with scan := { s.scan with testing := tabSet none s.scan.testing p none } }
    t.enterSp p (if pass then 0 else 3)
  else s

def execSpSelfTestDone (p : Fin 32) (pass : Bool) (s : State) : Res := .next (spSelfTestDone p.val pass s)

/-- SP_ECC_ERROR (R380). -/
def spEccError (p : Nat) (corrected code : Bool) (i : Nat) (s : State) : State :=
  if corrected then s.count32 (Od.spEccCorrected + p)
  else
    let t := s.spRaise p 0xA002 (i + 2 ^ 64)
    if s.instExists i ∧ s.scanSp i = p then t.faultInstance i (if code then 3 else 4) else t

def execSpEccError (p : Fin 32) (corrected : Bool) (code : Bool) (inst : Fin 256) (s : State) : Res :=
  .next (spEccError p.val corrected code inst.val s)

/-- SP_SCRUB_PASS: a pass longer than 100 ms raises an event. -/
def spScrubPass (p micros : Nat) (s : State) : State := if 100000 < micros then s.spRaise p 0xA003 (micros % 2 ^ 64 + 2 ^ 64) else s

def execSpScrubPass (p : Fin 32) (micros : Nat) (s : State) : Res := .next (spScrubPass p.val micros s)

end Sys2Proof.Machine
end

