-- ==== Sys2Proof/Machine/LocalIo.lean ====
section
/-! DEFINITION. Fast I/O, pulse generators and local sense (Chapter 13, and R140 to R143 of Chapter 3). -/

namespace Sys2Proof.Machine

def State.pin (s : State) (n : Nat) : Pin := tabGet .init s.fio.pins n

def State.setPin (s : State) (n : Nat) (x : Pin) : State :=
  { s with fio := { s.fio with pins := tabSet .init s.fio.pins n x } }

def State.setQueue (s : State) (q : List FioEnt) : State := { s with fio := { s.fio with queue := q } }

def State.pinClass (s : State) (n : Nat) : Nat := s.num (Od.fioClass + n)

def pinSource (n : Nat) : Nat := 0xB80 + n

/-- The instance whose ponds hold a pin. -/
def State.pinInstance (s : State) (n : Nat) : Option Nat := s.itemInstance 0x06 n

/-- The pins held by an instance's ponds. -/
def State.pinsOf (s : State) (i : Nat) : List Nat := (numbersFrom 0 48).filter fun n => s.pinInstance n == some i

/-! ### Placing a domain instant on the GTC (R140, R494, R495) -/

/-- The first instant from `since` on at which the value is `v` or more, in half nanoseconds to nearest even, and whether a
forward step skips `v`; `old` is the parameter set before these, oldest first. -/
def placeFrom (since : Nat) (v : Int) : Option TParam → List TParam → Option (Nat × Bool)
  | _, [] => none
  | old, p :: r =>
    let a := max p.g since
    let here := match r with
      | [] => true
      | q :: _ => decide (a < q.g) && decide (v < p.valueAt q.g)
    if here then
      if v ≤ p.valueAt a then
        let skipped := match old with
          | some o => a == p.g && decide (o.valueAt p.g ≤ v) && decide (v < p.d)
          | none => false
        some (2 * a, skipped)
      else some ((2 * (p.g : Int) + roundDiv (2 * (v - p.d)) (rateOne + p.r).toNat).toNat, false)
    else placeFrom since v (some p) r

/-- Place value `v` of a domain; nothing falls in a disabled one. -/
def Dom.place (x : Dom) (since : Nat) (v : Int) : Option (Nat × Bool) :=
  if x.state = 0 then none else placeFrom since v none x.params.reverse

/-! ### Trip authority (R464) -/

/-- A hard cause of Table 12-8 is present: an authority test of Table 12-11 has failed. -/
def State.hardCause (s : State) : Bool := (numbersFrom 0 4).any fun t => (tabGet none s.pair.tests t).isSome

/-- The lease is unexpired (R462). -/
def State.leaseLive (s : State) : Bool :=
  let x := s.dom (s.num Od.pairDomain)
  match s.pair.expires with
  | some e => x.state != 0 && decide (x.valueAt s.gtc < e)
  | none => false

/-- The authority net is asserted. -/
def State.authority (s : State) : Bool := s.pair.gained && s.pair.claimOut && s.leaseLive && !s.hardCause

/-! ### Levels and words (Tables 13-1, 13-4 and 13-5) -/

/-- What the module drives on a pin: none for high impedance, else true for the active level (R489, R498, R518). -/
def State.pinDriven (s : State) (n : Nat) : Option Bool :=
  if 4 ≤ s.shedLevel then none
  else match s.pinClass n with
    | 1 => some (s.authority && (s.pin n).level)
    | 2 => some (s.pin n).level
    | _ => none

/-- The level read at a pin: the accepted one of an input, the readback of an output. -/
def State.pinLevel (s : State) (n : Nat) : Bool :=
  match s.pinDriven n with
  | some l => l != (s.pin n).readFault
  | none => s.pinClass n == 3 && (s.pin n).input

/-- Edges accepted after one GTC and up to another, saturating at 255. -/
def Pin.edgesIn (x : Pin) (a b : Nat) : Nat := satAt 255 (x.edges.filter fun g => decide (a < g) && decide (g ≤ b)).length

/-- The level word (Table 13-4) with `e` edges. -/
def levelWord (level chatter : Bool) (e : Nat) : Nat := e * 256 + boolNat chatter * 4 + boolNat (e != 0) * 2 + boolNat level

def State.pinLevelWord (s : State) (n : Nat) : Nat :=
  levelWord (s.pinLevel n) (s.pin n).chatterAt.isSome ((s.pin n).edgesIn (s.gtc - 1000000) s.gtc)

def State.pinFlags (s : State) (n : Nat) : Nat :=
  let x := s.pin n
  let c := s.pinClass n
  let held := c == 1 && s.fio.queue.any fun e => e.held && e.pin == n
  c * 32 + boolNat held * 16 + boolNat s.authority * 8 + boolNat x.readFault * 4
    + (if c = 0 ∨ x.readFault then 1 else if x.chatterAt.isSome then 3 else 0)

/-- Note the words of every pin that changed, for the images of scans. -/
def State.notePins (s : State) : State :=
  (numbersFrom 0 48).foldl (fun u n =>
    let x := u.pin n
    let w := levelWord (u.pinLevel n) x.chatterAt.isSome 0
    let f := u.pinFlags n
    let (w0, f0) := match x.hist with
      | (_, a, b) :: _ => (a, b)
      | [] => (0, 1)
    if w = w0 ∧ f = f0 then u else u.setPin n { x with hist := ((u.gtc, w, f) :: x.hist).take 4096 }) s

/-- The words of a pin at a GTC, with the edges since another (image kind 18). -/
def State.pinImage (s : State) (n from_ at_ : Nat) : Nat × Nat :=
  let x := s.pin n
  let (w, f) := match x.hist.find? fun h => decide (h.1 ≤ at_) with
    | some (_, a, b) => (a, b)
    | none => (0, 1)
  let e := if s.pinClass n = 3 then x.edgesIn from_ at_ else 0
  (levelWord (w.testBit 0) (w.testBit 2) e, f)

/-- Change the level in force of a pin. -/
def State.setLevel (s : State) (n half : Nat) (l : Bool) : State :=
  let x := s.pin n
  let gap := if s.pinClass n = 1 ∧ s.authority = false then (half, l) :: x.gap else []
  s.setPin n { x with level := l, gap := gap, offAt := if x.level && !l then s.gtc else x.offAt }

/-- Put a pin into its safe state (R492). -/
def State.pinSafe (s : State) (n : Nat) : State :=
  match s.pinClass n with
  | 1 => s.setLevel n (2 * s.gtc) false
  | 2 => let l := s.num (Od.fioSafeLevel + n)
    if l = 2 then s else s.setLevel n (2 * s.gtc) (l == 1)
  | _ => s

/-- Safe outputs of an instance (R397, R492). -/
def State.safeOutputs (s : State) (i : Nat) : State := ((s.pinsOf i).foldl (fun u n => u.pinSafe n) s).notePins

/-! ### The queue (R493 to R500) -/

/-- The entries that count: closing deasserts are no entries. -/
def State.queueLength (s : State) : Nat := (s.fio.queue.filter fun e => !e.closing).length

/-- A generator is armed on the pin. -/
def State.armedOn (s : State) (n : Nat) : Bool :=
  (numbersFrom 0 32).any fun g => (let st := (s.gen g).state; st == 1 || st == 2 || st == 4) && s.num (Od.pgTarget + 256 * g) == n

/-- The pin is running (R490). -/
def State.pinRunning (s : State) (n : Nat) : Bool :=
  s.pinClass n != 0 && (s.itemRunning 0x06 n || s.armedOn n || s.fio.queue.any fun e => e.pin == n)

/-- Where an entry falls, in half nanoseconds, and whether a step shifted it. -/
def State.entryAt (s : State) (e : FioEnt) : Option (Nat × Bool) :=
  match e.fixed with
  | some h => some (h, false)
  | none => (s.dom e.dom).place e.since e.time

/-- Count an entry that the module drops in DroppedCommits of its instance. -/
def State.dropCommit (s : State) (i : Nat) : State := s.count32 Od.droppedCommits 1 i

/-- Put an entry into the queue: an armed generator on its pin (R491) or a full queue (R493) drops it. -/
def State.enqueueFio (s : State) (e : FioEnt) : State :=
  if s.armedOn e.pin then
    (s.dropCommit e.inst).raiseLimited (pinSource e.pin) (0x4000 + Od.droppedCommits % 256) 0x06 e.pin 0
  else if 32768 ≤ s.queueLength then
    let t := s.count32 Od.fioQueueFull
    (if e.host then t else t.dropCommit e.inst).raiseOcc 0xBB0 0x80 0 1 e.inst
  else s.setQueue (s.fio.queue ++ [e])

/-- Withdraw what a test names, closing deasserts excepted. -/
def State.withdraw (s : State) (f : FioEnt → Bool) : State := s.setQueue (s.fio.queue.filter fun e => e.closing || !f e)

/-- A stop withdraws the entries of an instance whose instant lies after a limit (R388). -/
def State.withdrawAfter (s : State) (i : Nat) (limit : Int) : State :=
  (s.withdraw fun e => e.inst == i && decide (limit < e.time)).notePins

/-- 15 µs in units of 2^−48 ns. -/
def commitLead : Int := 15000 * 2 ^ 48

/-- Take the record of scan `n` at the boundary with GTC `g` and value `v` (R399, R401, R493). An entry is (place, pin, op,
time, width, tag), its time none for now. -/
def State.takeRecord (s : State) (i n g : Nat) (v : Int) (used : Bool) (l : List (Nat × Nat × Nat × Option Int × Nat × Nat)) : State :=
  if n < tabGet 0 s.fio.lastScan i then (s.count32 Od.fioDuplicateRecords).raiseOcc 0xBB0 0x81 i 2 n
  else
    let t := { s with fio := { s.fio with lastScan := tabSet 0 s.fio.lastScan i (n + 1) } }
    (l.foldl (fun (u : State) (e : Nat × Nat × Nat × Option Int × Nat × Nat) =>
      let (k, pin, op, at_, width, tag) := e
      if op = 0 then u
      else if op = 4 then u.withdraw fun x => x.inst == i && x.pin == pin && decide (v + commitLead ≤ x.time)
      else u.enqueueFio
        { inst := i, scan := n, key := [1, g, i, k, 0], pin := pin, op := op, width := width, tag := tag, dom := s.scanD i
          time := at_.getD v, since := g, fixed := if at_.isSome then none else some (2 * g), host := false, held := false
          peerUsed := used, resynced := false, closing := false }) t).notePins

/-- The pulse of an entry closes at a half nanosecond. -/
def FioEnt.close (e : FioEnt) (half : Nat) : FioEnt :=
  { e with op := 2, width := 0, tag := 0, fixed := some half, held := false, closing := true, key := e.key.take 4 ++ [1] }

/-- Act on the pin (R496): count the execution and raise the Tag event. -/
def State.actEntry (s : State) (e : FioEnt) (half : Nat) : State :=
  let t := s.setLevel e.pin half (e.op != 2)
  let t := if e.op = 3 then t.setQueue (t.fio.queue ++ [e.close (half + e.width)]) else t
  let t := t.count48ev (Od.fioEntriesExecuted + e.pin) (pinSource e.pin) 0x06 e.pin
  if e.tag = 0 then t
  else t.raise (pinSource e.pin) 0x9002 0x06 e.pin (e.tag % 2 ^ 64 + e.scan % 2 ^ 32 * 2 ^ 64)

/-- An entry that the outgoing holder must not drive: its instant is not before the instant that ends authority (R473). -/
def State.afterRelease (s : State) (e : FioEnt) : Bool :=
  match s.pair.release with
  | some (x, _) => e.dom == s.num Od.pairDomain && decide (x ≤ e.time)
  | none => false

/-- The first entry of a pin that is due, with its instant (R497). -/
def State.dueEntry (s : State) (n : Nat) : Option (FioEnt × Nat × Bool) :=
  let l := s.fio.queue.filterMap fun e =>
    if e.pin = n ∧ !e.held then
      match s.entryAt e with
      | some (h, k) => if h ≤ 2 * s.gtc then some (e, h, k) else none
      | none => none
    else none
  l.foldl (fun a x => match a with
    | none => some x
    | some y => if keyBefore (x.2.1 :: x.1.key) (y.2.1 :: y.1.key) then some x else some y) none

/-- FIO_ENTRY_EXECUTE: the first due entry of a pin drives it, or is Held (R494, R498). -/
def fioEntryExecute (n : Nat) (s : State) : State :=
  match s.dueEntry n with
  | none => s
  | some (e, h, shifted) =>
    let t := s.setQueue (s.fio.queue.erase e)
    if e.closing then (t.setLevel n h false).notePins
    else
      let t := if shifted then (t.count32 Od.fioStepShifted).raiseOcc 0xBB0 0x06 n 3 0 else t
      if s.pinClass n = 1 ∧ (!s.authority ∨ s.afterRelease e) then
        (t.setQueue (t.fio.queue ++ [{ e with held := true, fixed := some h }])).notePins
      else (t.actEntry e (if e.fixed.isSome then max h (2 * s.gtc) else h)).notePins

def execFioEntryExecute (pin : Fin 48) (s : State) : Res := .next (fioEntryExecute pin.val s)

/-- LeaseTime in units of 2^−48 ns. -/
def State.leaseTime (s : State) : Int := ((s.num Od.leaseTime * 1000 : Nat) : Int) * 2 ^ 48

/-- HELD_ENTRY_DISCARD: Held entries of a pin at T + 2 × LeaseTime (R500). -/
def heldEntryDiscard (n : Nat) (s : State) : State :=
  let gone := s.fio.queue.filter fun e =>
    e.pin == n && e.held && (s.dom e.dom).state != 0 && decide (e.time + 2 * s.leaseTime ≤ (s.dom e.dom).valueAt s.gtc)
  (gone.foldl (fun u e =>
    ((u.setQueue (u.fio.queue.erase e)).count32 Od.fioHeldDiscards).raiseOcc 0xBB0 0x06 n 4 e.inst) s).notePins

def execHeldEntryDiscard (pin : Fin 48) (s : State) : Res := .next (heldEntryDiscard pin.val s)

/-- The level that a sequence of changes leaves, in order of their instants. -/
def lastLevel (l : List (Nat × Bool)) (start : Bool) : Bool :=
  ((l.foldl (fun (a : Nat × Bool) x => if a.1 ≤ x.1 then x else a) (0, start))).2

/-- A gain of authority at the pins (R473, R499): `sel` names the Held entries that this module drives. Each Trip pin takes
the level that the others leave in force; the selected ones are driven from now on, in order of T. -/
def State.gainPins (s : State) (sel : FioEnt → Bool) : State :=
  let g := 2 * s.gtc
  let held := s.fio.queue.filter (·.held)
  let late := held.filter sel
  let order (e : FioEnt) : Nat := (late.filter fun x => decide (x.time < e.time) || (x.time == e.time && keyBefore x.key e.key)).length
  let t := (numbersFrom 0 48).foldl (fun u n =>
    let past := held.filter fun e => e.pin == n && !sel e
    let ends := past.filterMap fun e => if e.op = 3 then some (e, e.fixed.getD 0 + e.width) else none
    let marks := (u.pin n).gap.reverse ++ past.map (fun e => (e.fixed.getD 0, e.op != 2))
      ++ (ends.filter fun x => decide (x.2 ≤ g)).map fun x => (x.2, false)
    let v := u.setPin n { u.pin n with level := lastLevel marks (u.pin n).level, gap := [] }
    v.setQueue (v.fio.queue ++ (ends.filter fun x => decide (g < x.2)).map fun x => x.1.close x.2)) s
  let q := t.fio.queue.filterMap fun e =>
    if e.held then (if sel e then some { e with held := false, fixed := some g, key := [0, order e] } else none) else some e
  let t := t.setQueue q
  (if late.isEmpty then t
    else (t.count32 Od.handoverLateEntries late.length).raiseOcc 0xB07 0x80 0 1 late.length).notePins

/-! ### Host submissions (R501) -/

def State.fqPage (s : State) (i : Nat) : FqPage := tabGet .init s.fio.pages i

def State.setFqPage (s : State) (i : Nat) (x : FqPage) : State :=
  { s with fio := { s.fio with pages := tabSet .init s.fio.pages i x } }

def FqPage.word (x : FqPage) (k : Nat) : Nat := x.words.getD k 0

/-- The checks of R501 in order, and the entry with its effect. -/
def State.submitFio (s : State) (i : Nat) (x : FqPage) : Act := do
  let w := x.word 0
  let pin := w % 256
  let op := field w 8 8
  let timed := w.testBit 16
  need (field w 17 15 == 0 && field (x.word 3) 16 16 == 0 && field (x.word 5) 16 16 == 0) .reservedBitSet
  let d := s.scanD i
  let now := (s.dom d).valueAt s.gtc
  let t := valueOfTime ((x.word 5 % 2 ^ 16 * 2 ^ 32 + x.word 4) * 2 ^ 48 + x.word 2 * 2 ^ 16 + x.word 3 % 2 ^ 16)
  need (decide (op ≤ 4) && decide (pin < 48) && (op != 3 || (decide (4 ≤ x.word 1) && decide (x.word 1 ≤ 2000000000)))
    && (!timed || (decide (x.word 2 < 1000000000) && decide (t ≤ now + 10 * secondUnits)))) .outOfRange
  need (s.pinInstance pin == some i) .notOwner
  need (s.pinClass pin != 1) .denied
  need (!s.armedOn pin) .heldElsewhere
  need (s.pinClass pin == 2 && (s.dom d).state != 0) .precondition
  need (!timed || decide (now + commitLead ≤ t)) .timeInPast
  need (decide (s.queueLength < 32768)) .noResource
  let k := s.fio.nextHost
  let s := { s with fio := { s.fio with nextHost := k + 1 } }
  if op = 0 then .ok s
  else if op = 4 then
    let limit := if timed then t else now + commitLead
    .ok (s.withdraw fun e => e.inst == i && e.pin == pin && decide (limit ≤ e.time)).notePins
  else .ok ((s.enqueueFio
    { inst := i, scan := 0, key := [2, k, 0, 0, 0], pin := pin, op := op, width := x.word 1, tag := x.word 6 + x.word 7 * 2 ^ 32, dom := d
      time := if timed then t else now, since := s.gtc, fixed := if timed then none else some (2 * s.gtc), host := true, held := false
      peerUsed := true, resynced := false, closing := false }).notePins)

/-- A submission ends within 1 µs (R501); until then Busy is 1. One during an instance reset is refused with Busy (R538). -/
def fqSubmit (i : Nat) (s : State) : State :=
  let x := s.fqPage i
  if !s.instExists i then s
  else if s.gtc < x.busyUntil then s.setFqPage i { x with collision := true }
  else
    let (t, code) := match (if s.inReset i then .error .busy else s.submitFio i x : Act) with
      | .ok t => (t, 0)
      | .error c => (s, c.value)
    (t.setFqPage i { x with busyUntil := s.gtc + s.free % 1001, ended := true, code := code }).tookFree

def execFqSubmit (inst : Fin 256) (s : State) : Res := .next (fqSubmit inst.val s)

/-- FQ_SUBMIT_COLLISION: FqSubmit written while Busy. -/
def fqSubmitCollision (i : Nat) (s : State) : State :=
  let x := s.fqPage i
  if s.gtc < x.busyUntil then s.setFqPage i { x with collision := true } else s

def execFqSubmitCollision (inst : Fin 256) (s : State) : Res := .next (fqSubmitCollision inst.val s)

/-- FqStatus as it reads (Table 13-3). -/
def State.fqStatus (s : State) (i : Nat) : Nat :=
  let x := s.fqPage i
  let busy := decide (s.gtc < x.busyUntil)
  boolNat busy * 2 ^ 31 + boolNat (x.ended && !busy) * 2 ^ 30 + boolNat x.collision * 2 ^ 29 + (if busy then 0 else x.code)

/-! ### Inputs and readback (R502, R503) -/

/-- A flag event of a pin limited as R223 states. -/
def State.pinFlagEvent (s : State) (n : Nat) (set : Bool) (bit word : Nat) : State :=
  let code := (if set then 0x6000 else 0x7000) + bit
  let k := (pinSource n * 2 ^ 16 + code) * 2 ^ 32 + itemKey 0x06 n
  let (next, c) := tabGet (0, 0) s.inst.rateLimit k
  let put (x : Nat × Nat) : State := { s with inst := { s.inst with rateLimit := tabSet (0, 0) s.inst.rateLimit k x } }
  if s.gtc < next then put (next, c + 1) else (put (s.gtc + 1000000000, 0)).raiseFlag (pinSource n) 0x06 n set bit word

/-- The sum of a pin's factory and user delays (R86). -/
def State.pinDelay (s : State) (f u n : Nat) : Int := toInt 64 (s.num (f + n)) + toInt 64 (s.num (u + n))

/-- The stamp of an edge whose first sample is given in half nanoseconds. -/
def State.edgeStamp (s : State) (n sample : Nat) : Nat :=
  (roundDiv ((sample : Int) * 32768 - s.pinDelay Od.factoryFioInDelay Od.userFioInDelay n) 65536).toNat

/-- FIO_INPUT_EDGE: a level stable for FioInFilter is accepted. -/
def fioInputEdge (n : Nat) (high : Bool) (sample : Nat) (s : State) : State :=
  let x := s.pin n
  let l := high != (s.num (Od.fioPolarity + n) == 1)
  if s.pinClass n ≠ 3 ∨ 4 ≤ s.shedLevel ∨ l = x.input ∨ 2 * s.gtc < sample + 2 * s.num (Od.fioInFilter + n) then s
  else
    let g := s.edgeStamp n sample
    let edges := (g :: x.edges).filter fun e => decide (g < e + 25000000)
    let limit := s.num (Od.fioChatterLimit + n)
    let chat := limit != 0 && decide (limit < (edges.filter fun e => decide (g < e + 10000000)).length)
    let t := s.setPin n { x with input := l, edges := edges, chatterAt := if chat then some s.gtc else x.chatterAt }
    let t := (t.count48ev (Od.fioEdges + n) (pinSource n) 0x06 n).setNum (Od.fioLastEdgeGtc + n) g
    (if chat ∧ x.chatterAt.isNone then t.pinFlagEvent n true 2 (t.pinLevelWord n) else t).notePins

def execFioInputEdge (pin : Fin 48) (high : Bool) (sample : Nat) (s : State) : Res := .next (fioInputEdge pin.val high sample s)

/-- CHATTER_CLEAR: 10 ms with no more than FioChatterLimit edges. -/
def chatterClear (n : Nat) (s : State) : State :=
  let x := s.pin n
  let limit := s.num (Od.fioChatterLimit + n)
  if x.chatterAt.isNone then s
  else if limit = 0 ∨ x.edgesIn (s.gtc - 10000000) s.gtc ≤ limit ∧ (x.edges.filter fun g => decide (s.gtc < g + 10000000)).length ≤ limit then
    let t := s.setPin n { x with chatterAt := none }
    (t.pinFlagEvent n false 2 (t.pinLevelWord n)).notePins
  else s

def execChatterClear (pin : Fin 48) (s : State) : Res := .next (chatterClear pin.val s)

/-- READBACK_FAULT: the read level has differed for 100 ns, or has agreed for 1 ms. -/
def readbackFault (n : Nat) (differs : Bool) (s : State) : State :=
  let x := s.pin n
  if (s.pinDriven n).isNone ∨ x.readFault = differs then s
  else
    let t := s.setPin n { x with readFault := differs }
    let t := if differs then t.count32 (Od.fioReadbackFaults + n) else t
    (t.pinFlagEvent n differs 2 (t.pinFlags n)).notePins

def execReadbackFault (pin : Fin 48) (differs : Bool) (s : State) : Res := .next (readbackFault pin.val differs s)

/-- The checks of a FioClass or FioPolarity write. -/
def State.checkPinOwner (s : State) (who : Caller) (n : Nat) : Except Code Unit := need (s.tenantHolds who 0x06 n) .notOwner

/-- The quiesce of R490 with the value. -/
def State.applyPinClass (s : State) (n : Nat) (polarity : Bool) (value : Nat) : State :=
  let t := (s.pinSafe n).setQueue (s.fio.queue.filter fun e => e.pin != n)
  let old := s.pinClass n
  let t := if polarity then t.setNum (Od.fioPolarity + n) value else t.setNum (Od.fioClass + n) value
  let x := t.pin n
  let t := t.setPin n { x with level := false, gap := [], input := false, edges := [], chatterAt := none, readFault := false
                               offAt := if x.level then s.gtc else x.offAt }
  (if !polarity ∧ old ≠ value then t.raiseOcc (pinSource n) 0x06 n 1 value else t).notePins

/-- A Put of FioClass or FioPolarity (R490, R77). -/
def fioClassWrite (who : Caller) (n : Nat) (polarity : Bool) (value : Nat) (s : State) : Act := do
  let id := (if polarity then Od.fioPolarity else Od.fioClass) + n
  s.gateRange who id false 0 (.num value)
  s.checkPinOwner who n
  need (!s.pinRunning n) .busy
  .ok ((s.applyPinClass n polarity value).bumpVersion id 0)

def execFioClassWrite (who : Caller) (pin : Fin 48) (polarity : Bool) (value : Nat) (s : State) : Res :=
  .next (s.answer who (fioClassWrite who pin.val polarity value s))

/-! ### Pulse generators (R140 to R143) -/

def State.pgNum (s : State) (id n : Nat) : Nat := s.num (id + 256 * n)

/-- The pin of a generator, none for events only. -/
def State.pgPin (s : State) (n : Nat) : Option Nat := let p := s.pgNum Od.pgTarget n; if p < 48 then some p else none

/-- The level in force that a generator's active or inactive level is: PgPolarity is an electrical level as FioPolarity. -/
def State.pgLevel (s : State) (n : Nat) (active : Bool) : State :=
  match s.pgPin n with
  | none => s
  | some p => s.setLevel p (2 * s.gtc) (active != (s.pgNum Od.pgPolarity n != s.num (Od.fioPolarity + p)))

/-- The domain value of leading edge `k`. -/
def State.pgEdgeValue (s : State) (n k : Nat) : Int :=
  valueOfTime (s.pgNum Od.pgStart n) + ((k * s.pgNum Od.pgPeriod n : Nat) : Int) * 2 ^ 32

/-- The edges a generator has to produce: none for without end. -/
def State.pgTotal (s : State) (n : Nat) : Option Nat :=
  if s.pgNum Od.pgPeriod n = 0 then some 1 else if s.pgNum Od.pgCount n = 0 then none else some (s.pgNum Od.pgCount n)

/-- The generator is running: its objects are not writable (R143). -/
def State.pgRunning (s : State) (n : Nat) : Bool := let st := (s.gen n).state; st == 1 || st == 2 || st == 4

/-- PgArm 1 (R141, R491). -/
def pgArm (who : Caller) (n : Nat) (s : State) : Act := do
  s.gateRange who (Od.pgArm + 256 * n) false 0 (.num 1)
  need (s.tenantHolds who 0x08 n) .notOwner
  let x := s.dom (s.pgNum Od.pgDomain n)
  need (decide (x.valueAt s.gtc + 20000 * 2 ^ 48 ≤ valueOfTime (s.pgNum Od.pgStart n))) .timeInPast
  match s.pgPin n with
  | none => .ok ()
  | some p => do
    need (s.holderOf 0x06 p == s.holderOf 0x08 n) .notOwner
    need (!((numbersFrom 0 32).any fun g => g != n && s.pgRunning g && s.pgPin g == some p)
      && !(s.fio.queue.any fun e => e.pin == p)) .heldElsewhere
  need (s.pgNum Od.pgRequireLock n == 0 || x.state == 3 || x.state == 4) .timeNotLocked
  need (s.pgNum Od.pgPeriod n == 0 || decide (s.pgNum Od.pgWidth n * 32768 < s.pgNum Od.pgPeriod n)) .outOfRange
  match s.pgPin n with
  | none => .ok ()
  | some p => need (s.pinClass p == 1 || s.pinClass p == 2) .precondition
  .ok (s.setGen n { s.gen n with state := 1, next := 0, since := s.gtc })

def execPgArm (who : Caller) (n : Fin 32) (s : State) : Res := .next (s.answer who (pgArm who n.val s))

/-- PgArm 2 (R143): an active pulse completes its width. -/
def pgDisarm (who : Caller) (n : Nat) (s : State) : Act := do
  s.gateRange who (Od.pgArm + 256 * n) false 0 (.num 2)
  need (s.tenantHolds who 0x08 n) .notOwner
  .ok (s.setGen n { s.gen n with state := 0 })

def execPgDisarm (who : Caller) (n : Fin 32) (s : State) : Res := .next (s.answer who (pgDisarm who n.val s))

/-- PG_EDGE: the next leading edge, or the edges that a forward step skipped (R140, R142). -/
def pgEdge (n : Nat) (s : State) : State :=
  let x := s.gen n
  let d := s.dom (s.pgNum Od.pgDomain n)
  if ¬ (x.state = 1 ∨ x.state = 2) then s
  else match d.place x.since (s.pgEdgeValue n x.next) with
    | none => s
    | some (h, skipped) =>
      if 2 * s.gtc < h then s
      else
        let last (k : Nat) : Bool := match s.pgTotal n with
          | some c => decide (c ≤ k)
          | none => false
        if skipped then
          let now := match d.paramAt (h / 2) with
            | some p => p.d
            | none => 0
          let per := s.pgNum Od.pgPeriod n
          let jump := if per = 0 then 1 else (ceilDivInt (now - s.pgEdgeValue n x.next) (per * 2 ^ 32)).toNat
          let k := x.next + max 1 jump
          s.setGen n { x with next := k, state := if last k then 3 else x.state }
        else
          let k := x.next + 1
          let t := s.setGen n
            { x with next := k, edges := (x.edges + 1) % 2 ^ 48, state := if last k then 3 else 2
                     pulseEnd := some (h + s.pgNum Od.pgWidth n), since := h / 2 }
          let t := t.pgLevel n true
          let ev := s.pgNum Od.pgEvents n
          (if ev = 1 ∨ (ev = 2 ∧ last k) then t.raiseOcc (0x1A0 + n) 0x08 n 1 x.next else t).notePins

def execPgEdge (n : Fin 32) (s : State) : Res := .next (pgEdge n.val s)

/-- PG_PULSE_END: the active level ends after PgWidth. -/
def pgPulseEnd (n : Nat) (s : State) : State :=
  let x := s.gen n
  match x.pulseEnd with
  | some h => if 2 * s.gtc < h then s else ((s.setGen n { x with pulseEnd := none }).pgLevel n false).notePins
  | none => s

def execPgPulseEnd (n : Fin 32) (s : State) : Res := .next (pgPulseEnd n.val s)

/-- In RefFault the armed generators of a domain are Held (R142). -/
def State.holdGens (s : State) (d : Nat) : State :=
  ((numbersFrom 0 32).filter fun n => s.pgNum Od.pgDomain n == d && ((s.gen n).state == 1 || (s.gen n).state == 2)).foldl (fun u n =>
    let x := u.gen n
    let v := (u.setGen n { x with state := 4, pulseEnd := none }).pgLevel n false
    v.raiseState (0x1A0 + n) 0x08 n x.state 4 0 0) s |>.notePins

/-- Disarm the generators that a test names (R147). -/
def State.disarmGens (s : State) (f : Nat → Bool) : State :=
  ((numbersFrom 0 32).filter fun n => f n && s.pgRunning n).foldl (fun u n => u.setGen n { u.gen n with state := 0 }) s

/-- An instance reset at the pins (R517). -/
def State.resetPins (s : State) (i : Nat) : State :=
  let t := s.safeOutputs i
  let now := (s.dom (s.scanD i)).valueAt s.gtc
  (t.withdrawAfter i (now + commitLead)).disarmGens fun n => s.inInstance i (s.holderOf 0x08 n)

/-- Shed level 4 at the pins (R518): the queue is emptied and the pins are at high impedance. -/
def State.emptyPins (s : State) : State :=
  let t := s.setQueue []
  ((numbersFrom 0 48).foldl (fun u n => (u.pinSafe n)) t).notePins

/-! ### Local sense (R504 to R510) -/

def State.ls (s : State) (m : Nat) : LsIn := tabGet .init s.fio.ls m

def State.setLs (s : State) (m : Nat) (x : LsIn) : State := { s with fio := { s.fio with ls := tabSet .init s.fio.ls m x } }

def State.lsOn (s : State) (m : Nat) : Bool := s.num (Od.lsEnable + m) == 1

/-- The pin volts of a code (R506). -/
def State.pinVolts (s : State) (m code : Nat) : Nat :=
  fadd (fmul (widen (s.num (Od.factoryLsGain + m))) (d64 code)) (widen (s.num (Od.factoryLsOffset + m)))

/-- The value of a code in engineering units. -/
def State.lsUnits (s : State) (m volts : Nat) : Nat :=
  fmul (widen (s.num (Od.lsDivider + m)))
    (fadd (fmul (widen (s.num (Od.userLsGain + m))) volts) (widen (s.num (Od.userLsOffset + m))))

/-- The conversions of the mean. -/
def State.lsWindow (s : State) (m : Nat) : List (Option Nat) := (s.ls m).ring.take (s.num (Od.lsAverage + m))

/-- Validity by R506. -/
def State.lsValidity (s : State) (m : Nat) : Nat :=
  let w := s.lsWindow m
  let f := (w.filter (·.isNone)).length
  if w.isEmpty ∨ (s.ls m).wireBreak then 1 else if f = 0 then 0 else if w.length ≤ 2 * (w.length - f) then 3 else 1

def State.tcs (s : State) (m : Nat) : Tcs := tabGet .init s.fio.tcs m

def State.setTcs (s : State) (m : Nat) (x : Tcs) : State := { s with fio := { s.fio with tcs := tabSet .init s.fio.tcs m x } }

/-- LsFlags (Table 13-6). -/
def State.lsFlags (s : State) (m : Nat) : Nat :=
  let x := s.ls m
  if !s.lsOn m then 1 + boolNat (s.tcs m).alarm * 2 ^ 11
  else
    let f := ((s.lsWindow m).filter (·.isNone)).length
    let settle := s.num (Od.lsSettleTolerance + m)
    f * 2 ^ 16 + boolNat (s.tcs m).alarm * 2 ^ 11 + s.num (Od.tcsState + m) * 2 ^ 8 + boolNat x.cal.isSome * 2 ^ 7
      + boolNat x.wireBreak * 32 + boolNat (decide (settle < ((x.b : Int) - x.a).natAbs)) * 16
      + boolNat (decide (s.num (Od.lsRailHigh + m) < x.a)) * 8 + boolNat (decide (x.a < s.num (Od.lsRailLow + m))) * 4 + s.lsValidity m

/-! Supervision (R513) -/

def State.tcsConfig (s : State) (m : Nat) : Bytes := s.blob (Od.tcsConfig + m)

/-- TcsState as it stands (Table 13-7). -/
def State.tcsStateNow (s : State) (m : Nat) : Nat :=
  let b := s.tcsConfig m
  let p := byteAt b 0
  let v := s.num (Od.lsValue + m)
  if s.num (Od.tcsEnable + m) = 0 ∨ !s.lsOn m then 0
  else if (s.ls m).wireBreak then 5
  else if decide (p < 48) && (s.pinDriven p == some true || (decide ((s.pin p).offAt ≠ 0) && decide (s.gtc < (s.pin p).offAt + 1000000 * leAt b 16 4))) then 4
  else if s.lsValidity m = 1 then 6
  else if f32.cmp v (leAt b 4 4) == some .lt then 2
  else if f32.cmp (leAt b 8 4) v == some .lt then 3
  else 1

/-- The time a channel's timer has counted. -/
def Tcs.time (x : Tcs) (g : Nat) : Nat := x.acc + (if x.runs then g - x.mark else 0)

def tcsSource (m : Nat) : Nat := 0xBD0 + m

def State.setAlarm (s : State) (m : Nat) (a : Bool) : State :=
  if (s.tcs m).alarm = a then s
  else
    let t := s.setTcs m { s.tcs m with alarm := a }
    let t := if a then t.count32 (Od.tcsAlarms + m) else t
    t.raiseFlag (tcsSource m) 0x07 m a 11 (t.lsFlags m)

/-- Evaluate a supervision channel: its state, its timer, and the alarm of a wire break. -/
def State.tcsEval (s : State) (m : Nat) : State :=
  let old := s.num (Od.tcsState + m)
  let st := s.tcsStateNow m
  let x := s.tcs m
  let kind := match st with
    | 1 => 2
    | 2 | 3 | 5 | 6 => 1
    | 4 => x.kind
    | _ => 0
  let y : Tcs := { x with kind := kind, acc := if kind = x.kind then x.time s.gtc else 0, mark := s.gtc, runs := st != 4 && st != 5 && st != 0 }
  let t := s.setTcs m y
  let t := if st = old then t else (t.setNum (Od.tcsState + m) st).raiseState (tcsSource m) 0x07 m old st 0 0
  if st = 5 then t.setAlarm m true else if st = 0 then t.setAlarm m false else t

/-- TCS_DELAY_EXPIRY: a timer has counted Delay. -/
def tcsDelayExpiry (m : Nat) (s : State) : State :=
  let x := s.tcs m
  if x.runs ∧ 1000000 * leAt (s.tcsConfig m) 12 4 ≤ x.time s.gtc then
    (if x.kind = 1 then s.setAlarm m true else if x.kind = 2 then s.setAlarm m false else s)
  else s

def execTcsDelayExpiry (m : Fin 16) (s : State) : Res := .next (tcsDelayExpiry m.val s)

/-- The pin of a channel must be held by the pond that holds the input (R513). -/
def State.tcsPinHeld (s : State) (m : Nat) (b : Bytes) : Bool :=
  byteAt b 0 == 0xFF || s.holderOf 0x06 (byteAt b 0) == s.holderOf 0x07 m

/-- The form of a TcsConfig. -/
def checkTcsForm (b : Bytes) : Except Code Unit := do
  need (leAt b 1 3 == 0) .reservedBitSet
  need (decide (byteAt b 0 < 48) || byteAt b 0 == 0xFF) .outOfRange
  need (!f32NotFinite (leAt b 4 4) && !f32NotFinite (leAt b 8 4)) .invalidFloat
  need (decide (1 ≤ leAt b 12 4) && decide (leAt b 12 4 ≤ 60000) && decide (leAt b 16 4 ≤ 10000)) .outOfRange

def State.restartTcs (s : State) (m : Nat) : State := (s.setTcs m { s.tcs m with kind := 0, acc := 0, mark := s.gtc }).tcsEval m

/-- LsEnable: an input that is not enabled converts nothing. -/
def State.applyLsEnable (s : State) (m value : Nat) : State :=
  let t := s.setNum (Od.lsEnable + m) value
  (if value = 0 then t.setLs m { LsIn.init with hist := (s.gtc, 0, 1) :: (s.ls m).hist } else t).tcsEval m

/-- One input takes one conversion. -/
def State.lsConvert (s : State) (m a b : Nat) : State :=
  if !s.lsOn m then s
  else
    let x := s.ls m
    let rail := decide (a < s.num (Od.lsRailLow + m)) || decide (s.num (Od.lsRailHigh + m) < a)
    let unsettled := decide (s.num (Od.lsSettleTolerance + m) < ((b : Int) - a).natAbs)
    let flagged := rail || unsettled
    let volts := s.pinVolts m a
    let bad := if flagged then x.bad + 1 else 0
    let good := if flagged then 0 else x.good + 1
    let brk := decide (2 ≤ bad) || (x.wireBreak && decide (good < 2000))
    let cal := x.cal.map fun (k, n, f, l) => (k, n + 1, f || flagged, volts :: l)
    let y := { x with ring := ((if flagged then none else some (s.lsUnits m volts)) :: x.ring).take 1024
                      bad := bad, good := good, wireBreak := brk, a := a, b := b, clear := !flagged, cal := cal }
    let t := (s.setLs m y).setNum (Od.lsRaw + m) (b * 2 ^ 16 + a)
    let t := if flagged then t.count48ev (Od.lsFlaggedConversions + m) (0xBC0 + m) 0x07 m else t
    let w := (t.lsWindow m).filterMap id
    let t := if w.isEmpty then t
      else t.setNum (Od.lsValue + m) (narrow (fdiv (fsum w.reverse) (d64 w.length)))
    let t := if brk && !x.wireBreak then t.count32 (Od.lsBreaks + m) else t
    let t := t.tcsEval m
    let word := t.lsFlags m
    let t := if brk != x.wireBreak then t.raiseFlag (0xBC0 + m) 0x07 m brk 5 word else t
    let t := if flagged && x.clear then
        [2, 3, 4].foldl (fun u k => if word.testBit k then u.raiseFlag (0xBC0 + m) 0x07 m true k word else u) t
      else t
    t.setLs m { t.ls m with hist := ((s.fio.lsAt * 500, t.num (Od.lsValue + m), word) :: (t.ls m).hist).take 20001 }

/-- LS_CONVERSION: the inputs convert together at every multiple of 500 ns. -/
def lsConversion (samples : List (Nat × Nat)) (s : State) : State :=
  let k := s.gtc / 500
  if k ≤ s.fio.lsAt ∨ 4 ≤ s.shedLevel then s
  else
    let t := { s with fio := { s.fio with lsAt := k } }
    (numbersFrom 0 16).foldl (fun u m => match samples[m]? with
      | some (a, b) => u.lsConvert m (a % 65536) (b % 65536)
      | none => u) t

def execLsConversion (samples : List (Nat × Nat)) (s : State) : Res := .next (lsConversion samples s)

/-- LsValue and LsFlags of the latest conversion at or before a GTC (R507). -/
def State.lsImage (s : State) (m at_ : Nat) : Nat × Nat :=
  match (s.ls m).hist.find? fun h => decide (h.1 ≤ at_) with
  | some (_, v, f) => (v, f)
  | none => (0, 1)

/-! ### Calibration (R511, R512) -/

/-- LsCalibrate 1 or 2. -/
def lsCalibrate (who : Caller) (m kind : Nat) (s : State) : Act := do
  s.gateRange who (Od.lsCalibrate + m) false 0 (.num kind)
  need (s.tenantHolds who 0x07 m) .notOwner
  need (s.ls m).cal.isNone .inProgress
  need (!s.imageReads [17] m) .busy
  need (s.lsOn m) .precondition
  .ok ((s.setLs m { s.ls m with cal := some (kind, 0, false, []) }).setNum (Od.lsCalStatus + m) (2 ^ 24))

def execLsCalibrateZero (who : Caller) (m : Fin 16) (s : State) : Res := .next (s.answer who (lsCalibrate who m.val 1 s))
def execLsCalibrateSpan (who : Caller) (m : Fin 16) (s : State) : Res := .next (s.answer who (lsCalibrate who m.val 2 s))

/-- The mean and standard deviation of binary64 values. -/
def meanDev (l : List Nat) : Nat × Nat :=
  let n := d64 l.length
  let mean := fdiv (fsum l) n
  (mean, fsqrt (fdiv (fsum (l.map fun v => let e := fsub v mean; fmul e e)) n))

def fle (a b : Nat) : Bool := !flt b a

/-- The outcome of a calibration (R511, R512): a reason, or the new user gain and offset. `e` is the expected pin volts of a
span; gains and offsets are binary64. -/
def calOutcome (kind : Nat) (flagged : Bool) (l : List Nat) (noise e gu ou zeroBound loE hiE : Nat) : Except Nat (Nat × Nat) :=
  let (mean, dev) := meanDev l
  if flagged then .error 3
  else if !fle dev noise then .error 2
  else if kind = 1 then (if fle (fabs mean) zeroBound then .ok (gu, f64.flip (fmul gu mean)) else .error 1)
  else
    let read := fadd (fmul gu mean) ou
    let tol := fdiv (fmul (d64 5) e) (d64 100)
    if fle loE e && fle e hiE && fle (fabs (fsub read e)) (fabs tol) then
      let z := fdiv (f64.flip ou) gu
      let g := fdiv e (fsub mean z)
      if !f64.isNan g && fle (fdiv (d64 1) two64) g && fle g two64 then .ok (g, f64.flip (fmul g z)) else .error 4
    else .error 1

/-- Ratios of small integers. -/
def ratio (a b : Nat) : Nat := (f64.ofRat a b).1

/-- LS_CALIBRATION_DONE: after 4,096 conversions. -/
def lsCalibrationDone (m : Nat) (s : State) : State :=
  match (s.ls m).cal with
  | some (kind, n, flagged, l) =>
    if n < 4096 then s
    else
      let t := s.setLs m { s.ls m with cal := none }
      let e := fdiv (widen (s.num (Od.lsCalReference + m))) (widen (s.num (Od.lsDivider + m)))
      match calOutcome kind flagged ((l.reverse).take 4096) (widen (s.num (Od.lsCalNoiseMax + m))) e (widen (s.num (Od.userLsGain + m)))
          (widen (s.num (Od.userLsOffset + m))) (ratio 1 20) (ratio 1 2) (ratio 5 2) with
      | .ok (g, o) =>
        let t := (((t.setNum (Od.userLsGain + m) (narrow g)).bumpVersion (Od.userLsGain + m) 0).setNum
          (Od.userLsOffset + m) (narrow o)).bumpVersion (Od.userLsOffset + m) 0
        (t.setNum (Od.lsCalStatus + m) (2 * 2 ^ 24)).raiseDone 0xBE0 0x07 m (Od.lsCalibrate + m) 0
      | .error r =>
        (t.setNum (Od.lsCalStatus + m) (3 * 2 ^ 24 + r * 2 ^ 16 + Code.precondition.value)).raiseDone 0xBE0 0x07 m (Od.lsCalibrate + m)
          Code.precondition.value
  | none => s

def execLsCalibrationDone (m : Fin 16) (s : State) : Res := .next (lsCalibrationDone m.val s)

end Sys2Proof.Machine
end

