-- ==== Sys2Proof/Machine/Health.lean ====
section
/-! DEFINITION. Items in use, their states, and the health words of ponds (R45, R47, R52, R53, R259). -/

namespace Sys2Proof.Machine

/-- The port that a lane works for. -/
def State.laneOwner (s : State) (l : Nat) : Nat :=
  ((numbersFrom (l - 3) 4).find? fun n => decide (n ≤ l) && s.portEnabled n && (portLanes n (s.pnum Od.portMode n)).contains l).getD l

/-- Slot `n` of a kind is mapped by a bound stream. -/
def State.slotMapped (s : State) (kind n : Nat) : Bool :=
  s.intake.streams.any fun x => x.2.isSome && s.slotKind x.1 == kind && (s.mappedSlots x.1).any fun y => y.2 == n

/-- The item is bound to a running block (R47). -/
def State.itemInUse (s : State) (kind n : Nat) : Bool :=
  match kind with
  | 0x01 => s.portInUse (s.laneOwner n)
  | 0x02 => s.bound n || s.streamFeeds n
  | 0x03 | 0x04 => s.slotMapped kind n || s.filterOn (if kind = 4 then 2 ^ 16 + n else n)
  | 0x05 => s.num (Od.unitState + 256 * n) != 0
  | 0x06 => s.pinRunning n
  | 0x07 => s.lsOn n
  | 0x08 => s.pgRunning n
  | 0x09 => s.intake.streams.any fun x => x.2.isSome && (s.keySlots x.1).contains n
  | 0x0A => s.pageBinding n != 0
  | 0x0B => (s.kinstOf n).isSome
  | 0x0D => s.num (Od.vfInstance + n) != 0xFFFF
  | _ => false

/-- The numbers at which an item of a kind can be in use or in a state other than Stopped. -/
def State.itemCandidates (s : State) (kind : Nat) : List Nat :=
  match kind with
  | 0x02 => (s.intake.streams.map (·.1) ++ s.admitted).eraseDups
  | 0x03 => ((s.intake.streams.flatMap fun (x : Nat × Option StreamSt) => if s.slotKind x.1 = 3 then (s.mappedSlots x.1).map (fun (y : Nat × Nat) => y.2) else [])
      ++ s.enabledFilters.filter fun c => !isWave c).eraseDups
  | 0x04 => ((s.intake.streams.flatMap fun (x : Nat × Option StreamSt) => if s.slotKind x.1 = 4 then (s.mappedSlots x.1).map (fun (y : Nat × Nat) => y.2) else [])
      ++ (s.enabledFilters.filter isWave).map fun c => c - 2 ^ 16).eraseDups
  | 0x0A => (numbersFrom 0 (1024 + s.mem.managerPages) ++ s.mem.bindings.map (·.1)).eraseDups
  | 0x0C => []
  | k => numbersFrom 0 (itemCount k)

/-- The state of an item: 0 Healthy, 1 Degraded, 2 Fault, 3 Stopped. -/
def State.itemState (s : State) (kind n : Nat) : Nat :=
  match kind with
  | 0x01 =>
    let p := s.laneOwner n
    let st := s.portState p
    if st = 5 ∨ st = 6 then 2 else if s.portUp p then (if (s.pnum Od.portFaultFlags p).testBit 2 then 1 else 0) else 3
  | 0x02 =>
    let st := field (s.num (Od.intakeStreamStatus + n)) 28 4
    if !s.bound n then (if seAdmitted (s.streamEntry n) then 0 else 3) else if st = 2 then 0 else if st = 3 ∨ st = 4 then 2 else 1
  | 0x06 => if s.pinClass n = 0 then 3 else if (s.pin n).readFault then 2 else if (s.pin n).chatterAt.isSome then 1 else 0
  | 0x07 => if !s.lsOn n then 3 else if (s.ls n).wireBreak then 2 else if s.lsValidity n = 0 then 0 else 1
  | 0x08 => let st := (s.gen n).state; if st = 1 ∨ st = 2 then 0 else if st = 4 then 2 else 3
  | 0x09 => if (s.keyContent n).isSome then 0 else 3
  | 0x0A => if s.pageBinding n = 8 then 2 else if s.pageBinding n = 0 then 3 else 0
  | k => if s.itemInUse k n then 0 else 3

/-- The ponds that pond `p` encloses, itself among them. -/
def State.subtree (s : State) (p : Nat) : List Nat := p :: (s.pond.ponds.map (·.1)).filter fun x => x != p && s.inPond p x

/-- How many items of a kind the pond holds directly. -/
def State.itemsHeld (s : State) (p kind : Nat) : Nat :=
  let l := s.pond.holder.filter fun x => x.1 / 2 ^ 24 == kind
  if p = 0xF00 then itemCount kind - (l.filter fun x => x.2 != 0xF00).length else (l.filter fun x => x.2 == p).length

/-- How many of the items that the pond holds directly are in use. -/
def State.itemsInUse (s : State) (p kind : Nat) : Nat :=
  ((s.itemCandidates kind).filter fun n => s.holderOf kind n == p && s.itemInUse kind n).length

/-- The links of a group (Table 1-2). -/
def groupLinks (g : Nat) : Nat := if g ≤ 1 then 4 else if g = 2 then 2 else 1

def State.groupDown (s : State) (g : Nat) : Nat := ((numbersFrom 0 (groupLinks g)).filter fun l => tabGet false s.pond.linkDown (g * 8 + l)).length

/-- The state that the link groups and silent dies give the module pond (R24, R25, R583). -/
def State.packageState (s : State) : Nat :=
  let failed (g : Nat) : Bool := s.groupDown g == groupLinks g
  if failed 0 || failed 1 || failed 3 || failed 4 || s.ev.dieN.excluded || s.ev.dieC0.excluded || s.ev.dieC1.excluded then 2
  else if (numbersFrom 0 5).any fun g => s.groupDown g != 0 then 1 else 0

/-- A time domain that an instance, a stream or a generator of the pond uses is not Locked. -/
def State.timeDegraded (s : State) (p : Nat) : Bool :=
  let bad (d : Nat) : Bool := (s.dom d).state != 3
  (decide (p < 0x100) && s.instRunningState p && bad (s.scanD p))
    || (s.intake.streams.any fun x => x.2.isSome && s.holderOf 0x02 x.1 == p && bad (byteAt (s.blob (Od.intakeStreamConfig + x.1)) 0))
    || (numbersFrom 0 32).any fun n => s.pgRunning n && s.holderOf 0x08 n == p && bad (s.pgNum Od.pgDomain n)

/-- A health word from the members' states (Table 1-10). -/
def healthWord (states : List Nat) (shed : Nat) (time suspect stale : Bool) : Nat :=
  let faults := (states.filter (· == 2)).length
  let degraded := (states.filter (· == 1)).length
  let st := if faults ≠ 0 then 2 else if degraded ≠ 0 then 1 else if states.all (· == 3) then 3 else 0
  boolNat stale * 2 ^ 31 + shed * 2 ^ 25 + boolNat time * 2 ^ 24 + satAt 255 faults * 2 ^ 16 + satAt 255 degraded * 2 ^ 8
    + boolNat suspect * 4 + st

def hwState (w : Nat) : Nat := w % 4
def hwTime (w : Nat) : Bool := w.testBit 24
def hwShed (w : Nat) : Nat := field w 25 3

/-- The health word of an instance, module or user pond (R52). -/
def State.localHealth (s : State) : Nat → Nat → Nat
  | 0, _ => 3
  | k + 1, p =>
    let items := (numbersFrom 1 13).flatMap fun kind =>
      ((s.itemCandidates kind).filter fun n => s.holderOf kind n == p).map fun n => s.itemState kind n
    let kids := (s.pondChildren p).map (s.localHealth k)
    let extra := if p = 0xF00 then [s.packageState] else []
    healthWord (items ++ kids.map hwState ++ extra) s.shedLevel (s.timeDegraded p || kids.any hwTime)
      (p == 0xF00 && s.pair.suspect) false

def State.moduleHealth (s : State) : Nat := s.localHealth 8 0xF00

/-- The health word of any pond: the pair pond adds the peer's last Status (R478), the fabric pond every member's report
(R259). -/
def State.pondHealth (s : State) (p : Nat) : Nat :=
  let own := s.moduleHealth
  let join (l : List (Nat × Bool)) : Nat :=
    healthWord (hwState own :: l.map fun x => hwState x.1) ((l.map fun x => hwShed x.1).foldl max (hwShed own))
      (hwTime own || l.any fun x => hwTime x.1) (own.testBit 2 || l.any fun x => x.1.testBit 2) (l.any (·.2))
  if p = 0xF01 then join (match s.pair.peerStatus with | some r => [(r.health, r.stale)] | none => [])
  else if p = 0xF02 then join (s.fab.reports.filterMap fun x => x.2.map fun r => (r.health, r.stale))
  else s.localHealth 8 p

/-- Count the changes of every pond's State since they were last looked at (PondHealthChanges). -/
def State.watchHealth (s : State) : State :=
  (s.pond.ponds.map (·.1)).foldl (fun (u : State) p =>
    let st := hwState (s.pondHealth p)
    if tabGet 3 u.pond.healthSeen p = st then u
    else
      let t := u.count32 Od.pondHealthChanges 1 p
      { t with pond := { t.pond with healthSeen := tabSet 3 t.pond.healthSeen p st } }) s

/-- The mean of the last `n` ticks' power in mW. -/
def EnergySt.meanPower (e : EnergySt) (n : Nat) : Nat :=
  let l := e.ticks.take n
  if l.isEmpty then 0 else (l.map (·.total)).sum / l.length

/-- PondEnergyUsed (R636). -/
def State.pondEnergyUsed (s : State) (p : Nat) : Nat :=
  let l := s.energy.ticks
  if l.isEmpty then 0
  else if p = 0xF00 then s.energy.meanPower 10000
  else
    let sub := p :: ((s.pond.ponds.map (·.1)).filter fun x => x != p && s.inPond p x)
    ((l.map fun t => (sub.map fun q => tabGet 0 t.ponds q).sum).sum) / (1000 * l.length)

/-- The report of this module (kind 0x9 of Table 6-2). -/
def State.ownReport (s : State) (seq : Nat) : Bytes :=
  let whole (f : State → Nat → Nat → Nat) (k : Nat) : Nat := ((s.subtree 0xF00).map fun p => f s p k).sum
  toBE 4 seq ++ toBE 4 s.moduleHealth ++ toBE 4 (s.pondShare 0xF00) ++ toBE 4 (s.pondEnergyUsed 0xF00)
    ++ (numbersFrom 1 13).flatMap (fun k => toBE 4 (whole State.itemsHeld k))
    ++ (numbersFrom 1 13).flatMap fun k => toBE 4 (whole State.itemsInUse k)

end Sys2Proof.Machine
end

