-- ==== Sys2Proof/Machine/Pair.lean ====
section
/-! DEFINITION. The redundant pair: forming, the digest exchange, the paddle and its handover (Chapter 12). -/

namespace Sys2Proof.Machine

/-! ### Links and messages (R442, Table 12-2) -/

def State.setPair (s : State) (x : PairSt) : State := { s with pair := x }

def State.pairOn (s : State) : Bool := s.num Od.pairEnable == 1

def State.pairState (s : State) : Nat := s.num Od.pairState

/-- The pair links. -/
def State.pairPorts (s : State) : List Nat := ([s.num Od.pairPortA, s.num Od.pairPortB].filter fun n => decide (n < 256)).eraseDups

/-- A named pair port is Up with its neighbour TwoWay. -/
def State.pairLinkUp (s : State) (n : Nat) : Bool := decide (n < 256) && s.portUp n && s.twoWay n

/-- Send a pair message on every pair link that is Up: Op, Flags 0, Count and body. -/
def State.sendPair (s : State) (op count : Nat) (body : Bytes) : State :=
  let h := s.originHead 0xB 0 0 false false
  (s.pairPorts.foldl (fun u n => u.sendXosyn n 0xB h (toBE 1 op ++ toBE 1 0 ++ toBE 2 count ++ body) .none 7) s).bumpSeq 0xB 0

/-- Take a pair message: the first copy of its Sequence on a pair link. -/
def State.takePair (s : State) (port seq : Nat) : Option State :=
  if s.pairOn ∧ s.pairPorts.contains port ∧ !s.pair.seen.contains seq then
    some (s.setPair { s.pair with seen := (seq :: s.pair.seen).take 64, heardAt := s.gtc })
  else none

/-- Instant, Cause and reserved octets. -/
def instantBody (t cause : Nat) : Bytes := toBE 12 t ++ toBE 1 cause ++ toBE 3 0

/-! ### Beats and instants -/

def State.pairDom (s : State) : Nat := s.num Od.pairDomain

/-- PairDomain now, in units of 2^−48 ns. -/
def State.pairNow (s : State) : Int := (s.dom s.pairDom).valueAt s.gtc

def State.beatNs (s : State) : Nat := periodNs (s.num Od.pairBeat)

def State.beatUnits (s : State) : Int := ((s.beatNs : Nat) : Int) * 2 ^ 48

/-- The number of the first beat at or after a value. -/
def State.beatFrom (s : State) (v : Int) : Int := ceilDivInt v s.beatUnits.toNat

/-! ### States -/

def State.setPairState (s : State) (st cause : Nat) : State :=
  let old := s.pairState
  if old = st then s else (s.setNum Od.pairState st).raiseState 0xB00 0x80 0 old st cause 0

def State.paddle (s : State) : Nat := s.num Od.paddleState

def State.setPaddle (s : State) (st : Nat) : State :=
  let old := s.paddle
  if old = st then s else (s.setNum Od.paddleState st).raiseState 0xB01 0x80 0 old st 0 0

/-- This module holds the paddle. -/
def State.isHolder (s : State) : Bool := s.paddle == 2 || s.paddle == 4

/-- The peer's last Beat says that it holds the paddle. -/
def State.peerHolds (s : State) : Bool := match s.pair.peerBeat with
  | some b => b.paddle == 2 || b.paddle == 4
  | none => false

/-- The holder's part of a comparison: the holder, or ROLE_SEL A when neither holds the paddle (R452). -/
def State.holderPart (s : State) : Bool := s.isHolder || (!s.peerHolds && !s.pair.roleB)

/-! ### Paired instances -/

def State.pairInst (s : State) (i : Nat) : PairInst := (tabGet none s.pair.insts i).getD .init

def State.setPairInst (s : State) (i : Nat) (x : PairInst) : State :=
  s.setPair { s.pair with insts := tabSet none s.pair.insts i (some x) }

def State.paired (s : State) (i : Nat) : Bool := s.num Od.pairMember i == 1

def State.pairedRunning (s : State) : List Nat := s.inst.present.filter fun i => s.paired i && s.instRunningState i

/-- The peer runs the instance, as far as its records of the last three periods say. -/
def State.peerRuns (s : State) (i : Nat) : Bool :=
  match (s.pairInst i).lastUsed with
  | some (r, g) => !r.faulted && decide (s.gtc ≤ g + 3 * s.scanP i)
  | none => false

/-! ### Eligibility (R471) -/

def State.faultEligible (s : State) : Bool :=
  s.pairState == 2 && !s.hardCause && decide (s.shedLevel ≤ 2)
    && s.inst.present.all fun i => !(s.paired i && s.peerRuns i)
      || (s.instRunningState i && (s.instPairState i == 3 || s.instPairState i == 1))

def State.eligible_ (s : State) : Bool :=
  s.faultEligible && !s.pair.suspect && decide (s.shedLevel ≤ 1) && hwState s.moduleHealth != 2
    && !(s.dom s.pairDom).pairBad && s.inst.present.all fun i => !(s.paired i && s.peerRuns i) || s.instPairState i == 3

def State.peerEligible (s : State) : Bool := match s.pair.peerBeat with
  | some b => b.eligible
  | none => false

def State.peerFaultEligible (s : State) : Bool := match s.pair.peerBeat with
  | some b => b.faultEligible
  | none => false

def State.selfTestFail (s : State) : Bool := !s.pair.tests.isEmpty

/-- A cause of Table 12-8 for a release, by its row, or 0. -/
def State.releaseCause (s : State) : Nat :=
  let st := (s.dom s.pairDom).state
  if s.inst.present.any fun i => s.paired i && s.instState i == 4 then 4
  else if 2 ≤ s.shedLevel then 5
  else if hwState s.moduleHealth = 2 then 6
  else if (st = 1 ∨ st = 5 ∨ st = 6) ∧ (s.pair.peerDom = 3 ∨ s.pair.peerDom = 4) then 7
  else 0

/-- The peer's last Status is older than 3 × ReportInterval. -/
def State.peerStale (s : State) : Bool := match s.pair.peerStatus with
  | some r => r.stale
  | none => false

/-- PairHealth (Table 12-12). -/
def State.pairHealth (s : State) : Nat :=
  let out := (s.pairedRunning.filter fun i => s.instPairState i != 3).length
  s.pairState * 2 ^ 28 + s.paddle * 2 ^ 25 + boolNat s.eligible_ * 2 ^ 24 + boolNat s.faultEligible * 2 ^ 23
    + boolNat s.pair.suspect * 2 ^ 22 + boolNat s.pair.revertSuspended * 2 ^ 21
    + boolNat (s.pairLinkUp (s.num Od.pairPortA)) * 2 ^ 20 + boolNat (s.pairLinkUp (s.num Od.pairPortB)) * 2 ^ 19
    + boolNat s.peerStale * 2 ^ 18 + boolNat s.pair.claimIn * 2 ^ 17 + boolNat s.pair.claimOut * 2 ^ 16
    + boolNat s.authority * 2 ^ 15 + boolNat s.pair.lineFault * 2 ^ 14 + boolNat s.selfTestFail * 2 ^ 13
    + boolNat (s.dom s.pairDom).pairBad * 2 ^ 12 + satAt 255 out

/-- Set or clear Suspect, RevertSuspended and ClaimLineFault with their events. -/
def State.setSuspect (s : State) (v : Bool) : State :=
  if s.pair.suspect = v then s
  else let t := s.setPair { s.pair with suspect := v }; t.raiseFlag 0xB04 0x80 0 v 22 t.pairHealth

def State.setRevert (s : State) (v : Bool) : State :=
  if s.pair.revertSuspended = v then s
  else let t := s.setPair { s.pair with revertSuspended := v }; t.raiseFlag 0xB04 0x80 0 v 21 t.pairHealth

def State.setLineFault (s : State) (v : Bool) : State :=
  if s.pair.lineFault = v then s
  else let t := s.setPair { s.pair with lineFault := v }; t.raiseFlag 0xB02 0x80 0 v 14 t.pairHealth

/-! ### Forming (R446, R447) -/

/-- The conditions of a PairEnable write. -/
def State.checkPairEnable (s : State) (value : Nat) : Except Code Unit := need (value == 1 || s.pairedRunning.isEmpty) .precondition

def State.applyPairEnable (s : State) (value : Nat) : State :=
  let t := s.setNum Od.pairEnable value
  if value = 1 then (if s.pairState = 0 then t.setPairState 1 0 else t)
  else
    let t := t.setPairState 0 0
    if t.paddle = 3 then t.setPaddle 0 else t

/-- PairEnable. -/
def pairEnable (who : Caller) (value : Nat) (s : State) : Act := do
  s.gateRange who Od.pairEnable false 0 (.num value)
  s.checkPairEnable value
  .ok ((s.applyPairEnable value).bumpVersion Od.pairEnable 0)

def execPairEnable (who : Caller) (value : Nat) (s : State) : Res := .next (s.answer who (pairEnable who value s))

/-- The Hello fields of this module: Serial, PairId, Role, PairBeat and PairDomain. -/
def State.helloFields (s : State) : List Nat :=
  [s.ownSerial, s.num Od.pairId, boolNat s.pair.roleB, s.num Od.pairBeat, s.pairDom]

/-- PAIR_HELLO_SEND: every 100 ms and at once after a change. -/
def pairHelloSend (s : State) : State :=
  let f := s.helloFields
  if s.pairOn ∧ (f ≠ s.pair.helloSaid ∨ s.pair.helloAt + 100000000 ≤ s.gtc) then
    (s.setPair { s.pair with helloAt := s.gtc, helloSaid := f }).sendPair 1 0
      (toBE 8 s.ownSerial ++ toBE 4 (s.num Od.pairId) ++ toBE 1 (boolNat s.pair.roleB) ++ toBE 1 (s.num Od.pairBeat) ++ toBE 1 s.pairDom ++ toBE 1 0)
  else s

def execPairHelloSend (s : State) : Res := .next (pairHelloSend s)

/-- PAIR_HELLO: forms the pair or sets Conflict, whose cause is 1 role, 2 PairBeat or 3 PairDomain (Table 12-1). -/
def pairHello (port seq serial pairId role beat dom : Nat) (s : State) : State :=
  match s.takePair port seq with
  | none => s
  | some t =>
    if pairId ≠ s.num Od.pairId then t
    else
      let cause := if role = boolNat s.pair.roleB then 1 else if beat ≠ s.num Od.pairBeat then 2 else if dom ≠ s.pairDom then 3 else 0
      let expected := s.num Od.peerSerialExpected
      if cause ≠ 0 then t.setPairState 3 cause
      else if expected ≠ 0 ∧ expected ≠ serial then t
      else
        let t := t.setNum Od.peerSerial serial
        if t.pairState = 1 ∨ t.pairState = 3 then t.setPairState 2 0 else t

def execPairHello (port : Fin 256) (seq : Nat) (serial : Nat) (pairId : Nat) (role : Nat) (beat : Nat) (dom : Nat) (s : State) : Res :=
  .next (pairHello port.val seq serial pairId role beat dom s)

/-- PAIR_ISOLATED: no pair message for four beats, or for 3 s. -/
def pairIsolated (s : State) : State :=
  if s.pairState = 2 ∧ s.pair.heardAt + 4 * s.beatNs ≤ s.gtc then s.setPairState 4 0
  else if s.pairState = 4 ∧ s.pair.heardAt + 3000000000 ≤ s.gtc then s.setPairState 1 0
  else s

def execPairIsolated (s : State) : Res := .next (pairIsolated s)

/-! ### Beats and the lease (R462, R463) -/

/-- The renewal conditions at beat value `b`, from the requests of C-die 0 and 1. -/
def State.renews (s : State) (b : Int) (c0 c1 : Bool) : Bool :=
  let run := s.pairedRunning
  let asked := if run.isEmpty then c0 else run.all fun i => if s.scanSp i < 16 then c0 else c1
  let bound := b + s.leaseTime
  let free := match s.pair.release, s.pair.offer with
    | some (x, _), _ => decide (bound < x)
    | none, some (h, _, _) => decide (bound < h)
    | none, none => true
  s.authority && asked && free && (decide (s.shedLevel < 3) || (s.shedLevel == 3 && !run.isEmpty))

/-- The Beat of this module (Table 12-3). -/
def State.beatBody (s : State) (b : Int) : Bytes :=
  let health := boolNat s.eligible_ + boolNat s.faultEligible * 2 + boolNat s.pair.suspect * 4 + boolNat (s.releaseCause != 0) * 8
    + boolNat s.selfTestFail * 16 + boolNat s.pair.revertSuspended * 32
  let exp := match s.pair.expires with
    | some e => if s.paddle = 2 then timeOfValue e else 0
    | none => 0
  toBE 12 (timeOfValue b) ++ toBE 1 s.paddle ++ toBE 1 s.shedLevel ++ toBE 2 health ++ toBE 12 exp

/-- The events of pair links and of a stale peer, and how long this module has been Eligible. -/
def State.pairWatch (s : State) : State :=
  let a := s.pairLinkUp (s.num Od.pairPortA)
  let b := s.pairLinkUp (s.num Od.pairPortB)
  let t := if a = s.pair.linkA then s else s.raiseOcc 0xB05 0x01 (s.num Od.pairPortA % 256) (if a then 1 else 2) 0
  let t := if b = s.pair.linkB then t else t.raiseOcc 0xB05 0x01 (s.num Od.pairPortB % 256) (if b then 1 else 2) 0
  let t := match t.pair.peerStatus with
    | some r => if !r.stale ∧ r.at_ + 3000000 * t.num Od.reportInterval90000C < t.gtc then
        (t.setPair { t.pair with peerStatus := some { r with stale := true } }).raiseOcc 0xB05 0x80 0 3 0
      else t
    | none => t
  let since := if t.eligible_ then some (t.pair.eligibleSince.getD t.gtc) else none
  t.setPair { t.pair with linkA := a, linkB := b, eligibleSince := since }

/-- BEAT: the lease is renewed and the Beat sent. -/
def beat (c0 c1 : Bool) (s : State) : State :=
  let k := s.pairNow / s.beatUnits
  if (s.dom s.pairDom).state = 0 ∨ k = s.pair.beatNo then s
  else
    let b := k * s.beatUnits
    let t := if s.renews b c0 c1 then s.setPair { s.pair with expires := some (b + s.leaseTime) } else s
    let t := (t.setPair { t.pair with beatNo := k }).pairWatch
    if t.pairOn then t.sendPair 2 0 (t.beatBody b) else t

def execBeat (c0 : Bool) (c1 : Bool) (s : State) : Res := .next (beat c0 c1 s)

/-- BEAT_RECEIVE: the peer's paddle state, eligibility and lease. -/
def beatReceive (port seq : Nat) (m : BeatMsg) (s : State) : State :=
  match s.takePair port seq with
  | none => s
  | some t =>
    let future := m.expires ≠ 0 ∧ s.pairNow < valueOfTime m.expires
    let t := t.setPair { t.pair with peerBeat := some m, peerExpires := if future then some m.expires else t.pair.peerExpires }
    let t := if t.pairState = 4 then t.setPairState 2 0 else t
    let t := if t.paddle = 0 ∧ t.peerHolds then t.setPaddle 3 else t
    if t.pair.claimIn && t.peerHolds then t.setLineFault false else t

def execBeatReceive (port : Fin 256) (seq : Nat) (msg : BeatMsg) (s : State) : Res := .next (beatReceive port.val seq msg s)

/-! ### Authority: its end and its gain (R464 to R474) -/

/-- Authority ends: the net and CLAIM_OUT_N are deasserted. `x` is the instant that ended it. -/
def State.endAuthority (s : State) (x : Int) : State :=
  let t := (numbersFrom 0 48).foldl (fun u n =>
    if u.pinClass n = 1 ∧ u.authority && (u.pin n).level then u.setPin n { u.pin n with offAt := u.gtc } else u) s
  let t := t.setPair { t.pair with
    gained := false, claimOut := false, expires := none, claimWaits := false, release := none, offer := none, lostAt := some x, causeHeld := 0 }
  (t.setPaddle (if t.pairState = 2 then 3 else 0)).notePins

/-- LEASE_EXPIRY (R462). -/
def leaseExpiry (s : State) : State :=
  match s.pair.expires with
  | some e => if s.pair.gained ∧ !s.leaseLive then s.endAuthority e else s
  | none => s

def execLeaseExpiry (s : State) : Res := .next (leaseExpiry s)

/-- The instant X that lets this module claim, with whether the handover was planned and its cause (Table 12-7): an announced
instant that has come, or a lease of the peer that has run out. -/
def State.claimInstant (s : State) : Option (Int × Bool × Nat) :=
  let now := s.pairNow
  match s.pair.taking with
  | some (x, p, c) => if x ≤ now then some (x, p, c) else none
  | none => match s.pair.peerExpires with
    | some e => if valueOfTime e ≤ now then some (valueOfTime e, false, 3) else none
    | none => none

/-- A condition of Table 12-7 is met. -/
def State.mayClaim (s : State) : Bool :=
  (s.paddle == 0 && s.pairState != 2 && s.pair.peerExpires.isNone)
    || ((s.paddle == 0 || s.paddle == 3) && s.claimInstant.isSome)

/-- CLAIM: assert CLAIM_OUT_N (R466). -/
def claim (claimIn : Bool) (s : State) : State :=
  let t := s.setPair { s.pair with claimIn := claimIn }
  if (s.paddle = 0 ∨ s.paddle = 3) ∧ !claimIn ∧ s.pairState ≠ 3 ∧ !s.hardCause ∧ s.mayClaim ∧ s.pair.retryAt ≤ s.gtc
      ∧ (s.dom s.pairDom).state ≠ 0 then
    (t.setPair { t.pair with claimOut := true, claimAt := s.gtc, claimWaits := false }).setPaddle 1
  else t

def execClaim (claimIn : Bool) (s : State) : Res := .next (claim claimIn s)

/-- A planned handover by command to the module that is not preferred suspends reverts (R476). -/
def State.suspendsRevert (s : State) (toB : Bool) (cause : Nat) : Bool :=
  (cause == 1 || cause == 2) && s.num Od.pairPreferred != 2 && s.num Od.pairPreferred != boolNat toB

/-- The claim is gained: the lease runs to LeaseTime after the next beat, and the queue is divided at X (R466, R473). -/
def State.gainClaim (s : State) : State :=
  let x := s.claimInstant
  let now := s.pairNow
  let exp := (now / s.beatUnits + 1) * s.beatUnits + s.leaseTime
  let lost := s.pair.lostAt
  let t := s.setPair { s.pair with gained := true, expires := some exp, claimWaits := false, taking := none, asked := none, release := none, offer := none }
  let t := (t.setPaddle 2).setLineFault false
  let t := t.setQueue (t.fio.queue.filter fun e => !(e.resynced && (match lost with
    | some l => decide (l ≤ e.time)
    | none => false)))
  match x with
  | none => t.gainPins fun _ => true
  | some (v, planned, cause) =>
    let t := t.setNum Od.lastGap (sat32 ((now - v) / 2 ^ 48).toNat)
    let t := if planned then (t.count32 Od.handovers).raiseOcc 0xB01 0x80 0 3 cause
      else (t.count32 Od.failovers).raiseOcc 0xB01 0x80 0 4 cause
    let t := if planned && t.suspendsRevert t.pair.roleB cause then t.setRevert true else t
    let xg := ((t.dom t.pairDom).gtcOf v).getD 0
    t.gainPins fun e => (if e.dom = t.pairDom then decide (v ≤ e.time) else decide (2 * xg ≤ e.fixed.getD 0)) || !e.peerUsed

/-- CLAIM_SAMPLE: CLAIM_IN_N is sampled 200 ns after the assertion, and by ROLE_SEL A on every tick from then on. -/
def claimSample (claimIn : Bool) (s : State) : State :=
  let t := s.setPair { s.pair with claimIn := claimIn }
  if s.paddle ≠ 1 ∨ s.gtc < s.pair.claimAt + 200 then t
  else if !claimIn then t.gainClaim
  else if s.pair.roleB then
    (t.setPair { t.pair with claimOut := false, retryAt := s.gtc + 1000 * s.num Od.leaseTime }).setPaddle (if s.pairState = 2 then 3 else 0)
  else t.setPair { t.pair with claimWaits := true }

def execClaimSample (claimIn : Bool) (s : State) : Res := .next (claimSample claimIn s)

/-- CLAIM_IN_ASSERTED (R467, R468). -/
def claimInAsserted (s : State) : State :=
  let t := s.setPair { s.pair with claimIn := true }
  let t := if t.peerHolds then t.setLineFault false else t
  if s.isHolder then
    let t := (t.count32 Od.claimConflicts).raiseOcc 0xB02 0x80 0 1 0
    if s.pair.roleB then t.endAuthority s.pairNow else t
  else t

def execClaimInAsserted (s : State) : Res := .next (claimInAsserted s)

/-- CLAIM_LINE_FAULT (R468). -/
def claimLineFault (since : Nat) (s : State) : State :=
  let t := s.setPair { s.pair with claimIn := false }
  if s.paddle = 3 ∧ !s.mayClaim ∧ since + s.beatNs ≤ s.gtc then t.setLineFault true else t

def execClaimLineFault (since : Nat) (s : State) : Res := .next (claimLineFault since s)

/-- RELEASE_CAUSE: the holder announces its release at a beat, or keeps the paddle while the peer is not FaultEligible
(R470). -/
def releaseCauseCmd (s : State) : State :=
  let c := s.releaseCause
  if s.paddle ≠ 2 ∨ s.pair.release.isSome then s
  else if c = 0 then s.setPair { s.pair with causeHeld := 0 }
  else if s.peerFaultEligible && s.pairState == 2 then
    let x := s.beatFrom (s.pairNow + 10000 * 2 ^ 48) * s.beatUnits
    let t := s.setPair { s.pair with release := some (x, c), offer := none, causeHeld := 0 }
    (t.setPaddle 4).sendPair 8 0 (instantBody (timeOfValue x) c)
  else if s.pair.causeHeld = c then s
  else (s.setPair { s.pair with causeHeld := c }).raiseOcc 0xB01 0x80 0 7 c

def execReleaseCause (s : State) : Res := .next (releaseCauseCmd s)

/-- RELEASE_INSTANT: the announced beat has come. -/
def releaseInstant (s : State) : State :=
  match s.pair.release with
  | some (x, _) => if x ≤ s.pairNow ∧ s.isHolder then s.endAuthority x else s
  | none => s

def execReleaseInstant (s : State) : Res := .next (releaseInstant s)

/-- RELEASE: the standby may claim at the named instant. -/
def release (port seq instant cause : Nat) (s : State) : State :=
  match s.takePair port seq with
  | none => s
  | some t =>
    if s.isHolder then t
    else
      let t := t.setPair { t.pair with taking := some (valueOfTime instant, false, cause) }
      if t.paddle = 0 then t.setPaddle 3 else t

def execRelease (port : Fin 256) (seq : Nat) (instant : Nat) (cause : Nat) (s : State) : Res := .next (release port.val seq instant cause s)

/-! ### Planned handover (R472, R475, R476) -/

/-- A trip-class entry of the queue has T in [v, v + 1 µs). -/
def State.tripAt (s : State) (v : Int) : Bool :=
  s.fio.queue.any fun e => s.pinClass e.pin == 1 && !e.closing && e.dom == s.pairDom && decide (v ≤ e.time) && decide (e.time < v + 1000 * 2 ^ 48)

/-- Send an Offer: cause 1 by command, 2 for a commanded TakeRequest, 3 for a revert. -/
def State.makeOffer (s : State) (cause : Nat) : State :=
  let u := s.beatUnits
  let k0 := s.beatFrom (s.pairNow + 2 * u)
  let k := match (numbersFrom 0 16).find? fun (j : Nat) => !s.tripAt ((k0 + j) * u) with
    | some j => k0 + (j : Int)
    | none => k0 + 16
  (s.setPair { s.pair with offer := some (k * u, false, cause) }).sendPair 5 0 (instantBody (timeOfValue (k * u)) cause)

/-- OFFER: the standby accepts when it is Eligible. -/
def offerCmd (port seq instant cause : Nat) (s : State) : State :=
  match s.takePair port seq with
  | none => s
  | some t =>
    let t := t.setPair { t.pair with asked := none }
    if t.eligible_ ∧ !t.isHolder then
      (t.setPair { t.pair with taking := some (valueOfTime instant, true, cause) }).sendPair 6 0 (instantBody instant cause)
    else t.sendPair 7 0 (instantBody instant 1)

def execOffer (port : Fin 256) (seq : Nat) (instant : Nat) (cause : Nat) (s : State) : Res := .next (offerCmd port.val seq instant cause s)

/-- ACCEPT: the holder releases at H when it arrives before H − 10 µs. -/
def accept (port seq instant _cause : Nat) (s : State) : State :=
  match s.takePair port seq with
  | none => s
  | some t =>
    match t.pair.offer with
    | some (h, _, c) =>
      if timeOfValue h = instant ∧ t.pairNow < h - 10000 * 2 ^ 48 ∧ t.paddle = 2 then
        (t.setPair { t.pair with offer := some (h, true, c) }).setPaddle 4
      else t
    | none => t

def execAccept (port : Fin 256) (seq : Nat) (instant : Nat) (cause : Nat) (s : State) : Res := .next (accept port.val seq instant cause s)

/-- REFUSE. -/
def refuse (port seq _instant cause : Nat) (s : State) : State :=
  match s.takePair port seq with
  | none => s
  | some t =>
    if t.pair.offer.isSome ∨ t.pair.asked.isSome then
      (t.setPair { t.pair with offer := none, asked := none }).raiseOcc 0xB01 0x80 0 5 cause
    else t

def execRefuse (port : Fin 256) (seq : Nat) (instant : Nat) (cause : Nat) (s : State) : Res := .next (refuse port.val seq instant cause s)

/-- TAKE_REQUEST: the holder answers with an Offer or a Refuse; request cause 1 is a command, 2 a revert. -/
def takeRequest (port seq instant cause : Nat) (s : State) : State :=
  match s.takePair port seq with
  | none => s
  | some t =>
    if !t.isHolder then t.sendPair 7 0 (instantBody instant 3)
    else if t.pair.offer.isSome ∨ t.pair.release.isSome then t.sendPair 7 0 (instantBody instant 2)
    else if t.peerEligible then t.makeOffer (if cause = 1 then 2 else 3)
    else t.sendPair 7 0 (instantBody instant 1)

def execTakeRequest (port : Fin 256) (seq : Nat) (instant : Nat) (cause : Nat) (s : State) : Res :=
  .next (takeRequest port.val seq instant cause s)

/-- HANDOVER_INSTANT: PairDomain reaches H. -/
def handoverInstant (s : State) : State :=
  match s.pair.offer with
  | some (h, accepted, c) =>
    if s.pairNow < h then s
    else if accepted then
      let t := s.endAuthority h
      if t.suspendsRevert (!t.pair.roleB) c then t.setRevert true else t
    else (s.setPair { s.pair with offer := none }).raiseOcc 0xB01 0x80 0 6 c
  | none => s

def execHandoverInstant (s : State) : Res := .next (handoverInstant s)

/-- TAKE_BACK (R475). -/
def takeBack (s : State) : State :=
  let long : Bool := match s.pair.eligibleSince with
    | some g => decide (g + 1000000 * s.num Od.revertHold ≤ s.gtc)
    | none => false
  if s.paddle = 3 ∧ s.num Od.pairPreferred = boolNat s.pair.roleB ∧ long ∧ s.eligible_ ∧ !s.pair.revertSuspended ∧ s.pair.asked.isNone
      ∧ (s.pairedRunning.all fun i => decide (s.num Od.revertScans ≤ s.num Od.agreedRun i)) then
    ((s.setPair { s.pair with asked := some 2 }).sendPair 9 0 (instantBody 0 2)).raiseOcc 0xB04 0x80 0 5 0
  else s

def execTakeBack (s : State) : Res := .next (takeBack s)

/-- PaddleCommand 1 (Table 12-10). -/
def paddleHandOver (who : Caller) (s : State) : Act := do
  s.gateRange who Od.paddleCommand false 0 (.num 1)
  need (s.paddle == 2) .precondition
  need s.peerEligible .notInStep
  need (s.pair.offer.isNone && s.pair.release.isNone) .inProgress
  .ok (s.makeOffer 1)

def execPaddleHandOver (who : Caller) (s : State) : Res := .next (s.answer who (paddleHandOver who s))

/-- PaddleCommand 2. -/
def paddleTake (who : Caller) (s : State) : Act := do
  s.gateRange who Od.paddleCommand false 0 (.num 2)
  need (s.paddle == 3) .precondition
  need s.eligible_ .notInStep
  need s.pair.asked.isNone .inProgress
  .ok ((s.setPair { s.pair with asked := some 1 }).sendPair 9 0 (instantBody 0 1))

def execPaddleTake (who : Caller) (s : State) : Res := .next (s.answer who (paddleTake who s))

/-- PaddleCommand 3. -/
def clearSuspect (who : Caller) (s : State) : Act := do
  s.gateRange who Od.paddleCommand false 0 (.num 3)
  .ok (s.setSuspect false)

def execClearSuspect (who : Caller) (s : State) : Res := .next (s.answer who (clearSuspect who s))

/-- PaddleCommand 4. -/
def clearRevert (who : Caller) (s : State) : Act := do
  s.gateRange who Od.paddleCommand false 0 (.num 4)
  .ok (s.setRevert false)

def execClearRevertSuspended (who : Caller) (s : State) : Res := .next (s.answer who (clearRevert who s))

/-! ### Self-tests (R477) -/

/-- SELF_TEST_FAIL: a failing authority test ends authority at once. -/
def selfTestFail (k : Nat) (s : State) : State :=
  if (tabGet none s.pair.tests k).isSome then s
  else
    let x := s.pairNow
    let was := s.pair.gained
    let t := if was ∧ k < 4 then s.endAuthority x else s
    let t := t.setPair { t.pair with tests := tabSet none t.pair.tests k (some 0) }
    t.raiseFlag 0xB03 0x80 0 true 13 t.pairHealth

def execSelfTestFail (test : Fin 6) (s : State) : Res := .next (selfTestFail test.val s)

/-- SELF_TEST_RECOVER. -/
def selfTestRecover (k : Nat) (s : State) : State :=
  if (tabGet none s.pair.tests k).isNone then s
  else
    let t := s.setPair { s.pair with tests := tabSet none s.pair.tests k none }
    t.raiseFlag 0xB03 0x80 0 false 13 t.pairHealth

def execSelfTestRecover (test : Fin 6) (s : State) : Res := .next (selfTestRecover test.val s)

/-! ### Status (R478) -/

/-- STATUS_SEND: every ReportInterval and on a State change. -/
def statusSend (s : State) : State :=
  let s := s.watchHealth
  let st := hwState s.moduleHealth
  if s.pairOn ∧ (st ≠ s.pair.statusState ∨ s.pair.statusAt + 1000000 * s.num Od.reportInterval90000C ≤ s.gtc) then
    (s.setPair { s.pair with statusAt := s.gtc, statusState := st }).sendPair 4 0 (s.ownReport (s.xosynSeq 0xB 0))
  else s

def execStatusSend (s : State) : Res := .next (statusSend s)

/-- STATUS: the peer's report. -/
def statusReceive (port seq : Nat) (m : ReportMsg) (s : State) : State :=
  match s.takePair port seq with
  | none => s
  | some t =>
    let was := t.peerStale
    let t := t.setPair { t.pair with peerStatus := some ⟨m.seq, m.health, m.share, m.used, m.held, m.inUse, s.gtc, false⟩ }
    if was then t.raiseOcc 0xB05 0x80 0 4 0 else t

def execStatus (port : Fin 256) (seq : Nat) (msg : ReportMsg) (s : State) : Res := .next (statusReceive port.val seq msg s)

/-! ### The digest exchange (R450 to R457) -/

/-- The image map names an entry of kind 17 or 18 (R454). -/
def Prog.localReading (p : Prog) : Bool := p.map.any fun m => m.kind == 17 || m.kind == 18

/-- The first octets of a program's Sha384. -/
def Prog.tag (p : Prog) (n : Nat) : Nat := ofBE (p.digest.take n)

/-- This module's record of the scan under way of an instance. -/
def State.ownRecord (s : State) (i : Nat) : Option DigestRec :=
  let x := s.scanOf i
  x.prog.map fun p =>
    let f := s.instState i == 4
    { inst := i, faulted := f, localReading := p.localReading, ferryPending := x.switchAt.isSome, joining := (s.pairInst i).asking
      tag := p.tag 4, scan := x.scan, image := if f then 0 else x.imageDigest, output := if f then 0 else x.outDigest }

/-- A record in network order (Table 12-4). -/
def DigestRec.encode (r : DigestRec) : Bytes :=
  toBE 2 r.inst ++ toBE 2 (boolNat r.faulted + boolNat r.localReading * 2 + boolNat r.ferryPending * 4 + boolNat r.joining * 8)
    ++ toBE 4 r.tag ++ toBE 8 r.scan ++ toBE 8 r.image ++ toBE 8 r.output

/-- The instances whose record is due: the scan has ended, or the instance is Faulted, and B_k − 20 µs has come. -/
def State.recordsDue (s : State) : List Nat :=
  s.inst.present.filter fun i =>
    s.paired i && (s.instState i == 3 || s.instState i == 4) && (s.scanOf i).phase == 2
      && (s.pairInst i).sent != some (s.scanOf i).scan && s.deadlinePassed i

/-- DIGEST_SEND: up to 40 records in a message. -/
def digestSend (s : State) : State :=
  let due := s.recordsDue.take 40
  if !s.pairOn ∨ due.isEmpty then s
  else
    let rs := due.filterMap s.ownRecord
    let t := due.foldl (fun u i => u.setPairInst i { u.pairInst i with sent := some (u.scanOf i).scan }) s
    t.sendPair 3 rs.length (rs.flatMap DigestRec.encode)

def execDigestSend (s : State) : Res := .next (digestSend s)

/-- The end of the pair window, B_k − 3 µs, has come. -/
def State.windowClosed (s : State) (i : Nat) : Bool := match s.boundaryGtc i with
  | some g => decide (g < s.gtc + 3000)
  | none => true

/-- One record of the peer (R449). -/
def State.takeDigest (s : State) (r : DigestRec) : State :=
  let i := r.inst % 256
  if !s.paired i then s
  else
    let x := s.pairInst i
    let k := (s.scanOf i).scan
    let live := s.instState i == 3 || s.instState i == 4
    let s := s.setPairInst i { x with lastUsed := some (r, s.gtc) }
    if !live ∨ s.windowClosed i then s
    else if r.scan = k then s.setPairInst i { s.pairInst i with peer := some r }
    else if k < r.scan then
      (s.setPairInst i { s.pairInst i with adopt := some r.scan }).raiseOcc (pairInstSource i) 0x81 i 4 r.scan
    else s

/-- DIGEST: the peer's records. -/
def digest (port seq : Nat) (l : List DigestRec) (s : State) : State :=
  match s.takePair port seq with
  | none => s
  | some t => l.foldl (fun u r => u.takeDigest r) t

def execDigest (port : Fin 256) (seq : Nat) (records : List DigestRec) (s : State) : Res := .next (digest port.val seq records s)

/-- The outcome of a scan (Table 12-5): 0 Agreed, 1 ImageMismatch, 2 OutputMismatch, 3 LocalDiffer, 4 Unconfirmed,
5 PeerFaulted, 6 TagMismatch. -/
def outcomeOf (own : DigestRec) : Option DigestRec → Nat
  | none => 4
  | some p => if p.faulted then 5 else if p.tag ≠ own.tag then 6 else if p.image ≠ own.image then 1
      else if p.output = own.output then 0 else if own.localReading then 3 else 2

/-- The event of mismatches, at most one per instance and second, with the first scan since the last one (R455). -/
def State.mismatchEvent (s : State) (i scan : Nat) : State :=
  let k := (pairInstSource i * 2 ^ 16 + 0xA002) * 2 ^ 32 + itemKey 0x81 i
  let (_, n) := tabGet (0, 0) s.inst.rateLimit k
  let t := if n = 0 then s.setNum Od.lastMismatchScan scan i else s
  t.raiseLimited (pairInstSource i) 0xA002 0x81 i (t.num Od.lastMismatchScan i)

/-- Clear Suspect when every paired instance that runs on both modules has agreed for RevertScans (R457). -/
def State.reviewSuspect (s : State) : State :=
  if s.pair.suspect && (s.pairedRunning.filter s.peerRuns).all fun i => decide (s.num Od.revertScans ≤ s.num Od.agreedRun i) then
    s.setSuspect false
  else s

/-- T_rs in units of 1/16 ns with its bound (R458); none without a pair link that is Up. -/
def State.resyncFits (s : State) (i : Nat) : Bool :=
  match (s.scanOf i).prog, ((s.pairPorts.filter s.portUp).map s.macRate).filter (· != 0) with
  | some p, r :: rs =>
    let rate := rs.foldl min r
    let bound := s.scanP i - (s.scanM i - s.scanA i) - 2000
    decide (p.dataSize * rate + 8 * p.dataSize * 1000000000 * 16 + 64000 * rate ≤ 16 * bound * rate)
  | _, _ => false

/-- InstancePairState after an outcome (Table 12-6, R456), and whether resynchronisation is asked for (R459). -/
def State.pairAdvance (s : State) (i outcome : Nat) : State :=
  let x := s.pairInst i
  let st := s.instPairState i
  let mism := outcome == 1 || outcome == 2 || outcome == 6
  let ferry := (s.scanOf i).switchAt.isSome || (match x.peer with | some r => r.ferryPending | none => false)
  let new :=
    if outcome = 0 then 3
    else if 3 ≤ x.absent ∨ s.pairState ≠ 2 then 1
    else if outcome = 6 ∧ !ferry ∧ st ≠ 2 then 5
    else if mism ∧ st ≠ 2 ∧ s.num Od.mismatchLimit ≤ x.mismatches then 4
    else st
  let t := s.setInstPair i new
  let lost := new == 2 || new == 4
  let want := lost && !s.holderPart && t.pairState == 2 && t.resyncFits i
    && (x.asking || (s.num Od.autoResync == 1 && (st != new || decide (x.tries < 3))))
  t.setPairInst i { x with asking := want, tries := if lost && new == st then x.tries else 0, agreedOnce := x.agreedOnce || outcome == 0 }

/-- DIGEST_COMPARE: at B_k − 3 µs the scan has its outcome. -/
def digestCompare (i : Nat) (s : State) : State :=
  match s.ownRecord i with
  | none => s
  | some own =>
    let x := s.pairInst i
    if !s.paired i ∨ s.instState i ≠ 3 ∨ (s.scanOf i).phase ≠ 2 ∨ x.outcome.isSome ∨ !(match s.boundaryGtc i with
        | some g => decide (g ≤ s.gtc + 3000)
        | none => false) then s
    else
      let o := outcomeOf own x.peer
      let joining := s.instPairState i == 2
      let mism := o == 1 || o == 2 || o == 6
      let y := { x with outcome := some o, absent := if o = 4 then x.absent + 1 else 0
                        mismatches := if o = 0 then 0 else if mism && !joining then x.mismatches + 1 else x.mismatches }
      let t := s.setPairInst i y
      let t := t.setNum Od.agreedRun (if o = 0 ∨ o = 3 then sat32 (s.num Od.agreedRun i + 1) else 0) i
      let t := if o = 3 then t.count32 Od.localOutputDiffers 1 i else if o = 4 then t.count32 Od.unconfirmedScans 1 i else t
      let t := if mism && !joining then
          (let t := if o = 1 then t.count32 Od.imageMismatches 1 i else if o = 2 then t.count32 Od.outputMismatches 1 i else t
           t.mismatchEvent i own.scan)
        else t
      let t := if (o == 1 || o == 2) && !s.holderPart then t.setSuspect true else t
      (t.pairAdvance i o).reviewSuspect

def execDigestCompare (inst : Fin 256) (s : State) : Res := .next (digestCompare inst.val s)

/-- The scan commits an empty record (Table 12-5, R453). -/
def State.commitsEmpty (s : State) (i : Nat) : Bool :=
  s.paired i && !s.holderPart && ((s.pairInst i).outcome == some 1 || (s.pairInst i).outcome == some 2)

/-- A record of the peer was used for the scan. -/
def State.usedPeer (s : State) (i : Nat) : Bool := (s.pairInst i).peer.isSome

/-- PairJoin 1 (R460). -/
def pairJoin (who : Caller) (i : Nat) (s : State) : Act := do
  s.gateRange who Od.pairJoin true i (.num 1)
  need (s.resyncFits i) .outOfRange
  need (!s.inReset i) .busy
  need (s.instPairState i == 2 || s.instPairState i == 4) .precondition
  .ok (s.setPairInst i { s.pairInst i with asking := true, tries := 0 })

def execPairJoin (who : Caller) (inst : Fin 256) (s : State) : Res := .next (s.answer who (pairJoin who inst.val s))

end Sys2Proof.Machine
end

