-- ==== Sys2Proof/Machine/ScanRun.lean ====
section
/-! DEFINITION. Loading, starting, freezing, committing, restarting and switching of scans (Chapter 10, R384 to R415), with
the basket (R531 to R533) and the boundary work of a pair (R459, R481). -/

namespace Sys2Proof.Machine

/-! ### Objects of a program -/

/-- The objects that name the loaded program (Table 10-14). -/
def State.programObjects (s : State) (i : Nat) (p : Prog) : State :=
  (((s.setNum Od.programId p.id i).setNum Od.programVersion p.version i).setNum Od.programBudget p.budget i).setBlob
    Od.programDigest p.digest i

/-- Write a field of FerryStatus. -/
def State.setFerry (s : State) (i off n v : Nat) : State :=
  let b := s.blob Od.ferryStatus i
  s.setBlob Od.ferryStatus (splice (b ++ List.replicate (32 - b.length) 0) off (toLE n v)) i

/-- The items that hold a source of an image map. -/
def State.mapItem (s : State) (m : MapEnt) : Option (Nat × Nat) :=
  match m.kind with
  | 16 => some (0x05, m.num)
  | 17 => some (0x07, m.num)
  | 18 => some (0x06, m.num)
  | 19 => s.sourceItem (12, m.num)
  | 20 => none
  | k => s.sourceItem (k, m.num)

/-! ### The rules of a start (R386) -/

/-- Rules 4 and 5 for the sources of a program. -/
def State.checkSources (s : State) (i : Nat) (p : Prog) : Except Code Unit := do
  need (p.map.all fun m => match s.mapItem m with
    | some (k, n) => s.inInstance i (s.holderOf k n)
    | none => true) .notOwner
  need (p.map.all fun m => (decide (16 ≤ m.kind) && decide (m.kind ≤ 18)) || match s.imageSource m.kind m.num with
    | some (d, _, _) => d == s.scanD i
    | none => false) .precondition

/-- The room for the image (R386 rule 6, R531). -/
def State.imageFits (s : State) (i : Nat) (p : Prog) : Bool :=
  decide (imageSize (s.layoutOf i p) + s.basketBytes i ≤ p.imageArea) && (s.basketBytes i == 0 || decide (4096 ≤ p.varSize))

/-- The processor has room for a program beside what its running instances hold. -/
def State.spFits (s : State) (i : Nat) (p : Prog) : Bool :=
  let (c, d) := s.spUsed (s.scanSp i)
  decide (c + p.code.length ≤ 262144) && decide (d + p.dataSize ≤ 262144)

/-- The execution budget of program `p` in instance `i`, in 1/32 ns. -/
def State.budgetOf (s : State) (i : Nat) (p : Prog) : Nat := s.execBudget i p (imageSize (s.layoutOf i p) + s.basketBytes i)

/-- R32 for the execution budget. -/
def State.marginsHold (s : State) (i cost : Nat) : Bool :=
  let g := s.scanM i - s.scanA i
  decide (s.scanA i ≤ s.scanM i) && decide (640000 + cost ≤ 32 * g) && decide (g + 2000 ≤ s.scanP i)

/-! ### Retained copies (R405, R406) -/

/-- The address of copy `k` of the retained block. -/
def ScanSt.retAddr (x : ScanSt) (k : Nat) : Option Nat := x.retPage.map fun p => p * 0x200000 + k * 0x100000

/-- Copy `k`, when it belongs to program `p`: its scan number, TimerClock and block; with `crc` only when its CRC-32C
passes. -/
def State.retCopy (s : State) (i k : Nat) (p : Prog) (crc : Bool) : Option (Nat × Nat × Bytes) :=
  match (s.scanOf i).retAddr k with
  | none => none
  | some a =>
    let h := s.hbmRead a 64
    let b := s.hbmRead (a + 64) p.retSize
    if s.num Od.retainedState i ≠ 0 ∧ p.retSize ≠ 0 ∧ leAt h 0 8 = p.id ∧ leAt h 8 4 = p.version ∧ leAt h 28 4 = p.retSize
        ∧ (crc = false ∨ crc32c (h.take 60 ++ b) = leAt h 60 4) then some (leAt h 12 8, leAt h 20 8, b) else none

/-- The copy with the higher scan number. -/
def State.bestCopy (s : State) (i : Nat) (p : Prog) (crc : Bool) : Option (Nat × Nat × Bytes) :=
  match s.retCopy i 0 p crc, s.retCopy i 1 p crc with
  | some a, some b => if a.1 < b.1 then some b else some a
  | some a, none => some a
  | none, b => b

/-- Write the retained block as scan `n` to the copy that is not the latest. -/
def State.writeRetained (s : State) (i n : Nat) : State :=
  let x := s.scanOf i
  let k := boolNat x.retB
  match x.prog, x.retAddr k with
  | some p, some a =>
    if p.retSize = 0 then s
    else
      let b := x.read p.retOffset p.retSize
      let h := toLE 8 p.id ++ toLE 4 p.version ++ toLE 8 n ++ toLE 8 x.timerClock ++ toLE 4 p.retSize ++ List.replicate 28 0
      let t := s.hbmWrite a (h ++ toLE 4 (crc32c (h ++ b)) ++ b)
      ((t.setScan i { x with retB := !x.retB }).setNum Od.retainedState (k + 1) i).setNum Od.retainedScan n i
  | _, _ => s

/-! ### Starting (R386, R387) -/

/-- The number of the first boundary whose freeze comes at or after `g`. -/
def State.firstBoundary (s : State) (i g : Nat) : Nat :=
  let lead := ((s.scanM i : Int) - s.scanA i) * 2 ^ 48
  (ceilDivInt ((s.dom (s.scanD i)).raw g + lead) (s.scanP i * 2 ^ 48)).toNat

/-- The checks of R386 in order; the program and the state with the charge admitted. -/
def State.checkStart (s : State) (i : Nat) (warm : Bool) : Except Code (Prog × State) := do
  match (s.scanOf i).prog with
  | none => .error .precondition
  | some p =>
    let d := s.scanD i
    need (s.protectionDom d && (!s.paired i || d == s.pairDom)) .precondition
    let st := (s.dom d).state
    need (st == 3 || st == 4) .timeNotLocked
    let cost := s.budgetOf i p
    need (s.marginsHold i cost) .precondition
    s.checkSources i p
    let sp := s.scanSp i
    need (s.num (Od.spState + sp) == 0 && (s.spRunning sp).all (fun j => j == i || s.scanD j == d)
      && (!warm || (s.bestCopy i p false).isSome)) .precondition
    need (s.imageFits i p && s.spFits i p && ((s.scanOf i).retPage.isSome || (s.pageRun i 1).isSome)
      && s.scanAdmits i cost false) .noResource
    let t ← s.admitCharge 0x81 i (s.instCharge i cost)
    need (decide (s.shedLevel < 3)) .shedLevel
    .ok (p, t)

/-- Start instance `i` at boundary number `b` (R387, R406). -/
def State.launch (s : State) (i : Nat) (p : Prog) (warm : Bool) (b : Nat) : State :=
  let x := s.scanOf i
  let s := if x.safeDue then s.safeOutputs i else s
  let (s, page) := match x.retPage with
    | some q => (s, some q)
    | none => match s.pageRun i 1 with
      | some q => (s.setBinding q 4, some q)
      | none => (s, none)
  let copy := if warm then s.bestCopy i p true else none
  let data := memWrite [] 0 p.init
  let data := match copy with
    | some (_, _, b) => memWrite data p.retOffset b
    | none => data
  let last := s.num Od.scanNumber i
  let y := { x with phase := 0, lay := s.layoutOf i p, isa := .init, data := data
                    scan := if last = 0 then b else max b (last + 1), boundary := b, dueGtc := none
                    nextFrom := none, first := true, afterWarm := copy.isSome, afterFerry := false, lastDropped := false
                    lastLate := false, stepBetween := false, prev := none, stepped := 0
                    timerClock := match copy with
                      | some (_, c, _) => c
                      | none => 0
                    commits := [], extra := 0, switchAt := none, stopDue := false, safeDue := false, autoWanted := false
                    pendingAny := false, retPage := page }
  let t := ((s.setScan i y).setNum Od.faultCause 0 i).setNum Od.maxExecCycles 0 i
  let t := if warm && copy.isNone then (t.count32 Od.retainedCrcFailures 1 i).instOcc i 8 0 else t
  let t := t.setPairInst i { PairInst.init with lastUsed := (t.pairInst i).lastUsed }
  let t := t.enterInst i 2 0
  if t.paired i then t.setInstPair i (if t.pairState = 2 ∧ t.peerRuns i then 2 else 1) else t

/-- A start that its rules accept, with its first freeze at or after `g`. -/
def State.startInstance (s : State) (i : Nat) (warm : Bool) (g : Nat) : Act := do
  let (p, t) ← s.checkStart i warm
  .ok (t.launch i p warm (t.firstBoundary i (max g (s.gtc + 50000))))

/-- The first octets of a ScanControl action: addressing, role, instance reset (R541), and the state it is accepted in. -/
def State.scanControl (s : State) (who : Caller) (i v : Nat) (ok : Bool) : Except Code Unit := do
  s.gateRange who Od.scanControl true i (.num v)
  need (!s.inReset i) .busy
  need ok .precondition

def startStates (st : Nat) : Bool := st == 0 || st == 1 || st == 4

/-- The body of StartPropose and StartAccept (Table 12-2). -/
def startBody (i n tag : Nat) : Bytes := toBE 2 i ++ toBE 1 1 ++ toBE 1 0 ++ toBE 8 n ++ toBE 8 tag

/-- ScanControl 1; a paired instance that both modules hold stopped proposes a paired cold start (R461). -/
def coldStart (who : Caller) (i : Nat) (s : State) : Act := do
  s.scanControl who i 1 (startStates (s.instState i))
  if s.paired i ∧ s.pairState = 2 ∧ s.instState i = 1 ∧ s.peerRuns i = false then
    let (p, t) ← s.checkStart i false
    let n := max (t.firstBoundary i (s.gtc + 2000000)) (s.num Od.scanNumber i + 1)
    let t := t.launch i p false n
    let t := t.setPairInst i { t.pairInst i with start := some n }
    .ok ((t.sendPair 14 0 (startBody i n (p.tag 8))).raiseOcc 0xB06 0x81 i 5 n)
  else s.startInstance i false 0

def execColdStart (who : Caller) (inst : Fin 256) (s : State) : Res := .next (s.answer who (coldStart who inst.val s))

/-- ScanControl 2. -/
def warmStart (who : Caller) (i : Nat) (s : State) : Act := do
  s.scanControl who i 2 (startStates (s.instState i))
  s.startInstance i true 0

def execWarmStart (who : Caller) (inst : Fin 256) (s : State) : Res := .next (s.answer who (warmStart who inst.val s))

/-- A stop is accepted: it takes place at the next boundary, and a pending switch is withdrawn (R388, R410). -/
def State.requestStop (s : State) (i : Nat) : State :=
  if s.instRunningState i then
    let x := s.scanOf i
    let t := s.setScan i { x with stopDue := true, switchAt := none }
    if x.switchAt.isSome then t.setNum Od.ferryState 2 i else t
  else s

/-- ScanControl 3. -/
def stopCmd (who : Caller) (i : Nat) (s : State) : Act := do
  s.scanControl who i 3 true
  .ok (s.requestStop i)

def execStopCmd (who : Caller) (inst : Fin 256) (s : State) : Res := .next (s.answer who (stopCmd who inst.val s))

/-! ### Loading and the candidate (R384, R407, R408) -/

/-- The variables that a switch carries: the entry of the running program with that of the candidate. -/
def carried (old new : Prog) : List (LayEnt × LayEnt) :=
  new.layout.filterMap fun v => if v.carry then (old.layout.find? fun o => o.var == v.var).map fun o => (o, v) else none

/-- The ferry cost in cycles. -/
def ferryCost (old new : Prog) : Nat := ((carried old new).map fun x => 1 + ceilDiv x.2.size 64).sum

/-- The checks of R407 on a candidate. -/
def State.checkCandidate (s : State) (i : Nat) (p q : Prog) : Act := do
  s.checkSources i q
  let cost := s.budgetOf i q
  need (s.marginsHold i cost) .precondition
  need (s.imageFits i q && s.spFits i q && s.scanAdmits i cost true) .noResource
  let t ← if s.runningBudget i < cost then s.admitCharge 0x81 i (s.instCharge i cost) else .ok s
  need (q.layout.all fun v => !v.carry || match p.layout.find? (fun o => o.var == v.var) with
    | some o => o.typ == v.typ && o.size == v.size
    | none => true) .precondition
  need (decide (ferryCost p q ≤ 3136)) .outOfRange
  .ok t

/-- ProgramLoad. -/
def programLoad (who : Caller) (i addr : Nat) (s : State) : Act := do
  s.gateRange who Od.programLoad true i (.num addr)
  let n := imageLength (s.hbmRead addr 128)
  need ((pagesOf addr n).all fun p => decide (p < 32768) && s.inInstance i (s.holderOf 0x0A p)) .notOwner
  need (!s.inReset i) .busy
  let x := s.scanOf i
  need (x.loading.isNone && x.switchAt.isNone && (s.pairInst i).ferry.isNone) .inProgress
  let run := s.instRunningState i
  let t := s.setScan i { x with loading := some (addr, s.gtc), cand := if run then none else x.cand }
  let t := t.setNum Od.programStatus (2 ^ 24) i
  .ok (if run then t.setNum Od.ferryState 1 i else t)

def execProgramLoad (who : Caller) (inst : Fin 256) (address : Nat) (s : State) : Res :=
  .next (s.answer who (programLoad who inst.val (address % 2 ^ 64) s))

/-- A verified image becomes the candidate of a running instance, or the reason why not. -/
def State.takeCandidate (s : State) (i : Nat) (q : Prog) : State × Nat :=
  let x := s.scanOf i
  match x.prog with
  | none => (s, 0)
  | some p =>
    let c := carried p q
    let t := ((s.setFerry i 8 2 c.length).setFerry i 10 2 (q.layout.length - c.length)).setFerry i 12 2
      (p.layout.filter fun o => !c.any fun y => y.2.var == o.var).length
    let t := ((t.setFerry i 16 4 (ferryCost p q)).setFerry i 20 4 0).setFerry i 24 4 q.version
    let t := (t.setFerry i 0 8 0).setFerry i 28 2 0
    match t.checkCandidate i p q with
    | .ok u => ((u.setScan i { u.scanOf i with cand := some q }).setNum Od.ferryState 2 i, 0)
    | .error e => (((t.setFerry i 28 2 e.value).setNum Od.ferryState 4 i), e.value)

/-- PROGRAM_LOAD_DONE. -/
def programLoadDone (i : Nat) (s : State) : State :=
  let x := s.scanOf i
  match x.loading with
  | none => s
  | some (addr, _) =>
    let b := s.hbmRead addr (imageLength (s.hbmRead addr 128))
    let t := s.setScan i { x with loading := none }
    let (t, code) := match s.checkProgram b with
      | .error e =>
        let t := if s.instRunningState i then (t.setNum Od.ferryState 4 i).setFerry i 28 2 e.value else t
        (t, e.value)
      | .ok q =>
        if s.instRunningState i then t.takeCandidate i q
        else
          let t := (t.setScan i { t.scanOf i with prog := some q, cand := none }).programObjects i q
          let t := t.setNum Od.ferryState 0 i
          (if t.instState i = 0 then t.enterInst i 1 0 else t, 0)
    (t.setNum Od.programStatus (if code = 0 then 2 * 2 ^ 24 else 3 * 2 ^ 24 + code) i).instDone i Od.programLoad code

def execProgramLoadDone (inst : Fin 256) (s : State) : Res := .next (programLoadDone inst.val s)

/-! ### The input image (R392 to R395) -/

/-- What a chain source has produced, newest first: instant at the output rate, the octets before the quality, the
quality, and the octets after it. -/
def State.chainEnts (s : State) (kind num : Nat) : List (Nat × Bytes × Nat × Bytes) :=
  let ratio (x : Option (Nat × Nat × Nat)) : Nat := match x with
    | some (_, fs, fo) => fs / fo
    | none => 1
  match kind with
  | 3 => (s.sourceEnts 3 num).map fun e => (e.1, toLE 8 (ofInt 64 e.2.1), e.2.2, toLE 4 0)
  | 19 => match s.phasor num with
    | some x =>
      let r := ratio (s.filterRates (pcSource (s.phasorConfig num)))
      x.ents.map fun e => (e.at_ / r, toLE 4 e.re ++ toLE 4 e.im ++ toLE 4 e.mag ++ toLE 4 e.angle, e.quality, toLE 4 e.freq)
    | none => []
  | 20 => match s.tracker num with
    | some x =>
      let r := ratio (s.trackerRates num)
      x.ents.map fun e => (e.at_ / r, toLE 4 e.freq ++ toLE 4 e.rocof, e.quality, toLE 4 0)
    | none => []
  | k => (s.sourceEnts k num).map fun e => (e.1, toLE 4 (ofInt 32 e.2.1), e.2.2, [])

/-- An element of a chain source at instant `n`: its own instant and octets, and whether it is pending (R316). -/
def State.chainElement (s : State) (kind num n : Nat) : Nat × Bytes × Bool :=
  let l := s.chainEnts kind num
  let bytes (e : Nat × Bytes × Nat × Bytes) (q : Nat) : Bytes := e.2.1 ++ toLE 4 q ++ e.2.2.2
  let blank : Nat × Bytes × Nat × Bytes :=
    (n, List.replicate (if kind = 3 then 8 else if kind = 19 then 16 else if kind = 20 then 8 else 4) 0, 1
      , if kind = 3 ∨ kind = 19 ∨ kind = 20 then toLE 4 0 else [])
  match l.find? fun e => e.1 == n with
  | some e => (n, bytes e e.2.2.1, e.2.2.1.testBit 17)
  | none => match l with
    | e :: _ => if e.1 < n then (e.1, bytes e (e.2.2.1 ||| 2 ^ 17), true) else (n, bytes blank 1, false)
    | [] => (n, bytes blank (1 + 2 ^ 17), true)

/-- The instants of a series or latest entry: those of (`from_`, `to_`] at rate `u`, or the latest not later than `to_`. -/
def State.entryInstants (s : State) (d u mode : Nat) (from_ to_ : Int) : List Nat :=
  let b := (instantAt to_ u).toNat
  let a := if mode = 1 then 0 else (instantAt from_ u).toNat
  let l := (s.dom d).instants u a b
  if mode = 1 then match (l.filter fun x => x.2 != 0).getLast? with
    | some (f, n) => [f + n - 1]
    | none => []
  else l.flatMap fun x => numbersFrom x.1 x.2

/-- An entry header (Table 10-8) with the elements, padded to the entry's size. -/
def entryBytes (size count flags first rate : Nat) (body : Bytes) : Bytes :=
  let b := toLE 2 count ++ toLE 2 flags ++ toLE 4 (first % max 1 rate) ++ toLE 8 (first / max 1 rate % 2 ^ 48) ++ body
  b ++ List.replicate (size - b.length) 0

/-- The trigger unit element (Table 10-11). -/
def State.unitElement (s : State) (u : Nat) : Bytes :=
  let x := (s.unit u).getD .init
  timeMemory (s.num (Od.lastTriggerTime + 256 * u)) ++ toLE 4 x.lastSeq ++ toLE 4 x.lastRecord ++ toLE 1 (s.unitState u)
    ++ toLE 1 x.lastCause ++ toLE 2 x.lastInterp ++ toLE 8 x.lastPlaced ++ toLE 4 x.lastFlags ++ toLE 8 0

/-- The block qualities of a kind 2 entry over samples `ns` of blocks of `step` (R393). -/
def State.blockWords (s : State) (key step : Nat) (ns : List Nat) : List Nat :=
  ((ns.map fun n => n / step).eraseDups).map fun k => (s.gridView key k).quality

/-- One entry of an image; whether AnyPending is set. -/
def State.buildEntry (s : State) (i : Nat) (e : EntryLay) (from_ to_ : Int) : Bytes × Bool :=
  let g (v : Int) : Nat := ((s.dom (s.scanD i)).gtcOf v).getD 0
  match e.kind with
  | 16 => (entryBytes e.size 1 0 0 1 (s.unitElement e.num), false)
  | 17 => let (v, f) := s.lsImage e.num (g to_)
    (entryBytes e.size 1 0 0 1 (toLE 4 v ++ toLE 4 f), false)
  | 18 => let (w, f) := s.pinImage e.num (g from_) (g to_)
    (entryBytes e.size 1 0 0 1 (toLE 4 w ++ toLE 4 f), false)
  | _ =>
    if (s.imageSource e.kind e.num).isNone then (entryBytes e.size 0 4 0 1 [], false)
    else
      let all := s.entryInstants (s.scanD i) e.rate e.mode from_ to_
      let ns := all.drop (all.length - e.max)
      let trunc := boolNat (decide (e.max < all.length))
      let out (first : Nat) (pend : Bool) (body : Bytes) : Bytes × Bool :=
        (entryBytes e.size ns.length (trunc + 2 * boolNat pend) first e.rate body, pend)
      match e.kind with
      | 1 =>
        let v := ns.map fun n => s.gridView (gridKey false e.num) n
        out (ns.headD 0) (v.any fun x => x.quality.testBit 17)
          (v.flatMap fun x => toLE 4 (ofInt 32 (x.values.headD 0)) ++ toLE 4 x.quality)
      | 2 =>
        let key := gridKey true e.num
        let step := max 1 e.step
        let words := s.blockWords key step ns
        let data := ns.flatMap fun n => toLE 2 (ofInt 16 ((s.gridView key (n / step)).values.getD (n % step) 0))
        out (ns.headD 0) (words.any fun q => q.testBit 17)
          (data ++ List.replicate (ceilDiv (2 * e.max) 4 * 4 - data.length) 0 ++ words.flatMap fun q => toLE 4 q)
      | k =>
        let v := ns.map fun n => s.chainElement k e.num n
        out ((v.map fun (x : Nat × Bytes × Bool) => x.1).headD 0) (v.any fun (x : Nat × Bytes × Bool) => x.2.2) (v.flatMap fun (x : Nat × Bytes × Bool) => x.2.1)

/-- The image header (Table 10-7). -/
def State.imageHeader (s : State) (i : Nat) (elapsed clock elapsedGtc flags : Nat) : Bytes :=
  let x := s.scanOf i
  let d := s.scanD i
  let v := s.boundaryValue i x.boundary
  let freeze := ((s.dom d).gtcOf (v - ((s.scanM i : Int) - s.scanA i) * 2 ^ 48)).getD s.gtc
  toLE 8 x.scan ++ timeMemory (timeOfValue v) ++ toLE 8 elapsed ++ toLE 8 clock ++ toLE 2 x.lay.length ++ toLE 2 flags
    ++ toLE 4 0 ++ toLE 8 freeze ++ toLE 4 (s.domQuality d) ++ toLE 4 elapsedGtc

/-- The image digest (R395). -/
def imageDigestOf (header : Bytes) (l : List (EntryLay × Bytes)) : Nat :=
  ofBE ((sha256 (header.take 48 ++ (l.filter fun x => x.1.kind != 17 && x.1.kind != 18).flatMap fun x => x.2)).take 8)

/-! ### The basket (R531 to R533) -/

/-- The slots of a message whose header is well formed. -/
def messageSlots (b : Bytes) : Option Nat :=
  let k := byteAt b 2
  if leAt b 0 2 ≤ 4016 ∧ k = ceilDiv (16 + leAt b 0 2) 64 ∧ byteAt b 3 < 2 then some k else none

/-- Add to a counter of BasketCounters (R544): 48-bit ones of 8 octets, saturating ones of 4. -/
def State.basketCount (s : State) (i off n k : Nat) : State :=
  let b := s.blob Od.basketCounters i
  let b := b ++ List.replicate (32 - b.length) 0
  let v := leAt b off n + k
  s.setBlob Od.basketCounters (splice b off (toLE n (if n = 8 then v % 2 ^ 48 else sat32 v))) i

/-- Take due inbound messages: `cons` the next slot, `n` slots in the ring, `at_` the next free slot of the area. Gives
RingCons, the slots left, the area, and how many were delivered, late and malformed. -/
def State.takeInbound (s : State) (i k : Nat) : Nat → Nat → Nat → Nat → Bytes → Nat × Nat × Nat → Nat × Nat × Bytes × Nat × Nat × Nat
  | 0, cons, n, _, area, c => (cons, n, area, c.1, c.2.1, c.2.2)
  | fuel + 1, cons, n, at_, area, c =>
    let stop := (cons, n, area, c.1, c.2.1, c.2.2)
    if n = 0 then stop
    else
      let h := s.basketSlot i 0 (cons % 64)
      match messageSlots h with
      | none => s.takeInbound i k fuel (cons + 1) (n - 1) at_ area (c.1, c.2.1, c.2.2 + 1)
      | some m =>
        let due := leAt h 8 8
        if n < m ∨ k < due ∨ 64 < at_ + m then stop
        else
          let late := due ≠ 0 ∧ due < k
          let body := (numbersFrom 0 m).flatMap fun j => s.basketSlot i 0 ((cons + j) % 64)
          let body := if late then splice body 3 [1] else body
          s.takeInbound i k fuel (cons + m) (n - m) (at_ + m) (area ++ body)
            (c.1 + 1, if late then c.2.1 + 1 else c.2.1, c.2.2)

/-- The inbound area of scan `k`, 4,096 octets, and the state after the ring was read (R532). -/
def State.inboundArea (s : State) (i k : Nat) : State × Bytes :=
  let r := s.ring i 8
  let (cons, left, area, got, late, bad) := s.takeInbound i k 64 r.cons r.held 1 [] (0, 0, 0)
  let flags := boolNat r.overrun + 2 * boolNat (left != 0)
  let b := toLE 2 got ++ toLE 2 (area.length / 64) ++ toLE 4 flags ++ List.replicate 56 0 ++ area
  let t := s.setRing i 8 ({ r with cons := cons % 2 ^ 32, full := r.full && cons == r.cons } : Ring).trim
  let t := ((t.basketCount i 0 8 got).basketCount i 28 4 late).basketCount i 16 4 bad
  (if bad = 0 then t else t.basketOcc i 3 bad, b ++ List.replicate (4096 - b.length) 0)

/-- Append the messages of the outbound area: `at_` the slot of the next of `n` messages, `fits` until one was dropped.
Gives the state and how many were appended, dropped, and malformed. -/
def State.appendOutbound (k i used : Nat) (area : Bytes) : Nat → Nat → Bool → Nat × Nat → State → State × Nat × Nat × Nat
  | 0, _, _, c, s => (s, c.1, c.2, 0)
  | n + 1, at_, fits, c, s =>
    let h := slice area (64 * at_) 64
    match messageSlots h with
    | none => (s, c.1, c.2, 1)
    | some m =>
      if used + 1 < at_ + m then (s, c.1, c.2, 1)
      else
        let b := splice (slice area (64 * at_) (64 * m)) 8 (toLE 8 k)
        let (t, ok) := if fits then s.ringAppend i 9 b else (s, false)
        if ok then State.appendOutbound k i used area n (at_ + m) true (c.1 + 1, c.2) t
        else State.appendOutbound k i used area n (at_ + m) false (c.1, c.2 + 1) t

/-- The append of the commit of scan `k` (R533). -/
def State.outbound (s : State) (i k : Nat) : State :=
  let x := s.scanOf i
  match x.prog with
  | none => s
  | some p =>
    if s.basketBytes i = 0 then s
    else
      let area := x.read p.varOffset 4096
      let used := min 63 (leAt area 2 2)
      let (t, got, lost, bad) := State.appendOutbound k i used area (min 63 (leAt area 0 2)) 1 true (0, 0) s
      let t := ((t.basketCount i 8 8 got).basketCount i 24 4 lost).basketCount i 20 4 bad
      let t := if got = 0 then t else t.basketOcc i 1 got
      let t := if bad = 0 then t else t.basketOcc i 3 bad
      if lost = 0 then t else t.basketOcc i 4 lost

/-! ### The freeze (R387, R392 to R396, R403, R404) -/

/-- The freeze of the scan under way is due. -/
def State.freezeDue (s : State) (i : Nat) : Bool :=
  let x := s.scanOf i
  let v := s.boundaryValue i x.boundary - ((s.scanM i : Int) - s.scanA i) * 2 ^ 48
  s.instRunningState i && x.phase == 0 && !x.stopDue && (s.pairInst i).start.isNone && decide (s.shedLevel < 3)
    && (s.dom (s.scanD i)).state != 0 && decide (v ≤ (s.dom (s.scanD i)).raw s.gtc)

/-- Registers at EntryPoint (R418). -/
def Prog.entryRegs (p : Prog) : IsaSt :=
  let g := tabSet 0 (tabSet 0 (tabSet 0 [] 1 (BitVec.ofNat 64 p.imageOffset)) 2 (BitVec.ofNat 64 p.outputOffset)) 30
    (BitVec.ofNat 64 p.dataSize)
  { g := g, f := [], flags := 0, pc := p.entry, cycles := 0 }

/-- IMAGE_FREEZE: the image of scan k is frozen and copied, and the program begins. -/
def imageFreeze (i : Nat) (s : State) : State :=
  let x := s.scanOf i
  match x.prog with
  | none => s
  | some p =>
    if ¬ s.freezeDue i then s
    else
      let v := s.boundaryValue i x.boundary
      let m := (s.scanM i : Int) * 2 ^ 48
      let bGtc := ((s.dom (s.scanD i)).gtcOf v).getD s.gtc
      let (pg, pv) := x.prev.getD (bGtc, v - (s.scanP i : Int) * 2 ^ 48)
      let gap := if x.first then 0 else bGtc - pg
      let elapsed := if x.first then 0 else if s.paired i then (roundDiv (v - pv - x.stepped) (2 ^ 48)).toNat else gap
      let clock := (x.timerClock + elapsed) % 2 ^ 64
      let ents := x.lay.map fun e => (e, s.buildEntry i e (pv - m) (v - m))
      let pend := ents.any fun e => e.2.2
      let flags := boolNat x.first + 2 * boolNat (x.first && x.afterWarm) + 4 * boolNat x.afterFerry + 8 * boolNat x.stepBetween
        + 16 * boolNat (s.paired i && (s.pairState == 2 || s.pairState == 3)) + 32 * boolNat pend + 64 * boolNat x.lastLate
        + 128 * boolNat x.lastDropped
      let header := s.imageHeader i elapsed clock (sat32 gap) flags
      let digest := imageDigestOf header (ents.map fun e => (e.1, e.2.1))
      let data := memWrite x.data p.imageOffset (header ++ ents.flatMap fun e => e.2.1)
      let (t, data) := if s.basketBytes i = 0 then (s, data)
        else let (t, b) := s.inboundArea i x.scan
          (t, memWrite data (p.imageOffset + p.imageArea - 4096) b)
      let y := { x with phase := 1, data := data, isa := p.entryRegs, timerClock := clock, imageDigest := digest
                        pendingAny := pend, commits := [], extra := 0, stepBetween := false, stepped := 0 }
      let t := (((t.setScan i y).setNum Od.scanNumber x.scan i).setNum Od.imageDigest digest i).count48 Od.scansRun 1 i
      let t := if pend then t.count32 Od.pendingImages 1 i else t
      t.enterInst i 3 0

def execImageFreeze (inst : Fin 256) (s : State) : Res := .next (imageFreeze inst.val s)

/-! ### The ferry (R409, R410, R481) -/

/-- Replace the program of an instance by another with its data memory. -/
def State.useProgram (s : State) (i : Nat) (q : Prog) (data : List Host.Cell) : State :=
  let x := s.scanOf i
  let t := (s.setScan i { x with prog := some q, data := data, lay := s.layoutOf i q }).programObjects i q
  if t.instRunningState i then t.setCharge 0x81 i (t.instCharge i (t.budgetOf i q)) else t

/-- The switch at B_(n−1): carried variables are copied, and the candidate becomes the program. -/
def State.ferrySwitch (s : State) (i n : Nat) : State :=
  let x := s.scanOf i
  match x.prog, x.cand with
  | some p, some q =>
    let data := (carried p q).foldl (fun d v => memWrite d v.2.off (memRead x.data v.1.off v.2.size)) (memWrite [] 0 q.init)
    let t := s.setScan i { x with cand := none, switchAt := none, afterFerry := true }
    let t := t.useProgram i q data
    let t := if s.paired i ∧ s.instRunningState i then t.setPairInst i { t.pairInst i with oldProg := some (p, x.data) } else t
    let time := (roundDiv ((ferryCost p q + 64) * 5) 8).toNat
    ((t.setFerry i 20 4 time).setNum Od.ferryState 0 i).instOcc i 7 n
  | _, _ => s

/-- The first scan that FerrySwitch may name. -/
def State.ferryFirst (s : State) (i : Nat) : Nat :=
  let x := s.scanOf i
  (if x.phase = 0 then x.scan - 1 else x.scan) + 2 + (if s.paired i then ceilDiv 2000000 (s.scanP i) else 0)

/-- The body of FerryPropose, FerryAccept and FerryCancel (Table 12-2). -/
def ferryBody (i n tag : Nat) : Bytes := toBE 2 i ++ toBE 2 0 ++ toBE 8 n ++ toBE 8 tag

def State.setSwitch (s : State) (i n : Nat) : State :=
  ((s.setScan i { s.scanOf i with switchAt := some n }).setFerry i 0 8 n).setNum Od.ferryState 3 i

/-- FerrySwitch (R410, R479), its refusals in the order of R104. -/
def ferrySwitchCmd (who : Caller) (i n : Nat) (s : State) : Act := do
  s.gateRange who Od.ferrySwitch true i (.num n)
  let x := s.scanOf i
  let pair := s.paired i
  need (!s.inReset i) .busy
  need (x.switchAt.isNone && (s.pairInst i).ferry.isNone) .inProgress
  match x.cand with
  | none => .error .precondition
  | some q =>
    need (s.instRunningState i && (!pair || n != 0)) .precondition
    need (!pair || (s.instPairState i == 3 && s.pairState == 2)) .notInStep
    need (n == 0 || decide (s.ferryFirst i ≤ n)) .timeInPast
    if pair then
      let t := (s.setPairInst i { s.pairInst i with ferry := some (n, q.tag 8) }).setFerry i 0 8 n
      .ok ((t.sendPair 10 0 (ferryBody i n (q.tag 8))).raiseOcc 0xB06 0x81 i 1 n)
    else .ok (s.setSwitch i (if n = 0 then s.ferryFirst i else n))

def execFerrySwitch (who : Caller) (inst : Fin 256) (scan : Nat) (s : State) : Res :=
  .next (s.answer who (ferrySwitchCmd who inst.val (scan % 2 ^ 64) s))

/-- Withdraw a pending switch or proposal; a paired instance tells the peer. -/
def State.withdrawFerry (s : State) (i st : Nat) (tell : Bool) : State :=
  let x := s.scanOf i
  let y := s.pairInst i
  let due := match y.ferry, x.switchAt with
    | some (n, tag), _ => some (n, tag)
    | none, some n => some (n, ((x.cand.map fun q => q.tag 8).getD 0))
    | none, none => none
  let t := (s.setScan i { x with switchAt := none }).setNum Od.ferryState st i
  let t := if y.ferry.isSome then t.setPairInst i { y with ferry := none } else t
  match due with
  | some (n, tag) => if s.paired i then
      let t := if tell then t.sendPair 12 0 (ferryBody i n tag) else t
      t.raiseOcc 0xB06 0x81 i 3 n
    else t
  | none => t

/-- Discard the candidate. -/
def State.dropCandidate (s : State) (i : Nat) : State :=
  let t := s.withdrawFerry i 0 true
  let t := t.setScan i { t.scanOf i with cand := none }
  if t.instRunningState i then t.setCharge 0x81 i (t.instCharge i (t.runningBudget i)) else t

/-- FerryCancel. -/
def ferryCancel (who : Caller) (i value : Nat) (s : State) : Act := do
  s.gateRange who Od.ferryCancel true i (.num value)
  .ok (if value = 1 then s.dropCandidate i else s)

def execFerryCancel (who : Caller) (inst : Fin 256) (value : Nat) (s : State) : Res :=
  .next (s.answer who (ferryCancel who inst.val value s))

/-! ### Resynchronisation at the boundary (R458, R459) -/

/-- A queue entry in the layout of a commit entry. -/
def FioEnt.commitBytes (e : FioEnt) : Bytes :=
  toLE 1 e.pin ++ toLE 1 e.op ++ toLE 1 1 ++ toLE 1 0 ++ toLE 4 e.width ++ timeMemory (timeOfValue e.time) ++ toLE 8 e.tag

/-- The pieces of data memory outside the image area: offset and length, at most 1,280 octets each. -/
def resyncPieces (p : Prog) : List (Nat × Nat) :=
  let cut (a b : Nat) : List (Nat × Nat) := (numbersFrom 0 (ceilDiv (b - a) 1280)).map fun k => (a + 1280 * k, min 1280 (b - a - 1280 * k))
  cut 0 p.imageOffset ++ cut (p.imageOffset + p.imageArea) p.dataSize

/-- The resynchronisation source answers a Joining flag at boundary B_m with its snapshot. -/
def State.sendResync (s : State) (i m : Nat) : State :=
  let x := s.scanOf i
  let asked := match (s.pairInst i).peer with
    | some r => r.joining
    | none => false
  match x.prog with
  | none => s
  | some p =>
    if !asked ∨ !s.holderPart ∨ s.instState i ≠ 3 ∨ !s.paired i then s
    else
      let ents := s.fio.queue.filter fun e => e.inst == i && !e.closing
      let pieces := resyncPieces p
      let total := pieces.length
      let first := toBE 8 x.timerClock ++ toBE 2 ents.length ++ toBE 6 0 ++ ents.flatMap FioEnt.commitBytes
      ((numbersFrom 0 total).zip pieces).foldl (fun u (y : Nat × Nat × Nat) =>
        u.sendPair 13 0 (toBE 2 i ++ toBE 2 y.1 ++ toBE 2 total ++ toBE 2 0 ++ toBE 8 m ++ toBE 4 y.2.1 ++ toBE 2 y.2.2 ++ toBE 2 0
          ++ (if y.1 = 0 then first else []) ++ x.read y.2.1 y.2.2)) s

/-- The segments of a resynchronisation are all there. -/
def ResyncSt.complete (r : ResyncSt) : Bool :=
  decide (0 < r.total) && (numbersFrom 0 r.total).all fun k => r.got.any fun g => g.1 == k

/-- The GTC of the freeze under way. -/
def State.freezeGtc (s : State) (i : Nat) : Option Nat :=
  (s.dom (s.scanD i)).gtcOf (s.boundaryValue i (s.scanOf i).boundary - ((s.scanM i : Int) - s.scanA i) * 2 ^ 48)

/-- The limit F_(m+1) − 1 µs has passed. -/
def State.resyncLate (s : State) (i : Nat) : Bool := match s.freezeGtc i with
  | some g => decide (g < s.gtc + 1000)
  | none => true

/-- Take a complete resynchronisation after the own commit of its scan. -/
def State.applyResync (s : State) (i : Nat) : State :=
  let x := s.scanOf i
  let y := s.pairInst i
  match y.resync with
  | none => s
  | some r =>
    if !r.complete ∨ x.phase ≠ 0 ∨ s.instState i ≠ 3 ∨ s.num Od.scanNumber i ≠ r.scan ∨ s.resyncLate i then s
    else
      let data := r.got.foldl (fun d (g : Nat × Nat × Bytes) => memWrite d g.2.1 g.2.2) x.data
      let t := s.setScan i { x with data := data, timerClock := r.timerClock }
      let mine := (numbersFrom 0 r.entries.length).zip (r.entries.map commitOf)
      let new := mine.map fun (e : Nat × CommitEnt) =>
        ({ inst := i, scan := r.scan, key := [1, s.gtc, i, e.1, 0], pin := e.2.pin, op := e.2.op, width := e.2.width, tag := e.2.tag
           dom := s.scanD i, time := valueOfTime (e.2.at_.getD 0), since := s.gtc, fixed := none, host := false, held := false
           peerUsed := true, resynced := true, closing := false } : FioEnt)
      let t := t.setQueue ((t.fio.queue.filter fun e => e.inst != i || e.closing) ++ new)
      let t := t.setPairInst i { y with resync := none, asking := false, tries := 0 }
      ((t.count32 Od.resyncs 1 i).raiseOcc (pairInstSource i) 0x81 i 3 r.scan).notePins

/-! ### The boundary (R388, R397, R399 to R401, R405, R409, R415) -/

/-- Leave the processor: its memory and charge are released, and the pair state is Unpaired. -/
def State.leaveProcessor (s : State) (i st : Nat) : State :=
  let x := s.scanOf i
  let t := s.setScan i { x with phase := 0, stopDue := false, switchAt := none, nextFrom := none, dueGtc := none }
  let t := if x.switchAt.isSome then t.setNum Od.ferryState 2 i else t
  let t := t.setPairInst i { PairInst.init with lastUsed := (t.pairInst i).lastUsed }
  ((t.releaseInst i).enterInst i st 0).setInstPair i 0

/-- The stop at B_k (R388). -/
def State.finishStop (s : State) (i : Nat) (v : Int) (written : Bool) : State :=
  let t := (s.safeOutputs i).withdrawAfter i (v + commitLead)
  let t := if written then t else t.writeRetained i (t.num Od.scanNumber i)
  t.leaveProcessor i 1

/-- The number and the instant of the boundary after the one at `g` with value `v`. -/
def State.nextBoundary (s : State) (i g : Nat) (v : Int) : State :=
  let x := s.scanOf i
  let y := s.pairInst i
  let b := match x.nextFrom with
    | some f => (ceilDivInt f (s.scanP i * 2 ^ 48)).toNat
    | none => x.boundary + 1
  let n := match y.adopt with
    | some a => max (a + 1) (x.scan + 1)
    | none => x.scan + 1
  let t := s.setScan i { x with scan := n, boundary := b, dueGtc := none, nextFrom := none, prev := some (g, v) }
  if s.paired i then t.setPairInst i { y with peer := none, outcome := none, adopt := none } else t

/-- A boundary of a Faulted instance: safe outputs once, a switch that was pending in the scan that overran, and the scan
number advances (R387, R397, R410). -/
def State.faultedBoundary (s : State) (i g : Nat) (v : Int) : State :=
  let x := s.scanOf i
  let t := if x.safeDue then (s.setScan i { x with safeDue := false }).safeOutputs i else s
  let t := if x.switchAt = some (x.scan + 1) then t.ferrySwitch i (x.scan + 1) else t
  let t := t.setNum Od.scanNumber x.scan i
  t.nextBoundary i g v

/-- An entry whose form is wrong, whose pin is not the instance's, or that lies too far ahead is dropped (R400). -/
def State.commitDropped (s : State) (i : Nat) (v : Int) (e : CommitEnt) : Bool :=
  !e.ok || s.pinInstance e.pin != some i || match e.at_ with
    | some t => decide (v + 10 * secondUnits < valueOfTime t)
    | none => false

/-- The entry comes too late for its time. -/
def commitLate (v : Int) (e : CommitEnt) : Bool := match e.at_ with
  | some t => decide (valueOfTime t < v + commitLead)
  | none => false

/-- The commit of scan k (R399 to R401). -/
def State.commitScan (s : State) (i g : Nat) (v : Int) : State :=
  let x := s.scanOf i
  let empty := s.commitsEmpty i
  if x.sent = some x.scan then s
  else
    let all := if empty then [] else (numbersFrom 0 x.commits.length).zip x.commits
    let kept := all.filter fun e => !s.commitDropped i v e.2
    let late := (kept.filter fun e => commitLate v e.2).length
    let dropped := all.length - kept.length + (if empty then 0 else x.extra)
    let record := kept.map fun e =>
      (e.1, e.2.pin, e.2.op, if commitLate v e.2 then none else e.2.at_.map valueOfTime, e.2.width, e.2.tag)
    let t := s.takeRecord i x.scan g v (s.usedPeer i) record
    let t := t.setScan i { t.scanOf i with sent := some x.scan, lastDropped := dropped != 0, lastLate := late != 0 }
    let t := (t.count32 Od.lateCommits late i).count32 Od.droppedCommits dropped i
    let t := (t.instLimited i (0x4000 + Od.lateCommits % 256) late).instLimited i (0x4000 + Od.droppedCommits % 256) dropped
    let t := kept.foldl (fun u e =>
      if e.2.tag = 0 then u else u.instRaise i 0x9001 (e.2.tag % 2 ^ 64 + x.scan % 2 ^ 32 * 2 ^ 64)) t
    if empty then t else t.outbound i x.scan

/-- What a pair does after the commit of scan k: release or take back a switched program (R481), send and take
resynchronisations (R459). -/
def State.pairBoundary (s : State) (i k : Nat) (was : PairInst) : State :=
  if !s.paired i then s
  else
    let x := s.scanOf i
    let t := if was.outcome = some 0 then s.setPairInst i { s.pairInst i with oldProg := none } else s
    let t := if was.outcome = some 6 ∧ s.holderPart = false then
        (match was.peer, was.oldProg, x.cand with
        | some r, some (p, data), _ => if p.tag 4 = r.tag then
            let t := (t.useProgram i p data).setPairInst i { t.pairInst i with oldProg := none, asking := true, tries := 0 }
            t.raiseOcc 0xB06 0x81 i 4 k
          else t
        | some r, none, some q => if q.tag 4 = r.tag then
            let t := t.ferrySwitch i (k + 1)
            let t := t.setPairInst i { t.pairInst i with oldProg := none, asking := true, tries := 0 }
            t.raiseOcc 0xB06 0x81 i 4 k
          else t
        | _, _, _ => t)
      else t
    t.applyResync i

/-- Boundary B_k of an instance that scans. -/
def State.runningBoundary (s : State) (i g : Nat) (v : Int) : State :=
  let x := s.scanOf i
  if x.phase = 0 then (if x.stopDue then s.finishStop i v false else s)
  else
    let was := s.pairInst i
    let t := s.commitScan i g v
    let t := t.setNum Od.lastBoundaryGtc g i
    let t := t.writeRetained i x.scan
    let t := t.sendResync i x.scan
    let t := t.nextBoundary i g v
    let t := t.setScan i { t.scanOf i with phase := 0, first := false, afterFerry := false, commits := [], extra := 0 }
    let t := if x.switchAt = some (x.scan + 1) then t.ferrySwitch i (x.scan + 1) else t
    let t := t.pairBoundary i x.scan was
    if x.stopDue then t.finishStop i v true
    else if 3 ≤ s.shedLevel then t.leaveProcessor i 5
    else t

/-- SCAN_BOUNDARY. A scan that has not ended overruns its deadline first. -/
def scanBoundary (i : Nat) (s : State) : State :=
  let x := s.scanOf i
  let live := s.instRunningState i || s.instState i == 4
  match s.boundaryGtc i with
  | none => s
  | some g =>
    if !live ∨ s.gtc < g ∨ (s.dom (s.scanD i)).state = 0 then s
    else
      let v := s.boundaryValue i x.boundary
      let s := if s.instRunningState i ∧ x.phase = 1 then s.overrunInst i 2 else s
      if s.instState i = 4 then s.faultedBoundary i g v else s.runningBoundary i g v

def execScanBoundary (inst : Fin 256) (s : State) : Res := .next (scanBoundary inst.val s)

/-! ### Automatic restart (R398), shedding (R415), steps (R134) -/

/-- AUTO_RESTART: a warm start by itself that the fault allowed; a refused one leaves the instance Faulted. -/
def autoRestart (i : Nat) (s : State) : State :=
  let x := s.scanOf i
  let recent := x.autoStarts.filter fun g => decide (x.faultAt < g + 3600000000000)
  if s.instState i ≠ 4 ∨ !x.autoWanted ∨ x.safeDue ∨ s.inReset i then s
  else
    let t := s.setScan i { x with autoWanted := false, autoStarts := recent }
    match t.startInstance i true (x.faultAt + 10000000) with
    | .ok u => (u.setScan i { u.scanOf i with autoStarts := x.faultAt :: recent }).count32 Od.autoRestarts 1 i
    | .error e => t.instDone i Od.scanControl e.value

def execAutoRestart (inst : Fin 256) (s : State) : Res := .next (autoRestart inst.val s)

/-- Shed level 3 is reached: instances that have not frozen a scan stop at once; the others stop at their boundary. -/
def State.shedInstances (s : State) : State :=
  s.inst.present.foldl (fun t i =>
    if t.instRunningState i ∧ (t.scanOf i).phase = 0 then (t.writeRetained i (t.num Od.scanNumber i)).leaveProcessor i 5
    else t) s

/-- The shed level is below 3 again: Shed instances make a warm start. -/
def State.unshedInstances (s : State) : State :=
  s.inst.present.foldl (fun t i =>
    if t.instState i = 5 then
      match t.startInstance i true (t.gtc + 1000000) with
      | .ok u => u
      | .error e => t.instDone i Od.scanControl e.value
    else t) s

/-- A step of domain `d` from `pre` to `post` (units of 2^−48 ns) takes effect: a boundary at the step instant keeps the
pre-step time, and the next one lies at least P later in the post-step time (R134). -/
def State.scanStep (s : State) (d : Nat) (pre post : Int) : State :=
  s.inst.present.foldl (fun t i =>
    if (t.instRunningState i || t.instState i == 4) && t.scanD i == d then
      let x := t.scanOf i
      let p := (t.scanP i : Int) * 2 ^ 48
      let y := { x with stepped := x.stepped + (post - pre), stepBetween := true }
      if t.boundaryValue i x.boundary ≤ pre then t.setScan i { y with dueGtc := some t.gtc, nextFrom := some (post + p) }
      else
        let b := (ceilDivInt (post + p) p.toNat).toNat
        let n := if t.instState i = 2 then max b (t.num Od.scanNumber i + 1) else x.scan
        t.setScan i { y with boundary := b, scan := n }
    else t) s

/-- The boundaries of Faulted instances after their domain or period changed: the first one from now on. -/
def State.rescan (s : State) (i : Nat) : State :=
  if s.instState i = 4 then
    let x := s.scanOf i
    let b := (ceilDivInt ((s.dom (s.scanD i)).raw s.gtc) (s.scanP i * 2 ^ 48)).toNat
    s.setScan i { x with boundary := b, dueGtc := none, nextFrom := none }
  else s

/-- Domain `d` runs again after it was disabled. -/
def State.rejoinDomain (s : State) (d : Nat) : State :=
  (s.inst.present.filter fun i => s.scanD i == d).foldl (fun t i => t.rescan i) s

end Sys2Proof.Machine
end

