-- ==== Sys2Proof/Machine/PairScan.lean ====
section
/-! DEFINITION. Resynchronisation, paired ferry and paired cold start by message (Chapter 12, R458 to R461, R479 to R481). -/

namespace Sys2Proof.Machine

/-! ### ResyncData (R459) -/

/-- RESYNC_DATA: a segment of the source's snapshot of scan m. -/
def resyncData (port seq : Nat) (m : ResyncMsg) (s : State) : State :=
  match s.takePair port seq with
  | none => s
  | some t =>
    let i := m.inst % 256
    let y := t.pairInst i
    if !t.paired i ∨ !y.asking ∨ y.sent ≠ some m.scan then t
    else
      let r := match y.resync with
        | some r => if r.scan = m.scan then r else ⟨m.scan, m.segments, [], 0, []⟩
        | none => ⟨m.scan, m.segments, [], 0, []⟩
      let r := { r with total := m.segments
                        got := (m.segment, m.offset, m.data) :: r.got.filter fun (g : Nat × Nat × Bytes) => g.1 != m.segment
                        timerClock := if m.segment = 0 then m.timerClock else r.timerClock
                        entries := if m.segment = 0 then m.entries else r.entries }
      (t.setPairInst i { y with resync := some r }).applyResync i

def execResyncData (port : Fin 256) (seq : Nat) (msg : ResyncMsg) (s : State) : Res := .next (resyncData port.val seq msg s)

/-- RESYNC_ABANDON: not complete by F_(m+1) − 1 µs; the third failure gives up. -/
def resyncAbandon (i : Nat) (s : State) : State :=
  let y := s.pairInst i
  let x := s.scanOf i
  if s.paired i ∧ y.asking ∧ s.instState i = 3 ∧ x.phase = 0 ∧ y.sent = some (s.num Od.scanNumber i) ∧ s.resyncLate i then
    let n := y.tries + 1
    let t := s.setPairInst i { y with resync := none, tries := n, asking := decide (n < 3), sent := none }
    if n < 3 then t else t.raiseOcc (pairInstSource i) 0x81 i 3 (s.num Od.scanNumber i)
  else s

def execResyncAbandon (inst : Fin 256) (s : State) : Res := .next (resyncAbandon inst.val s)

/-! ### The paired ferry (R479, R480) -/

/-- FERRY_PROPOSE: this module accepts the same n, or answers FerryCancel. -/
def ferryPropose (port seq i n tag : Nat) (s : State) : State :=
  match s.takePair port seq with
  | none => s
  | some t =>
    let x := t.scanOf i
    let able := t.paired i && t.instRunningState i && x.switchAt.isNone && (t.pairInst i).ferry.isNone
      && decide ((if x.phase = 0 then x.scan - 1 else x.scan) + 2 ≤ n) && !t.inReset i && match x.cand with
        | some q => q.tag 8 == tag
        | none => false
    if able then ((t.setSwitch i n).sendPair 11 0 (ferryBody i n tag)).raiseOcc 0xB06 0x81 i 2 n
    else t.sendPair 12 0 (ferryBody i n tag)

def execFerryPropose (port : Fin 256) (seq : Nat) (inst : Fin 256) (scan : Nat) (tag : Nat) (s : State) : Res :=
  .next (ferryPropose port.val seq inst.val scan tag s)

/-- The boundary B_(n−2) has come. -/
def State.ferryLate (s : State) (i n : Nat) : Bool :=
  let x := s.scanOf i
  decide (n ≤ x.scan + 1) || (n == x.scan + 2 && match s.boundaryGtc i with
    | some g => decide (g ≤ s.gtc)
    | none => true)

/-- FERRY_ACCEPT: before B_(n−2) the proposer makes its switch pending. -/
def ferryAccept (port seq i n tag : Nat) (s : State) : State :=
  match s.takePair port seq with
  | none => s
  | some t =>
    let y := t.pairInst i
    if y.ferry ≠ some (n, tag) then t
    else if t.ferryLate i n then t.withdrawFerry i 2 true
    else ((t.setPairInst i { y with ferry := none }).setSwitch i n).raiseOcc 0xB06 0x81 i 2 n

def execFerryAccept (port : Fin 256) (seq : Nat) (inst : Fin 256) (scan : Nat) (tag : Nat) (s : State) : Res :=
  .next (ferryAccept port.val seq inst.val scan tag s)

/-- FERRY_PROPOSE_TIMEOUT: B_(n−2) without an answer. -/
def ferryTimeout (i : Nat) (s : State) : State :=
  match (s.pairInst i).ferry with
  | some (n, _) => if s.ferryLate i n then s.withdrawFerry i 2 true else s
  | none => s

def execFerryProposeTimeout (inst : Fin 256) (s : State) : Res := .next (ferryTimeout inst.val s)

/-- FERRY_CANCEL_MESSAGE withdraws a pending switch or proposal of that number and tag. -/
def ferryCancelMessage (port seq i n tag : Nat) (s : State) : State :=
  match s.takePair port seq with
  | none => s
  | some t =>
    let mine := t.paired i && ((t.pairInst i).ferry == some (n, tag) || (t.scanOf i).switchAt == some n)
    if mine then t.withdrawFerry i 2 false else t

def execFerryCancelMessage (port : Fin 256) (seq : Nat) (inst : Fin 256) (scan : Nat) (tag : Nat) (s : State) : Res :=
  .next (ferryCancelMessage port.val seq inst.val scan tag s)

/-! ### The paired cold start (R461) -/

/-- START_PROPOSE: the peer cold-starts at n when it can. -/
def startPropose (port seq i mode n tag : Nat) (s : State) : State :=
  match s.takePair port seq with
  | none => s
  | some t =>
    if t.paired i ∧ t.pairState = 2 ∧ t.instState i = 1 ∧ mode = 1 ∧ !t.inReset i
        ∧ t.firstBoundary i (t.gtc + 50000) ≤ n ∧ t.num Od.scanNumber i < n then
      match t.checkStart i false with
      | .ok (p, u) =>
        if p.tag 8 = tag then ((u.launch i p false n).sendPair 15 0 (startBody i n tag)).raiseOcc 0xB06 0x81 i 5 n else t
      | .error _ => t
    else t

def execStartPropose (port : Fin 256) (seq : Nat) (inst : Fin 256) (mode : Nat) (scan : Nat) (tag : Nat) (s : State) : Res :=
  .next (startPropose port.val seq inst.val mode scan tag s)

/-- F_n − 100 µs has come. -/
def State.startLate (s : State) (i : Nat) : Bool := match s.freezeGtc i with
  | some g => decide (g ≤ s.gtc + 100000)
  | none => true

/-- A proposed start becomes a start alone, with its first freeze at least 50 µs from now. -/
def State.startAlone (s : State) (i : Nat) : State :=
  let x := s.scanOf i
  let b := s.firstBoundary i (s.gtc + 50000)
  let t := s.setScan i { x with boundary := b, scan := max b (s.num Od.scanNumber i + 1) }
  (t.setPairInst i { t.pairInst i with start := none }).setInstPair i 1

/-- START_ACCEPT before F_n − 100 µs. -/
def startAccept (port seq i _mode n tag : Nat) (s : State) : State :=
  match s.takePair port seq with
  | none => s
  | some t =>
    let y := t.pairInst i
    let same : Bool := match (t.scanOf i).prog with
      | some p => p.tag 8 == tag
      | none => false
    if y.start = some n ∧ same ∧ !t.startLate i then t.setPairInst i { y with start := none } else t

def execStartAccept (port : Fin 256) (seq : Nat) (inst : Fin 256) (mode : Nat) (scan : Nat) (tag : Nat) (s : State) : Res :=
  .next (startAccept port.val seq inst.val mode scan tag s)

/-- PAIRED_START_TIMEOUT. -/
def pairedStartTimeout (i : Nat) (s : State) : State :=
  if (s.pairInst i).start.isSome ∧ s.instState i = 2 ∧ s.startLate i then s.startAlone i else s

def execPairedStartTimeout (inst : Fin 256) (s : State) : Res := .next (pairedStartTimeout inst.val s)

end Sys2Proof.Machine
end

