-- ==== Sys2Proof/Machine/Sessions.lean ====
section
/-! DEFINITION. Sessions and what ends them (R89, R96 to R100, R524). -/

namespace Sys2Proof.Machine

/-- The session of local window `w`, and that of PCIe function `n` (0 for the physical function). -/
def windowSession (w : Nat) : Nat := 2 ^ 32 + w
def functionSession (n : Nat) : Nat := 2 ^ 32 + 64 + n

/-- Session `k` ends: its stage set, held timed commit, segment buffer, nonces and a commit that waits for a quiesce end with
it, and so does its freeze of the recorder (R597). -/
def State.endSession (s : State) (k : Nat) : State :=
  let t := s.setSession k none
  let t := match t.ev.recorder.frozen with
    | some (j, _, _) => if j = k then t.endFreeze 2 else t
    | none => t
  { t with
    dict := { t.dict with quiesce := t.dict.quiesce.filter fun j => j.sess != k }
    sec := { t.sec with nonces := t.sec.nonces.filter fun x => x.1 / 2 != k } }

/-- The open sessions that a test names. -/
def State.sessionsWith (s : State) (f : Nat → Session → Bool) : List Nat :=
  s.dict.sessions.filterMap fun x => match x.2 with
    | some y => if f x.1 y then some x.1 else none
    | none => none

/-- The open Balmuene sessions (OD 1040.05). -/
def State.balmueneOpen (s : State) : Nat := (s.sessionsWith fun k _ => decide (k < 2 ^ 32)).length

/-- Bind local window `w` to a role and selector (R89). -/
def State.bindWindow (s : State) (w v : Nat) : State :=
  if s.windowBinding w = v then s
  else (s.setNum (Od.localWindowBinding106001 + (w - 1)) v).endSession (windowSession w)

/-- Every Tenant session of instance `i` ends (R97). -/
def State.endTenants (s : State) (i : Nat) : State :=
  (s.sessionsWith fun _ y => y.role == .tenant && y.inst == i).foldl State.endSession s

end Sys2Proof.Machine
end

