-- ==== Sys2Proof/Machine/Instances.lean ====
section
/-! DEFINITION. Instances, functions, transmit rings and instance reset (Chapter 14, R519 to R526, R537 to R541). -/

namespace Sys2Proof.Machine

/-! ### Creating and deleting (R520, R521) -/

/-- Every per-instance object of selector `i` takes its Default. -/
def State.forgetSelector (s : State) (i : Nat) : State :=
  let keep {α : Type} (t : Tab α) : Tab α := t.filter fun x => x.1 % 4096 != i
  { s with dict := { s.dict with values := keep s.dict.values, pendingValues := keep s.dict.pendingValues } }

/-- Insert into a rising list. -/
def insertNat (a : Nat) : List Nat → List Nat
  | [] => [a]
  | b :: r => if a < b then a :: b :: r else if a = b then b :: r else b :: insertNat a r

/-- The rings and the basket of an instance, empty. -/
def State.emptyRings (s : State) (i : Nat) : State :=
  { s with inst := { s.inst with rings := s.inst.rings.filter fun x => x.1 / 16 != i
                                 baskets := s.inst.baskets.filter fun x => x.1 / 128 != i } }

def instanceCreate (who : Caller) (i : Nat) (s : State) : Act := do
  s.gateRange who Od.instanceCreate false 0 (.num i)
  need (!s.instExists i) .busy
  let t := s.forgetSelector i
  let t := { t with pond := { t.pond with ponds := tabSet none t.pond.ponds i (some ⟨1, 0xF00, 4⟩) } }
  .ok { t with inst := { t.inst with present := insertNat i t.inst.present } }

def execInstanceCreate (who : Caller) (value : Nat) (s : State) : Res := .next (s.answer who (instanceCreate who value s))

/-- Function `n` is the virtual function of an instance no more: the session of its window ends (R524). -/
def State.bindVf (s : State) (n v : Nat) : State :=
  let id := Od.vfInstance + (n - 1)
  if s.num id = v then s
  else ((s.setNum id v).endSession (functionSession n)).raiseOcc 0xE01 0x0D (n - 1) 2 v

/-- Delete instance `i` (R521). -/
def State.deleteInstance (s : State) (i : Nat) : State :=
  let ponds := (s.pond.ponds.map (·.1)).filter fun p => s.inInstance i p
  let pages := (s.mem.bindings.map (·.1)).filter fun p =>
    ponds.contains (s.holderOf 0x0A p) && (s.pageBinding p == 4 || s.pageBinding p == 5 || s.pageBinding p == 6)
  let t := pages.foldl (fun u p => u.setBinding p 0) s
  let t := (numbersFrom 1 255).foldl (fun u n => if u.num (Od.vfInstance + (n - 1)) = i then u.bindVf n 0xFFFF else u) t
  let t := (numbersFrom 1 63).foldl (fun u w => if u.windowBinding w = 3 * 4096 + i then u.bindWindow w 0 else u) t
  let t := t.endTenants i
  let t := ((numbersFrom 0 64).filter fun k => ponds.contains (s.holderOf 0x09 k)).foldl State.eraseSlot t
  let t := (t.releaseInst i).emptyRings i
  let t := ponds.foldl State.forgetSelector t
  let t := { t with pond := { t.pond with
    holder := t.pond.holder.filter fun x => !ponds.contains x.2
    ponds := ponds.foldl (fun (l : Tab (Option PondRec)) p => tabSet none l p none) t.pond.ponds } }
  let t := { t with scan := { t.scan with insts := tabSet none t.scan.insts i none } }
  let t := { t with pair := { t.pair with insts := tabSet none t.pair.insts i none } }
  { t with inst := { t.inst with present := t.inst.present.erase i } }

def instanceDelete (who : Caller) (i : Nat) (s : State) : Act := do
  let r ← s.gate who Od.instanceDelete false 0 (.num i)
  need (i == 0 || s.instExists i) .noSuchObject
  need (i != 0) .denied
  r.checkRange (.num i)
  need (!s.instRunning i && !s.inReset i) .busy
  .ok (s.deleteInstance i)

def execInstanceDelete (who : Caller) (value : Nat) (s : State) : Res := .next (s.answer who (instanceDelete who value s))

/-! ### Functions (R524, R526) -/

/-- A ring of instance `i` is enabled in host memory. -/
def State.hostRings (s : State) (i : Nat) : List Nat :=
  (numbersFrom 0 8).filter fun r => s.ringEnabled i r && byteAt (s.ringConfig i r) 1 == 1

/-- The checks of a VfInstance write for function `n`. -/
def State.checkVf (s : State) (n v : Nat) : Except Code Unit := do
  let old := s.num (Od.vfInstance + (n - 1))
  need (decide (v < 256) || v == 0xFFFF) .outOfRange
  need (v == 0xFFFF || (s.instExists v && s.holderOf 0x0D (n - 1) == v)) .notOwner
  need (v == 0xFFFF || old == 0xFFFF || old == v) .heldElsewhere
  need (v == old || old == 0xFFFF || (s.hostRings old).isEmpty) .busy

def vfInstance (who : Caller) (n v : Nat) (s : State) : Act := do
  let id := 0xB20000 + n
  let _ ← s.gate who id false 0 (.num v)
  s.checkVf n v
  .ok ((s.bindVf n v).bumpVersion id 0)

def execVfInstance (who : Caller) (n : Fin 256) (value : Nat) (s : State) : Res :=
  .next (s.answer who (vfInstance who n.val value s))

/-- The instance that a function serves. -/
def State.servedBy (s : State) (fn : Nat) : Option Nat :=
  if fn = 0 then some 0 else let v := s.num (Od.vfInstance + (fn - 1))
    if v = 0xFFFF then none else some v

/-- The basket of an instance is emptied, with both directions' indices 0. -/
def State.emptyBasket (s : State) (i : Nat) : State :=
  let clear (t : State) (r : Nat) : State :=
    t.setRing i r { t.ring i r with prod := 0, cons := 0, full := false, overrun := false, packets := [] }
  clear (clear s 8) 9

/-- A Function Level Reset of one function (R526). -/
def State.resetFunction (s : State) (fn : Nat) : State :=
  let t := { s with inst := { s.inst with flr := tabSet false s.inst.flr fn true } }
  let t := match t.servedBy fn with
    | some i =>
      let t := (t.hostRings i).foldl (fun (u : State) r => u.applyRing i r (splice (u.ringConfig i r) 0 [0])) t
      t.emptyBasket i
    | none => t
  (t.endSession (functionSession fn)).raiseOcc 0xE01 0x0D fn 1 fn

/-- The functions that a reset of `fn` covers: the physical function takes every virtual function with it. -/
def resetFunctions (fn : Nat) : List Nat := if fn = 0 then numbersFrom 0 256 else [fn]

def functionLevelReset (fn : Nat) (s : State) : State := (resetFunctions fn).foldl State.resetFunction s

def execFunctionLevelReset (fn : Fin 256) (s : State) : Res := .next (functionLevelReset fn.val s)

/-- FUNCTION_LEVEL_RESET_DONE. -/
def functionResetDone (fn : Nat) (s : State) : State :=
  (resetFunctions fn).foldl (fun t n => { t with inst := { t.inst with flr := tabSet false t.inst.flr n false } }) s

def execFunctionLevelResetDone (fn : Fin 256) (s : State) : Res := .next (functionResetDone fn.val s)

/-! ### Transmit rings (R537) -/

/-- The octets of `k` slots from slot `j` of a ring; those in host memory arrive by DMA. -/
def State.txOctets (s : State) (i r j k : Nat) (dma : Bytes) : Bytes :=
  if byteAt (s.ringConfig i r) 1 = 1 then slice dma 0 (64 * k)
  else (numbersFrom j k).flatMap fun q => s.hbmRead (leAt (s.ringConfig i r) 8 8 + 64 * (q % s.ringSlots i r)) 64

/-- A transmit descriptor's form: lengths and slots agree, no reserved bit is set, and the priority is 0 to 5. -/
def txForm (d : Bytes) : Bool :=
  leAt d 4 2 == ceilDiv (32 + leAt d 0 2) 64 && decide (byteAt d 6 < 2) && decide (byteAt d 7 ≤ 5)
    && (slice d 8 24).all (· == 0)

/-- A transmit packet is sent on its port or as a Datagram; none when it is rejected. -/
def State.sendPacket (s : State) (i : Nat) (d body : Bytes) : Option State :=
  let len := leAt d 0 2
  let target := leAt d 2 2
  let prio := byteAt d 7
  if !txForm d then none
  else if (byteAt d 6).testBit 0 then
    if len ≤ 9000 ∧ target < 4096 ∧ s.num Od.fabricState = 2 then
      let h := { s.originHead 0xC 0 target false false with priority := prio }
      let t := match tabGet none s.fab.routes target with
        | some (p, _) => s.sendXosyn p 0xC h body .none prio
        | none => s.fabricDrop Od.noRouteDrops
      some (t.bumpSeq 0xC 0)
    else none
  else if target < 256 ∧ 14 ≤ len ∧ len + 4 ≤ s.pnum Od.maxFrameSize target ∧ s.portUp target
      ∧ (portLanes target (s.pnum Od.portMode target)).all (fun l => s.inInstance i (s.holderOf 0x01 l)) then
    some (s.sendCopy none target prio 0 (withFcs (padFrame (splice body 6 (toBE 6 (s.portMac target))))) false)
  else none

/-- TX_PACKET_SEND: the packet at RingCons of a transmit ring, once all its slots lie below RingProd. A descriptor whose
SlotCount is 0 gives up one slot. -/
def txPacketSend (i ring : Nat) (dma : Bytes) (s : State) : State :=
  let r := 4 + ring
  let x := s.ring i r
  if !s.instExists i ∨ !s.ringEnabled i r ∨ x.held = 0 then s
  else
    let d := s.txOctets i r x.cons 1 dma
    let k := max 1 (leAt d 4 2)
    if x.held < k then s
    else
      let body := slice ((s.txOctets i r x.cons k dma).drop 32) 0 (leAt d 0 2)
      let t := s.setRing i r { x with cons := (x.cons + k) % 2 ^ 32, full := false }
      match t.sendPacket i d body with
      | some u => (u.ringCount i r 0 1).ringCount i r 8 (leAt d 0 2)
      | none =>
        let t := t.setRing i r { t.ring i r with drops := sat32 (x.drops + 1) }
        (t.ringCount i r 24 1).raiseLimited (basketSource i) 0xA005 0x81 i r

def execTxPacketSend (inst : Fin 256) (ring : Fin 4) (dma : Bytes) (s : State) : Res :=
  .next (txPacketSend inst.val ring.val dma s)

/-! ### Instance reset (R538 to R541) -/

def State.resetJob (s : State) (i : Nat) : Option ResetJob := tabGet none s.inst.resets i

def State.setResetJob (s : State) (i : Nat) (x : Option ResetJob) : State :=
  { s with inst := { s.inst with resets := tabSet none s.inst.resets i x } }

/-- ResetStatus with its event: mode as the cause, LastResetTime as the value. -/
def State.setResetStatus (s : State) (i st mode time : Nat) : State :=
  let old := s.num Od.resetStatus i
  (s.setNum Od.resetStatus st i).instRaise i (0x1000 + st) (payState old st mode time)

/-- An export of a record of the instance's units runs. -/
def State.exporting (s : State) (i : Nat) : Bool := match s.acq.export_ with
  | some (u, _, _) => s.itemInstance 0x05 u == some i
  | none => false

/-- The squash of what an instance reset still waits for (Table 14-11). -/
def State.squashWork (s : State) (i : Nat) : State :=
  let t := if s.instRunning i then s.leaveProcessor i 1 else s
  let t := t.setScan i { t.scanOf i with safeDue := false, autoWanted := false }
  let t := if t.exporting i then exportDone true t else t
  (numbersFrom 4 4).foldl (fun u r => u.setRing i r { u.ring i r with cons := (u.ring i r).prod }) t

/-- What both modes do at acceptance: units, pins, generators and the ferry. In a drain the pins of a running instance follow
at its stop (Table 14-11, R388). -/
def State.beginReset (s : State) (i mode : Nat) : State :=
  let t := s.setResetJob i (some ⟨mode, s.gtc, false, (numbersFrom 4 4).map fun r => (s.ring i r).prod⟩)
  let t := t.setResetStatus i mode mode 0
  let t := t.disarmInstance i
  let t := (if mode = 1 && s.instRunning i then t.disarmGens fun n => s.inInstance i (s.holderOf 0x08 n) else t.resetPins i).dropCandidate i
  let t := t.setScan i { t.scanOf i with autoWanted := false }
  if mode = 1 then t.requestStop i else t.squashWork i

/-- ResetCommand 1. -/
def resetDrain (who : Caller) (i : Nat) (s : State) : Act := do
  s.gateRange who Od.resetCommand true i (.num 1)
  need (!s.inReset i) .inProgress
  .ok (s.beginReset i 1)

def execResetDrain (who : Caller) (inst : Fin 256) (s : State) : Res := .next (s.answer who (resetDrain who inst.val s))

/-- A drain becomes a squash: its remaining work is squashed now (Table 14-12). -/
def State.becomeSquash (s : State) (i : Nat) (j : ResetJob) : State :=
  let t := (s.setResetJob i (some { j with mode := 2 })).setResetStatus i 2 2 0
  (t.resetPins i).squashWork i

/-- A module warm reset makes every drain a squash (Table 14-12). -/
def State.squashDrains (s : State) : State :=
  s.inst.present.foldl (fun u i => match u.resetJob i with
    | some j => if j.mode = 1 then u.becomeSquash i j else u
    | none => u) s

/-- ResetCommand 2; during a drain the remaining work is squashed. -/
def resetSquash (who : Caller) (i : Nat) (s : State) : Act := do
  s.gateRange who Od.resetCommand true i (.num 2)
  match s.resetJob i with
  | none => .ok (s.beginReset i 2)
  | some j =>
    need (j.mode == 1) .inProgress
    .ok (s.becomeSquash i j)

def execResetSquash (who : Caller) (inst : Fin 256) (s : State) : Res := .next (s.answer who (resetSquash who inst.val s))

/-- The completion (R539): rings and basket are empty, the instance is Stopped or NoProgram. -/
def State.finishReset (s : State) (i st : Nat) (j : ResetJob) : State :=
  let t := (numbersFrom 0 10).foldl (fun u r => u.setRing i r { u.ring i r with prod := 0, cons := 0, full := false
                                                                                overrun := false, packets := [] }) s
  let t := t.enterInst i (if (t.scanOf i).prog.isSome then 1 else 0) 0
  let time := sat32 ((t.gtc - j.since) / 1000)
  let t := ((t.setNum Od.lastResetTime time i).count32 Od.resetCount 1 i).setResetJob i none
  t.setResetStatus i st j.mode time

/-- All work of Table 14-11 has finished. -/
def State.resetWorkDone (s : State) (i : Nat) : Bool :=
  !s.instRunning i && !(s.scanOf i).safeDue && !s.exporting i && (numbersFrom 4 4).all fun r => (s.ring i r).held == 0

/-- RESET_COMPLETE. -/
def resetComplete (i : Nat) (s : State) : State :=
  match s.resetJob i with
  | some j => if s.resetWorkDone i then s.finishReset i 3 j else s
  | none => s

def execResetComplete (inst : Fin 256) (s : State) : Res := .next (resetComplete inst.val s)

/-- DRAIN_LIMIT_EXPIRY (R540). -/
def drainLimit (i : Nat) (s : State) : State :=
  match s.resetJob i with
  | some j =>
    if j.mode = 1 ∧ j.since + 1000000 * s.num Od.drainLimit i ≤ s.gtc ∧ !s.resetWorkDone i then
      ((s.resetPins i).squashWork i).finishReset i 4 j
    else s
  | none => s

def execDrainLimitExpiry (inst : Fin 256) (s : State) : Res := .next (drainLimit inst.val s)

end Sys2Proof.Machine
end

