-- ==== Sys2Proof/Machine/Security.lean ====
section
/-! DEFINITION. The key journal, ownership and credentials, boot images, measurement chains and attestation
(Chapter 17). -/

namespace Sys2Proof.Machine

def State.setSec (s : State) (x : SecSt) : State := { s with sec := x }

/-! ### Records with two copies -/

/-- The copy in force: the higher sequence number among those whose CRC passes. -/
def MramPair.get {α : Type} (p : MramPair α) (none_ : α) : α :=
  match p.c0.crcOk, p.c1.crcOk with
  | true, true => if p.c0.seq < p.c1.seq then p.c1.val else p.c0.val
  | true, false => p.c0.val
  | false, true => p.c1.val
  | false, false => none_

/-- Every write goes to the copy with the older sequence number. -/
def MramPair.put {α : Type} (p : MramPair α) (v : α) : MramPair α :=
  let c : MramCopy α := ⟨v, max p.c0.seq p.c1.seq + 1, true⟩
  if p.c1.seq < p.c0.seq then { p with c1 := c } else { p with c0 := c }

/-- Damage one copy. -/
def MramPair.damage {α : Type} (p : MramPair α) (copy : Nat) : MramPair α :=
  if copy = 0 then { p with c0 := { p.c0 with crcOk := false } } else { p with c1 := { p.c1 with crcOk := false } }

def State.ownership (s : State) : Ownership := s.sec.ownership.get .init

def State.setOwnership (s : State) (x : Ownership) : State :=
  s.setSec { s.sec with ownership := s.sec.ownership.put x }

def State.bootRec (s : State) : BootRec := s.sec.boot.get .init

def State.setBootRec (s : State) (x : BootRec) : State := s.setSec { s.sec with boot := s.sec.boot.put x }

/-- UnconfirmedStarts of image `d` (0 A, 1 B). -/
def BootRec.unconfirmed (b : BootRec) (d : Nat) : Nat := if d = 0 then b.unconfirmedA else b.unconfirmedB

def BootRec.setUnconfirmed (b : BootRec) (d n : Nat) : BootRec :=
  if d = 0 then { b with unconfirmedA := n } else { b with unconfirmedB := n }

/-! ### The state of a slot (R617 to R619) -/

/-- KCV of a key (R617). -/
def keyCheckValue (key : Bytes) : Nat :=
  beAt (hmacSha384 key [0x4B, 0x44, 0x4D, 0x37, 0x32, 0x35, 0x36, 0x20, 0x4B, 0x43, 0x56]) 0 4

def State.keyBanks (s : State) (n : Nat) : List KeyRec := [s.keyRec n 0, s.keyRec n 1].filterMap id

/-- 0 Empty, 1 Active, 2 Sealed, 3 Corrupt (R618). -/
def State.keyState (s : State) (n : Nat) : Nat :=
  if (s.keyBanks n).isEmpty then 0
  else if (s.keyContent n).isSome then 1
  else if (s.keyBanks n).any (s.recSealed n) then 2 else 3

def State.keyPend (s : State) (n : Nat) : KeyPend := tabGet .init s.sec.pends n

def State.setKeyPend (s : State) (n : Nat) (p : KeyPend) : State :=
  s.setSec { s.sec with pends := tabSet .init s.sec.pends n p }

/-- The content of the slot exists in one bank only. -/
def State.singleCopy (s : State) (n : Nat) : Bool :=
  match s.keyContent n with
  | none => false
  | some r => ((s.goodRecs n).filter fun x => x.generation == r.generation).length != 2

/-- The bank that holds a Staged record. -/
def State.stagedBank (s : State) (n : Nat) : Option Nat :=
  [0, 1].find? fun b => match s.keyRec n b with
    | some r => r.st == 1
    | none => false

/-- The highest Generation of the records that are not Staged. -/
def State.generationOf (s : State) (n : Nat) : Nat :=
  ((s.keyBanks n).filter fun r => r.st != 1).foldl (fun m r => max m r.generation) 0

/-- Give bank `b` what the other bank holds. -/
def State.copyBank (s : State) (n b : Nat) : State := s.setKeyRec n b (s.keyRec n (1 - b))

/-- One bank holds a good record and the other one that is not good: the good one replaces it, unless a load or commit is
under way or pending (R619). -/
def State.repairKey (s : State) (n : Nat) : State :=
  let good (b : Nat) : Bool := match s.keyRec n b with
    | some r => s.recGood n r
    | none => false
  let st := (s.keyPend n).st
  if st = 1 ∨ st = 2 ∨ good 0 = good 1 then s
  else ((s.copyBank n (if good 0 then 1 else 0)).count32 Od.keyCopyCorrected).raiseOcc 0xD04 0x80 0 1 n

/-- Raise the changes of state of the slots since `s`, and the records that became Corrupt. -/
def State.noteKeys (s t : State) : State :=
  (numbersFrom 0 98).foldl (fun (u : State) n =>
    let a := s.keyState n
    let b := t.keyState n
    if a = b then u
    else
      let u := if b = 3 then u.raiseOcc 0xD04 0x80 0 2 n else u
      if n < 64 ∧ b ≠ 0 then u.raiseState (0xD20 + n) 0x09 n a b 0 0 else u) t

/-- The record of a place does not pass its check. -/
def State.damage (s : State) : MramPlace → State
  | .journal n b => match s.keyRec n b with
    | some r => s.setKeyRec n b (some { r with crcOk := false })
    | none => s
  | .epoch k => if k = 0 then s.setSec { s.sec with epoch0 := (s.sec.epoch0.1, false) }
      else s.setSec { s.sec with epoch1 := (s.sec.epoch1.1, false) }
  | .ownership k => s.setSec { s.sec with ownership := s.sec.ownership.damage k }
  | .boot k => s.setSec { s.sec with boot := s.sec.boot.damage k }

/-- JOURNAL_CHECK_PASS: the hourly pass over both banks of every record; `bad` are the places found not to pass. -/
def journalCheck (bad : List MramPlace) (s : State) : State :=
  let t := bad.foldl State.damage s
  s.noteKeys ((numbersFrom 0 98).foldl State.repairKey t)

def execJournalCheckPass (bad : List MramPlace) (s : State) : Res := .next (journalCheck bad s)

/-! ### Loading and replacing (R620 to R622) -/

/-- A sluice is held while a latched cause is present (R625). -/
def State.sluiceHeld (s : State) : Bool :=
  let v := s.num Od.tamperStatus
  field v 8 8 &&& field v 0 8 != 0

/-- Actions under way on journal records. -/
def State.keyActions (s : State) : Nat := (s.sec.pends.filter fun x => x.2.act != 0).length

/-- The journal engine takes another action on record `n` (R622). -/
def State.journalFree (s : State) (n : Nat) : Except Code Unit := do
  need (decide (s.keyActions < 16)) .busy
  need ((s.keyPend n).act == 0) .inProgress

/-- Usage, and the key lengths, of an algorithm (Table 17-8). -/
def keyUsage (a : Nat) : Nat := if a = 6 then 2 else 1

def keyLength (a len : Nat) : Bool :=
  if a = 6 then len == 32 else if a = 4 ∨ a = 5 then len == 16 || len == 32 else decide (16 ≤ len) && decide (len ≤ 64)

/-- The fields of a KeyLoad (Table 17-10). -/
def checkKeyForm (b : Bytes) : Bool :=
  let a := byteAt b 0
  let len := leAt b 10 2
  decide (16 ≤ b.length) && decide (1 ≤ a) && decide (a ≤ 6) && leAt b 8 2 == keyUsage a && keyLength a len
    && (match byteAt b 1 with
        | 0 => byteAt b 2 == 0xFF && b.length == 16 + len
        | 1 => decide (byteAt b 2 < 64) && b.length == 16 + 8 * ceilDiv len 8 + 8
        | _ => false)

/-- The plain key of a load; none when the RFC 5649 check fails. -/
def State.loadedKey (s : State) (b : Bytes) : Option Bytes :=
  if byteAt b 1 = 0 then some (b.drop 16)
  else match s.keyContent (byteAt b 2) with
    | none => none
    | some w => match keyUnwrap w.key (b.drop 16) with
      | some k => if k.length = leAt b 10 2 then some k else none
      | none => none

def keyLoad (who : Caller) (n : Nat) (b : Bytes) (s : State) : Act := do
  let _ ← s.gate who (Od.keyLoad + n) false 0 (.bytes b)
  need (checkKeyForm b) .outOfRange
  need (s.tenantHolds who 0x09 n && (byteAt b 1 == 0 || s.holderOf 0x09 (byteAt b 2) == s.holderOf 0x09 n)) .notOwner
  s.journalFree n
  need ((byteAt b 1 == 0 || (match s.keyContent (byteAt b 2) with
      | some w => w.usage.testBit 1
      | none => false)) && !s.sluiceHeld) .precondition
  need (decide (s.shedLevel < 3)) .shedLevel
  let t := s.repairKey n
  let g := t.generationOf n + 1
  let key := (s.loadedKey b).getD []
  let kcv := keyCheckValue key
  let good := (s.loadedKey b).isSome && (leAt b 12 4 == 0 || leAt b 12 4 == kcv)
  let r : KeyRec :=
    { st := 1, algorithm := byteAt b 0, generation := g, chainMask := byteAt b 3, usage := leAt b 8 2,
      keyId := leAt b 4 4, key := key, digest := t.keyDigest n (byteAt b 3), crcOk := false, written := 0 }
  .ok ((t.setKeyRec n (g % 2) (some r)).setKeyPend n ⟨1, if good then 0 else Code.verifyFailed.value, leAt b 4 4, kcv, 1⟩)

def execKeyLoad (who : Caller) (slot : Fin 64) (value : Bytes) (s : State) : Res :=
  .next (s.answer who (keyLoad who slot.val value s))

/-- The staged record is given up: its bank takes what the other bank holds. -/
def State.dropStaged (s : State) (n : Nat) : State :=
  match s.stagedBank n with
  | some b => s.copyBank n b
  | none => s

/-- KEY_LOAD_DONE (R620): the staged record was read back as written, or not. -/
def keyLoadDone (n : Nat) (readBack : Bool) (s : State) : State :=
  let p := s.keyPend n
  if p.act ≠ 1 then s
  else
    let code := if readBack then p.code else Code.verifyFailed.value
    let t := if code = 0 then
        (match s.stagedBank n with
        | some b => (s.setKeyRec n b ((s.keyRec n b).map fun r => { r with crcOk := true })).setKeyPend n
            { p with st := 2, act := 0 }
        | none => s)
      else (s.dropStaged n).setKeyPend n { p with st := 3, code := code, act := 0 }
    t.raiseDone (0xD20 + n) 0x09 n (Od.keyLoad + n) code

def execKeyLoadDone (slot : Fin 64) (readBack : Bool) (s : State) : Res := .next (keyLoadDone slot.val readBack s)

/-- What KeyCommit of a value asks before its chapter's own rule. -/
def State.checkCommit (s : State) (who : Caller) (n value : Nat) : Except Code Unit := do
  s.gateRange who (Od.keyCommit + n) false 0 (.num value)
  need (s.tenantHolds who 0x09 n) .notOwner
  s.journalFree n
  need ((s.keyPend n).st == 2) .precondition
  need (decide (s.shedLevel < 3)) .shedLevel

/-- KeyCommit 1 (R621): the write of the Committed record is complete `after` ns from now, the commit instant. -/
def keyCommit (who : Caller) (n after : Nat) (s : State) : Act := do
  s.checkCommit who n 1
  match s.stagedBank n with
  | none => .error .precondition
  | some b =>
    .ok ((s.setKeyRec n b ((s.keyRec n b).map fun r => { r with st := 2, written := s.gtc + after })).setKeyPend n
      { s.keyPend n with act := 2 })

def execKeyCommit (who : Caller) (slot : Fin 64) (after : Fin 1000001) (s : State) : Res :=
  .next (s.answer who (keyCommit who slot.val after.val s))

/-- KEY_COMMIT_DONE: the other bank holds the committed record as well. -/
def keyCommitDone (n : Nat) (s : State) : State :=
  match (s.keyPend n).act, s.keyContent n with
  | 2, some r =>
    if r.generation < s.generationOf n then s
    else
      let t := (s.setKeyRec n 0 (some { r with written := 0 })).setKeyRec n 1 (some { r with written := 0 })
      (t.setKeyPend n .init).raiseDone (0xD20 + n) 0x09 n (Od.keyCommit + n) 0
  | _, _ => s

def execKeyCommitDone (slot : Fin 64) (s : State) : Res := .next (keyCommitDone slot.val s)

/-- KeyCommit 2 discards the staged record (R621). -/
def keyDiscard (who : Caller) (n : Nat) (s : State) : Act := do
  s.checkCommit who n 2
  .ok (((s.dropStaged n).setKeyPend n .init).raiseDone (0xD20 + n) 0x09 n (Od.keyCommit + n) 0)

def execKeyDiscard (who : Caller) (slot : Fin 64) (s : State) : Res := .next (s.answer who (keyDiscard who slot.val s))

/-- KeyErase 1 (R621). -/
def keyErase (who : Caller) (n value : Nat) (s : State) : Act := do
  s.gateRange who (Od.keyErase + n) false 0 (.num value)
  need (s.tenantHolds who 0x09 n) .notOwner
  need (!(s.intake.streams.any fun x => x.2.isSome && (s.keySlots x.1).contains n)) .busy
  s.journalFree n
  .ok (s.eraseSlot n)

def execKeyErase (who : Caller) (slot : Fin 64) (value : Nat) (s : State) : Res :=
  .next (s.answer who (keyErase who slot.val value s))

/-- A vault record is written by a load and a commit in one, both banks alike. -/
def State.storeVault (s : State) (n : Nat) (key : Bytes) : State :=
  let t := s.repairKey n
  let r : KeyRec :=
    { st := 2, algorithm := 0, generation := t.generationOf n + 1, chainMask := 0, usage := 0, keyId := 0,
      key := key, digest := t.keyDigest n 0, crcOk := true, written := 0 }
  (t.setKeyRec n 0 (some r)).setKeyRec n 1 (some r)

/-- What every write of a secret asks (R622, R625, R632). -/
def State.checkSecret (s : State) (n : Nat) : Except Code Unit := do
  s.journalFree n
  need (!s.sluiceHeld) .precondition
  need (decide (s.shedLevel < 3)) .shedLevel

/-- KeySlotInfo (Table 17-18). -/
def State.keySlotInfo (s : State) (n : Nat) : Bytes :=
  let p := s.keyPend n
  let st := s.keyState n
  let r := match s.keyContent n with
    | some r => some r
    | none => if st = 2 then (s.keyBanks n).find? (s.recSealed n) else none
  let kcv := match s.keyContent n with
    | some r => keyCheckValue r.key
    | none => 0
  match r with
  | some r => toLE 1 st ++ toLE 1 r.algorithm ++ toLE 1 r.chainMask ++ toLE 1 (if s.singleCopy n then 1 else 0) ++ toLE 4 r.keyId
      ++ toLE 4 r.generation ++ toLE 4 kcv ++ toLE 1 p.st ++ [0] ++ toLE 2 p.code ++ toLE 4 p.keyId ++ toLE 4 p.kcv
      ++ toLE 2 r.usage ++ toLE 2 r.key.length
  | none => toLE 1 st ++ toLE 15 0 ++ toLE 1 p.st ++ [0] ++ toLE 2 p.code ++ toLE 4 p.keyId ++ toLE 4 p.kcv ++ toLE 4 0

/-! ### Ownership and credentials (R613 to R616) -/

def State.credential (s : State) (n : Nat) : Bytes :=
  let b := tabGet [] s.ownership.entries n
  if b.isEmpty then List.replicate 64 0 else b

def crKind (b : Bytes) : Nat := byteAt b 0
def crRole (b : Bytes) : Nat := byteAt b 1
def crEnabled (b : Bytes) : Bool := byteAt b 4 == 1 && byteAt b 0 != 0

/-- The secret of a credential is present. -/
def State.secretPresent (s : State) (n : Nat) : Bool := (s.keyContent (64 + n)).isSome

/-- CredentialEntry as it reads (Table 17-7). -/
def State.credentialRead (s : State) (n : Nat) : Bytes :=
  splice (s.credential n) 6 [if s.secretPresent n then 1 else 0]

/-- The enabled entry `n` matches a client (R615). -/
def State.credentialMatches (s : State) (c : DtlsClient) (n : Nat) : Bool :=
  let b := s.credential n
  crEnabled b && match c with
    | .anonymous => false
    | .cert k => crKind b == 1 && slice b 16 48 == k
    | .psk i => crKind b == 2 && s.secretPresent n && (slice b 16 48).take (byteAt b 5) == i

/-- The entry that gives a client a role, for the named instance where the role is Tenant. -/
def State.grantingEntry (s : State) (c : DtlsClient) (role sel : Nat) : Option Nat :=
  (numbersFrom 0 32).find? fun n => s.credentialMatches c n && crRole (s.credential n) == role
    && (role != 3 || leAt (s.credential n) 2 2 == sel)

/-- The client of a session's association. -/
def State.clientOf (s : State) (k : Nat) : DtlsClient :=
  match s.session k with
  | some x => match tabGet none s.dict.assocs x.assoc with
    | some a => if x.assoc = 0 then .anonymous else a.client
    | none => .anonymous
  | none => .anonymous

/-- The sessions that entry `n` authenticated. -/
def State.sessionsOf (s : State) (n : Nat) : List Nat :=
  s.sessionsWith fun k x => x.assoc != 0 && x.role != .observer
    && s.grantingEntry (s.clientOf k) (roleNumber x.role) x.inst == some n

def State.setCredential (s : State) (n : Nat) (b : Bytes) : State :=
  if s.credential n = b then s
  else
    let t := (s.sessionsOf n).foldl State.endSession s
    let o := t.ownership
    (t.setOwnership { o with entries := tabSet [] o.entries n (if b.all (· == 0) then [] else b) }).raiseOcc 0xD02 0x80 0 4 n

/-- The fields of a CredentialEntry. -/
def checkCredentialFields (b : Bytes) : Except Code Unit := do
  need (decide (crKind b ≤ 2) && decide (byteAt b 4 ≤ 1)
    && (crKind b == 0 || (decide (1 ≤ crRole b) && decide (crRole b ≤ 3)
      && (if crRole b = 3 then decide (leAt b 2 2 < 0x100) else leAt b 2 2 == 0)
      && (if crKind b = 2 then decide (1 ≤ byteAt b 5) && decide (byteAt b 5 ≤ 48) else byteAt b 5 == 0)))) .outOfRange
  need ((slice b 7 9).all (· == 0)) .reservedBitSet

/-- The roles that a write of an entry touches: the old and the new one. -/
def State.credentialRoles (s : State) (n : Nat) (b : Bytes) : List Nat :=
  [s.credential n, b].filterMap fun x => if crKind x = 0 then none else some (crRole x)

/-- CredentialEntry (R616). -/
def credentialEntry (who : Caller) (n : Nat) (b : Bytes) (s : State) : Act := do
  let _ ← s.gate who (Od.credentialEntry + n) false 0 (.bytes b)
  need ((s.credentialRoles n b).all fun r => if who.role = .owner then r == 1 || r == 2 else r == 3) .denied
  checkCredentialFields b
  let v := splice b 6 [0]
  need ((numbersFrom 0 32).any fun k => let x := if k = n then v else s.credential k
    crEnabled x && crRole x == 1) .precondition
  .ok ((s.setCredential n v).bumpVersion (Od.credentialEntry + n) 0)

def execCredentialEntry (who : Caller) (n : Fin 32) (value : Bytes) (s : State) : Res :=
  .next (s.answer who (credentialEntry who n.val value s))

/-- CredentialSecret (R615). -/
def credentialSecret (who : Caller) (n : Nat) (b : Bytes) (s : State) : Act := do
  let _ ← s.gate who (Od.credentialSecret + n) false 0 (.bytes b)
  s.checkSecret (64 + n)
  .ok (s.storeVault (64 + n) b)

def execCredentialSecret (who : Caller) (n : Fin 32) (value : Bytes) (s : State) : Res :=
  .next (s.answer who (credentialSecret who n.val value s))

/-- The ClaimCode on MB_0: 16 zero octets while the module is Owned (Table 20-9). -/
def State.claimCode (s : State) : Bytes :=
  if s.ownership.owned then List.replicate 16 0 else slice (Config.claimCode s.sec.claimDraw) 0 16

/-- A new ClaimCode is drawn (R613). -/
def State.drawClaim (s : State) : State := s.setSec { s.sec with claimDraw := s.sec.draws, draws := s.sec.draws + 1 }

/-- OwnerClaim (R613, R614): the new state, and its code; a wrong code is counted. -/
def ownerClaim (who : Caller) (b : Bytes) (s : State) : State × Nat :=
  match (do
    let _ ← s.gate who Od.ownerClaim false 0 (.bytes b)
    need (match s.clientOf who.sess with
      | .cert _ => true
      | _ => false) .notAuthenticated
    need (!s.ownership.owned && decide (s.sec.wrongClaims < 8) && !s.sluiceHeld) .precondition : Except Code Unit) with
  | .error c => (s, c.value)
  | .ok () =>
    if b = s.claimCode then
      let key := match s.clientOf who.sess with
        | .cert k => k
        | _ => []
      let e : Bytes := [1, 1, 0, 0, 1, 0, 0] ++ List.replicate 9 0 ++ slice key 0 48
      let o := s.ownership
      ((s.setOwnership ⟨true, tabSet [] o.entries 0 e⟩).raiseOcc 0xD02 0x80 0 1 who.sess, 0)
    else
      let t := s.setSec { s.sec with wrongClaims := s.sec.wrongClaims + 1 }
      (t.raiseLimited 0xD02 0xA002 0x80 0 who.sess, Code.verifyFailed.value)

def execOwnerClaim (who : Caller) (value : Bytes) (s : State) : Res :=
  let (t, c) := ownerClaim who value s
  .next (t.emit (.answer who.sess c))

/-! ### Boot images (R604 to R606) -/

/-- Octets of the image region of a boot flash device. -/
def State.flashRead (s : State) (d off n : Nat) : Bytes :=
  let k := off / 32768
  let l := (numbersFrom k ((off + n + 32767) / 32768 - k)).flatMap fun b =>
    slice ((tabGet none s.sec.flash (d * 3072 + b)).getD (Config.flashBlock (d * 3072 + b))) 0 32768
  slice l (off % 32768) n

def State.writeFlash (s : State) (d b : Nat) (v : Bytes) : State :=
  s.setSec { s.sec with flash := tabSet none s.sec.flash (d * 3072 + b) (some v) }

/-- The header of an image (Table 17-2). -/
def State.imageHead (s : State) (d : Nat) : Bytes := s.flashRead d 0 1280

def imSecurity (h : Bytes) : Nat := leAt h 8 4
def imVersion (h : Bytes) : Nat := leAt h 12 4

/-- The stage entries of a header in order (Table 17-3). -/
def imStages (h : Bytes) : List Bytes := (numbersFrom 0 (leAt h 6 2)).map fun i => slice h (64 + 64 * i) 64

def stTarget (e : Bytes) : Nat := byteAt e 0
def stOffset (e : Bytes) : Nat := leAt e 4 4
def stLength (e : Bytes) : Nat := leAt e 8 4
def stHash (e : Bytes) : Bytes := slice e 16 48

/-- Check 1 of Table 17-4. -/
def imageForm (h : Bytes) : Bool :=
  let n := leAt h 6 2
  leAt h 0 4 == 0x47494D4B && leAt h 4 2 == 1 && (slice h 28 36).all (· == 0)
    && decide (1 ≤ n) && decide (n ≤ 16) && decide (leAt h 16 8 ≤ 100663296)
    && (slice h (64 + 64 * n) (1024 - 64 * n)).all (· == 0)
    && (imStages h).all (fun e => (slice e 1 3).all (· == 0) && (slice e 12 4).all (· == 0)
      && decide (1408 ≤ stOffset e) && decide (stOffset e + stLength e ≤ leAt h 16 8))
    && ((imStages h).filter fun e => stTarget e == 1).length == 1 && (imStages h).any fun e => stTarget e == 4

/-- The hash that the owner boot key in force must have. -/
def State.ownerHash (s : State) : Option Bytes :=
  s.sec.ownerBank.map fun b => (tabGet (0, []) s.sec.banks b).2

/-- Status of the checks of Table 17-4 on image `d`, 1 when every check passes. -/
def State.imageCheck (s : State) (d : Nat) : Nat :=
  let h := s.imageHead d
  let own := s.flashRead d 1280 97
  if !imageForm h then 2
  else if 3 < leAt h 24 4 ∨ ¬ Config.ecdsaVerify (Config.romKey (leAt h 24 4)) (h.take 1088) (slice h 1088 96) then 3
  else if (match s.ownerHash with
    | some k => sha384 own != k || !Config.ecdsaVerify own (h.take 1088) (slice h 1184 96)
    | none => false) then 3
  else if imSecurity h < s.sec.minVersion then 4
  else if (imStages h).all fun e => sha384 (s.flashRead d (stOffset e) (stLength e)) == stHash e then 1 else 5

def State.imageStatus (s : State) (d : Nat) : Nat := tabGet 0 s.sec.imageStatus d

def State.setImageStatus (s : State) (d v : Nat) : State :=
  s.setSec { s.sec with imageStatus := tabSet 0 s.sec.imageStatus d v }

/-- ImageInfo (Table 17-17). -/
def State.imageInfo (s : State) (d : Nat) : Bytes :=
  let h := s.imageHead d
  toLE 1 (s.imageStatus d) ++ toLE 1 (s.bootRec.unconfirmed d) ++ toLE 2 0 ++ toLE 4 (imSecurity h)
    ++ toLE 4 (imVersion h) ++ toLE 4 0

/-- BootConfirm 1 (R606). -/
def bootConfirm (who : Caller) (value : Nat) (s : State) : Act := do
  s.gateRange who Od.bootConfirm false 0 (.num value)
  if s.sec.booted < 2 then
    .ok ((s.setBootRec (s.bootRec.setUnconfirmed s.sec.booted 0)).raiseOcc 0xD00 0x80 0 4 s.sec.booted)
  else .ok s

def execBootConfirm (who : Caller) (value : Nat) (s : State) : Res := .next (s.answer who (bootConfirm who value s))

/-- SecurityVersionAdvance (R609). -/
def securityVersionAdvance (who : Caller) (v : Nat) (s : State) : Act := do
  let _ ← s.gate who Od.securityVersionAdvance false 0 (.num v)
  need (decide (s.sec.minVersion < v) && decide (v ≤ 64)) .outOfRange
  need (decide (s.sec.booted < 2) && s.bootRec.unconfirmed s.sec.booted == 0
    && [0, 1].all fun d => s.imageCheck d == 1 && decide (v ≤ imSecurity (s.imageHead d))) .precondition
  need (decide (s.shedLevel < 3)) .shedLevel
  .ok ((s.setSec { s.sec with minVersion := v }).raiseOcc 0xD00 0x80 0 5 v)

def execSecurityVersionAdvance (who : Caller) (value : Nat) (s : State) : Res :=
  .next (s.answer who (securityVersionAdvance who value s))

/-- The owner boot key in force: the highest-numbered bank that is programmed and not revoked (R610). -/
def SecSt.bankInForce (x : SecSt) : Option Nat := [3, 2, 1, 0].find? fun b => (tabGet (0, []) x.banks b).1 == 1

/-- OwnerBootKeyProgram (R610). -/
def ownerBootKeyProgram (who : Caller) (b : Bytes) (s : State) : Act := do
  let _ ← s.gate who Od.ownerBootKeyProgram false 0 (.bytes b)
  need (decide (s.shedLevel < 3)) .shedLevel
  match [0, 1, 2, 3].find? fun k => (tabGet (0, []) s.sec.banks k).1 == 0 with
  | none => .error .noResource
  | some k => .ok ((s.setSec { s.sec with banks := tabSet (0, []) s.sec.banks k (1, b) }).raiseOcc 0xD00 0x80 0 6 k)

def execOwnerBootKeyProgram (who : Caller) (value : Bytes) (s : State) : Res :=
  .next (s.answer who (ownerBootKeyProgram who value s))

/-- OwnerBootKeyRevoke (R610). -/
def ownerBootKeyRevoke (who : Caller) (k : Nat) (s : State) : Act := do
  s.gateRange who Od.ownerBootKeyRevoke false 0 (.num k)
  .ok ((s.setSec { s.sec with banks := tabSet (0, []) s.sec.banks k (2, (tabGet (0, []) s.sec.banks k).2) }).raiseOcc
    0xD00 0x80 0 7 k)

def execOwnerBootKeyRevoke (who : Caller) (value : Nat) (s : State) : Res :=
  .next (s.answer who (ownerBootKeyRevoke who value s))

/-- OwnerBootKeyBank as it reads (Table 17-17). -/
def State.ownerBankRead (s : State) (k : Nat) : Bytes :=
  let (st, h) := tabGet (0, []) s.sec.banks k
  toLE 1 st ++ slice h 0 48

/-! ### Measurement chains (R611) -/

/-- Extend MC_j by a digest. -/
def State.extendChain (s : State) (j : Nat) (d : Bytes) : State :=
  s.setSec { s.sec with
    chains := tabSet [] s.sec.chains j (sha384 (s.measureChain j ++ d))
    chainCounts := tabSet 0 s.sec.chainCounts j (sat32 (tabGet 0 s.sec.chainCounts j + 1)) }

/-- Chains are zero again. -/
def State.zeroChains (s : State) (l : List Nat) : State :=
  s.setSec { s.sec with
    chains := s.sec.chains.filter fun x => !l.contains x.1
    chainCounts := s.sec.chainCounts.filter fun x => !l.contains x.1 }

/-- MC_j is extended by the hash of every stage that a test names, in stage order. -/
def State.measureStages (s : State) (j : Nat) (f : Nat → Bool) : State :=
  ((imStages (s.imageHead s.sec.booted)).filter fun e => f (stTarget e)).foldl (fun t e => t.extendChain j (stHash e)) s

/-- MeasureExtend (R611). -/
def measureExtend (who : Caller) (b : Bytes) (s : State) : Act := do
  let _ ← s.gate who Od.measureExtend false 0 (.bytes b)
  need (decide (4 ≤ byteAt b 0)) .denied
  need (decide (byteAt b 0 ≤ 7)) .outOfRange
  need (decide (s.shedLevel < 3)) .shedLevel
  .ok ((s.noteKeys (s.extendChain (byteAt b 0) (b.drop 1))).raiseOcc 0xD01 0x80 0 1 (byteAt b 0))

def execMeasureExtend (who : Caller) (value : Bytes) (s : State) : Res := .next (s.answer who (measureExtend who value s))

/-- RecoveryBlock (R608): the block of the device named by RecoveryTarget is erased and written. -/
def recoveryBlock (who : Caller) (b : Nat) (v : Bytes) (s : State) : Act := do
  let _ ← s.gate who (Od.recoveryBlock + b) false 0 (.bytes v)
  need s.inRecovery .precondition
  .ok (s.writeFlash (s.num Od.recoveryTarget) b v)

def execRecoveryBlock (who : Caller) (b : Fin 3072) (value : Bytes) (s : State) : Res :=
  .next (s.answer who (recoveryBlock who b.val value s))

/-- SecurityState (Table 17-16). -/
def State.securityState (s : State) : Nat :=
  let b (x : Bool) (k : Nat) : Nat := if x then 2 ^ k else 0
  b s.ownership.owned 28 + s.sec.booted * 2 ^ 26 + b s.inRecovery 25 + b s.sec.ownerBank.isSome 24
    + s.sec.minVersion % 128 * 2 ^ 16 + b (field (s.num Od.tamperStatus) 8 8 != 0) 15 + b s.sluiceHeld 14
    + b (s.keyContent 97).isSome 13 + b (s.keyContent 96).isSome 12
    + b (decide (s.sec.booted < 2) && s.bootRec.unconfirmed s.sec.booted != 0) 11
    + ((numbersFrom 0 64).filter fun n => s.keyState n == 1).length % 128

/-! ### Tamper causes (R625) -/

/-- TAMPER_CAUSE_CLEAR: the cause is no longer present. -/
def tamperCauseClear (c : Nat) (s : State) : State := s.setNum Od.tamperStatus (setField (s.num Od.tamperStatus) c 1 0)

def execTamperCauseClear (cause : Fin 5) (s : State) : Res := .next (tamperCauseClear cause.val s)

/-- The Owner knocks TamperStatus: latched bits of causes that are not present clear. -/
def tamperKnock (who : Caller) (v : Nat) (s : State) : Act := do
  let _ ← s.gate who Od.tamperStatus false 0 (.num v)
  .ok ((numbersFrom 0 7).foldl (fun (t : State) c =>
    let w := t.num Od.tamperStatus
    if !v.testBit (8 + c) || !w.testBit (8 + c) then t
    else if w.testBit c then t.raiseOcc 0xD11 0x80 0 3 c
    else
      let w := setField w (8 + c) 1 0
      (t.setNum Od.tamperStatus w).raiseFlag 0xD11 0x80 0 false (8 + c) w) s)

def execTamperStatusKnock (who : Caller) (value : Nat) (s : State) : Res := .next (s.answer who (tamperKnock who value s))

/-! ### Attestation (R626, R627) -/

/-- AttestMSecret. -/
def attestMSecret (who : Caller) (b : Bytes) (s : State) : Act := do
  let _ ← s.gate who Od.attestMSecret false 0 (.bytes b)
  s.checkSecret 96
  .ok (s.storeVault 96 b)

def execAttestMSecret (who : Caller) (value : Bytes) (s : State) : Res := .next (s.answer who (attestMSecret who value s))

def State.setNonce (s : State) (k cls : Nat) (b : Bytes) : State :=
  s.setSec { s.sec with nonces := tabSet [] s.sec.nonces (k * 2 + cls) b }

/-- AttestMChallenge (class 0) and AttestPChallenge (class 1). -/
def attestChallenge (id cls : Nat) (who : Caller) (b : Bytes) (s : State) : Act := do
  let _ ← s.gate who id false 0 (.bytes b)
  .ok (s.setNonce who.sess cls b)

def execAttestMChallenge (who : Caller) (value : Bytes) (s : State) : Res :=
  .next (s.answer who (attestChallenge Od.attestMChallenge 0 who value s))

def execAttestPChallenge (who : Caller) (value : Bytes) (s : State) : Res :=
  .next (s.answer who (attestChallenge Od.attestPChallenge 1 who value s))

/-- Bytes 0 to 455 of evidence (Table 17-14). -/
def State.evidenceBody (s : State) (magic : Nat) (nonce : Bytes) (count : Nat) : Bytes :=
  toBE 4 magic ++ toBE 2 1 ++ toBE 2 0 ++ toBE 8 (s.num Od.serialNumber) ++ slice nonce 0 32 ++ toBE 8 s.gtc
    ++ toBE 4 s.securityState ++ toBE 4 s.epoch ++ (numbersFrom 0 8).flatMap s.measureChain
    ++ toBE 4 (imVersion (s.imageHead s.sec.booted)) ++ toBE 4 count

/-- Evidence of class M or P for a session's last nonce, with the state that counts it; a refusal is reported when the key
is absent. -/
def State.evidence (s : State) (k cls : Nat) : State × Except Code Bytes :=
  let nonce := tabGet [] s.sec.nonces (k * 2 + cls)
  match s.keyContent (96 + cls) with
  | none => (s.raiseLimited 0xD03 (if cls = 1 then 0xA002 else 0xA003) 0x80 0 k, .error .precondition)
  | some r =>
    if nonce.isEmpty then (s, .error .precondition)
    else if cls = 0 then
      let t := s.setSec { s.sec with evidenceM := sat32 (s.sec.evidenceM + 1) }
      let b := s.evidenceBody 0x4B41544D nonce t.sec.evidenceM
      (t, .ok (b ++ hmacSha384 r.key b))
    else
      let t := s.setSec { s.sec with evidenceP := sat32 (s.sec.evidenceP + 1), draws := s.sec.draws + 1 }
      let b := s.evidenceBody 0x4B415450 nonce t.sec.evidenceP
      (t, .ok (b ++ slice (Config.ecdsaSign r.key b s.sec.draws) 0 96))

/-- A read of AttestMResponse or AttestPQuote. -/
def attestRead (id cls : Nat) (who : Caller) (s : State) : State :=
  match (do
    let r ← s.checkAddress id false 0
    s.checkRead who r 0 : Except Code Unit) with
  | .error c => s.emit (.answer who.sess c.value)
  | .ok () => match s.evidence who.sess cls with
    | (t, .ok b) => t.emit (.value who.sess b)
    | (t, .error c) => t.emit (.answer who.sess c.value)

def execAttestMResponse (who : Caller) (s : State) : Res := .next (attestRead Od.attestMResponse 0 who s)

def execAttestPQuote (who : Caller) (s : State) : Res := .next (attestRead Od.attestPQuote 1 who s)

/-- AttestPGenerate 1 (R627): a new key pair, kept in the vault, and the statement signed by the factory identity key. -/
def attestPGenerate (who : Caller) (value : Nat) (s : State) : Act := do
  s.gateRange who Od.attestPGenerate false 0 (.num value)
  s.checkSecret 97
  let pair := Config.keyPair s.sec.draws
  let pub := slice pair.2 0 97
  let g := sat32 (s.sec.generated + 1)
  let b := toBE 4 0x4B415453 ++ toBE 2 1 ++ toBE 2 0 ++ toBE 8 (s.num Od.serialNumber) ++ toBE 4 s.epoch ++ toBE 4 g
    ++ pub ++ List.replicate 7 0
  let t := s.storeVault 97 pair.1
  let t := t.setSec { t.sec with
    draws := s.sec.draws + 2
    generated := g
    publicKey := pub
    statement := b ++ slice (Config.ecdsaSign Config.factoryPrivate b (s.sec.draws + 1)) 0 96 }
  .ok (t.raiseOcc 0xD03 0x80 0 1 g)

def execAttestPGenerate (who : Caller) (value : Nat) (s : State) : Res :=
  .next (s.answer who (attestPGenerate who value s))

end Sys2Proof.Machine
end

