-- ==== Sys2Proof/Machine/Restart.lean ====
section
/-! DEFINITION. Module resets, the sluice and the power-on flow (R606, R623, R660 to R674), but for the configuration load. -/

namespace Sys2Proof.Machine

def State.setStart (s : State) (x : StartSt) : State := { s with start := x }

def State.setEnergy (s : State) (x : EnergySt) : State := { s with energy := x }

/-- Every session ends (R97). -/
def State.endSessions (s : State) : State := (s.sessionsWith fun _ _ => true).foldl State.endSession s

/-- Pending values of T-class objects take effect, ManagerPages apart (R572); the fabric starts or stops last. -/
def State.applyPending (s : State) : State :=
  let t := s.dict.pendingValues.foldl (fun (t : State) x =>
    let id := x.1 / 4096
    match x.2, objectRow id with
    | some v, some r =>
      if r.apply = .T ∧ id ≠ Od.managerPages ∧ id ≠ Od.fabricEnable then
        (t.setObj id (x.1 % 4096) v).setPending id (x.1 % 4096) none
      else t
    | _, _ => t) s
  match t.pendingObj Od.fabricEnable 0 with
  | some v => (t.setPending Od.fabricEnable 0 none).applyFabricEnable v.nat
  | none => t

/-- Record PowerOn (Table 16-5). -/
def State.raisePowerOn (s : State) (kind : Nat) : State :=
  s.raise 0xE0A 0xF002 0x80 0 (kind + s.ev.recorder.powerCycles * 2 ^ 32)

/-- Note the kind and the cause of a module reset. -/
def State.noteReset (s : State) (kind cause : Nat) : State := (s.setNum Od.lastResetKind kind).setNum Od.lastResetCause cause

/-- Milestones `l` are reached now (Table 19-2). -/
def State.reach (s : State) (l : List Nat) : State :=
  let b := s.blob Od.bootTimeline
  let b := if b.isEmpty then List.replicate 64 0 else b
  (s.setBlob Od.bootTimeline (l.foldl (fun (x : Bytes) n => splice x (8 * (n - 1)) (toLE 8 s.gtc)) b)).setStart
    { s.start with milestone := l.foldl max s.start.milestone }

/-! ### Warm and sluice resets (R671 to R673) -/

/-- Dirty lines of the caches are written back, the host cores are reset, and every kinst reads 0 (R573). -/
def State.resetCores (s : State) : State :=
  let t := s.mem.writebacks.foldl (fun (u : State) x => match x.2 with
    | some b => u.hbmWrite (x.1 % 2 ^ 32 * 64) b
    | none => u) s
  let t := t.mem.caches.foldl (fun (u : State) x => match x.2 with
    | some l => u.flushLine (x.1 % 2 ^ 32) l
    | none => u) t
  { t with mem := { t.mem with caches := [], writebacks := [], directory := [], waiting := [], kinst := [] } }

/-- The PTP instance of every domain restarts (R147). -/
def State.restartPtp (s : State) : State := (numbersFrom 0 8).foldl (fun (t : State) d => t.setPtp d .init) s

/-- A warm (kind 2) or sluice (3) reset starts. -/
def State.beginWarm (s : State) (kind cause : Nat) : State :=
  let t := s.squashDrains.endSessions.applyPending.resetCores.restartPtp.disarmGens fun _ => true
  let t := if t.dict.restoreDefaults then
      { t with dict := { t.dict with copy0 := .none_, copy1 := .none_, restoreDefaults := false } } else t
  ((t.noteReset kind cause).count32 Od.warmResets).setStart { t.start with warm := some kind }

/-- WARM_RESET_DONE: the Manager stages of the booted image are verified and measured again, and the manager starts (R607);
an invalid image stops the host complex in Recovery. -/
def warmResetDone (s : State) : State :=
  match s.start.warm with
  | none => s
  | some kind =>
    let t := s.setStart { s.start with warm := none }
    let st := t.imageCheck t.sec.booted
    let t := t.setImageStatus t.sec.booted st
    if st = 1 then
      (s.noteKeys ((t.zeroChains [1, 4, 5, 6, 7]).measureStages 1 fun k => k == 4)).raisePowerOn kind
    else ((t.raise 0xD00 (0x2000 + st) 0x80 0 (payFault t.sec.booted 1)).setNum Od.bootState 2).raiseOcc 0xD00 0x80 0 3 0

def execWarmResetDone (s : State) : Res := .next (warmResetDone s)

/-- WRST_N has been asserted for 1 µs (R671, R673). -/
def wrst (s : State) : State :=
  let t := s.raiseOcc 0xE08 0x80 0 2 0
  if s.start.flow ≠ 0 ∨ s.start.warm.isSome ∨ 2 ≤ s.shedLevel ∨ s.num Od.bootState ≠ 1 then t.raiseOcc 0xE08 0x80 0 3 0
  else t.beginWarm 2 5

def execWrstN (s : State) : Res := .next (wrst s)

/-- ModuleReset 1 (R673). -/
def moduleResetWarm (who : Caller) (s : State) : Act := do
  s.gateRange who Od.moduleReset false 0 (.num 1)
  need s.start.warm.isNone .inProgress
  need (decide (s.shedLevel < 2)) .shedLevel
  .ok (s.beginWarm 2 6)

def execModuleResetWarm (who : Caller) (s : State) : Res := .next (s.answer who (moduleResetWarm who s))

/-! ### Power-on resets (R660 to R662) -/

/-- What of the key MRAM, the fuses and the boot flash outlives a power-on reset: a write that was under way is torn. -/
def State.keptSec (s : State) : SecSt :=
  { SecSt.reset with
    records := s.sec.records.map fun x => (x.1, x.2.map fun r =>
      if s.gtc < r.written then { r with crcOk := false, written := 0 } else { r with written := 0 })
    epoch0 := s.sec.epoch0
    epoch1 := s.sec.epoch1
    ownership := s.sec.ownership
    boot := s.sec.boot
    draws := s.sec.draws + 1
    claimDraw := if s.ownership.owned then s.sec.claimDraw else s.sec.draws
    minVersion := s.sec.minVersion
    banks := s.sec.banks
    ownerBank := s.sec.bankInForce
    flash := s.sec.flash
    imageStatus := s.sec.imageStatus
    publicKey := s.sec.publicKey
    statement := s.sec.statement
    generated := s.sec.generated
    sluices := s.sec.sluices }

/-- What of the recorder outlives it: the log and its header (R594, R595, R600). -/
def Recorder.kept (r : Recorder) : Recorder :=
  let slots := match r.journal with
    | some (k, x, true) => tabSet none r.slots k (some x)
    | _ => r.slots
  let h := r.header
  { Recorder.reset with
    slots := slots
    header0 := r.header0
    header1 := r.header1
    operatingSeconds := h.operatingSeconds
    powerCycles := h.powerCycles }

/-- The security objects that keep their own persistence (R628). -/
def keptObjects : List Nat := [Od.tamperEnableMask, Od.recoveryTarget]

/-- A power-on reset starts: everything is as after reset but for fuses, key MRAM, recorder log and boot flash
(Table 19-1). A configuration save under way loses its copy (Table 19-5). -/
def State.powerOnReset (s : State) (cause : Nat) : State :=
  let lost (k : Nat) (c : ConfigCopy) : ConfigCopy := match s.dict.saving with
    | some (j, _) => if j = k then { c with valid := false, values := [] } else c
    | none => c
  let t : State := { State.reset with
    pending := s.pending
    freeCtr := s.freeCtr
    out := s.out
    dict := { DictSt.reset with
      values := s.dict.values.filter fun x => keptObjects.contains (x.1 / 4096)
      copy0 := lost 0 s.dict.copy0
      copy1 := lost 1 s.dict.copy1
      restoreDefaults := s.dict.restoreDefaults }
    pair := { PairSt.reset with roleB := s.pair.roleB, claimIn := s.pair.claimIn }
    ev := { EventSt.reset with recorder := s.ev.recorder.kept }
    sec := s.keptSec
    start := { StartSt.reset with held := some cause } }
  t.setNum Od.bootPreference s.bootRec.preference

/-- POWER_ON_RESET: PORST_N is asserted, or VDD_SHORE lies below its threshold. -/
def execPowerOnReset (supply : Bool) (s : State) : Res := .next (s.powerOnReset (if supply then 2 else 1))

/-- RecoveryRestart 1 (R608). -/
def recoveryRestart (who : Caller) (value : Nat) (s : State) : Act := do
  s.gateRange who Od.recoveryRestart false 0 (.num value)
  .ok (s.powerOnReset 3)

def execRecoveryRestart (who : Caller) (value : Nat) (s : State) : Res := .next (s.answer who (recoveryRestart who value s))

/-- ModuleReset 2 (R673): refused while an instance is running or the module holds the paddle. -/
def moduleResetPowerOn (who : Caller) (s : State) : Act := do
  s.gateRange who Od.moduleReset false 0 (.num 2)
  need (!(s.inst.present.any s.instRunning) && !s.authority) .precondition
  .ok (s.powerOnReset 4)

def execModuleResetPowerOn (who : Caller) (s : State) : Res := .next (s.answer who (moduleResetPowerOn who s))

/-- ModuleReset 3. -/
def moduleResetForced (who : Caller) (s : State) : Act := do
  s.gateRange who Od.moduleReset false 0 (.num 3)
  .ok (s.powerOnReset 4)

def execModuleResetForced (who : Caller) (s : State) : Res := .next (s.answer who (moduleResetForced who s))

/-- Both copies of JournalEpoch take the larger valid value (R624). -/
def State.repairEpoch (s : State) : State :=
  if s.sec.epoch0 = (s.epoch, true) ∧ s.sec.epoch1 = (s.epoch, true) then s
  else (s.setSec { s.sec with epoch0 := (s.epoch, true), epoch1 := (s.epoch, true) }).raiseOcc 0xD04 0x80 0 3 s.epoch

/-- Milestone 1: the epoch is repaired, PowerCycles counted and PowerOn recorded (R600, R624, R666). -/
def State.shoreUp (s : State) : State :=
  let r := s.ev.recorder
  let r := { r with powerCycles := sat32 (r.powerCycles + 1) }
  let t := s.setRecorder (r.writeHeader r.header.head r.header.count r.operatingSeconds)
  (t.raisePowerOn 1).repairEpoch.reach [1]

/-- POWER_ON_RESET_END: PORST_N is sampled deasserted with VDD_SHORE in tolerance. The tick is GTC 0 (R661); ROLE_SEL is
latched (R444). -/
def powerOnResetEnd (roleB : Bool) (bad : List MramPlace) (s : State) : State :=
  match s.start.held with
  | none => s
  | some cause =>
    let t := { s with gtc := 0, pair := { s.pair with roleB := roleB } }
    let t := bad.foldl State.damage (t.setStart { t.start with held := none })
    let t := t.noteReset 1 cause
    let t := if cause = 1 then t.raiseOcc 0xE08 0x80 0 1 0 else t
    t.shoreUp

def execPowerOnResetEnd (roleB : Bool) (bad : List MramPlace) (s : State) : Res := .next (powerOnResetEnd roleB bad s)

/-! ### The power-on flow (R606, R664, R666) -/

/-- The two images in the order in which the ROM tries them (R606). -/
def State.imageOrder (s : State) : List Nat :=
  let b := s.bootRec
  let p := b.preference
  if 3 ≤ b.unconfirmed p ∧ b.unconfirmed (1 - p) < 3 then [1 - p, p] else [p, 1 - p]

/-- Image `d` is started: its count rises, and MC_0 is extended (Table 17-5). -/
def State.startImage (s : State) (d : Nat) : State :=
  let t := s.setSec { s.sec with booted := d }
  let b := t.bootRec
  let t := t.setBootRec (b.setUnconfirmed d (satAt 255 (b.unconfirmed d + 1)))
  let t := (t.zeroChains (numbersFrom 0 8)).extendChain 0 (sha384 (t.imageHead d))
  ((t.measureStages 0 fun k => k == 1).raiseOcc 0xD00 0x80 0 1 d).reach [2, 3]

/-- Check one image; a failure is reported with its status. -/
def State.tryImage (s : State) (d : Nat) : State × Bool :=
  let st := s.imageCheck d
  let t := s.setImageStatus d st
  if st = 1 then (t.startImage d, true) else (t.raise 0xD00 (0x2000 + st) 0x80 0 (payFault d 1), false)

/-- The SFDP tables of a device lack the xSPI profile: it is read in 1S-1S-1S mode, with an event (R698). -/
def State.noteFlash (s : State) : State :=
  [0, 1].foldl (fun (t : State) d =>
    if byteAt (Config.factoryBytes (Od.bootFlashInfo + d)) 4 = 0 then t.raiseOcc 0xE07 0x80 0 3 d else t) s

/-- IMAGE_BOOT: the first valid image is started; with none the module enters Recovery (R608). -/
def imageBoot (s : State) : State :=
  if s.start.held.isSome ∨ s.start.flow ≠ 1 ∨ 2 ≤ s.start.milestone then s
  else
    let t := if s.start.milestone = 0 then s.shoreUp else s
    let t := t.noteFlash
    match t.imageOrder with
    | [a, b] => match t.tryImage a with
      | (u, true) => u
      | (u, false) => match u.tryImage b with
        | (v, true) => v
        | (v, false) => (((v.setStart { v.start with flow := 0 }).setNum Od.bootState 2)).raiseOcc 0xD00 0x80 0 3 0
    | _ => t

def execImageBoot (s : State) : Res := .next (imageBoot s)

/-- Milestone 3 is reached and the fast dies are not powered: rails 1 to 6 are checked now. -/
def State.beforeFastDies (s : State) : Bool := s.start.flow != 0 && s.start.milestone == 3

/-- RAIL_CHECK_RETRY (R664): the rails outside tolerance; each wait raises an event. -/
def railCheck (outside : Nat) (s : State) : State :=
  if s.beforeFastDies then
    let o := outside &&& 0x7E
    let t := s.setStart { s.start with railsOut := o }
    if o = 0 then t else t.raiseOcc 0xE08 0x80 0 4 o
  else s

def execRailCheckRetry (outside : Nat) (s : State) : Res := .next (railCheck outside s)

/-- The configuration copy that start-up loads (R84): the valid one with the higher sequence number; none while
ConfigRestoreDefaults is pending (R670). -/
def State.configCopy (s : State) : Option (Nat × ConfigCopy) :=
  if s.dict.restoreDefaults then none
  else match s.dict.copy0.valid, s.dict.copy1.valid with
    | true, true => if s.dict.copy0.sequence < s.dict.copy1.sequence then some (1, s.dict.copy1) else some (0, s.dict.copy0)
    | true, false => some (0, s.dict.copy0)
    | false, true => some (1, s.dict.copy1)
    | false, false => none

/-- FAST_DIES_UP: milestones 4 to 6. The dies' interpolators run, and the Manager pages are bound as the saved
configuration says (R572). -/
def fastDiesUp (s : State) : State :=
  if !s.beforeFastDies ∨ s.start.railsOut ≠ 0 then s
  else
    let v := match s.configCopy with
      | some (_, c) => (tabGet none c.values (objKey Od.managerPages 0)).getD (objDefault Od.managerPages)
      | none => objDefault Od.managerPages
    let t := { s with
      time := { s.time with fineN := true, fineC0 := true, fineC1 := true }
      mem := { s.mem with managerPages := v.nat } }
    let h := t.num Od.hamperStatus
    let t := t.setNum Od.hamperStatus (setField h 14 1 0)
    let t := if h.testBit 14 then t.raiseFlag 0xD87 0x80 0 false 14 (t.num Od.hamperStatus) else t
    t.reach [4, 5, 6]

def execFastDiesUp (s : State) : Res := .next (fastDiesUp s)

/-- The security record of MC_3 (Table 17-5). -/
def State.securityRecord (s : State) : Bytes :=
  toLE 4 s.securityState ++ toLE 4 s.sec.minVersion ++ slice (s.ownerHash.getD []) 0 48 ++ toLE 4 s.epoch ++ toLE 4 0

/-- MANAGER_STARTED: milestone 7. MC_1, MC_2 and MC_3 are extended, and the journal records are opened (R618, R619). -/
def managerStarted (s : State) : State :=
  if s.start.flow = 0 ∨ s.start.milestone ≠ 6 then s
  else
    let t := if s.start.flow = 4 then s.zeroChains [1, 2, 4, 5, 6, 7] else s
    let t := t.measureStages 1 fun k => k == 4
    let t := t.measureStages 2 fun k => k == 2 || k == 3
    let t := if s.start.flow = 1 then t.extendChain 3 (sha384 t.securityRecord) else t
    (s.noteKeys ((numbersFrom 0 98).foldl State.repairKey t)).reach [7]

def execManagerStarted (s : State) : Res := .next (managerStarted s)

/-- The fast dies lose their power: what they and HBM hold is lost, every session ends, and the values of reloaded objects
with it (R602, R649, R674). The S-die's state is kept. -/
def State.fastDiesOff (s : State) : State :=
  let t := s.endSessions
  let keep (k : Nat) : Bool :=
    let id := k / 4096
    [1, 2, 0xB, 0xC, 0xD, 0xE].contains (id / 2 ^ 20) || decide (0xF80000 ≤ id) || id == Od.paddleState
  let p := t.pair
  let t := { t with
    dict := { t.dict with
      values := t.dict.values.filter fun x => keep x.1
      pendingValues := t.dict.pendingValues.filter fun x => keep x.1
      windows := [], quiesce := [], registers := [] }
    pond := { t.pond with charges := [], linkDown := [] }
    port := .reset, sw := .reset, fab := .reset, intake := .reset, chain := .reset, acq := .reset, scan := .reset, fio := .reset
    pair := { PairSt.reset with
      roleB := p.roleB, gained := p.gained, expires := p.expires, claimOut := p.claimOut, claimIn := p.claimIn
      claimAt := p.claimAt, lostAt := p.lostAt, retryAt := 2 ^ 64 }
    inst := { t.inst with resets := [], rings := [], baskets := [], flr := [] }
    mem := { MemSt.reset with managerPages := t.mem.managerPages }
    time := { t.time with fineN := false, fineC0 := false, fineC1 := false, gens := [], latches := [], snaps := [], pps := [] }
    ev := { t.ev with dieN := .init, dieC0 := .init, dieC1 := .init, msixMasked := [], msixPending := [], eip := [] }
    start := { t.start with flow := 0, warm := none } }
  let h := setField (t.num Od.hamperStatus) 14 1 1
  ((t.setNum Od.hamperStatus h).setNum Od.bootState 3).raiseFlag 0xD87 0x80 0 true 14 h

/-- SHORE_WAKE (R646, R674): the fast dies are powered again, and the flow runs from milestone 4 with the booted image. -/
def shoreWake (s : State) : State :=
  match s.energy.wake with
  | none => s
  | some cause =>
    if s.num Od.bootState ≠ 3 ∨ s.energy.tripAt.isSome then s
    else
      let h := s.num Od.hamperStatus
      let old := field h 25 3
      let t := s.setEnergy { s.energy with wake := none, gated := [], asleep := [] }
      let t := t.setNum Od.hamperStatus (setField h 25 3 0)
      let t := if old = 0 then t else t.raiseState 0xD80 0x80 0 old 0 1 0
      let t := { t with pair := { t.pair with retryAt := 0 } }
      let t := ((t.noteReset 4 cause).count32 Od.shoreWakes).setBlob Od.bootTimeline (List.replicate 64 0)
      ((t.setNum Od.bootState 0).setStart { t.start with flow := 4, milestone := 3, railsOut := 0 }).raisePowerOn 4

def execShoreWake (s : State) : Res := .next (shoreWake s)

/-! ### The sluice (R623 to R625) -/

/-- A cause trips the sluice: every key is erased, JournalEpoch moves on, and a sluice reset follows (R672). -/
def State.sluice (s : State) (cause : Nat) : State :=
  let w := setField (s.num Od.tamperStatus) (8 + cause) 1 1
  let t := (s.setNum Od.tamperStatus w).raiseFlag 0xD11 0x80 0 true (8 + cause) w
  let t : State := t.sec.pends.foldl (fun (u : State) x =>
    if x.2.act = 0 then u
    else u.raiseDone (0xD20 + x.1) 0x09 x.1 ((if x.2.act = 1 then Od.keyLoad else Od.keyCommit) + x.1) Code.precondition.value) t
  let e := t.epoch + 1
  let t := t.setSec { t.sec with
    records := [], pends := [], epoch0 := (e, true), epoch1 := (e, true), publicKey := [], statement := []
    sluices := sat32 (t.sec.sluices + 1) }
  let t : State := { t with dict := { t.dict with assocs := [] } }
  let t := t.raiseOcc 0xD10 0x80 0 1 (field w 8 8)
  if t.start.flow ≠ 0 ∨ t.num Od.bootState ≠ 1 then t.endSessions
  else if t.start.warm.isSome then (t.noteReset 3 7).setStart { t.start with warm := some 3 }
  else t.beginWarm 3 7

/-- SLUICE: a comparator of Table 17-12 recognises cause `c`. -/
def sluiceCause (c : Nat) (s : State) : State :=
  let w := s.num Od.tamperStatus
  if w.testBit c then s
  else
    let t := s.setNum Od.tamperStatus (setField w c 1 1)
    if (c = 2 ∨ c = 3) ∧ ¬ (s.num Od.tamperEnableMask).testBit c then t else t.sluice c

def execSluice (cause : Fin 5) (s : State) : Res := .next (sluiceCause cause.val s)

/-- SluiceCommand 1, by the Owner. -/
def sluiceCommand (who : Caller) (value : Nat) (s : State) : Act := do
  s.gateRange who Od.sluiceCommand false 0 (.num value)
  .ok (s.sluice 5)

def execSluiceCommand (who : Caller) (value : Nat) (s : State) : Res := .next (s.answer who (sluiceCommand who value s))

/-- OwnerRelease 1 (R614): a sluice with cause Release, no credential, and the module is Unowned with a new ClaimCode. -/
def ownerRelease (who : Caller) (value : Nat) (s : State) : Act := do
  s.gateRange who Od.ownerRelease false 0 (.num value)
  .ok (((s.sluice 6).setOwnership ⟨false, []⟩).drawClaim.raiseOcc 0xD02 0x80 0 3 0)

def execOwnerRelease (who : Caller) (value : Nat) (s : State) : Res := .next (s.answer who (ownerRelease who value s))

end Sys2Proof.Machine
end

