-- ==== Sys2Proof/Machine/Energy.lean ====
section
/-! DEFINITION. The hamper: ledger, hold-up bank, shed levels, sleep and heat (Chapter 18). -/

namespace Sys2Proof.Machine

/-! ### HamperStatus (Table 18-9) -/

def State.hamper (s : State) (bit : Nat) : Bool := (s.num Od.hamperStatus).testBit bit

/-- Set or clear a flag of HamperStatus, with the event of its source. -/
def State.setHamper (s : State) (src bit : Nat) (v : Bool) : State :=
  if s.hamper bit = v then s
  else
    let w := setField (s.num Od.hamperStatus) bit 1 (if v then 1 else 0)
    (s.setNum Od.hamperStatus w).raiseFlag src 0x80 0 v bit w

def State.supplyLost (s : State) : Bool := s.hamper 24
def State.thermalState (s : State) : Nat := field (s.num Od.hamperStatus) 16 3

/-! ### The ledger (R634 to R636) -/

/-- The rail that carries a charged block: SerDes for ports, the N-die for capture, a C-die for instances and host cores. -/
def State.chargeRail (s : State) (key : Nat) : Nat :=
  let k := key / 2 ^ 24
  let n := key % 2 ^ 24
  if k = 0x01 then 2 else if k = 0x05 then 1
  else if k = 0x81 then (if s.num Od.scanProcessor n < 16 then 3 else 4) else if n < 8 then 3 else 4

def fracSum (l : List (Nat × Nat)) : Nat × Nat := l.foldl fracAdd (0, 1)

/-- What is added to each pond's direct power: of the charged part of the rail's power, in µW, in proportion to the charges
that the pond holds; the rest falls to the module pond. -/
def State.divideRail (s : State) (r p : Nat) (t : Tab Nat) : Tab Nat :=
  let mine := s.pond.charges.filter fun x => s.chargeRail x.1 == r
  let all := fracSum (mine.map (·.2))
  let partOf (a : Nat × Nat) : Nat :=
    if all.1 = 0 then 0
    else if all.1 ≤ p * all.2 then 1000 * a.1 / a.2 else 1000 * p * a.1 * all.2 / (a.2 * all.1)
  let ponds := (mine.map fun x => s.chargePond x.1).eraseDups
  let part := ponds.map fun q => (q, partOf (fracSum ((mine.filter fun x => s.chargePond x.1 == q).map (·.2))))
  let t := part.foldl (fun (u : Tab Nat) x => tabSet 0 u x.1 (tabGet 0 u x.1 + x.2)) t
  tabSet 0 t 0xF00 (tabGet 0 t 0xF00 + (1000 * p - ((part.map (·.2)).sum)))

/-- BudgetOverrun: set while the balance is negative, cleared below 0.95 × BoardPowerBudget (R635). -/
def State.judgeBudget (s : State) (balance : Int) : State :=
  let sum := (s.energy.ticks.map (·.total)).sum
  if balance < 0 ∧ !s.hamper 20 then (s.setHamper 0xD84 20 true).count32 Od.budgetOverruns
  else if s.hamper 20 ∧ 100 * sum < 95 * s.num Od.boardPowerBudget * 10000 then
    (s.setHamper 0xD84 20 false).setEnergy { s.energy with ledgerFrequency := 2000 }
  else s

/-- Take the power of every rail over one tick of 100 µs. -/
def State.ledgerTick (s : State) (rails : List Nat) : State :=
  let l := (numbersFrom 0 8).map fun r => (r, rails.getD r 0)
  let total := (l.map (·.2)).sum
  let ponds := l.foldl (fun (t : Tab Nat) x => s.divideRail x.1 x.2 t) []
  let t := l.foldl (fun (u : State) x =>
    let acc := tabGet 0 u.energy.rails x.1 + x.2
    let u := (u.setNum (Od.railPower + x.1) x.2).count48ev (Od.railEnergy + x.1) 0xD84 0x80 0 (acc / 10)
    u.setEnergy { u.energy with rails := tabSet 0 u.energy.rails x.1 (acc % 10) }) s
  let acc := t.energy.consumed + total
  let t := t.count48ev Od.energyConsumed 0xD84 0x80 0 (acc / 10)
  let t := t.setEnergy { t.energy with consumed := acc % 10, ticks := (⟨total, ponds⟩ :: t.energy.ticks).take 10000 }
  let balance : Int := ((t.num Od.boardPowerBudget * 10000 : Nat) - ((t.energy.ticks.map (·.total)).sum : Int)) / 10
  ((t.setNum Od.measuredPower (t.energy.meanPower 10)).setNum Od.ledgerBalance (ofInt 64 balance)).judgeBudget balance

/-! ### The hold-up bank (R639 to R641) -/

/-- Pin volts of a code, and volts at the bank. -/
def State.holdupPin (s : State) (code : Nat) : Nat :=
  fadd (fmul (widen (s.num Od.factoryHoldupGain)) (d64 code)) (widen (s.num Od.factoryHoldupOffset))

def State.holdupVolts (s : State) (code : Nat) : Nat :=
  fmul (widen (s.num Od.holdupDivider))
    (fadd (fmul (widen (s.num Od.userHoldupGain)) (s.holdupPin code)) (widen (s.num Od.userHoldupOffset)))

/-- A binary32 value as a fraction of units of its smallest subnormal. -/
def f32Units (n : Nat) : Nat := if f32.neg n then 0 else f32.units n

/-- The unit that `f32Units` counts: 1 / f32One. -/
def f32One : Nat := 2 ^ f32.k

/-- The bank energy in µJ (R640). -/
def State.bankEnergy (s : State) : Nat × Nat :=
  let v := f32Units (s.num Od.holdupVoltage)
  let f := f32Units (s.num Od.holdupFloor)
  if s.hamper 22 ∨ v ≤ f then (0, 1)
  else (f32Units (s.num Od.holdupCapacitance) * (v * v - f * f) * 1000000, 2 * f32One ^ 3)

/-- A rail power in mW taken at the bank (R640). -/
def State.atBank (s : State) (p : Nat × Nat) : Nat × Nat :=
  fracAdd (p.1 * f32One, p.2 * f32Units (s.num Od.holdupEfficiency)) (s.num Od.holdupBoardLoad, 1)

def fracMul (a b : Nat × Nat) : Nat × Nat := (a.1 * b.1, a.2 * b.2)

def fracFloor (a : Nat × Nat) : Nat := a.1 / a.2

/-- The charges of the blocks that shed levels 1 and 2 stop and that still run: ports without PortProtection, armed trigger
units, and the host tenants' cores. -/
def State.stoppableCharges (s : State) : Nat × Nat :=
  fracSum ((s.pond.charges.filter fun x =>
    let k := x.1 / 2 ^ 24
    let n := x.1 % 2 ^ 24
    (k == 0x01 && s.pnum Od.portProtection n == 0 && s.portLit n) || (k == 0x05 && s.unitState n != 5)
      || (k == 0x0B && !tabGet false s.energy.gated n)).map (·.2))

/-- The thresholds Θ_2, Θ_3 and Θ_4 in µJ (R644). -/
def State.thresholds (s : State) : (Nat × Nat) × (Nat × Nat) × (Nat × Nat) :=
  let p := s.num Od.measuredPower
  let stop := s.stoppableCharges
  let p3 : Nat × Nat := (p * stop.2 - stop.1, stop.2)
  let longest := ((s.inst.present.filter s.instRunning).map s.scanP).foldl max 0
  let t4 := fracAdd (s.num Od.flushReserve, 1) (fracMul (s.atBank (1500, 1)) (40, 1))
  let t3 := fracAdd t4 (fracMul (s.atBank p3) (longest + 1000000, 1000000))
  let t2 := fracAdd t3 (fracMul (s.atBank (p, 1)) (s.num Od.shedLead, 1000))
  (t2, t3, t4)

/-- The supply is lost (R643): it is declared once, and the capacitance is measured from now on. -/
def State.declareLoss (s : State) : State :=
  if s.supplyLost then s
  else
    let t := (s.setHamper 0xD81 24 true).count32 Od.supplyLossCount
    t.setEnergy { t.energy with loss := some (t.num Od.holdupVoltage, t.gtc, (0, 1)) }

/-- Report HoldupCapMeasured at the end of a measurement (R641). -/
def State.reportCapacitance (s : State) : State :=
  match s.energy.loss with
  | none => s
  | some (v1, since, e) =>
    let t := s.setEnergy { s.energy with loss := none }
    let a := f32Units v1
    let b := f32Units (t.num Od.holdupVoltage)
    if a = 0 ∨ a ≤ b ∨ 20 * (a - b) < a ∨ t.gtc - since < 20000000 then t
    else
      let c := (f32.ofRat ((2 * e.1 * f32One * f32One : Nat) : Int) (e.2 * 10000000 * (a * a - b * b))).1
      (t.setNum Od.holdupCapMeasured c).raiseOcc 0xD82 0x80 0 3 c

/-- Take one pin value into a calibration under way. -/
def HoldupCal.take (c : HoldupCal) (code : Nat) (flagged : Bool) : HoldupCal :=
  if 4096 ≤ c.codes.length then c else { c with codes := code :: c.codes, flagged := c.flagged || flagged }

/-- HOLDUP_CONVERSION. -/
def holdupConversion (code : Nat) (s : State) : State :=
  let flagged := decide (code < 64) || decide (65471 < code)
  let e := s.energy
  let e := { e with cal := e.cal.map fun (c : HoldupCal) => c.take code flagged }
  if flagged then
    let t := s.setEnergy { e with flaggedRun := e.flaggedRun + 1 }
    if 4 ≤ e.flaggedRun + 1 then t.setHamper 0xD82 22 true else t
  else
    let codes := (code :: e.codes).take 16
    let t := (s.setEnergy { e with codes := codes, flaggedRun := 0 }).setHamper 0xD82 22 false
    let v := narrow (fdiv (fsum (codes.reverse.map t.holdupVolts)) (d64 codes.length))
    let t := t.setNum Od.holdupVoltage v
    let loss := t.num Od.holdupLossVoltage
    let low := if f32Units loss ≠ 0 ∧ f32Units v < f32Units loss then t.energy.lowRun + 1 else 0
    let good := if f32Units (t.num Od.holdupReturnVoltage) ≤ f32Units v then some (t.energy.goodSince.getD t.gtc) else none
    let t := t.setEnergy { t.energy with lowRun := low, goodSince := good }
    if 5 ≤ low then t.declareLoss else t

def execHoldupConversion (code : Fin 65536) (s : State) : Res := .next (holdupConversion code.val s)

/-! ### Shed levels (R643 to R648) -/

/-- The recorder's flush (R602): a freeze ends, up to 1,024 waiting events are recorded, one LostEvents record covers the
rest, and the header is written. -/
def State.flushRecorder (s : State) : State :=
  let t := s.endFreeze 2
  let l := t.ev.recorder.input
  let t := t.setRecorder { t.ev.recorder with input := [] }
  let t := (l.take 1024).foldl State.record t
  let rest := l.drop 1024
  let t := match rest, rest.getLast? with
    | e :: _, some z => t.record (lostEvent 0xE0A rest.length e.gtc z.gtc)
    | _, _ => t
  operatingSecondsSave t

/-- Ports without PortProtection are Held, their lanes Off (R165). -/
def State.holdPorts (s : State) : State :=
  (numbersFrom 0 256).foldl (fun (t : State) n =>
    if t.portEnabled n ∧ t.pnum Od.portProtection n = 0 ∧ !t.absorbed n then (t.leaveUp n 1).pllUpdate (n / 8) else t) s

/-- Held ports return to bring-up. -/
def State.releasePorts (s : State) : State :=
  (numbersFrom 0 256).foldl (fun (t : State) n => if t.portEnabled n ∧ t.portState n = 1 then t.bringUp n else t) s

/-- The actions of shed level `l` (Table 18-3). -/
def State.shedActions (s : State) (l : Nat) : State :=
  match l with
  | 1 => s.holdPorts
  | 2 => s.stopUnits.setEnergy { s.stopUnits.energy with gateAt := some s.gtc }
  | 3 => s.shedInstances
  | 4 => s.reportCapacitance.flushRecorder.fastDiesOff
  | _ => s

/-- Enter shed level `l` from the one below; `cause` is 1 for the supply and 2 for heat. -/
def State.enterShed (s : State) (l cause : Nat) : State :=
  let h := s.num Od.hamperStatus
  ((s.setNum Od.hamperStatus (setField h 25 3 l)).raiseState 0xD80 0x80 0 (field h 25 3) l cause 0).shedActions l

/-- The level returns to 0 in one step, and the blocks are restored (R646). -/
def State.endShed (s : State) : State :=
  let h := s.num Od.hamperStatus
  let old := field h 25 3
  let t := (s.setNum Od.hamperStatus (setField h 25 3 0)).raiseState 0xD80 0x80 0 old 0 1 0
  let t := t.setEnergy { t.energy with gateAt := none, gated := [] }
  let t := t.releasePorts
  let t := if 2 ≤ old then t.resumeUnits else t
  if 3 ≤ old then t.unshedInstances else t

/-- Nothing is left to drive: no instance is running, and the schedule queue is empty. -/
def State.nothingToDrive (s : State) : Bool := !(s.inst.present.any s.instRunning) && s.fio.queue.isEmpty

/-- The level changes of one tick (R645 to R647). -/
def State.shedTick (s : State) : State :=
  let (t2, t3, t4) := s.thresholds
  let e := s.bankEnergy
  let l := s.shedLevel
  let below (t : Nat × Nat) : Bool := !fracLt t e
  if s.energy.tripAt.isSome then
    (if l = 3 ∧ (s.nothingToDrive ∨ (s.supplyLost && below t4)) then s.enterShed 4 2 else s)
  else if s.supplyLost then
    (match l with
     | 0 => s.enterShed 1 1
     | 1 => if s.nothingToDrive || below t2 then s.enterShed 2 1 else s
     | 2 => if s.nothingToDrive || below t3 then s.enterShed 3 1 else s
     | 3 => if s.nothingToDrive || below t4 then s.enterShed 4 1 else s
     | _ => s)
  else if l = 0 then s
  else if l = 4 then (if s.energy.wake.isNone ∧ s.num Od.bootState = 3 then s.setEnergy { s.energy with wake := some 8 } else s)
  else if fracLt e t2 then s else s.endShed

/-- The supply returns when the voltage has held for 100 ms and no notice is present (R643). -/
def State.judgeReturn (s : State) : State :=
  match s.energy.goodSince with
  | some g =>
    if s.supplyLost ∧ !s.hamper 23 ∧ s.energy.lowRun < 5 ∧ g + 100000000 ≤ s.gtc then
      (s.setHamper 0xD81 24 false).reportCapacitance
    else s
  | none => s

/-- HoldupMarginLow (R648). -/
def State.judgeMargin (s : State) : State :=
  let t2 := s.thresholds.1
  let e := s.bankEnergy
  if s.supplyLost then s
  else if fracLt t2 e ∧ !s.hamper 21 then s.setHamper 0xD82 21 true
  else if s.hamper 21 ∧ !fracLt (11 * t2.1, 10 * t2.2) e then s.setHamper 0xD82 21 false
  else s

/-- The energy taken from the bank since the loss, one tick at the power measured. -/
def State.drainTick (s : State) : State :=
  match s.energy.loss with
  | some (v, g, e) =>
    let p := match s.energy.ticks with
      | t :: _ => t.total
      | [] => 0
    s.setEnergy { s.energy with loss := some (v, g, fracAdd e (s.atBank (p, 1))) }
  | none => s

/-- HAMPER_TICK. -/
def hamperTick (rails : List Nat) (s : State) : State :=
  let t := (s.ledgerTick rails).drainTick
  let t := t.judgeReturn
  let (t2, t3, t4) := t.thresholds
  let t := t.setNum Od.holdupEnergy (fracFloor t.bankEnergy)
  let t := t.setBlob Od.shedThresholds (toLE 8 (fracFloor t2) ++ toLE 8 (fracFloor t3) ++ toLE 8 (fracFloor t4))
  t.judgeMargin.shedTick

def execHamperTick (rails : List Nat) (s : State) : Res := .next (hamperTick rails s)

/-- Write back and drop what a core's caches hold. -/
def State.emptyCore (s : State) (core : Nat) : State :=
  let mine := s.mem.caches.filter fun x => x.1 / 2 ^ 32 == core
  let t := mine.foldl (fun (u : State) x => match x.2 with
    | some l => ((u.flushLine (x.1 % 2 ^ 32) l).setCacheLine core (x.1 % 2 ^ 32) none).dropHolder core (x.1 % 2 ^ 32)
    | none => u) s
  { t with mem := { t.mem with kinst := tabDel t.mem.kinst core } }

/-- SHED_CORE_GATE: 5 ms after level 2, every core whose kinst Valid is still 1 is power-gated (R574, R645). -/
def shedCoreGate (s : State) : State :=
  match s.energy.gateAt with
  | some g =>
    if s.gtc < g + 5000000 then s
    else
      let t := (numbersFrom 0 16).foldl (fun (u : State) c =>
        if (u.kinstOf c).isSome then
          let u := u.emptyCore c
          u.setEnergy { u.energy with gated := tabSet false u.energy.gated c true }
        else u) s
      t.setEnergy { t.energy with gateAt := none }
  | none => s

def execShedCoreGate (s : State) : Res := .next (shedCoreGate s)

/-- A write of 1 or 0 to PowerFail (MB_0 register 0x05): the notice is set or cleared (R643, R652). -/
def powerFail (v : Nat) (s : State) : State :=
  if v = 1 then (s.setHamper 0xD81 23 true).declareLoss
  else if v = 0 ∧ s.hamper 23 then
    let t := s.setHamper 0xD81 23 false
    if t.num Od.bootState = 3 ∧ t.shedLevel ≠ 4 then t.setEnergy { t.energy with wake := some 9 } else t
  else s

def execPowerFail (value : Nat) (s : State) : Res := .next (powerFail value s)

/-! ### Calibration of the sense input (R642) -/

def holdupCalibrate (who : Caller) (kind : Nat) (s : State) : Act := do
  s.gateRange who Od.holdupCalibrate false 0 (.num kind)
  need s.energy.cal.isNone .inProgress
  need (s.shedLevel == 0) .shedLevel
  .ok (((s.setEnergy { s.energy with cal := some ⟨kind, [], false⟩ }).setNum Od.holdupCalStatus (2 ^ 24)).setNum Od.hamperStatus
    (setField (s.num Od.hamperStatus) 15 1 1))

def execHoldupCalibrateZero (who : Caller) (s : State) : Res := .next (s.answer who (holdupCalibrate who 1 s))
def execHoldupCalibrateSpan (who : Caller) (s : State) : Res := .next (s.answer who (holdupCalibrate who 2 s))

/-- HOLDUP_CALIBRATION_DONE: after 4,096 conversions the result is applied, or refused with its reason. -/
def holdupCalibrationDone (s : State) : State :=
  match s.energy.cal with
  | some c =>
    if c.codes.length < 4096 then s
    else
      let t := (s.setEnergy { s.energy with cal := none }).setNum Od.hamperStatus (setField (s.num Od.hamperStatus) 15 1 0)
      let e := fdiv (widen (s.num Od.holdupCalReference)) (widen (s.num Od.holdupDivider))
      match calOutcome c.kind c.flagged (c.codes.reverse.map s.holdupPin) (widen (s.num Od.holdupCalNoiseMax)) e
          (widen (s.num Od.userHoldupGain)) (widen (s.num Od.userHoldupOffset)) (ratio 1 50) (ratio 3 10) (ratio 5 4) with
      | .ok (g, o) =>
        let t := (((t.setNum Od.userHoldupGain (narrow g)).bumpVersion Od.userHoldupGain 0).setNum
          Od.userHoldupOffset (narrow o)).bumpVersion Od.userHoldupOffset 0
        (t.setNum Od.holdupCalStatus (2 * 2 ^ 24)).raiseDone 0xD83 0x80 0 Od.holdupCalibrate 0
      | .error r =>
        (t.setNum Od.holdupCalStatus (3 * 2 ^ 24 + r * 2 ^ 16 + Code.precondition.value)).raiseDone 0xD83 0x80 0
          Od.holdupCalibrate Code.precondition.value
  | none => s

def execHoldupCalibrationDone (s : State) : Res := .next (holdupCalibrationDone s)

/-! ### Sleep (R650 to R652) -/

/-- ModuleSleep 1. -/
def moduleSleepEnter (who : Caller) (s : State) : Act := do
  s.gateRange who Od.moduleSleep false 0 (.num 1)
  need (!(s.inst.present.any s.instRunning)
    && !((numbersFrom 0 256).any fun n => s.pnum Od.portProtection n == 1 && s.portUp n)) .busy
  .ok s.flushRecorder.fastDiesOff

def execModuleSleepEnter (who : Caller) (s : State) : Res := .next (s.answer who (moduleSleepEnter who s))

/-- A wake leaves shore-only unless the supply is lost. -/
def State.wantWake (s : State) : State :=
  if s.num Od.bootState = 3 ∧ !s.supplyLost then s.setEnergy { s.energy with wake := some 9 } else s

/-- ModuleSleep 2: the one write that shore-only takes. -/
def moduleSleepLeave (who : Caller) (s : State) : Act := do
  let r ← s.checkAddress Od.moduleSleep false 0
  s.checkWriter who r Od.moduleSleep 0
  .ok s.wantWake

def execModuleSleepLeave (who : Caller) (s : State) : Res := .next (s.answer who (moduleSleepLeave who s))

/-- WAKE: a write of 1 to MB_0 register 0x06. -/
def wake (v : Nat) (s : State) : State := if v = 1 then s.wantWake else s

def execWake (value : Nat) (s : State) : Res := .next (wake value s)

/-- A scan that keeps link groups and HBM stacks awake is under way (R651). -/
def State.scansNow (s : State) : Bool := s.inst.present.any fun i => (s.scanOf i).phase != 0

/-- UNIT_SLEEP_ENTRY: a unit's idle time has run out. -/
def unitSleepEntry (u : SleepUnit) (n : Nat) (s : State) : State :=
  match u with
  | .pipeline | .l3Bank => s.setAsleep u (n % 2 ^ 16) true
  | .hbmStack | .linkGroup => if s.scansNow then s else s.setAsleep u (n % 2 ^ 16) true

def execUnitSleepEntry (unit : SleepUnit) (n : Nat) (s : State) : Res := .next (unitSleepEntry unit n s)

/-- PRE_FREEZE_WAKE: at least 2 µs before the freeze, the link groups of the instance's C-die and the HBM stacks are
awake. -/
def preFreezeWake (i : Nat) (s : State) : State :=
  if !s.instRunning i then s
  else
    let die := if s.instDie i = .c0 then 0 else 1
    let t := [die, 2, 3 + die].foldl (fun (u : State) g => u.setAsleep .linkGroup g false) s
    (numbersFrom 0 4).foldl (fun (u : State) k => u.setAsleep .hbmStack k false) t

def execPreFreezeWake (inst : Fin 256) (s : State) : Res := .next (preFreezeWake inst.val s)

/-! ### Heat (R653, R654) -/

/-- The highest reading. -/
def State.junction (s : State) : Int :=
  ((numbersFrom 1 7).map fun k => toInt 32 (s.num (Od.dieTemperature + k))).foldl max (toInt 32 (s.num Od.dieTemperature))

/-- Host core frequency in MHz: the lower of the two policies' (R653). -/
def State.hostFrequency (s : State) : Nat := min s.energy.heatFrequency s.energy.ledgerFrequency

def State.setThermal (s : State) (st : Nat) : State :=
  let h := s.num Od.hamperStatus
  let old := field h 16 3
  let t := (s.setNum Od.hamperStatus (setField h 16 3 st)).raiseState 0xD85 0x80 0 old st 0 0
  let e := t.energy
  t.setEnergy { e with
    coolSince := none
    heatFrequency := if st = 0 then 2000 else e.heatFrequency
    declined := if st < 2 then [] else e.declined
    throttleAt := if old = 0 then t.gtc else e.throttleAt
    downshiftAt := if old < 2 then t.gtc else e.downshiftAt }

/-- The state that the temperature asks for (Table 18-7). -/
def State.thermalWanted (s : State) (tj : Int) : Nat :=
  if 150000 < tj then 3
  else if toInt 32 (s.num Od.downshiftTemp) ≤ tj ∧ s.hostFrequency ≤ s.num Od.hostMinFrequency then 2
  else if toInt 32 (s.num Od.throttleTemp) ≤ tj then 1 else 0

/-- The temperature below which a state is left. -/
def State.coolBelow (s : State) (st : Nat) : Int :=
  (match st with
   | 1 => toInt 32 (s.num Od.throttleTemp)
   | 2 => toInt 32 (s.num Od.downshiftTemp)
   | _ => 150000) - toInt 32 (s.num Od.thermalHysteresis)

/-- The thermal state after a reading. -/
def State.judgeHeat (s : State) : State :=
  let tj := s.junction
  let st := s.thermalState
  let want := s.thermalWanted tj
  if st = 4 then s
  else if st < want then s.setThermal want
  else if st = 0 then s
  else if tj < s.coolBelow st then
    (match s.energy.coolSince with
     | none => s.setEnergy { s.energy with coolSince := some s.gtc }
     | some g => if g + 10000000 ≤ s.gtc then s.setThermal (st - 1) else s)
  else s.setEnergy { s.energy with coolSince := none }

/-- THERMAL_SAMPLE. -/
def thermalSample (temps : List Int) (s : State) : State :=
  let t := (numbersFrom 0 8).foldl (fun (u : State) k => match temps[k]? with
    | some v => u.setNum (Od.dieTemperature + k) (ofInt 32 v)
    | none => u) s
  let t := if toInt 32 (t.num Od.tjMax) < t.junction then t.setNum Od.tjMax (ofInt 32 t.junction) else t
  let t := t.judgeHeat
  if t.thermalState = 3 ∧ t.energy.outOfSpecAt ≤ t.gtc then
    (t.setEnergy { t.energy with outOfSpecAt := t.gtc + 1000000000 }).raiseOcc 0xD85 0x80 0 2 0
  else t

def execThermalSample (temps : List Int) (s : State) : Res := .next (thermalSample temps s)

/-- THROTTLE_STEP: each millisecond, 200 MHz less, down to HostMinFrequency. -/
def throttleStep (s : State) : State :=
  let e := s.energy
  if s.gtc < e.throttleAt + 1000000 then s
  else
    let step (f : Nat) : Nat := max (s.num Od.hostMinFrequency) (f - 200)
    s.setEnergy { e with
      throttleAt := s.gtc
      heatFrequency := if 1 ≤ s.thermalState then step e.heatFrequency else e.heatFrequency
      ledgerFrequency := if s.hamper 20 then step e.ledgerFrequency else e.ledgerFrequency }

def execThrottleStep (s : State) : Res := .next (throttleStep s)

/-- THERMAL_DOWNSHIFT_STEP: every 10 ms one more port at 100 Gbit/s is asked to shift down; a port is asked once while the
state lasts. -/
def thermalDownshift (s : State) : State :=
  let st := s.thermalState
  if (st ≠ 2 ∧ st ≠ 3) ∨ s.gtc < s.energy.downshiftAt + 10000000 then s
  else
    let t := s.setEnergy { s.energy with downshiftAt := s.gtc }
    match (numbersFrom 0 256).find? fun n => t.mayAsk n && t.pnum Od.portRate n == 1 && !tabGet false t.energy.declined n with
    | none => t
    | some n => downshiftRequest n true (t.setEnergy { t.energy with declined := tabSet false t.energy.declined n true })

def execThermalDownshiftStep (s : State) : Res := .next (thermalDownshift s)

/-- THERMAL_TRIP: THERMTRIP_N is asserted, and shed level 3 is entered at once, with the actions of the levels below it. -/
def thermalTrip (s : State) : State :=
  if s.junction < 155000 ∨ s.energy.tripAt.isSome then s
  else
    let t := s.setThermal 4
    let t := t.setEnergy { t.energy with tripAt := some t.gtc }
    let t := (t.setNum Od.hamperStatus (setField (t.num Od.hamperStatus) 19 1 1)).raiseOcc 0xD86 0x80 0 1 0
    ((numbersFrom (s.shedLevel + 1) (3 - s.shedLevel)).foldl (fun (u : State) l => u.enterShed l 2) t)

def execThermalTrip (s : State) : Res := .next (thermalTrip s)

/-- THERMAL_TRIP_SHORE: 20 ms after the trip, shed level 4. -/
def thermalTripShore (s : State) : State :=
  match s.energy.tripAt with
  | some g => if s.shedLevel = 3 ∧ g + 20000000 ≤ s.gtc then s.enterShed 4 2 else s
  | none => s

def execThermalTripShore (s : State) : Res := .next (thermalTripShore s)

end Sys2Proof.Machine
end

