-- ==== Sys2Proof/Machine/Board.lean ====
section
/-! DEFINITION. Board interfaces: reference clock, PCIe and management MAC, boot flash and management buses (Chapter 20). -/

namespace Sys2Proof.Machine

def State.setBoard (s : State) (x : BoardSt) : State := { s with board := x }

/-! ### Links (R693 to R697) -/

/-- Set MgmtLinkState, with its event. -/
def State.setMgmtLink (s : State) (st : Nat) : State :=
  let old := s.num Od.mgmtLinkState
  if old = st then s else (s.setNum Od.mgmtLinkState st).raiseState 0xE04 0x80 0 old st 0 0

/-- MGMT_LINK_CHANGE: the link comes up only with SREF. -/
def mgmtLinkChange (st : Nat) (s : State) : State :=
  if st ≠ 0 ∧ s.num Od.srefState = 0 then s else s.setMgmtLink st

def execMgmtLinkChange (state : Fin 4) (s : State) : Res := .next (mgmtLinkChange state.val s)

/-- Set width and rate of PcieLinkState, with its event. -/
def State.setPcie (s : State) (width rate : Nat) : State :=
  let old := s.num Od.pcieLinkState
  let new := setField (setField old 8 8 width) 0 8 rate
  if old = new then s else (s.setNum Od.pcieLinkState new).raiseState 0xE00 0x80 0 (field old 0 8) rate 0 new

/-- PCIE_LINK_CHANGE: the link trains to a width and rate, or is down (R695). -/
def pcieLinkChange (width rate : Nat) (s : State) : State :=
  let valid := [1, 2, 4, 8, 16].contains width && decide (1 ≤ rate) && decide (rate ≤ 5)
  let may := s.num Od.srefState != 0 && !(s.num Od.pcieLinkState).testBit 16
  if valid && may then s.setPcie width rate else if valid then s else s.setPcie 0 0

def execPcieLinkChange (width rate : Nat) (s : State) : Res := .next (pcieLinkChange width rate s)

/-- SREF_CHECK (R693): whether an edge arrived within 10 µs, and the deviation in ppm. -/
def srefCheck (edges : Bool) (ppm : Int) (s : State) : State :=
  let st := if !edges then 0 else if 100 < ppm.natAbs then 2 else 1
  let old := s.num Od.srefState
  if st = old then s
  else
    let t := (s.setNum Od.srefState st).raiseState 0xE04 0x80 0 old st 0 0
    if st = 0 then (((numbersFrom 0 32).foldl (fun (u : State) k => octetPllLockLoss k u) t).setMgmtLink 0).setPcie 0 0 else t

def execSrefCheck (edges : Bool) (ppm : Int) (s : State) : Res := .next (srefCheck edges ppm s)

/-- PE_PERST_N (R696): asserted, it acts as a Function Level Reset of the physical function, resets the configuration space
and takes the link down. -/
def pePerst (asserted : Bool) (s : State) : State :=
  let old := s.num Od.pcieLinkState
  if old.testBit 16 = asserted then s
  else
    let w := setField old 16 1 (if asserted then 1 else 0)
    let t := (s.setNum Od.pcieLinkState w).raiseFlag 0xE00 0x80 0 asserted 16 w
    if asserted then
      let t := (functionLevelReset 0 t).setPcie 0 0
      { t with
        inst := { t.inst with numVfs := 0 }
        ev := { t.ev with msixMasked := [], msixPending := [] } }
    else t

def execPePerstN (asserted : Bool) (s : State) : Res := .next (pePerst asserted s)

/-! ### Boot flash (R698 to R700) -/

/-- The device that does not hold the booted image. -/
def State.otherFlash (s : State) : Nat := if s.sec.booted = 0 then 1 else 0

/-- BootFlashBlock: the block is erased now and programmed when the write ends. -/
def bootFlashBlock (who : Caller) (b : Nat) (v : Bytes) (s : State) : Act := do
  let _ ← s.gate who (Od.bootFlashBlock + b) false 0 (.bytes v)
  let d := s.otherFlash
  need (s.board.flashWrite.isNone && (match s.dict.saving with
    | some (k, _) => k != d
    | none => true)) .inProgress
  need (decide (s.shedLevel < 2)) .shedLevel
  let t := (s.writeFlash d b (List.replicate 32768 0xFF)).setImageStatus d 0
  .ok (t.setBoard { t.board with flashWrite := some ⟨d, some (b, v)⟩ })

def execBootFlashBlock (who : Caller) (b : Fin 3072) (value : Bytes) (s : State) : Res :=
  .next (s.answer who (bootFlashBlock who b.val value s))

/-- LastCode of BootFlashInfo. -/
def State.setLastCode (s : State) (d c : Nat) : State :=
  let b := s.blob (Od.bootFlashInfo + d)
  s.setBlob (Od.bootFlashInfo + d) (splice (if b.isEmpty then List.replicate 16 0 else b) 8 (toLE 2 c))

/-- BOOT_FLASH_BLOCK_DONE. -/
def bootFlashBlockDone (ok : Bool) (s : State) : State :=
  match s.board.flashWrite with
  | some ⟨d, some (b, v)⟩ =>
    let c := if ok then 0 else Code.verifyFailed.value
    let t := s.setBoard { s.board with flashWrite := none }
    let t := if ok then t.writeFlash d b v else t
    (t.setLastCode d c).raiseDone 0xE07 0x80 0 (Od.bootFlashBlock + b) c
  | _ => s

def execBootFlashBlockDone (ok : Bool) (s : State) : Res := .next (bootFlashBlockDone ok s)

/-- BootFlashVerify 1. -/
def bootFlashVerify (who : Caller) (value : Nat) (s : State) : Act := do
  s.gateRange who Od.bootFlashVerify false 0 (.num value)
  need s.board.flashVerify.isNone .inProgress
  .ok (s.setBoard { s.board with flashVerify := some ⟨s.otherFlash, none⟩ })

def execBootFlashVerify (who : Caller) (value : Nat) (s : State) : Res :=
  .next (s.answer who (bootFlashVerify who value s))

/-- BOOT_FLASH_VERIFY_DONE: the checks of Table 17-4 give the image's Status. -/
def bootFlashVerifyDone (s : State) : State :=
  match s.board.flashVerify with
  | some j =>
    let t := (s.setBoard { s.board with flashVerify := none }).setImageStatus j.device (s.imageCheck j.device)
    (t.setLastCode j.device 0).raiseDone 0xE07 0x80 0 Od.bootFlashVerify 0
  | none => s

def execBootFlashVerifyDone (s : State) : Res := .next (bootFlashVerifyDone s)

/-- BootFlashInfo as it reads (Table 20-12). -/
def State.bootFlashInfoRead (s : State) (d : Nat) : Bytes :=
  let last := leAt (s.blob (Od.bootFlashInfo + d)) 8 2
  let on (j : Option FlashJob) : Bool := match j with
    | some x => x.device == d
    | none => false
  let st := if on s.board.flashWrite then 1 else if on s.board.flashVerify then 2 else if last ≠ 0 then 3 else 0
  slice (Config.factoryBytes (Od.bootFlashInfo + d)) 0 6 ++ toLE 1 st ++ [0] ++ toLE 2 last ++ List.replicate 6 0

/-! ### MB_0 as a target (R702) -/

def octetOf (b : Bytes) (i : Nat) : Nat := byteAt b i

/-- Register `p` of Table 20-9. -/
def State.mb0Register (s : State) (p : Nat) : Nat :=
  let h := s.num Od.hamperStatus
  if p < 2 then octetOf [0x72, 0x56] p
  else if p = 2 then 0xB0
  else if p = 3 then s.num Od.bootState
  else if p = 4 then field h 25 3 * 32 + field h 24 1 * 16 + field h 19 1 * 8 + field h 16 3
  else if p = 5 then field h 23 1
  else if p < 8 then 0
  else if p < 10 then octetOf (toBE 2 (ofInt 16 (s.junction / 1000))) (p - 8)
  else if p < 12 then octetOf (toBE 2 (satAt 65535 (s.num Od.measuredPower / 100))) (p - 10)
  else if p < 14 then octetOf (toBE 2 (satAt 65535 (f32Units (s.num Od.holdupVoltage) * 100 / f32One))) (p - 12)
  else if 0x10 ≤ p ∧ p < 0x20 then octetOf s.claimCode (p - 0x10)
  else if 0x20 ≤ p ∧ p < 0x28 then octetOf (toBE 8 (s.num Od.serialNumber)) (p - 0x20)
  else 0

/-- One octet written to register `p`; writes to other registers are ignored. -/
def State.mb0Write (s : State) (p : Nat) (v : Nat) : State := if p = 5 then powerFail v s else if p = 6 then wake v s else s

/-- The management buses run from milestone 1 on (R701). -/
def State.busesRun (s : State) : Bool := s.start.held.isNone && (s.start.flow != 1 || decide (1 ≤ s.start.milestone))

/-- MB0_TARGET_WRITE: data from a pointer on, which increments and wraps. -/
def mb0TargetWrite (p : Nat) (data : Bytes) (s : State) : State :=
  if !s.busesRun then s
  else
    let r := data.foldl (fun (x : State × Nat) o => (x.1.mb0Write x.2 o.toNat, (x.2 + 1) % 256)) (s, p)
    r.1.setBoard { r.1.board with pointer0 := r.2 }

def execMb0TargetWrite (pointer : Fin 256) (data : Bytes) (s : State) : Res := .next (mb0TargetWrite pointer.val data s)

/-- MB1_RECORD_RECEIVE: the peer's record at pointer 0x40, with the GTC of its receipt (R704). -/
def mb1RecordReceive (p : Nat) (data : Bytes) (s : State) : State :=
  if !s.busesRun then s
  else
    let t := s.setBoard { s.board with pointer1 := (p + data.length) % 256 }
    if p = 0x40 ∧ 8 ≤ data.length then t.setBlob Od.mb1PeerRecord (data.take 8 ++ toLE 8 t.gtc) else t

def execMb1RecordReceive (pointer : Fin 256) (data : Bytes) (s : State) : Res :=
  .next (mb1RecordReceive pointer.val data s)

/-! ### The module as a controller (R703 to R707) -/

def State.busWaiting (s : State) (bus : Nat) : List MbMsg := if bus = 0 then s.board.waiting0 else s.board.waiting1

def State.setBusWaiting (s : State) (bus : Nat) (l : List MbMsg) : State :=
  s.setBoard (if bus = 0 then { s.board with waiting0 := l } else { s.board with waiting1 := l })

def State.setBusLost (s : State) (bus : Nat) (v : Bool) : State :=
  s.setBoard (if bus = 0 then { s.board with lost0 := v } else { s.board with lost1 := v })

/-- One bit time of a bus in ns. -/
def State.bitTime (s : State) (bus : Nat) : Nat := if s.num (Od.mbSpeed + bus) = 1 then 1000 else 2500

/-- An attempt failed: the message waits for its back-off, or is dropped after eight attempts (R706). -/
def State.mbFail (s : State) (bus : Nat) (m : MbMsg) : State :=
  let rest := (s.busWaiting bus).filter fun x => x.addr != m.addr || x.pointer != m.pointer
  if 8 ≤ m.attempts + 1 then
    ((s.setBusWaiting bus rest).count32 (Od.mbDropped + bus)).raiseLimited (0xE05 + bus) 0xA001 0x80 0 m.addr
  else
    (s.tookFree).setBusWaiting bus (rest ++ [{ m with
      attempts := m.attempts + 1, notBefore := s.gtc + 20 * (1 + s.free % 8) * s.bitTime bus }])

/-- Attempt a message: acknowledged it is delivered, else it waits. -/
def State.mbAttempt (s : State) (bus : Nat) (m : MbMsg) (ack : Bool) : State :=
  let t := s.setBusLost bus false
  if ack then
    (t.setBusWaiting bus ((t.busWaiting bus).filter fun x => x.addr != m.addr || x.pointer != m.pointer)).emit
      (.mbWrite bus m.addr m.pointer m.data)
  else t.mbFail bus m

/-- The write to the board controller that is due: BootState or Status changed, and 10 ms have passed (R703). -/
def State.boardDue (s : State) : Option MbMsg :=
  let now := [s.mb0Register 3, s.mb0Register 4]
  let c := s.num Od.mb0BoardController
  if s.busesRun && c != 0 && s.board.boardSaid != now && (s.board.boardSaid.isEmpty || decide (s.board.boardAt + 10000000 ≤ s.gtc)) then
    some ⟨c, 0, now.map fun v => BitVec.ofNat 8 v, 0, 0⟩
  else none

def State.boardStarted (s : State) : State :=
  s.setBoard { s.board with boardAt := s.gtc, boardSaid := [s.mb0Register 3, s.mb0Register 4] }

/-- BOARD_CONTROLLER_WRITE. -/
def boardControllerWrite (ack : Bool) (s : State) : State :=
  match s.boardDue with
  | some m => s.boardStarted.mbAttempt 0 m ack
  | none => s

def execBoardControllerWrite (ack : Bool) (s : State) : Res := .next (boardControllerWrite ack s)

/-- The record of Table 20-10. -/
def State.mb1Record (s : State) : Bytes :=
  toBE 4 (s.num Od.pairId) ++ toBE 1 s.pairState ++ toBE 1 s.paddle ++ toBE 1 s.shedLevel ++ toBE 1 (boolNat s.pair.roleB)

/-- The record that is due to the rack monitor, every 1 s, or to the peer, every 100 ms (R704). -/
def State.recordDue (s : State) (monitor : Bool) : Option MbMsg :=
  let due (last : Option Nat) (p : Nat) : Bool := match last with
    | none => true
    | some g => decide (g + p ≤ s.gtc)
  if !s.busesRun then none
  else if monitor then
    (let c := s.num Od.mb1RackMonitor
     if c != 0 && due s.board.monitorAt 1000000000 then some ⟨c, 0x40, s.mb1Record, 0, 0⟩ else none)
  else if s.num Od.pairEnable == 1 && due s.board.peerAt 100000000 then
    some ⟨0x60 + (if s.pair.roleB then 0 else 1), 0x40, s.mb1Record, 0, 0⟩
  else none

def State.recordStarted (s : State) (monitor : Bool) : State :=
  s.setBoard (if monitor then { s.board with monitorAt := some s.gtc } else { s.board with peerAt := some s.gtc })

/-- MB1_RECORD_SEND. -/
def mb1RecordSend (monitor ack : Bool) (s : State) : State :=
  match s.recordDue monitor with
  | some m => (s.recordStarted monitor).mbAttempt 1 m ack
  | none => s

def execMb1RecordSend (monitor ack : Bool) (s : State) : Res := .next (mb1RecordSend monitor ack s)

/-- The message that is tried again next: its back-off has passed. -/
def State.retryDue (s : State) (bus : Nat) : Option MbMsg := (s.busWaiting bus).find? fun m => decide (m.notBefore ≤ s.gtc)

/-- MB_RETRY. -/
def mbRetry (bus : Nat) (ack : Bool) (s : State) : State :=
  match s.retryDue bus with
  | some m => s.mbAttempt bus m ack
  | none => s

def execMbRetry (bus : Fin 2) (ack : Bool) (s : State) : Res := .next (mbRetry bus.val ack s)

/-- ARBITRATION_LOST (R705): the attempt that is due loses; when the winner addresses the module within the address byte, it
answers as a target. -/
def arbitrationLost (bus : Nat) (monitor : Bool) (asTarget : Option (Nat × Bytes)) (s : State) : State :=
  let attempt : Option (MbMsg × State) := match s.retryDue bus with
    | some m => some (m, s)
    | none =>
      if bus = 0 then s.boardDue.map fun m => (m, s.boardStarted)
      else (s.recordDue monitor).map fun m => (m, s.recordStarted monitor)
  match attempt with
  | none => s
  | some (m, t) =>
    let t := ((t.setBusLost bus true).count32 (Od.mbArbitrationLost + bus)).mbFail bus m
    match asTarget with
    | none => t
    | some (p, data) => if bus = 0 then mb0TargetWrite (p % 256) data t else mb1RecordReceive (p % 256) data t

def execArbitrationLost (bus : Fin 2) (monitor : Bool) (asTarget : Option (Nat × Bytes)) (s : State) : Res :=
  .next (arbitrationLost bus.val monitor asTarget s)

/-- MB_BUS_RECOVERY (R707): the lines are released; with SCL high, nine clocks and a STOP follow. -/
def busRecovery (bus : Nat) (s : State) : State :=
  (s.count32 (Od.mbBusRecoveries + bus)).raiseOcc (0xE05 + bus) 0x80 0 2 0

def execMbBusRecovery (bus : Fin 2) (_sclHigh : Bool) (s : State) : Res := .next (busRecovery bus.val s)

end Sys2Proof.Machine
end

