-- ==== Sys2Proof/Machine/Receive.lean ====
section
/-! DEFINITION. A frame arrives on a port (R169 to R172, R195, R239, R240): its checks and counters, its copy to the local
receive path or to the Xosyn engine, and its way through the switch. -/

namespace Sys2Proof.Machine

/-! ### Bodies of Xosyn frames -/

/-- An address with its Assigned bit in a field of two octets. -/
def assignedAt (o : Bytes) (p : Nat) : Option Nat := if (beAt o p 2).testBit 15 then some (beAt o p 2 % 4096) else none

/-- Table 6-6. -/
def decodeLsa (o : Bytes) (p : Nat) : LsaMsg :=
  { serial := beAt o p 8, seq := beAt o (p + 8) 4, priority := beAt o (p + 12) 2, address := assignedAt o (p + 14)
    request := beAt o (p + 16) 2, offer := beAt o (p + 19) 1
    links := (numbersFrom 0 (min 64 (beAt o (p + 18) 1))).map fun i =>
      let q := p + 24 + 16 * i
      ⟨beAt o q 8, beAt o (q + 8) 2, beAt o (q + 10) 1, (beAt o (q + 11) 1).testBit 0, beAt o (q + 12) 4⟩ }

/-- Table 6-8 without its Op. -/
def decodeFlow (o : Bytes) (p : Nat) : FlowMsg :=
  { rate := beAt o (p + 4) 4, burst := beAt o (p + 8) 4
    hops := (numbersFrom 0 (min 15 (beAt o (p + 1) 1))).map fun i => beAt o (p + 12 + 2 * i) 2 % 4096
    cause := beAt o (p + 2) 1, refusedAt := beAt o (p + 3) 1 }

/-- Table 6-9. -/
def decodeTime (o : Bytes) (p : Nat) : TimeMsg :=
  { st := beAt o (p + 1) 1, clockClass := beAt o (p + 2) 1, errorLog2 := beAt o (p + 3) 1, depth := beAt o (p + 4) 1
    origin := beAt o (p + 8) 12 }

/-- Kind 0x9 of Table 6-2, also the body of a pair Status. -/
def decodeReport (o : Bytes) (p : Nat) : ReportMsg :=
  { seq := beAt o p 4, health := beAt o (p + 4) 4, share := beAt o (p + 8) 4, used := beAt o (p + 12) 4
    held := (numbersFrom 0 13).map fun i => beAt o (p + 16 + 4 * i) 4
    inUse := (numbersFrom 0 13).map fun i => beAt o (p + 68 + 4 * i) 4 }

/-- Table 9-9. -/
def decodeTrigger (o : Bytes) (p : Nat) : TriggerMsg :=
  let f := beAt o (p + 3) 1
  { unit := beAt o p 1, domain := beAt o (p + 1) 1, cause := beAt o (p + 2) 1, interpolated := f.testBit 0
    locked := f.testBit 1, record := beAt o (p + 4) 4, crossing := beAt o (p + 8) 12, age := beAt o (p + 20) 8
    st := beAt o (p + 28) 1, errorLog2 := beAt o (p + 29) 1 }

/-- Table 12-3. -/
def decodeBeat (o : Bytes) (p : Nat) : BeatMsg :=
  let h := beAt o (p + 14) 2
  { time := beAt o p 12, paddle := beAt o (p + 12) 1, shed := beAt o (p + 13) 1, eligible := h.testBit 0
    faultEligible := h.testBit 1, suspect := h.testBit 2, releaseCause := h.testBit 3, selfTestFail := h.testBit 4
    revertSuspended := h.testBit 5, expires := beAt o (p + 16) 12 }

/-- Table 12-4. -/
def decodeDigest (o : Bytes) (p : Nat) : DigestRec :=
  let f := beAt o (p + 2) 2
  { inst := beAt o p 2 % 256, faulted := f.testBit 0, localReading := f.testBit 1, ferryPending := f.testBit 2
    joining := f.testBit 3, tag := beAt o (p + 4) 4, scan := beAt o (p + 8) 8, image := beAt o (p + 16) 8
    output := beAt o (p + 24) 8 }

/-- Op 13 of Table 12-2. -/
def decodeResync (o : Bytes) (p : Nat) : ResyncMsg :=
  let seg := beAt o (p + 2) 2
  let n := if seg = 0 then beAt o (p + 32) 2 else 0
  let d := if seg = 0 then p + 40 + 32 * n else p + 24
  { inst := beAt o p 2, segment := seg, segments := beAt o (p + 4) 2, scan := beAt o (p + 8) 8, offset := beAt o (p + 16) 4
    timerClock := if seg = 0 then beAt o (p + 24) 8 else 0
    entries := (numbersFrom 0 n).map fun i => slice o (p + 40 + 32 * i) 32
    data := slice o d (beAt o (p + 20) 2) }

/-! ### The Xosyn engine (R240) -/

/-- LinkControl (Table 6-5); whether the receiver aligns after a marker is open. -/
def State.takeLinkControl (s : State) (n : Nat) (h : XosynHead) (o : Bytes) : State :=
  match beAt o 30 1 with
  | 1 => shiftRequest n h.flow (beAt o 31 1) h.source (beAt o 34 4) s
  | 2 => shiftAccept n h.flow s
  | 3 => shiftDecline n h.flow (beAt o 32 1) s
  | 4 => shiftMarker n h.flow (s.free % 2 == 1) s.tookFree
  | _ => s

/-- Kind 0xB (Table 12-2): the body follows a header of 4 octets. -/
def State.takePairFrame (s : State) (n : Nat) (h : XosynHead) (o : Bytes) : State :=
  let p := 34
  let q := h.sequence
  let i := beAt o p 2 % 256
  match beAt o 30 1 with
  | 1 => pairHello n q (beAt o p 8) (beAt o (p + 8) 4) (beAt o (p + 12) 1) (beAt o (p + 13) 1) (beAt o (p + 14) 1) s
  | 2 => beatReceive n q (decodeBeat o p) s
  | 3 => digest n q ((numbersFrom 0 (min 40 (beAt o 32 2))).map fun k => decodeDigest o (p + 32 * k)) s
  | 4 => statusReceive n q (decodeReport o p) s
  | 5 => offerCmd n q (beAt o p 12) (beAt o (p + 12) 1) s
  | 6 => accept n q (beAt o p 12) (beAt o (p + 12) 1) s
  | 7 => refuse n q (beAt o p 12) (beAt o (p + 12) 1) s
  | 8 => release n q (beAt o p 12) (beAt o (p + 12) 1) s
  | 9 => takeRequest n q (beAt o p 12) (beAt o (p + 12) 1) s
  | 10 => ferryPropose n q i (beAt o (p + 4) 8) (beAt o (p + 12) 8) s
  | 11 => ferryAccept n q i (beAt o (p + 4) 8) (beAt o (p + 12) 8) s
  | 12 => ferryCancelMessage n q i (beAt o (p + 4) 8) (beAt o (p + 12) 8) s
  | 13 => resyncData n q (decodeResync o p) s
  | 14 => startPropose n q i (beAt o (p + 2) 1) (beAt o (p + 4) 8) (beAt o (p + 12) 8) s
  | 15 => startAccept n q i (beAt o (p + 2) 1) (beAt o (p + 4) 8) (beAt o (p + 12) 8) s
  | _ => s

/-- FlowSetup by its Op (Table 6-8). -/
def State.takeFlowSetup (s : State) (n : Nat) (h : XosynHead) (o : Bytes) : State :=
  let m := decodeFlow o 30
  match beAt o 30 1 with
  | 1 => flowSetup n h m s
  | 2 => flowAck n h m s
  | 3 => flowRefuse n h m s
  | 4 => flowRelease n h m s
  | _ => s

/-- A broadcast kind that the engine takes after forwarding: AddressAssign, Time and PondReport. -/
def State.takeBroadcast (s : State) (n kind : Nat) (head : XosynHead) (o : Bytes) : State :=
  if ¬ (s.xosynUp n ∧ s.twoWay n) then s
  else
    let h := s.arrivedHead n head
    let len := if kind = 5 then 16 else if kind = 8 then 20 else 120
    let (t, here) := s.forwardXosyn n kind h (slice o 30 len)
    if ¬ here then t
    else if kind = 5 then addressAssign (beAt o 30 8) (assignedAt o 38) (beAt o 40 1) t
    else if kind = 8 then
      (if beAt o 30 1 < 8 then timeMessage h.source (beAt o 30 1) (decodeTime o 30) h.pathDelay h.delayValid t else t)
    else pondReport h.source (decodeReport o 30) t

/-- A Xosyn frame with a good FCS on a port of PortKind 1, by its kind (Table 6-2). A Foreign neighbour is heard by its
Hello alone (R241). -/
def State.takeXosyn (s : State) (n : Nat) (o : Bytes) : State :=
  let h := decodeXosyn o
  let kind := xosynKind o
  let payload := (o.take (o.length - 4)).drop 30
  if kind = 0 then xosynHello n (beAt o 30 8) (beAt o 38 4) (assignedAt o 42) ((beAt o 45 1).testBit 0) s
  else if s.pnum Od.neighbourState n = 3 then s
  else match kind with
    | 1 => s.takeLinkControl n h o
    | 2 => delayReq n h.sequence s
    | 3 => delayResp n (beAt o 38 4) (beAt o 42 4) s
    | 4 => lsa n h (decodeLsa o 30) s
    | 6 => s.takeFlowSetup n h o
    | 7 => flowData n h payload s
    | 0xA => trigger n h (decodeTrigger o 30) s
    | 0xB => s.takePairFrame n h o
    | 0xC => datagram n h payload s
    | k => s.takeBroadcast n k h o

/-! ### The local receive path (R169, Table 4-4) -/

/-- The enabled filter entries of port `n` with the frame's destination. -/
def State.filterHits (s : State) (n dst : Nat) : List Nat :=
  ((numbersFrom 0 16).map fun k => s.num (Od.filterEntry + 256 * n + k)).filter fun w => w.testBit 48 && w % 2 ^ 48 == dst

/-- Tests 2 to 5 of R169. -/
def State.localWanted (s : State) (n : Nat) (f : Frame) : Bool :=
  let c := s.pnum Od.filterControl n
  !(s.filterHits n f.dst).isEmpty || (f.dst == broadcastAddress && c.testBit 2) || (isGroup f.dst && c.testBit 1) || c.testBit 0

/-- The frame is a PTP message of an enabled instance on one of its ports. -/
def State.ptpFrame (s : State) (n : Nat) (f : Frame) : Bool := f.etype == 0x88F7 && (numbersFrom 0 8).any fun d => s.ptpOn d n

/-- RxSizeBin by the frame's length. -/
def sizeBin (len : Nat) : Nat :=
  if len ≤ 64 then 0 else if len ≤ 127 then 1 else if len ≤ 255 then 2 else if len ≤ 511 then 3 else if len ≤ 1023 then 4
  else if len ≤ 1518 then 5 else 6

/-- A frame without error is counted by size and destination. -/
def State.countGood (s : State) (n : Nat) (o : Bytes) (f : Frame) : State :=
  (((s.portCount Od.rxFrames n).countCast Od.rxUnicast n f.dst).portCount (Od.rxSizeBin + sizeBin o.length) n)

/-- The switched path with the HSR ring's own forwarding. -/
def State.switched (s : State) (n : Nat) (o : Bytes) (bad : Bool) : State :=
  let fresh := match s.groupOf n with
    | some g => (s.redundancy g n o).2.2.2
    | none => true
  let t := s.switchFrame n o bad
  if bad ∨ s.pnum Od.portForwardState n ≠ 2 then t else t.hsrForward n o fresh

/-- A frame of at least 64 octets with a good FCS and no more than MaxFrameSize. -/
def State.receiveGood (s : State) (n : Nat) (o : Bytes) : State :=
  let f := parseFrame o
  let t := s.countGood n o f
  if f.etype = 0x8808 then t.portCount Od.rxMacControlDiscards n
  else if f.etype = 0x88B6 then
    if t.pnum Od.portKind n ≠ 1 then t.portCount Od.rxXosynMisplaced n
    else
      let t := t.portCount Od.rxLocalDelivered n
      if f.tagged ∨ xosynVersion o ≠ 1 ∨ 0xD ≤ xosynKind o then t.fabricDrop Od.xosynMalformed else t.takeXosyn n o
  else if t.ptpFrame n f then (t.portCount Od.rxLocalDelivered n).switched n o false
  else
    let t := if t.localWanted n f then t.localCopy n (o.take (o.length - 4)) false true else t
    if (t.filterHits n f.dst).any fun w => w.testBit 49 then t else t.switched n o false

/-- A frame longer than MaxFrameSize: the local copy is truncated, the switched path ends it (Table 4-5). -/
def State.receiveOversize (s : State) (n : Nat) (o : Bytes) : State :=
  let f := parseFrame o
  let cut := o.take (s.pnum Od.maxFrameSize n)
  let wanted := s.localWanted n f && f.etype != 0x88B6 && f.etype != 0x8808
  let t := s.portCount (if wanted then Od.rxOversizeTruncated else Od.rxOversizeDiscards) n
  let t := if wanted then t.localCopy n cut true (fcsGood o) else t
  if f.etype = 0x88B6 ∨ f.etype = 0x8808 ∨ (t.filterHits n f.dst).any (fun w => w.testBit 49) then t
  else t.switched n cut true

/-- FRAME_RECEIVE: a frame arrives on port `n`, its octets from the destination address through the FCS. -/
def frameReceive (n : Nat) (o : Bytes) (s : State) : State :=
  if ¬ s.portUp n then s
  else
    let t := (s.setAsleep .pipeline (n / 32) false).portCount Od.rxOctets n o.length
    let t := t.noteTraffic n true o.length
    if o.length < 64 then t.portCount (if fcsGood o then Od.rxUndersize else Od.rxFragments) n
    else if s.pnum Od.maxFrameSize n < o.length then t.receiveOversize n o
    else if fcsGood o then t.receiveGood n o
    else
      let t := t.portCount Od.rxFcsErrors n
      if (parseFrame o).etype = 0x88B6 ∨ (parseFrame o).etype = 0x8808 then t else t.switched n o true

def execFrameReceive (n : Fin 256) (octets : Bytes) (s : State) : Res := .next (frameReceive n.val octets s)

end Sys2Proof.Machine
end

