-- ==== Sys2Proof/Machine/Ponds.lean ====
section
/-! DEFINITION. Ponds, their items and the in-package links (Chapter 1, R24, R25, R41 to R54, R259). -/

namespace Sys2Proof.Machine

/-! ### In-package links (R24, R25) -/

/-- LINK_GROUP_DEGRADED: a link of a group of more than one fails its retraining. -/
def linkGroupDegraded (g l : Nat) (s : State) : State :=
  if groupLinks g ≤ 1 ∨ groupLinks g ≤ l ∨ tabGet false s.pond.linkDown (g * 8 + l) then s
  else
    let t := { s with pond := { s.pond with linkDown := tabSet false s.pond.linkDown (g * 8 + l) true } }
    t.raiseOcc 0xC12 0x80 0 1 g

def execLinkGroupDegraded (group : Fin 5) (link : Fin 4) (s : State) : Res := .next (linkGroupDegraded group.val link.val s)

/-- The C-die that a failed group cuts off: none for the coherence links. -/
def cutDie : Nat → Option Nat
  | 0 | 3 => some 0
  | 1 | 4 => some 1
  | _ => none

/-- A scan processor stops for a failed link: its instances fault and drive their safe outputs. No FaultCause is stated for
it. -/
def State.stopProcessor (s : State) (p : Nat) : State :=
  let t := (s.spRunning p).foldl (fun (u : State) i => (u.faultInstance i (u.free % 256)).tookFree) s
  t.enterSp p 1

/-- LINK_GROUP_FAILED: every link of a group fails. -/
def linkGroupFailed (g : Nat) (s : State) : State :=
  let t : State := (numbersFrom 0 (groupLinks g)).foldl (fun (u : State) l =>
    { u with pond := { u.pond with linkDown := tabSet false u.pond.linkDown (g * 8 + l) true } }) s
  let t := t.raiseOcc 0xC12 0x80 0 2 g
  match cutDie g with
  | some d => (numbersFrom (16 * d) 16).foldl State.stopProcessor t
  | none => t

def execLinkGroupFailed (group : Fin 5) (s : State) : Res := .next (linkGroupFailed group.val s)

/-! ### Creating and deleting (R44, R51) -/

/-- A pond of kind instance or user. -/
def State.userSpace (s : State) (p : Nat) : Bool := match s.pondAt p with
  | some r => r.kind == 1 || r.kind == 5
  | none => false

/-- The instance of a pond is in reset (R541). -/
def State.pondInReset (s : State) (p : Nat) : Bool := match s.pondInstance p with
  | some i => s.inReset i
  | none => false

def pondCreate (who : Caller) (pond v : Nat) (s : State) : Act := do
  s.gateRange who Od.pondCreateChild true pond (.num v)
  need (s.pondAt v).isNone .busy
  need (s.userSpace pond && decide (((s.pondAt pond).map (·.depth)).getD 8 < 8)) .precondition
  let t := s.forgetSelector v
  .ok { t with pond := { t.pond with
      ponds := tabSet none t.pond.ponds v (some ⟨5, pond, ((s.pondAt pond).map (·.depth)).getD 0 + 1⟩) } }

def execPondCreateChild (who : Caller) (pond : Nat) (value : Nat) (s : State) : Res :=
  .next (s.answer who (pondCreate who pond value s))

/-- The pond holds an item. -/
def State.holdsItems (s : State) (p : Nat) : Bool := s.pond.holder.any fun x => x.2 == p

def pondDelete (who : Caller) (pond v : Nat) (s : State) : Act := do
  let r ← s.gate who Od.pondDelete true pond (.num v)
  need (((s.pondAt pond).map (·.kind)) == some 5) .denied
  r.checkRange (.num v)
  need (!s.holdsItems pond && (s.pondChildren pond).isEmpty) .precondition
  let t := s.forgetSelector pond
  .ok { t with pond := { t.pond with
      ponds := tabSet none t.pond.ponds pond none, healthSeen := tabSet 3 t.pond.healthSeen pond 3 } }

def execPondDelete (who : Caller) (pond : Nat) (value : Nat) (s : State) : Res :=
  .next (s.answer who (pondDelete who pond value s))

/-! ### Moving items (R45 to R47, R50, R54, R622) -/

/-- The charge of a host core (Table 18-2). -/
def hostCoreCharge : Nat × Nat := (2200, 1)

/-- One item changes its pond: a key slot that leaves its instance is erased, a host core takes its charge with it. -/
def State.moveItem (s : State) (kind dest n : Nat) : State :=
  let from_ := s.itemInstance kind n
  let t := { s with pond := { s.pond with holder := tabSet 0xF00 s.pond.holder (itemKey kind n) dest } }
  let t := if kind = 0x09 ∧ from_.isSome ∧ from_ ≠ s.pondInstance dest then t.eraseSlot n else t
  if kind = 0x0B then t.setCharge kind n (if s.userSpace dest then hostCoreCharge else (0, 1)) else t

/-- The move crosses the bound of an instance, which is not stopped or is in reset (R45, R541). -/
def State.moveBusy (s : State) (src dest : Nat) : Bool :=
  let a := s.pondInstance src
  let b := s.pondInstance dest
  s.pondInReset src || s.pondInReset dest
    || (a != b && [a, b].any fun x => match x with
        | some i => s.instRunning i
        | none => false)

def pondMove (who : Caller) (src v : Nat) (s : State) : Act := do
  let _ ← s.gate who Od.pondMove true src (.num v)
  let dest := field v 48 12
  let kind := field v 40 8
  let count := field v 24 16
  let first := field v 0 24
  let items := numbersFrom first count
  need (s.pondAt dest).isSome .noSuchObject
  need (who.role != .tenant || s.inInstance who.inst dest) .denied
  need (decide (1 ≤ count) && decide (first + count ≤ itemCount kind)) .outOfRange
  need (field v 60 4 == 0) .reservedBitSet
  need (items.all fun n => s.holderOf kind n == src) .notOwner
  need (!s.moveBusy src dest && items.all fun n => !s.itemInUse kind n) .busy
  need (decide (src ≤ 0xF00) && decide (dest ≤ 0xF00)) .precondition
  let t : State := items.foldl (fun u n => u.moveItem kind dest n) s
  need (kind != 0x0B || !s.userSpace dest || !fracLt (t.pondShare dest, 1) (t.committed dest)) .noResource
  .ok t.watchHealth

def execPondMove (who : Caller) (pond : Nat) (value : Nat) (s : State) : Res := .next (s.answer who (pondMove who pond value s))

/-! ### Energy shares (R49, R260, R522, R638) -/

/-- The checks of a PondEnergyShare write; R104 takes the role first. -/
def State.checkShare (s : State) (who : Caller) (p v : Nat) : Except Code Unit := do
  need (!(who.role == .tenant && p == who.inst)) .denied
  need (decide (p < 0xF00)) .precondition
  let old := s.num Od.pondEnergyShare p
  let parent := ((s.pondAt p).map (·.parent)).getD 0xF00
  need (decide (old ≤ v) || !fracLt (v, 1) (s.committed p)) .noResource
  need (decide (v ≤ old) || !fracLt (s.pondShare parent, 1) (fracAdd (s.committed parent) (v - old, 1))) .noResource

def State.applyShare (s : State) (p v : Nat) : State := s.setNum Od.pondEnergyShare v p

def shareWrite (who : Caller) (p v : Nat) (s : State) : Act := do
  let _ ← s.gate who Od.pondEnergyShare true p (.num v)
  s.checkShare who p v
  .ok ((s.applyShare p v).bumpVersion Od.pondEnergyShare p)

def execPondEnergyShareWrite (who : Caller) (pond : Nat) (value : Nat) (s : State) : Res :=
  .next (s.answer who (shareWrite who pond value s))

/-- The sum of the members' module pond shares, which the pair and fabric ponds read (R260). -/
def State.memberReports (s : State) (p : Nat) : List Report :=
  if p = 0xF01 then s.pair.peerStatus.toList
  else if p = 0xF02 then s.fab.reports.filterMap (·.2)
  else []

/-- PondEnergyShare as it reads. -/
def State.shareNow (s : State) (p : Nat) : Nat :=
  if p ≤ 0xF00 then s.pondShare p else s.pondShare 0xF00 + ((s.memberReports p).map (·.share)).sum

/-- PondEnergyUsed as it reads. -/
def State.usedNow (s : State) (p : Nat) : Nat :=
  if p ≤ 0xF00 then s.pondEnergyUsed p else s.pondEnergyUsed 0xF00 + ((s.memberReports p).map (·.used)).sum

/-- PondItemsHeld and PondItemsInUse: whole-module figures of every member for the pair and fabric ponds. -/
def State.itemsNow (s : State) (inUse : Bool) (p kind : Nat) : Nat :=
  let count (q : Nat) : Nat := if inUse then s.itemsInUse q kind else s.itemsHeld q kind
  if p ≤ 0xF00 then count p
  else ((s.subtree 0xF00).map count).sum
    + ((s.memberReports p).map fun r => (if inUse then r.inUse else r.held).getD (kind - 1) 0).sum

/-! ### Reports (R259) -/

/-- POND_REPORT_SEND: a member reports every ReportInterval, and on a change of its State at most once per 10 ms. -/
def pondReportSend (s : State) : State :=
  let s := s.watchHealth
  let st := hwState s.moduleHealth
  let x := s.fab
  if s.num Od.fabricState = 2 ∧ (x.reportAt + 1000000 * s.num Od.reportInterval ≤ s.gtc
      ∨ (st ≠ x.reportState ∧ x.reportAt + 10000000 ≤ s.gtc)) then
    let t := { s with fab := { x with reportAt := s.gtc, reportState := st, reportSeq := (x.reportSeq + 1) % 2 ^ 32 } }
    t.sendBroadcast 9 0 (s.ownReport x.reportSeq)
  else s

def execPondReportSend (s : State) : Res := .next (pondReportSend s)

end Sys2Proof.Machine
end

