-- ==== Sys2Proof/Machine/Cross.lean ====
section
/-! DEFINITION. Commands whose effect runs through several chapters: bindings, channels, domains and what follows them. -/

namespace Sys2Proof.Machine

/-! ### Samples: the intake and the chain, then capture (R349) -/

def execHorizonClose (e : Fin 2048) (s : State) : Res := .next (horizonClose e.val s).captureAll

def execIntakeFrame (s : State) : Res := .next (intakeFrame s).captureAll

def execFilterOutput (c : Nat) (s : State) : Res := .next (filterOutput c s).captureAll

def execPhasorOutput (p : Fin 2048) (s : State) : Res := .next (phasorOutput p.val s).captureAll

/-! ### Bindings: the channels they feed and the units that capture them (R305, R372) -/

/-- What follows a change of the bindings. -/
def State.bindingsChanged (s : State) : State := s.reconcileFilters.stopLostUnits

/-- An act, and then what follows it. -/
def Act.andThen (a : Act) (f : State → State) : Act := match a with
  | .ok t => .ok (f t)
  | .error c => .error c

def execIntakeEnable (who : Caller) (e : Fin 2048) (value : Nat) (s : State) : Res :=
  .next (s.answer who (Act.andThen (intakeEnable who e.val value s) State.bindingsChanged))

def execStreamAdmit (who : Caller) (e : Fin 2048) (value : Bytes) (s : State) : Res :=
  .next (streamWrite who e.val value s).bindingsChanged

def execStreamWithdraw (who : Caller) (e : Fin 2048) (value : Bytes) (s : State) : Res :=
  .next (streamWrite who e.val value s).bindingsChanged

def execFilterInput (who : Caller) (c : Nat) (value : Nat) (s : State) : Res :=
  .next (s.answer who (Act.andThen (filterInput who c value s) State.stopLostUnits))

def execFilterEnable (who : Caller) (c : Nat) (value : Nat) (s : State) : Res :=
  .next (s.answer who (Act.andThen (filterEnable who c value s) State.stopLostUnits))

def execPhasorEnable (who : Caller) (p : Fin 2048) (value : Nat) (s : State) : Res :=
  .next (s.answer who (Act.andThen (phasorEnable who p.val value s) State.stopLostUnits))

def execTrackerEnable (who : Caller) (t : Fin 64) (value : Nat) (s : State) : Res :=
  .next (s.answer who (Act.andThen (trackerEnable who t.val value s) State.stopLostUnits))

def execChainEccError (corrected : Bool) (fir : Bool) (n : Nat) (s : State) : Res :=
  .next (chainEccError corrected fir n s).stopLostUnits

/-! ### Domains (R134, R142, R148, R282, R321) -/

/-- DomainEnable in force with what its streams, channels and instances do. -/
def State.enableDomain (s : State) (d value : Nat) : State :=
  let was := (s.dom d).state
  if value = 1 ∧ was = 0 then
    ((((s.applyDomainEnable d 1).thawStreams d).regridFilters d).rejoinDomain d).captureAll
  else if value = 0 ∧ was ≠ 0 then (s.freezeStreams d).applyDomainEnable d 0
  else s.applyDomainEnable d value

def domainEnable (who : Caller) (d value : Nat) (s : State) : Act := do
  s.gateRange who (Od.domainEnable + 256 * d) false 0 (.num value)
  s.checkDomainEnable d value
  .ok ((s.enableDomain d value).bumpVersion (Od.domainEnable + 256 * d) 0)

def execDomainEnable (who : Caller) (d : Fin 8) (value : Nat) (s : State) : Res :=
  .next (s.answer who (domainEnable who d.val value s))

/-- STEP_APPLY: the step, settling of the domain's channels and the boundaries of its instances. -/
def stepAll (d : Nat) (s : State) : State :=
  match (s.dom d).step with
  | none => s
  | some p =>
    let t := stepApply d s
    if (t.dom d).stepCount = (s.dom d).stepCount then t
    else
      let v := (s.dom d).valueAt p.g
      let w := (t.dom d).valueAt p.g
      (t.restartSettling d v w).scanStep d v w

def execStepApply (d : Fin 8) (s : State) : Res := .next (stepAll d.val s)

/-- SHORE_REF_LOST: the domains enter RefFault and their armed generators are Held. -/
def refLost (s : State) : State :=
  if s.time.backup then s else (numbersFrom 0 8).foldl State.holdGens (shoreRefLost s)

def execShoreRefLost (s : State) : Res := .next (refLost s)

end Sys2Proof.Machine
end

