-- ==== Sys2Proof/Machine/Read.lean ====
section
/-! DEFINITION. What a read of an object returns: values that the blocks compute when they are read, and the values that
the dictionary holds (R69, R80). -/

namespace Sys2Proof.Machine

/-- The lane's state (LaneState): that of the port whose lane it is. -/
def State.laneStateOf (s : State) (l : Nat) : Nat :=
  let n := s.laneOwner l
  if !(s.portEnabled n && (portLanes n (s.pnum Od.portMode n)).contains l) then 0
  else match s.portState n with
    | 2 => 1
    | 3 => 2
    | 4 => if (s.portAt n).lpi then 4 else 3
    | 5 => 3
    | 6 => 3
    | 8 => 5
    | _ => 0

/-- HcState of a core: Off until the fast dies run, PowerGated, Throttled below 2,000 MHz, or Running. -/
def State.coreState (s : State) (c : Nat) : Nat :=
  if s.start.milestone < 4 then 0
  else if tabGet false s.energy.gated c || (c != 0 && (s.kinstOf c).isNone) then 1
  else if s.hostFrequency < 2000 then 3 else 2

/-- FilterStatus of a channel (Table 8-11, R314). -/
def State.filterStatusOf (s : State) (c : Nat) : Bytes :=
  let b := s.filterConfig c
  let fs := match s.filterRates c with
    | some (_, f, _) => f
    | none => match s.feedOf (s.inputKey c) with
      | some (_, f, _) => f
      | none => 0
  let taps := s.taps b
  let r := fcR b
  let delay : Int := (fcAlign b : Int) + 512 * fcN b * (r - 1 : Nat) + 512 * r * (fcL b - 1 : Nat)
    + (if fcFir b = 0xFF then 0 else r * firDelay (s.firSet (fcFir b)) : Nat)
  let (losses, overflows) := match s.filter c with
    | some x => (x.losses, x.overflows)
    | none => (0, 0)
  toLE 1 (s.filterState c) ++ [0]
    ++ (if fs = 0 ∨ r * fcQ b = 0 then List.replicate 18 0
        else toLE 2 (delta b fs) ++ toLE 4 (settleSpan b fs taps) ++ toLE 8 (ofInt 64 (roundDiv (delay * 64000000000) fs))
          ++ toLE 4 (fs / (r * fcQ b)))
    ++ toLE 4 (sat32 losses) ++ toLE 4 (sat32 overflows) ++ List.replicate 4 0

/-- FilterLatest of a channel (Table 8-4). -/
def State.filterLatestOf (s : State) (c : Nat) : Bytes :=
  let e := match s.filter c with
    | some x => x.ents.headD ⟨0, 0, 0, 0, 0, 0, 0, 0⟩
    | none => ⟨0, 0, 0, 0, 0, 0, 0, 0⟩
  let words := toLE 4 e.rms ++ toLE 4 e.envelope ++ toLE 4 e.peakMax ++ toLE 4 e.peakMin
  if isWave c then toLE 4 (ofInt 32 e.raw) ++ toLE 4 e.quality ++ words
  else toLE 8 (ofInt 64 e.raw) ++ toLE 4 e.value ++ toLE 4 e.quality ++ words

/-- PhasorLatest and TrackerLatest (Table 8-4). -/
def State.phasorLatestOf (s : State) (p : Nat) : Bytes :=
  match s.chainEnts 19 p with
  | e :: _ => e.2.1 ++ toLE 4 e.2.2.1 ++ e.2.2.2
  | [] => List.replicate 24 0

def State.trackerLatestOf (s : State) (t : Nat) : Bytes :=
  match s.chainEnts 20 t with
  | e :: _ => e.2.1 ++ toLE 4 e.2.2.1 ++ e.2.2.2
  | [] => List.replicate 16 0

/-- FirSetStatus: empty, valid, in use or corrupt. -/
def State.firStatus (s : State) (k : Nat) : Nat :=
  if s.chain.corrupt.contains k then 3 else if firTaps (s.firSet k) = 0 then 0 else if s.firNamed k then 2 else 1

/-- VfState of virtual function `n`. -/
def State.vfStateOf (s : State) (n : Nat) : Nat :=
  if tabGet false s.inst.flr n then 3 else if s.inst.numVfs < n then 0
  else if s.num (Od.vfInstance + (n - 1)) = 0xFFFF then 1 else 2

/-- The 64 octets of a record, with its CRC-32C or, where the check fails, another one (Table 16-8, R596). -/
def Rec.octets (x : Rec) (other : Nat) : Bytes :=
  let (sec, ns, fr) := x.time
  let body := toLE 8 x.gtc ++ toLE 4 x.lastDelta ++ toLE 4 ns ++ toLE 4 fr ++ toLE 8 sec ++ toLE 4 x.operatingSeconds
    ++ toLE 4 x.powerCycles ++ toLE 2 (sourceField x.source x.coarse x.backup x.outOfOrder) ++ toLE 2 x.code
    ++ toLE 2 x.repeatCount ++ toLE 1 x.priority ++ [0] ++ toLE 4 (x.kind * 2 ^ 24 + x.num) ++ toLE 12 x.detail
  body ++ toLE 4 (if x.crcOk then crc32c body else crc32c body + 1 + other % (2 ^ 32 - 1))

/-- RecorderRecord of slot `k`: the status word and the record (Table 16-11); a slot never written reads zeros. A record
whose check fails is counted once (R596). -/
def State.readRecord (s : State) (k : Nat) : State × Bytes :=
  let r := s.ev.recorder
  let h := r.header
  let newest := decide (0 < h.count) && k == h.newest
  let inLog := decide ((h.head + 131072 - 1 - k) % 131072 < h.count)
  match tabGet none r.slots k with
  | none => (s, toLE 4 (boolNat inLog + 4 * boolNat newest) ++ List.replicate 64 0)
  | some x =>
    let word := toLE 4 (boolNat inLog + 2 * boolNat (!x.crcOk) + 4 * boolNat newest)
    if x.crcOk then (s, word ++ x.octets 0)
    else
      let o := word ++ x.octets s.free
      let s := s.tookFree
      if x.counted then (s, o)
      else (((s.setRecorder { r with slots := tabSet none r.slots k (some { x with counted := true }) }).count32
        Od.suspectRecords).raise 0xE0A 0xF004 0x80 0 k, o)

/-- The number of implemented pairs of index and subindex (DictObjectCount). -/
def objectCount : Nat := (objectRows.map fun r => (r.index1 - r.index0 + 1) * (r.sub1 - r.sub0 + 1)).sum

/-- Values of Chapter 3 that are formed at the read. -/
def State.readTime (s : State) (d sub : Nat) : Option OVal :=
  let x := s.dom d
  match sub with
  | 0 => some (.num (s.domQuality d))
  | 1 => some (.num (s.domTime d s.gtc))
  | 2 => some (.num (ofInt 64 (x.offsets.headD 0)))
  | 3 => some (.num (ofInt 64 (match x.paramAt s.gtc with
    | some p => p.r
    | none => 0)))
  | 4 => some (.num (s.domErrorAt d s.gtc))
  | 5 => some (.num (match x.holdSince with
    | some g => (s.gtc - g) / 1000000000
    | none => 0))
  | 6 => some (.num (x.stepCount % 2 ^ 32))
  | 7 => some (.num (match x.step with
    | some p => p.g
    | none => 0))
  | 8 => some (.num (ofInt 64 x.pairOffset))
  | _ => none

/-- Values of Chapters 1 and 14 that are formed at the read. -/
def State.readPond (s : State) (id sel : Nat) : Option OVal :=
  let rec_ := (s.pondAt sel).getD ⟨0, 0, 0⟩
  if id = Od.pondKind then some (.num rec_.kind)
  else if id = Od.pondParent then some (.num rec_.parent)
  else if id = Od.pondDepth then some (.num rec_.depth)
  else if id = Od.pondHealth then some (.num (s.pondHealth sel))
  else if id = Od.pondEnergyShare then some (.num (s.shareNow sel))
  else if id = Od.pondEnergyUsed then some (.num (s.usedNow sel))
  else if id / 256 = 0xB010 then some (.num (s.itemsNow false sel (id % 256)))
  else if id / 256 = 0xB011 then some (.num (s.itemsNow true sel (id % 256)))
  else if id = Od.instancesPresent then some (.num s.inst.present.length)
  else if id / 256 = 0xB201 then some (.num (s.vfStateOf (id % 256)))
  else none

/-- The channel at a place of a channel array (0x4000 on for wavefront channels). -/
def chOf (k : Nat) : Nat := if k < 0x4000 then k else 2 ^ 16 + (k - 0x4000)

/-- The phasor updates per second of the enabled phasor channels (Table 8-9). -/
def State.phasorUpdates (s : State) : Nat :=
  (s.enabledPhasors.map fun p => match s.filterRates (pcSource (s.phasorConfig p)) with
    | some (_, _, fo) => fo
    | none => 0).sum

/-- Values of Chapters 7 to 9 that are formed at the read. -/
def State.readSignal (s : State) (id : Nat) : Option OVal :=
  let x := id / 256
  if id = 0x500000 then some (.num (s.intakeLoads s.boundStreams).1)
  else if id = 0x500001 then some (.num (s.intakeLoads s.boundStreams).2.1)
  else if id = 0x500002 then some (.num (ceilDiv (s.intakeLoads s.boundStreams).2.2 840))
  else if id = 0x500003 then some (.num s.boundStreams.length)
  else if id = 0x500004 then some (.num (s.keyedStreams s.boundStreams).length)
  else if id = 0x600000 then some (.num (s.chainLoads s.enabledFilters).1)
  else if id = 0x600001 then some (.num (s.chainLoads s.enabledFilters).2.1)
  else if id = 0x600002 then some (.num (s.chainLoads s.enabledFilters).2.2.1)
  else if id = 0x600003 then some (.num (s.chainLoads s.enabledFilters).2.2.2)
  else if id = 0x600004 then some (.num s.phasorUpdates)
  else if x = 0x6011 then some (.num (s.firStatus (id % 256)))
  else if 0x6500 ≤ x ∧ x ≤ 0x6543 then some (.bytes (s.filterStatusOf (chOf (id - 0x650000))))
  else if 0x6720 ≤ x ∧ x ≤ 0x6727 then some (.bytes (s.phasorLatestOf (id - 0x672000)))
  else if x = 0x6802 then some (.bytes (s.trackerLatestOf (id % 256)))
  else if 0x6900 ≤ x ∧ x ≤ 0x6943 then some (.bytes (s.filterLatestOf (chOf (id - 0x690000))))
  else if id = Od.acqPagesBound then some (.num s.acqPages)
  else if id = 0x700001 then some (.num s.acqLoad)
  else if 0x7400 ≤ x ∧ x ≤ 0x743F ∧ id % 256 = 0x0A then some (.num (match s.unit (x - 0x7400) with
    | some z => z.pages.length
    | none => 0))
  else if 0x7500 ≤ x ∧ x ≤ 0x753F then some (.bytes (s.recordInfoOf (x - 0x7500) (id % 256)))
  else if x = 0x7802 then some (.num (s.rippleStateOf (id % 256)))
  else none

/-- Values of Chapters 4 to 6 that are formed at the read. -/
def State.readSwitch (s : State) (id : Nat) : Option OVal :=
  let x := id / 256
  let sub := id % 256
  if 0x3100 ≤ x ∧ x ≤ 0x31FF ∧ sub = 3 then some (.num (s.utilisationNow (x - 0x3100)))
  else if 0x3500 ≤ x ∧ x ≤ 0x35FF ∧ sub = 3 then some (.num (s.laneStateOf (x - 0x3500)))
  else if 0x3600 ≤ x ∧ x ≤ 0x361F ∧ sub = 0 then some (.num (s.octetFamilyNow (x - 0x3600)))
  else if id = 0x400004 then some (.num s.sw.macs.length)
  else if id = 0x400007 then some (.num (s.cellsUsed false))
  else if id = 0x400008 then some (.num (s.cellsUsed true))
  else if id = 0x400009 then some (.num s.reserveCharged)
  else if 0x4020 ≤ x ∧ x ≤ 0x403F ∧ sub = 8 then
    some (.num (s.sw.nodes.filter fun y => y.2.isSome && y.1 / 2 ^ 48 == x - 0x4020).length)
  else if 0x4400 ≤ x ∧ x ≤ 0x44FF ∧ sub = 0x0C then some (.num (s.learnedOn (x - 0x4400)))
  else if 0x4400 ≤ x ∧ x ≤ 0x44FF ∧ sub = 0x0D then some (.num (s.rxBandwidth (x - 0x4400)))
  else if 0x4400 ≤ x ∧ x ≤ 0x44FF ∧ sub = 0x0E then some (.num (s.txBandwidth (x - 0x4400)))
  else if 0x4600 ≤ x ∧ x ≤ 0x46FF ∧ 0x20 ≤ sub ∧ sub ≤ 0x25 then
    some (.num (ofInt 64 (s.shaperBytes (x - 0x4600) (sub - 0x20))))
  else if id = 0x4C0106 then some (.num s.fab.transit.length)
  else none

/-- Values of Chapters 2, 10 to 13 and 15 to 17 that are formed at the read. -/
def State.readModule (s : State) (id sel : Nat) : Option OVal :=
  let x := id / 256
  let sub := id % 256
  if id = 0x102001 then some (.num objectCount)
  else if id = Od.balmueneSessionsOpen then some (.num s.balmueneOpen)
  else if x = 0x1100 then some (.num (s.coreState sub))
  else if x = 0x1101 then some (.num s.hostFrequency)
  else if 0x1180 ≤ x ∧ x ≤ 0x11FF then some (.num (s.pageInfo (id - 0x118000)))
  else if id = Od.bootFlashInfo ∨ id = Od.bootFlashInfo + 1 then some (.bytes (s.bootFlashInfoRead (id - Od.bootFlashInfo)))
  else if id = Od.gtcNow then some (.num s.gtc)
  else if 0x2200 ≤ x ∧ x ≤ 0x2207 then s.readTime (x - 0x2200) sub
  else if 0x2400 ≤ x ∧ x ≤ 0x241F ∧ sub = 0x0A then some (.num (s.gen (x - 0x2400)).state)
  else if 0x2400 ≤ x ∧ x ≤ 0x241F ∧ sub = 0x0B then some (.num ((s.gen (x - 0x2400)).edges % 2 ^ 48))
  else if x = 0x8002 then
    some (.num (s.spLoad ((s.spRunning sub).map fun i => (i, s.runningBudget i)) * 1000000 / 320000000))
  else if x = 0x8006 then some (.num (262144 - (s.spUsed sub).1))
  else if x = 0x8007 then some (.num (262144 - (s.spUsed sub).2))
  else if id = Od.programDigest then some (.bytes (match (s.scanOf sel).prog with
    | some p => p.digest
    | none => List.replicate 48 0))
  else if id = Od.imageBytes then some (.num (match (s.scanOf sel).prog with
    | some p => imageSize (s.layoutOf sel p)
    | none => 0))
  else if id = Od.pairHealth then some (.num s.pairHealth)
  else if id = Od.leaseExpiry then some (.num (match s.pair.expires with
    | some v => timeOfValue v
    | none => 0))
  else if id = Od.pairRole then some (.num (boolNat s.pair.roleB))
  else if id = Od.fioQueueEntries then some (.num s.queueLength)
  else if x = 0xA110 then some (.num (s.pinLevelWord sub))
  else if x = 0xA111 then some (.num (s.pinFlags sub))
  else if x = 0xA311 then some (.num (s.lsFlags sub))
  else if id = Od.recorderHead then some (.num s.ev.recorder.header.head)
  else if id = Od.recorderCount then some (.num s.ev.recorder.header.count)
  else if id = Od.operatingSeconds then some (.num (s.operatingSeconds % 2 ^ 32))
  else if id = Od.powerCycles then some (.num s.ev.recorder.powerCycles)
  else if id = Od.securityState then some (.num s.securityState)
  else if id = Od.journalEpoch then some (.num s.epoch)
  else if id = Od.imageInfo ∨ id = Od.imageInfo + 1 then some (.bytes (s.imageInfo (id - Od.imageInfo)))
  else if x = 0xD010 then some (.bytes (s.measureChain sub))
  else if x = 0xD012 then some (.num (tabGet 0 s.sec.chainCounts sub))
  else if Od.ownerBootKeyBank ≤ id ∧ id < Od.ownerBootKeyBank + 4 then
    some (.bytes (s.ownerBankRead (id - Od.ownerBootKeyBank)))
  else if x = 0xD100 then some (.bytes (s.credentialRead sub))
  else if x = 0xD200 then some (.bytes (s.keySlotInfo sub))
  else if id = Od.attestPPublicKey then some (.bytes s.sec.publicKey)
  else if id = Od.attestPStatement then some (.bytes s.sec.statement)
  else if id = 0xD40003 then some (.num s.sec.sluices)
  else none

/-- The value of an object that its block forms at the read. -/
def State.readComputed (s : State) (id sel : Nat) : Option OVal :=
  match id / 2 ^ 20 with
  | 3 => s.readSwitch id
  | 4 => s.readSwitch id
  | 5 => s.readSignal id
  | 6 => s.readSignal id
  | 7 => s.readSignal id
  | 0xB => s.readPond id sel
  | _ => s.readModule id sel

/-- The value in force of an object as a read returns it. -/
def State.valueNow (s : State) (id sel : Nat) : OVal := (s.readComputed id sel).getD (s.obj id sel)

/-- Lane counters and eye heights that the SerDes measures: no rule gives them, so each read gives a free value. -/
def measuredObject (id : Nat) : Option Nat :=
  let x := id / 256
  if 0x3500 ≤ x ∧ x ≤ 0x35FF ∧ id % 256 = 4 then some 16
  else if 0x3200 ≤ x ∧ x ≤ 0x32FF ∧ (id % 256 = 0x15 ∨ id % 256 = 0x16) then some 48
  else none

/-- Serve a read that passed its checks: the value of a B- or T-class object that is pending, unless the read asks for the
value in force, else the value in force (R69). -/
def State.serveRead (s : State) (who : Caller) (id sel : Nat) (active : Bool) : State × Except Code OVal :=
  if id = Od.attestMResponse then match s.evidence who.sess 0 with
    | (t, .ok b) => (t, .ok (.bytes b))
    | (t, .error c) => (t, .error c)
  else if id = Od.attestPQuote then match s.evidence who.sess 1 with
    | (t, .ok b) => (t, .ok (.bytes b))
    | (t, .error c) => (t, .error c)
  else if 0xC40000 ≤ id ∧ id ≤ 0xC5FFFF then
    let (t, b) := s.readRecord (id - 0xC40000)
    (t, .ok (.bytes b))
  else if id / 256 = 0xB001 then
    let t := s.watchHealth
    (t, .ok (t.valueNow id sel))
  else match measuredObject id with
    | some w => (s.tookFree, .ok (.num (s.free % 2 ^ w)))
    | none =>
      let now := s.valueNow id sel
      (s, .ok (if active then now else (s.pendingObj id sel).getD now))

/-! ### What a Tenant reaches (R155, R301, R335, R488, R569, R599) -/

/-- The filter channel of an object of a per-channel table, from its base. -/
def chAt (base id : Nat) : Nat := chOf (id - base)

/-- A Tenant's ponds hold the item that the object belongs to. -/
def State.reachable (s : State) (who : Caller) (id : Nat) : Bool :=
  let x := id / 256
  let n := x % 256
  let sub := id % 256
  let stream (base : Nat) : Bool := s.tenantHolds who 0x02 (id - base)
  let chan (base : Nat) : Bool := let (k, i) := chItem (chAt base id); s.tenantHolds who k i
  if who.role ≠ .tenant then true
  else if 0x1180 ≤ x ∧ x ≤ 0x11FF then s.tenantHolds who 0x0A (id - 0x118000)
  else if 0x2400 ≤ x ∧ x ≤ 0x241F then s.tenantHolds who 0x08 (x - 0x2400)
  else if 0x3000 ≤ x ∧ x ≤ 0x34FF then s.tenantPort who n
  else if 0x3500 ≤ x ∧ x ≤ 0x35FF then s.tenantPort who (s.laneOwner n)
  else if 0x3600 ≤ x ∧ x ≤ 0x361F then (numbersFrom (8 * n) 8).any fun p => s.tenantPort who (s.laneOwner p)
  else if 0x4200 ≤ x ∧ x ≤ 0x4207 then stream 0x420000
  else if 0x4300 ≤ x ∧ x ≤ 0x4307 then stream 0x430000
  else if 0x4400 ≤ x ∧ x ≤ 0x46FF then s.tenantPort who n
  else if 0x5100 ≤ x ∧ x ≤ 0x57FF then s.tenantHolds who 0x02 (n * 256 + sub)
  else if 0x5800 ≤ x ∧ x ≤ 0x583F then s.tenantHolds who 0x03 (id - 0x580000)
  else if 0x5840 ≤ x ∧ x ≤ 0x58FF then s.tenantHolds who 0x04 (id - 0x584000)
  else if 0x6100 ≤ x ∧ x ≤ 0x6143 then chan 0x610000
  else if 0x6200 ≤ x ∧ x ≤ 0x6243 then chan 0x620000
  else if 0x6300 ≤ x ∧ x ≤ 0x6343 then chan 0x630000
  else if 0x6400 ≤ x ∧ x ≤ 0x6443 then chan 0x640000
  else if 0x6500 ≤ x ∧ x ≤ 0x6543 then chan 0x650000
  else if 0x6600 ≤ x ∧ x ≤ 0x6643 then chan 0x660000
  else if 0x6700 ≤ x ∧ x ≤ 0x672F then
    s.tenantHolds who 0x03 (pcSource (s.phasorConfig (x % 16 * 256 + sub)))
  else if 0x6900 ≤ x ∧ x ≤ 0x6943 then chan 0x690000
  else if 0x7100 ≤ x ∧ x ≤ 0x76FF then s.tenantHolds who 0x05 n
  else if 0xA100 ≤ x ∧ x ≤ 0xA1FF then s.tenantHolds who 0x06 sub
  else if 0xA300 ≤ x ∧ x ≤ 0xA4FF then s.tenantHolds who 0x07 sub
  else if x = 0xC010 then leAt (s.blob id) 6 2 == who.inst
  else if x = 0xC200 then leAt (s.blob id) 4 2 == who.inst
  else if 0xD200 ≤ x ∧ x ≤ 0xD203 then s.tenantHolds who 0x09 sub
  else true

/-- Read an object: addressing and role (R104 steps 1 and 2), the type that the request names, 0 for any (R94), a Tenant's
items, and then its value. -/
def State.readObject (s : State) (who : Caller) (id : Nat) (present : Bool) (sel typ : Nat) (active : Bool) :
    State × Except Code (ObjectRow × OVal) :=
  match (do
    let r ← s.checkAddress id present sel
    s.checkRead who r sel
    need (typ == 0 || typ == r.typ.code) .typeMismatch
    need (s.reachable who id) .notOwner
    .ok r : Except Code ObjectRow) with
  | .error c => (s, .error c)
  | .ok r => match s.serveRead who id sel active with
    | (t, .ok v) => (t, .ok (r, v))
    | (t, .error c) => (t, .error c)

end Sys2Proof.Machine
end

