-- ==== Sys2Proof/Machine/Saved.lean ====
section
/-! DEFINITION. Saving the persistent set into boot flash (R83, R84), and restoring the defaults (R670). -/

namespace Sys2Proof.Machine

/-- The object belongs to the persistent set (R83). -/
def ObjectRow.persistent (r : ObjectRow) : Bool :=
  (r.owner.testBit 1 || r.manager.testBit 1) && r.apply != .F && r.sel == .none
    && !(decide (0xB000 ≤ r.index0) && decide (r.index0 < 0xC000)) && !(decide (0xD000 ≤ r.index0) && decide (r.index0 < 0xE000))

/-- The values in force of the persistent set that differ from their Defaults. -/
def State.persistentValues (s : State) : Tab (Option OVal) :=
  s.dict.values.filter fun x => x.1 % 4096 == 0 && match objectRow (x.1 / 4096) with
    | some r => r.persistent
    | none => false

/-- The device that holds the older copy: one with no valid copy, else the one with the lower sequence number. -/
def State.olderCopy (s : State) : Nat :=
  if !s.dict.copy0.valid then 0 else if !s.dict.copy1.valid then 1
  else if s.dict.copy0.sequence < s.dict.copy1.sequence then 0 else 1

def State.setDict (s : State) (x : DictSt) : State := { s with dict := x }

/-- A copy of the persistent set in a device. -/
def State.setCopy (s : State) (d : Nat) (c : ConfigCopy) : State :=
  s.setDict (if d = 0 then { s.dict with copy0 := c } else { s.dict with copy1 := c })

/-- The sequence number of the last copy saved or loaded. -/
def State.lastSequence (s : State) : Nat := max s.dict.copy0.sequence s.dict.copy1.sequence

/-- ConfigSave 1 (R84): the device of the older copy loses it while the save runs. -/
def configSave (who : Caller) (value : Nat) (s : State) : Act := do
  s.gateRange who Od.configSave false 0 (.num value)
  let d := s.olderCopy
  need s.dict.saving.isNone .inProgress
  need (decide (s.shedLevel < 2)) .shedLevel
  let c : ConfigCopy := ⟨true, (s.lastSequence + 1) % 2 ^ 32, s.persistentValues⟩
  let t := s.setCopy d { (if d = 0 then s.dict.copy0 else s.dict.copy1) with valid := false }
  .ok ((t.setDict { t.dict with saving := some (d, c) }).setNum Od.configSaveStatus 1)

def execConfigSave (who : Caller) (value : Nat) (s : State) : Res := .next (s.answer who (configSave who value s))

/-- CONFIG_SAVE_DONE: the new copy is valid, or the save failed. -/
def configSaveDone (ok : Bool) (s : State) : State :=
  match s.dict.saving with
  | none => s
  | some (d, c) =>
    let t := s.setDict { s.dict with saving := none }
    if ok then ((t.setCopy d c).setNum Od.configSequence c.sequence).setNum Od.configSaveStatus 2
    else t.setNum Od.configSaveStatus 3

def execConfigSaveDone (ok : Bool) (s : State) : Res := .next (configSaveDone ok s)

/-- ConfigRestoreDefaults 1: pending until the next module restart (R670). -/
def configRestoreDefaults (who : Caller) (value : Nat) (s : State) : Act := do
  s.gateRange who Od.configRestoreDefaults false 0 (.num value)
  .ok (s.setDict { s.dict with restoreDefaults := true })

def execConfigRestoreDefaults (who : Caller) (value : Nat) (s : State) : Res :=
  .next (s.answer who (configRestoreDefaults who value s))

end Sys2Proof.Machine
end

