-- ==== Sys2Proof/Machine/Write.lean ====
section
/-! DEFINITION. Writing an object: the checks that a value passes alone, the block that an object controls (R77, R78),
each chapter's checks and effect, and the actions (R104). -/

namespace Sys2Proof.Machine

/-! ### Values -/

/-- An address of a fabric, or 0xFFFF for none. -/
def addressOrNone (n : Nat) : Bool := decide (n ≤ 0xFFF) || n == 0xFFFF

/-- SourcePriority (R114): known sources, none repeated, and none after a zero entry. -/
def sourcePriorityOk (n : Nat) : Bool :=
  let l := [field n 24 8, field n 16 8, field n 8 8, field n 0 8]
  let named := l.takeWhile (· != 0)
  l.all (fun c => decide (c ≤ 4)) && distinct named && (l.drop named.length).all (· == 0)

/-- Values of the module, time and port objects that their tables limit beyond a simple range. -/
def valueOkLow (id n : Nat) : Bool :=
  let x := id / 256
  let sub := id % 256
  if x = 0x1060 then
    let role := n / 4096
    (role == 0 || role == 2 || role == 3 || role == 4) && (if role = 3 then decide (n % 4096 ≤ 0xFF) else n % 4096 == 0)
  else if id = Od.mb0BoardController then n == 0 || (decide (8 ≤ n) && decide (n ≤ 0x77))
  else if id = Od.mb1RackMonitor then n == 0 || (decide (8 ≤ n) && decide (n ≤ 0x77) && n != 0x60 && n != 0x61)
  else if 0x2100 ≤ x ∧ x ≤ 0x2107 then
    if sub = 2 then sourcePriorityOk n
    else if sub = 7 then
      [8, 16, 24].all (fun k => let i := toInt 8 (field n k 8); decide (-4 ≤ i) && decide (i ≤ 1))
        && decide (2 ≤ field n 0 8) && decide (field n 0 8 ≤ 10)
    else if sub = 0x11 then addressOrNone n
    else true
  else if 0x2400 ≤ x ∧ x ≤ 0x241F then
    if sub = 1 then decide (n ≤ 47) || n == 0xFF
    else if sub = 3 then n == 0 || (decide (200 * 65536 ≤ n) && decide (n ≤ 1000000000000 * 65536))
    else true
  else if x = 0x2500 ∨ x = 0x2501 then sub != 0 || decide (n ≤ 7) || n == 0xFF
  else true

/-- Values of the other objects. -/
def valueOkHigh (id n : Nat) : Bool :=
  let x := id / 256
  let sub := id % 256
  if 0x4400 ≤ x ∧ x ≤ 0x44FF ∧ sub = 3 then (numbersFrom 0 8).all fun k => decide (field n (4 * k) 4 ≤ 5)
  else if id = Od.fabricAddressRequest then addressOrNone n
  else if id = Od.pairPortA ∨ id = Od.pairPortB then decide (n ≤ 255) || n == 0xFFFF
  else if id = Od.holdupCapacitance then n == 0 || f32Within n 0x3A83126F 0x41200000
  else if 0xC21000 ≤ id ∧ id < 0xC21004 then decide (1 ≤ n / 4096) && decide (n / 4096 ≤ 1000000) && decide (n % 4 ≤ 2)
  else if id = Od.sourceConfig + 0xE09 ∨ id = Od.sourceConfig + 0xE0A then n.testBit 3
  else if id = Od.datagramRing then decide (n ≤ 3)
  else true

/-- The fields that a route configuration holds (Table 16-6, R584). -/
def checkRouteForm (b : Bytes) : Except Code Unit := do
  need (decide (leAt b 6 2 ≤ 0xFF) || leAt b 6 2 == 0xF00) .outOfRange
  need (byteAt b 4 / 16 == 0 && byteAt b 5 == 0) .reservedBitSet

/-- The ranges and reserved bits that a configuration BLOB's own fields show. -/
def checkBlobForm (id : Nat) (b : Bytes) : Except Code Unit :=
  let x := id / 256
  if 0x4200 ≤ x ∧ x ≤ 0x4207 then (match checkStreamForm b with
    | .error .outOfRange => need (!seAdmitted b) .outOfRange
    | r => r)
  else if 0x4700 ≤ x ∧ x ≤ 0x473F then checkStaticForm b
  else if 0x4E00 ≤ x ∧ x ≤ 0x4E03 then checkFlowForm b
  else if 0x4F00 ≤ x ∧ x ≤ 0x4F07 then checkSinkForm b
  else if 0x5100 ≤ x ∧ x ≤ 0x5107 then checkIntakeConfig b
  else if x = 0x6010 then checkFirForm b
  else if 0x6100 ≤ x ∧ x ≤ 0x6143 then checkFilterForm b
  else if 0x6600 ≤ x ∧ x ≤ 0x6643 then checkDetectorForm b
  else if 0x6700 ≤ x ∧ x ≤ 0x6707 then checkPhasorForm b
  else if x = 0x6800 then checkTrackerForm b
  else if 0x7100 ≤ x ∧ x ≤ 0x713F then checkTriggerBits b
  else if 0x7200 ≤ x ∧ x ≤ 0x723F then checkListBits b
  else if 0x7300 ≤ x ∧ x ≤ 0x733F then checkCaptureBits b
  else if x = 0xA400 then checkTcsForm b
  else if x = 0xB110 then checkRingForm b
  else if x = 0xC010 then checkRouteForm b
  else if x = 0xC200 then
    (if eqEnabled b then checkEqFields b
     else need (decide (byteAt b 0 ≤ 1) && byteAt b 23 == 0 && leAt b 28 4 == 0) .reservedBitSet)
  else .ok ()

/-- The range and the reserved bits of a value by itself (R62). -/
def checkValue (r : ObjectRow) (id : Nat) (v : OVal) : Except Code Unit := do
  need (valueOkLow id v.nat && valueOkHigh id v.nat) .outOfRange
  r.checkRange v
  checkBlobForm id v.octets

/-! ### Running blocks (R77, R78) -/

/-- What a write that is not live-safe meets: a block that is not running, one with no quiesce procedure, or one that its
chapter quiesces, with its number and whether a running instance binds it. -/
inductive Block where
  | idle
  | never
  | quiesce (key : Nat) (bound : Bool)
  deriving DecidableEq, Repr

/-- Numbers of the blocks that can be quiesced. -/
def domainBlock (d : Nat) : Nat := 1 * 2 ^ 24 + d
def portBlock (n : Nat) : Nat := 2 * 2 ^ 24 + n
def streamBlock (e : Nat) : Nat := 3 * 2 ^ 24 + e
def channelBlock (c : Nat) : Nat := 4 * 2 ^ 24 + c
def unitBlock (u : Nat) : Nat := 5 * 2 ^ 24 + u
def pinBlock (n : Nat) : Nat := 6 * 2 ^ 24 + n

def neverIf (b : Bool) : Block := if b then .never else .idle

/-- The block of an object that is not live-safe as a write of `v` meets it. -/
def State.blockOf (s : State) (id sel : Nat) (v : OVal) : Block :=
  let x := id / 256
  let sub := id % 256
  let port (n : Nat) : Block := if s.portEnabled n then .quiesce (portBlock n) (s.portInUse n) else .idle
  let stream (e : Nat) : Block := if s.bound e then .quiesce (streamBlock e) (s.streamRead e) else .idle
  let chan (c : Nat) : Block := if s.filterOn c then .quiesce (channelBlock c) (s.channelRead c) else .idle
  let b := v.octets
  let old := s.blob id sel
  if 0x2100 ≤ x ∧ x ≤ 0x2107 ∧ [1, 3, 4, 5, 6, 7, 9].contains sub then
    let d := x - 0x2100
    if (s.dom d).state = 0 then .idle else .quiesce (domainBlock d) (!(s.domUsers d).isEmpty)
  else if 0x2400 ≤ x ∧ x ≤ 0x241F ∧ sub ≤ 8 then neverIf (s.pgRunning (x - 0x2400))
  else if 0x3000 ≤ x ∧ x ≤ 0x30FF ∧ [1, 2, 3, 4, 9, 0xB].contains sub then port (x - 0x3000)
  else if 0x3500 ≤ x ∧ x ≤ 0x35FF ∧ sub ≤ 2 then port (s.laneOwner (x - 0x3500))
  else if 0x4020 ≤ x ∧ x ≤ 0x403F then
    neverIf (s.gnum Od.redMode (x - 0x4020) != 0 && !(sub == 0 && v.nat == 0))
  else if 0x4200 ≤ x ∧ x ≤ 0x4207 then neverIf (seAdmitted old && seAdmitted b && old != b)
  else if 0x4E00 ≤ x ∧ x ≤ 0x4E03 then neverIf (flowEnabled old && flowEnabled b && old != b)
  else if 0x5100 ≤ x ∧ x ≤ 0x5107 then stream (id - 0x510000)
  else if 0x5200 ≤ x ∧ x ≤ 0x5207 then stream (id - 0x520000)
  else if 0x5400 ≤ x ∧ x ≤ 0x5407 then stream (id - 0x540000)
  else if x = 0x6010 then neverIf (s.firNamed sub && !s.chain.corrupt.contains sub)
  else if 0x6100 ≤ x ∧ x ≤ 0x6143 then chan (chAt 0x610000 id)
  else if 0x6600 ≤ x ∧ x ≤ 0x6643 then chan (chAt 0x660000 id)
  else if 0x6700 ≤ x ∧ x ≤ 0x6707 then neverIf (s.num (Od.phasorEnable + (id - 0x670000)) == 1)
  else if x = 0x6800 then neverIf (s.num (Od.trackerEnable + sub) == 1)
  else if 0x7100 ≤ x ∧ x ≤ 0x733F then
    let u := x % 256
    if s.armed u then .quiesce (unitBlock u) (s.unitRead u) else .idle
  else if x = 0x8100 then neverIf (decide (sub ≤ 4) && s.instRunning sel)
  else if x = 0x9000 then neverIf (([1, 2, 3, 4, 5, 0xD].contains sub) && s.num Od.pairEnable == 1)
  else if x = 0x9200 then neverIf (s.instRunning sel)
  else if x = 0xA100 ∨ x = 0xA101 then
    if s.pinRunning sub then .quiesce (pinBlock sub) (s.itemRunning 0x06 sub) else .idle
  else if id = Od.basketEnable then neverIf (s.instRunning sel)
  else if x = 0xB110 then
    neverIf ((byteAt old 0).testBit 0 && (if (byteAt b 0).testBit 0 then old != b else old.drop 1 != b.drop 1))
  else if x = 0xC200 then neverIf (eqEnabled old && old.drop 1 != b.drop 1)
  else .idle

/-! ### The chapters' checks -/

/-- Chapters 3 to 6. -/
def State.checkLow (s : State) (who : Caller) (id : Nat) (v : OVal) : Except Code Unit :=
  let x := id / 256
  let sub := id % 256
  let n := v.nat
  if 0x2100 ≤ x ∧ x ≤ 0x2107 then
    let d := x - 0x2100
    let on := (s.dom d).state != 0
    if sub = 0 then s.checkDomainEnable d n
    else if sub = 3 then need (!on || s.ptpPairFree d n (s.num (Od.ptpDomainNumber + 256 * d))) .heldElsewhere
    else if sub = 4 then need (!on || s.ptpPairFree d (s.num (Od.ptpProfile + 256 * d)) n) .heldElsewhere
    else .ok ()
  else if 0x3000 ≤ x ∧ x ≤ 0x30FF then
    let p := x - 0x3000
    if sub = 0 then s.checkPortEnable who p n
    else if sub = 1 then s.checkPortMode who p n
    else if sub = 2 then s.checkPortFec who p (s.pnum Od.portMode p) n
    else do
      s.checkPort who p
      need (!(sub == 4 && n == 1)
        || decide (((numbersFrom 0 256).filter fun q => q != p && s.pnum Od.portKind q == 1).length < 64)) .noResource
  else if 0x3400 ≤ x ∧ x ≤ 0x34FF then
    if sub < 16 then s.checkFilter who (x - 0x3400) sub n else s.checkPort who (x - 0x3400)
  else if id = Od.soundingShadowBase then
    need (n % 0x200000 == 0 && decide (n < 2 ^ 36) && s.holderOf 0x0A (n / 0x200000) == 0xF00) .notOwner
  else if id = Od.soundingEnable then
    let a := s.num Od.soundingShadowBase
    need (n == 0 || (tabGet none s.dict.values (objKey Od.soundingShadowBase 0)).isSome
      && s.holderOf 0x0A (a / 0x200000) == 0xF00) .precondition
  else if 0x4020 ≤ x ∧ x ≤ 0x403F then
    let g := x - 0x4020
    if sub = 2 then need (n != s.gnum Od.redPortA g) .outOfRange
    else if sub = 0 then
      need (n != 0 || s.gnum Od.redMode g == 0
        || !(s.portInUse (s.gnum Od.redPortA g) || s.portInUse (s.gnum Od.redPortB g))) .precondition
    else .ok ()
  else if 0x4400 ≤ x ∧ x ≤ 0x44FF then do
    need (!(sub == 8 || sub == 0xA) || decide (n ≤ s.modeRate (x - 0x4400))) .outOfRange
    s.checkPort who (x - 0x4400)
  else if 0x4600 ≤ x ∧ x ≤ 0x46FF then
    if sub ≤ 5 then s.checkShaperRate who (x - 0x4600) n else s.checkPort who (x - 0x4600)
  else if 0x4700 ≤ x ∧ x ≤ 0x473F then s.checkStatic (id - Od.staticMacEntry) v.octets
  else if 0x4E00 ≤ x ∧ x ≤ 0x4E03 then s.checkFlow (id - Od.flowEntry) v.octets
  else if 0x4F00 ≤ x ∧ x ≤ 0x4F07 then s.checkSink (id - Od.sinkEntry) v.octets
  else .ok ()

/-- The checks of a write that a bound stream would run with (R274): those of Table 7-4 on the new values. -/
def State.checkStream (s : State) (who : Caller) (id e : Nat) (v : OVal) : Except Code Unit := do
  s.checkEntryOwner who e
  if s.bound e then (s.setObj id 0 v).checkBinding who e else .ok ()

/-- The checks of FilterConfig: the value must be valid for the feed of an enabled channel, within the chain's limits. -/
def State.checkFilterConfig (s : State) (who : Caller) (id c : Nat) (v : OVal) : Except Code Unit := do
  s.checkChannelOwner who c
  if s.filterOn c then
    match s.feedOf (s.inputKey c) with
    | some (_, fs, _) => do
      need (s.filterValid v.octets fs) .outOfRange
      need ((s.setObj id 0 v).chainFits s.enabledFilters) .noResource
    | none => .ok ()
  else .ok ()

/-- Chapters 7 to 9. -/
def State.checkMid (s : State) (who : Caller) (id : Nat) (v : OVal) : Except Code Unit :=
  let x := id / 256
  let sub := id % 256
  let n := v.nat
  let b := v.octets
  if 0x5100 ≤ x ∧ x ≤ 0x5107 then s.checkStream who id (id - 0x510000) v
  else if 0x5200 ≤ x ∧ x ≤ 0x5207 then s.checkStream who id (id - 0x520000) v
  else if 0x5400 ≤ x ∧ x ≤ 0x5407 then s.checkStream who id (id - 0x540000) v
  else if 0x5500 ≤ x ∧ x ≤ 0x5507 then s.checkKeySlots who (id - 0x550000) n
  else if 0x5700 ≤ x ∧ x ≤ 0x5707 then s.checkIntakeEnable who (id - 0x570000) n
  else if x = 0x6010 then s.checkFir sub b
  else if 0x6100 ≤ x ∧ x ≤ 0x6143 then s.checkFilterConfig who id (chAt 0x610000 id) v
  else if 0x6200 ≤ x ∧ x ≤ 0x6243 then s.checkFilterInput who (chAt 0x620000 id) n
  else if 0x6300 ≤ x ∧ x ≤ 0x6343 then s.checkFilterScale who (chAt 0x630000 id) b
  else if 0x6400 ≤ x ∧ x ≤ 0x6443 then s.checkFilterEnable who (chAt 0x640000 id) n
  else if 0x6600 ≤ x ∧ x ≤ 0x6643 then do
    s.checkChannelOwner who (chAt 0x660000 id)
    s.checkDetector (chAt 0x660000 id) b
  else if 0x6710 ≤ x ∧ x ≤ 0x6717 then s.checkPhasorEnable who (id - Od.phasorEnable) n
  else if x = 0x6801 then s.checkTrackerEnable sub n
  else if 0x7100 ≤ x ∧ x ≤ 0x733F then s.checkUnitWrite who (x % 256) (x / 256 * 65536) b
  else need (s.reachable who id) .notOwner

/-- R32, for an instance with its program's execution budget, 0 without a program. -/
def State.marginsKept (s : State) (i : Nat) : Bool := s.marginsHold i (match (s.scanOf i).prog with
  | some p => s.budgetOf i p
  | none => 0)

/-- Chapters 10 to 18. -/
def State.checkHigh (s : State) (who : Caller) (id sel : Nat) (v : OVal) : Except Code Unit :=
  let x := id / 256
  let sub := id % 256
  let n := v.nat
  let b := v.octets
  if x = 0x1060 then need (!(tabGet .init s.dict.windows (windowSession sub)).busy) .busy
  else if id = Od.mb0TargetAddress then need (n != s.num Od.mb0BoardController) .outOfRange
  else if id = Od.mb0BoardController then need (n == 0 || n != s.num Od.mb0TargetAddress) .outOfRange
  else if x = 0x8100 then
    need (!(decide (2 ≤ sub) && decide (sub ≤ 4)) || (s.setObj id sel v).marginsKept sel) .precondition
  else if id = Od.pairEnable then s.checkPairEnable n
  else if id = Od.pairPortB then need (n == 0xFFFF || n != s.num Od.pairPortA) .outOfRange
  else if id = Od.pairBeat ∨ id = Od.leaseTime then
    let t := s.setObj id 0 v
    need (decide (2 * t.beatNs ≤ t.num Od.leaseTime * 1000)) .outOfRange
  else if 0xA100 ≤ x ∧ x ≤ 0xA1FF then need (s.reachable who id) .notOwner
  else if 0xA300 ≤ x ∧ x ≤ 0xA4FF then do
    need (x != 0xA304 || decide (s.num (Od.lsRailLow + sub) < n)) .outOfRange
    need (x != 0xA321 || !f32NotFinite n) .invalidFloat
    need (s.reachable who id) .notOwner
    need (match x with
      | 0xA400 => s.num (Od.tcsEnable + sub) == 0 || s.tcsPinHeld sub b
      | 0xA401 => n == 0 || s.tcsPinHeld sub (s.tcsConfig sub)
      | _ => true) .notOwner
  else if id = Od.pondEnergyShare then s.checkShare who sel n
  else if id = Od.pondEventRoute then
    need (who.role != .tenant || n == 0 || leAt (s.blob (0xC01000 + n)) 6 2 == who.inst) .denied
  else if x = 0xB110 then s.checkRing sel sub b
  else if x = 0xB200 then s.checkVf sub n
  else if x = 0xC010 then
    let own := leAt b 6 2
    need (own == 0xF00 || (b.take 4).all fun q => q == 0xFF || leAt (s.eqConfig q.toNat) 4 2 == own) .notOwner
  else if id = Od.boardPowerBudget ∨ id = Od.platformReserve then
    let t := s.setObj id 0 v
    need (!fracLt (t.pondShare 0xF00, 1) (t.committed 0xF00)) .noResource
  else if id = Od.holdupFloor ∨ id = Od.holdupLossVoltage ∨ id = Od.holdupReturnVoltage then
    let t := s.setObj id 0 v
    let fl := f32Units (t.num Od.holdupFloor)
    let lo := f32Units (t.num Od.holdupLossVoltage)
    need (!(decide (0 < lo) && decide (lo ≤ fl)) && decide (lo ≤ f32Units (t.num Od.holdupReturnVoltage))) .outOfRange
  else if id = Od.downshiftTemp then
    need (decide (toInt 32 (s.num Od.throttleTemp) + 2000 ≤ toInt 32 n)) .outOfRange
  else need (s.reachable who id) .notOwner

/-- The checks of an object's chapter on a write (R104 steps 5 and 6), after the value's own. -/
def State.checkChapter (s : State) (who : Caller) (id sel : Nat) (v : OVal) : Except Code Unit :=
  match id / 2 ^ 20 with
  | 2 => do
    s.checkLow who id v
    need (s.reachable who id) .notOwner
  | 3 => s.checkLow who id v
  | 4 => s.checkLow who id v
  | 5 => s.checkMid who id v
  | 6 => s.checkMid who id v
  | 7 => s.checkMid who id v
  | _ => s.checkHigh who id sel v

/-! ### The chapters' effects -/

/-- Chapters 3 to 6. -/
def State.applyLow (s : State) (id : Nat) (v : OVal) : State :=
  let x := id / 256
  let sub := id % 256
  let n := v.nat
  let t := s.setObj id 0 v
  if 0x2100 ≤ x ∧ x ≤ 0x2107 then
    let d := x - 0x2100
    if sub = 0 then s.enableDomain d n
    else if [1, 3, 4, 5, 6, 7, 9].contains sub ∧ (s.dom d).state ≠ 0 then t.setPtp d .init else t
  else if 0x3000 ≤ x ∧ x ≤ 0x30FF then
    let p := x - 0x3000
    if sub = 0 then s.applyPortEnable p n
    else if sub = 1 then s.applyPortMode p n
    else if sub = 2 then s.applyPortFec p n
    else if [3, 4, 9, 0xB].contains sub ∧ s.portEnabled p ∧ s.pnum Od.portMode p ≠ 0 then
      ((s.leaveUp p 3).setObj id 0 v).bringUp p
    else t
  else if 0x3500 ≤ x ∧ x ≤ 0x35FF then
    let p := s.laneOwner (x - 0x3500)
    if s.portEnabled p ∧ s.pnum Od.portMode p ≠ 0 then ((s.leaveUp p 3).setObj id 0 v).bringUp p else t
  else if 0x4400 ≤ x ∧ x ≤ 0x44FF then
    let p := x - 0x4400
    if sub = 7 then (if n = 1 then t.fillBucket (0x1000 + p) (s.pnum Od.policerBurst p) else t)
    else if sub = 8 ∨ sub = 9 then t.setBucket (0x1000 + p)
      ⟨(s.bucket (0x1000 + p)).levelAt (s.pnum Od.policerRate p) (s.pnum Od.policerBurst p) s.gtc, s.gtc⟩
    else if sub = 0xA ∨ sub = 0xB then t.setBucket (0x2000 + p)
      ⟨(s.bucket (0x2000 + p)).levelAt (s.pnum Od.floodRate p) (s.pnum Od.floodBurst p) s.gtc, s.gtc⟩
    else t
  else if 0x4600 ≤ x ∧ x ≤ 0x46FF then
    let p := x - 0x4600
    if sub ≤ 5 then s.applyShaperRate p sub n
    else if 0x10 ≤ sub ∧ sub ≤ 0x15 then s.applyShaperBurst p (sub - 0x10) n
    else if sub = 0x30 then s.applyShaperEnable p n
    else t
  else if 0x4700 ≤ x ∧ x ≤ 0x473F then s.applyStatic (id - Od.staticMacEntry) v.octets
  else if id = Od.rootPriority ∨ (0x4D00 ≤ x ∧ x ≤ 0x4DFF ∧ sub = 0) then { t with fab := { t.fab with lsaDue := true } }
  else if 0x4E00 ≤ x ∧ x ≤ 0x4E03 then s.applyFlow (id - Od.flowEntry) v.octets
  else if 0x4F00 ≤ x ∧ x ≤ 0x4F07 then s.applySink (id - Od.sinkEntry) v.octets
  else t

/-- The value of a stream's configuration takes force, and what its bindings feed follows. -/
def State.applyStreamConfig (s : State) (id e : Nat) (v : OVal) : State :=
  let t := s.setObj id 0 v
  if s.bound e then (s.rebindStream t e).bindingsChanged else t

/-- Chapters 7 to 9. -/
def State.applyMid (s : State) (id : Nat) (v : OVal) : State :=
  let x := id / 256
  let sub := id % 256
  let n := v.nat
  let b := v.octets
  if 0x5100 ≤ x ∧ x ≤ 0x5107 then s.applyStreamConfig id (id - 0x510000) v
  else if 0x5200 ≤ x ∧ x ≤ 0x5207 then s.applyStreamConfig id (id - 0x520000) v
  else if 0x5400 ≤ x ∧ x ≤ 0x5407 then s.applyStreamConfig id (id - 0x540000) v
  else if 0x5500 ≤ x ∧ x ≤ 0x5507 then s.applyKeySlots (id - 0x550000) n
  else if 0x5700 ≤ x ∧ x ≤ 0x5707 then (s.applyIntakeEnable (id - 0x570000) n).bindingsChanged
  else if x = 0x6010 then s.applyFir sub b
  else if 0x6100 ≤ x ∧ x ≤ 0x6143 then (s.applyFilterConfig (chAt 0x610000 id) b).stopLostUnits
  else if 0x6200 ≤ x ∧ x ≤ 0x6243 then (s.applyFilterInput (chAt 0x620000 id) n).stopLostUnits
  else if 0x6300 ≤ x ∧ x ≤ 0x6343 then s.applyFilterScale (chAt 0x630000 id) b
  else if 0x6400 ≤ x ∧ x ≤ 0x6443 then (s.applyFilterEnable (chAt 0x640000 id) n).stopLostUnits
  else if 0x6600 ≤ x ∧ x ≤ 0x6643 then s.applyDetector (chAt 0x660000 id) b
  else if 0x6710 ≤ x ∧ x ≤ 0x6717 then (s.applyPhasorEnable (id - Od.phasorEnable) n).stopLostUnits
  else if x = 0x6801 then (s.applyTrackerEnable sub n).stopLostUnits
  else if 0x7100 ≤ x ∧ x ≤ 0x733F then s.applyUnitWrite (x % 256) (x / 256 * 65536) b
  else s.setObj id 0 v

/-- Chapters 10 to 18. -/
def State.applyHigh (s : State) (id sel : Nat) (v : OVal) : State :=
  let x := id / 256
  let sub := id % 256
  let n := v.nat
  let t := s.setObj id sel v
  if x = 0x1060 then s.bindWindow sub n
  else if id = Od.scanDomain ∨ id = Od.scanPeriod then t.rescan sel
  else if id = Od.pairEnable then s.applyPairEnable n
  else if x = 0xA100 ∨ x = 0xA101 then s.applyPinClass sub (x == 0xA101) n
  else if x = 0xA300 then s.applyLsEnable sub n
  else if x = 0xA400 ∨ x = 0xA401 then t.restartTcs sub
  else if x = 0xB110 then s.applyRing sel sub v.octets
  else if x = 0xB200 then s.bindVf sub n
  else if x = 0xC210 then
    (if n % 4 = 0 then { t with ev := { t.ev with pins := tabSet .init t.ev.pins sub .init } } else t)
  else t

/-- A value comes into force with what its chapter says follows. -/
def State.applyChapter (s : State) (id sel : Nat) (v : OVal) : State :=
  match id / 2 ^ 20 with
  | 2 => s.applyLow id v
  | 3 => s.applyLow id v
  | 4 => s.applyLow id v
  | 5 => s.applyMid id v
  | 6 => s.applyMid id v
  | 7 => s.applyMid id v
  | _ => s.applyHigh id sel v

end Sys2Proof.Machine
end

