-- ==== Sys2Proof/Machine/Objects.lean ====
section
/-! DEFINITION. Writing an object as a Put, a Stage or a commit does (R67 to R72, R77, R104), and the actions that objects
start. -/

namespace Sys2Proof.Machine

/-! ### Actions -/

/-- The state after an act and its code, 0 for Done. -/
def State.after (s : State) (a : Act) : State × Nat :=
  match a with
  | .ok t => (t, 0)
  | .error c => (s, c.value)

/-- A value that no action takes. -/
def State.refuseAction (s : State) (who : Caller) (id sel : Nat) (present : Bool) (v : OVal) : Act := do
  s.gateRange who id present sel v
  .error .outOfRange

/-- The actions of Chapters 2 to 6 and 20. -/
def State.actionLow (s : State) (who : Caller) (id : Nat) (v : OVal) : Option Act :=
  let x := id / 256
  let sub := id % 256
  let n := v.nat
  if id = Od.moduleReset then some (match n with
    | 1 => moduleResetWarm who s
    | 2 => moduleResetPowerOn who s
    | 3 => moduleResetForced who s
    | _ => s.refuseAction who id 0 false v)
  else if id = Od.configSave then some (configSave who n s)
  else if id = Od.configRestoreDefaults then some (configRestoreDefaults who n s)
  else if id = Od.hbmBind then some (do
    s.gateRange who id false 0 v
    hbmBind who (field n 40 8) (field n 48 12) (field n 24 16) (field n 0 15) s)
  else if 0x1220 ≤ x ∧ x ≤ 0x122B then some (bootFlashBlock who (id - Od.bootFlashBlock) v.octets s)
  else if id = Od.bootFlashVerify then some (bootFlashVerify who n s)
  else if 0x2300 ≤ x ∧ x ≤ 0x2307 then
    let d := x - 0x2300
    match sub with
    | 0 => some (setTime who d n s)
    | 1 => some (domainStep who d (toInt 64 n) s)
    | 2 => some (stepToReference who d n s)
    | 3 => some (stepCancel who d n s)
    | _ => none
  else if 0x2400 ≤ x ∧ x ≤ 0x241F ∧ sub = 9 then some (match n with
    | 1 => pgArm who (x - 0x2400) s
    | 2 => pgDisarm who (x - 0x2400) s
    | _ => s.refuseAction who id 0 false v)
  else if 0x3000 ≤ x ∧ x ≤ 0x30FF ∧ 0x10 ≤ sub then
    let p := x - 0x3000
    match sub with
    | 0x10 => some (portReset who p n s)
    | 0x11 => some (portSnapshot who p n s)
    | 0x12 => some (portClear who p n s)
    | _ => none
  else if id = Od.allPortSnapshot then some (allPortSnapshot who n s)
  else none

/-- The actions of Chapters 9, 10, 12, 13 and 14. -/
def State.actionMid (s : State) (who : Caller) (id sel : Nat) (v : OVal) : Option Act :=
  let x := id / 256
  let sub := id % 256
  let n := v.nat
  if 0x7400 ≤ x ∧ x ≤ 0x743F then
    match sub with
    | 0 => some (unitArm who (x - 0x7400) n s)
    | 1 => some (unitSoftTrigger who (x - 0x7400) n s)
    | _ => none
  else if 0x7600 ≤ x ∧ x ≤ 0x763F then some (recordControl who (x - 0x7600) sub n s)
  else if id = Od.exportRequest then some (exportRequest who n s)
  else if x = 0x8003 then some (spRecover who sub n s)
  else if id = Od.programLoad then some (programLoad who sel n s)
  else if id = Od.scanControl then some (match n with
    | 1 => coldStart who sel s
    | 2 => warmStart who sel s
    | 3 => stopCmd who sel s
    | _ => s.refuseAction who id sel true v)
  else if id = Od.ferrySwitch then some (ferrySwitchCmd who sel n s)
  else if id = Od.ferryCancel then some (ferryCancel who sel n s)
  else if id = Od.paddleCommand then some (match n with
    | 1 => paddleHandOver who s
    | 2 => paddleTake who s
    | 3 => clearSuspect who s
    | 4 => clearRevert who s
    | _ => s.refuseAction who id 0 false v)
  else if id = Od.pairJoin then some (do
    s.gateRange who id true sel v
    pairJoin who sel s)
  else if x = 0xA320 then some (do
    s.gateRange who id false 0 v
    lsCalibrate who sub n s)
  else if id = Od.pondCreateChild then some (pondCreate who sel n s)
  else if id = Od.pondDelete then some (pondDelete who sel n s)
  else if id = Od.pondMove then some (pondMove who sel n s)
  else if id = Od.instanceCreate then some (instanceCreate who n s)
  else if id = Od.instanceDelete then some (instanceDelete who n s)
  else if id = Od.resetCommand then some (match n with
    | 1 => resetDrain who sel s
    | 2 => resetSquash who sel s
    | _ => s.refuseAction who id sel true v)
  else none

/-- The actions of Chapters 16 to 19, and the writes whose chapter applies them with operations of its own. -/
def State.actionHigh (s : State) (who : Caller) (id : Nat) (v : OVal) : Option Act :=
  let x := id / 256
  let sub := id % 256
  let n := v.nat
  let b := v.octets
  if id = Od.recorderFreeze then some (match n with
    | 1 => recorderFreeze who s
    | 2 => recorderUnfreeze who s
    | _ => s.refuseAction who id 0 false v)
  else if id = Od.recorderClear then some (recorderClear who n s)
  else if id = Od.eventRaise then some (eventRaise who b s)
  else if x = 0xC200 then some (eqConfigWrite who sub b s)
  else if x = 0xC211 then some (evtPinAck who sub n s)
  else if id = Od.bootConfirm then some (bootConfirm who n s)
  else if id = Od.securityVersionAdvance then some (securityVersionAdvance who n s)
  else if id = Od.recoveryRestart then some (recoveryRestart who n s)
  else if id = Od.ownerBootKeyProgram then some (ownerBootKeyProgram who b s)
  else if id = Od.ownerBootKeyRevoke then some (ownerBootKeyRevoke who n s)
  else if id = Od.measureExtend then some (measureExtend who b s)
  else if 0xD050 ≤ x ∧ x ≤ 0xD05B then some (recoveryBlock who (id - Od.recoveryBlock) b s)
  else if x = 0xD100 then some (credentialEntry who sub b s)
  else if x = 0xD101 then some (credentialSecret who sub b s)
  else if id = Od.ownerRelease then some (ownerRelease who n s)
  else if x = 0xD201 then some (keyLoad who sub b s)
  else if x = 0xD202 then some (match n with
    | 1 => Act.andThen (keyCommit who sub (s.free % 1000001) s) State.tookFree
    | 2 => keyDiscard who sub s
    | _ => s.refuseAction who id 0 false v)
  else if x = 0xD203 then some (keyErase who sub n s)
  else if id = Od.attestMSecret then some (attestMSecret who b s)
  else if id = Od.attestMChallenge then some (attestChallenge id 0 who b s)
  else if id = Od.attestPGenerate then some (attestPGenerate who n s)
  else if id = Od.attestPChallenge then some (attestChallenge id 1 who b s)
  else if id = Od.tamperStatus then some (tamperKnock who n s)
  else if id = Od.sluiceCommand then some (sluiceCommand who n s)
  else if id = Od.holdupCalibrate then some (do
    s.gateRange who id false 0 v
    holdupCalibrate who n s)
  else if id = Od.moduleSleep then some (match n with
    | 1 => moduleSleepEnter who s
    | 2 => moduleSleepLeave who s
    | _ => s.refuseAction who id 0 false v)
  else none

/-- An object whose chapter has one operation for the whole write: the state after, and the code. OwnerClaim and a stream
entry leave a trace of a refusal too. -/
def State.action (s : State) (who : Caller) (id sel : Nat) (v : OVal) : Option (State × Nat) :=
  if id = Od.ownerClaim then some (ownerClaim who v.octets s)
  else
    let a := match id / 2 ^ 20 with
      | 7 => s.actionMid who id sel v
      | 8 => s.actionMid who id sel v
      | 9 => s.actionMid who id sel v
      | 0xA => s.actionMid who id sel v
      | 0xB => s.actionMid who id sel v
      | 0xC => s.actionHigh who id v
      | 0xD => s.actionHigh who id v
      | 0xE => s.actionHigh who id v
      | _ => s.actionLow who id v
    a.map s.after

/-! ### One write -/

/-- The gate of any write: addressing, role and lock, form, and what start-up lets through (R104 steps 1 to 3, R668). -/
def State.writeGate (s : State) (who : Caller) (id : Nat) (present : Bool) (sel typ : Nat) (b : Bytes) :
    Except Code (ObjectRow × OVal) := do
  let r ← s.checkAddress id present sel
  s.checkWriter who r id sel
  let v ← r.checkForm typ b
  s.checkBoot who id
  .ok (r, v)

/-- The object of `id` and selector is a stream table entry. -/
def isStreamEntry (id : Nat) : Bool := decide (Od.streamEntry ≤ id) && decide (id < Od.streamEntry + 2048)

/-- A value takes effect after its gate: by an action, by a stream entry's admission, or by its chapter's checks and
effect; a T-class value becomes pending (R67). The code is 0 for Done. -/
def State.putValue (s : State) (who : Caller) (r : ObjectRow) (id sel : Nat) (v : OVal) : State × Nat :=
  match s.action who id sel v with
  | some x => x
  | none =>
    if isStreamEntry id then
      let e := id - Od.streamEntry
      match s.checkEntryOwner who e with
      | .error c => (s, c.value)
      | .ok _ => let (t, c) := s.streamPut who e v.octets
        (t.bindingsChanged, c)
    else s.after (do
      checkValue r id v
      s.checkChapter who id sel v
      let t := if r.apply = .T then s.setPending id sel (some v) else s.applyChapter id sel v
      let t := if id = Od.bootPreference then t.setBootRec { t.bootRec with preference := v.nat } else t
      .ok (t.bumpVersion id sel))

/-- One object written by a Put of class I, B or T: the running block first (R104 step 4). -/
def State.writeObject (s : State) (who : Caller) (id : Nat) (present : Bool) (sel typ : Nat) (b : Bytes) : State × Nat :=
  match s.writeGate who id present sel typ b with
  | .error c => (s, c.value)
  | .ok (r, v) =>
    if !r.liveSafe && s.blockOf id sel v != .idle then (s, Code.busy.value) else s.putValue who r id sel v

/-! ### Staging (R70) -/

/-- The session's entry for an object replaced in place, or added at the end. -/
def stageInto (e : StageEnt) : List StageEnt → List StageEnt
  | [] => [e]
  | x :: l => if x.id = e.id ∧ x.sel = e.sel then e :: l else x :: stageInto e l

/-- Stage one object in session `k`. -/
def State.stageObject (s : State) (who : Caller) (k id : Nat) (present : Bool) (sel typ : Nat) (b : Bytes) : Act := do
  let (r, v) ← s.writeGate who id present sel typ b
  checkValue r id v
  need (!(id == Od.pondEnergyShare && who.role == .tenant && sel == who.inst)) .denied
  match s.session k with
  | none => .error .noSession
  | some x =>
    let l := stageInto ⟨id, present, sel, typ, b, s.version id sel⟩ x.stage
    need (decide (l.length ≤ 256)) .stageFull
    .ok (s.setSession k (some { x with stage := l }))

/-- A Put: an S-class object is staged, every other is written (R67). -/
def State.putObject (s : State) (who : Caller) (k id : Nat) (present : Bool) (sel typ : Nat) (b : Bytes) : State × Nat :=
  match objectRow id with
  | some r => if r.apply = .S then s.after (s.stageObject who k id present sel typ b)
    else s.writeObject who id present sel typ b
  | none => s.writeObject who id present sel typ b

/-! ### Commits (R72, R73, R77 to R79) -/

/-- The caller that session `k` is. -/
def Session.caller (x : Session) (k : Nat) : Caller := ⟨k, x.role, x.inst⟩

/-- One entry of a commit checked and applied to a scratch state: the state, the code, and the block that it meets. Busy of
a block without a quiesce procedure is judged after every entry (R104). -/
def State.commitEntry (s : State) (who : Caller) (e : StageEnt) (base : State) : State × Nat × Block :=
  match s.writeGate who e.id e.present e.sel e.typ e.value with
  | .error c => (s, c.value, .idle)
  | .ok (r, v) =>
    if base.version e.id e.sel ≠ e.version then (s, Code.stageConflict.value, .idle)
    else
      let blk := if r.liveSafe then .idle else base.blockOf e.id e.sel v
      let (t, c) := s.putValue who r e.id e.sel v
      if c = Code.busy.value ∧ blk = .never then (s, 0, blk) else (t, c, blk)

/-- The entry asks for an admission that Table 5-5 judges. -/
def State.asksAdmission (s : State) (who : Caller) (e : StageEnt) (base : State) : Bool :=
  let k := e.id - Od.streamEntry
  isStreamEntry e.id && base.version e.id e.sel == e.version && seAdmitted e.value && !seAdmitted (s.streamEntry k)
    && (s.writeGate who e.id e.present e.sel e.typ e.value).isOk && (s.checkEntryOwner who k).isOk

/-- How the entries of a commit fare in staging order: all applied to a scratch state, with the blocks they meet, or the
number of the first that fails and its code. A refused admission leaves its event. -/
def State.commitRun (s : State) (who : Caller) (base : State) :
    Nat → List StageEnt → List (Nat × Block) → Except (Nat × Nat × State) (State × List (Nat × Block))
  | _, [], bs => .ok (s, bs)
  | n, e :: l, bs =>
    match s.commitEntry who e base with
    | (t, 0, blk) => t.commitRun who base (n + 1) l (bs ++ [(n, blk)])
    | (_, c + 1, _) => .error (n, c + 1,
        if s.asksAdmission who e base then base.raiseAdmission 0x10B 0x02 (e.id - Od.streamEntry) 2 (c + 1) else base)

/-- What a commit comes to: applied at once, refused at an entry, or waiting for blocks to be quiesced, by entry. -/
inductive CommitResult where
  | done (t : State)
  | failed (entry code : Nat) (t : State)
  | waits (blocks : List (Nat × Nat))

def blockForbidden : Block → Bool
  | .never => true
  | .quiesce _ bound => bound
  | .idle => false

/-- Check and apply a set at one instant (R72, R73). -/
def State.commitSet (s : State) (who : Caller) (l : List StageEnt) : CommitResult :=
  match s.commitRun who s 0 l [] with
  | .error (n, c, t) => .failed n c t
  | .ok (t, bs) =>
    match bs.find? fun x => blockForbidden x.2 with
    | some (n, _) => .failed n Code.quiesceNeeded.value s
    | none =>
      let waits := bs.filterMap fun x => match x.2 with
        | .quiesce k _ => some (x.1, k)
        | _ => none
      if waits.isEmpty then .done t else .waits waits

/-- The blocks of a commit that can be quiesced start their quiesce: a port leaves Up and discards its queues (R166). -/
def State.startQuiesce (s : State) (l : List (Nat × Nat)) : State :=
  l.foldl (fun (t : State) x =>
    let p := x.2 % 2 ^ 24
    if x.2 / 2 ^ 24 = 2 ∧ t.portUp p then t.leaveUp p 3 else t) s

/-- Ports that a refused commit had quiesced restart with their values (R79). -/
def State.resumeBlocks (s : State) (l : List (Nat × Nat)) : State :=
  l.foldl (fun (t : State) x =>
    let p := x.2 % 2 ^ 24
    if x.2 / 2 ^ 24 = 2 ∧ t.portEnabled p ∧ t.pnum Od.portMode p ≠ 0 then t.bringUp p else t) s

end Sys2Proof.Machine
end

