-- ==== Sys2Proof/Machine/Dictionary.lean ====
section
/-! DEFINITION. Balmuene and the object windows: requests, sessions, replies and commits (R65 to R80, R90 to R102, R712). -/

namespace Sys2Proof.Machine

/-! ### Windows -/

def State.window (s : State) (k : Nat) : Window := tabGet .init s.dict.windows k

def State.setWindow (s : State) (k : Nat) (x : Window) : State :=
  s.setDict { s.dict with windows := tabSet .init s.dict.windows k x }

/-- A session number of a window: local window 0 to 63, the physical function, or virtual function 1 to 255. -/
def isWindow (k : Nat) : Bool := decide (2 ^ 32 ≤ k) && decide (k < 2 ^ 32 + 64 + 256)

/-- The role of a window and its bound selector (Table 2-3, R100): `nobody` where the binding grants none. -/
def State.windowRole (s : State) (k : Nat) : Role × Nat :=
  let n := k - 2 ^ 32
  if n < 64 then
    let b := s.windowBinding n
    match b / 4096 with
    | 2 => (.manager, 0)
    | 3 => (.tenant, b % 4096)
    | 4 => (.observer, 0)
    | _ => (.nobody, 0)
  else if n = 64 then (.manager, 0)
  else
    let v := s.num (Od.vfInstance + (n - 65))
    if v = 0xFFFF ∨ tabGet false s.inst.flr (n - 64) then (.nobody, 0) else (.tenant, v)

/-- The session of a window, from its first operation on. -/
def State.openWindow (s : State) (k : Nat) : State :=
  if (s.session k).isSome then s
  else
    let (role, inst) := s.windowRole k
    s.setSession k (some ⟨role, inst, .window k, 0, 0, 0, 0, 0, 0, true, 0, none, false, 0, 0, 0, [], none, none, []⟩)

/-! ### Replies -/

def State.sendReply (s : State) (addr port k : Nat) (r : Reply) : State :=
  (if r.status = 0 then s else s.count48 Od.balmueneRefusals).emit (.reply addr port k r)

/-- A request of session `k` ends with its reply: cached and sent to the requesters of a Balmuene session, or left for the
completion of a window. -/
def State.conclude (s : State) (k : Nat) (r : Reply) (dests : List (Nat × Nat)) : State :=
  if k < 2 ^ 32 then
    let t := match s.session k with
      | some x => s.setSession k (some { x with cached := some r, executing := false })
      | none => s
    dests.foldl (fun (u : State) a => u.sendReply a.1 a.2 k r) t
  else
    let w := s.window k
    if w.busy then s.setWindow k { w with result := some r } else s

/-! ### The rate of a session (R98) -/

def tokenUnit : Nat := 1000000000

/-- The tokens of a session now, in units of 10^−9. -/
def State.tokensNow (s : State) (x : Session) : Nat :=
  let r := s.num Od.balmueneRequestRate
  min (r * tokenUnit) (x.tokens + r * (s.gtc - x.tokensAt))

/-! ### Requests (R96 to R98) -/

/-- Balmuene is served: the management MAC is Up, the port is open, and the fast dies run. -/
def State.balmueneServed (s : State) : Bool :=
  s.num Od.mgmtLinkState != 0 && s.num Od.bootState != 3 && s.num Od.balmueneEnable == 1 && s.start.held.isNone

/-- What an operation of a session ends in: its status and body, or none while its commit waits for a quiesce. -/
abbrev Run := State → Caller → State × Option (Nat × ReplyBody)

def State.dropDatagram (s : State) : State := s.count48 Od.balmueneDropped

/-- The header fits the datagram (R92, R98). -/
def headerFits (h : Header) : Bool := h.version == 1 && h.length == h.body && decide (h.body + 16 ≤ 1400)

/-- The open session that a request names, on its own association. -/
def State.named (s : State) (h : Header) : Option Session :=
  if h.session < 2 ^ 32 then match s.session h.session with
    | some x => if x.assoc = h.assoc then some x else none
    | none => none
  else none

/-- A duplicate of the last accepted request (R96). -/
def State.duplicate (s : State) (h : Header) (x : Session) : State :=
  let t := s.count48 Od.balmueneDuplicates
  if x.executing then
    t.setDict { t.dict with quiesce := t.dict.quiesce.map fun j =>
      if j.sess = h.session then { j with replyTo := j.replyTo ++ [(h.addr, h.port)] } else j }
  else match x.cached with
    | some r => t.sendReply h.addr h.port h.session r
    | none => t

/-- A request of a Balmuene session: dropped, a duplicate, beyond the rate, or executed. `whole` says that no item overruns
the body. -/
def State.balmuene (s : State) (h : Header) (op : Nat) (whole : Bool) (run : Run) : State :=
  if !s.balmueneServed then s
  else if !(headerFits h && whole) then s.dropDatagram
  else match s.named h with
    | none => s.sendReply h.addr h.port h.session ⟨op + 0x80, Code.noSession.value, h.seq, .empty⟩
    | some x =>
      if h.seq = (x.lastSeq + 1) % 2 ^ 32 then
        if x.executing then s.dropDatagram
        else if s.tokensNow x < tokenUnit then
          s.sendReply h.addr h.port h.session ⟨op + 0x80, Code.rateLimited.value, h.seq, .empty⟩
        else
          let k := h.session
          let t := (s.count48 Od.balmueneRequests).setSession k (some { x with
            lastSeq := h.seq, firstDone := true, tokens := s.tokensNow x - tokenUnit, tokensAt := s.gtc
            lastRequest := s.gtc, executing := true, cached := none })
          match run t (x.caller k) with
          | (u, some (c, body)) => u.conclude k ⟨op + 0x80, c, h.seq, body⟩ [(h.addr, h.port)]
          | (u, none) => u.setDict { u.dict with quiesce := u.dict.quiesce.map fun j =>
              if j.sess = k ∧ !j.timed then { j with replyTo := [(h.addr, h.port)] } else j }
      else if h.seq = x.lastSeq then s.duplicate h x
      else s.dropDatagram

/-- An operation of a window (R100, R101): executed on a window that is not busy; a binding without a role executes
nothing. -/
def State.windowOp (s : State) (k op : Nat) (run : Run) : State :=
  if !isWindow k then s
  else
    let w := s.window k
    if w.busy then s.setWindow k { w with collision := true }
    else
      let (role, _) := s.windowRole k
      let t := s.setWindow k { w with busy := true, done := false, result := none }
      if role = .nobody then t.conclude k ⟨op + 0x80, Code.roleNotOnRoute.value, 0, .empty⟩ []
      else
        let t := t.openWindow k
        match t.session k with
        | none => t
        | some x => match run t (x.caller k) with
          | (u, some (c, body)) => u.conclude k ⟨op + 0x80, c, 0, body⟩ []
          | (u, none) => u

/-- Run an operation on the route it came by. -/
def runOn (via : Via) (op : Nat) (whole : Bool) (run : Run) (s : State) : State :=
  match via with
  | .balmuene h => s.balmuene h op whole run
  | .window k => s.windowOp k op run

/-- A window carries its values little-endian, and one operation on one object (R7, R100). -/
def viaWindow : Via → Bool
  | .balmuene _ => false
  | .window _ => true

/-! ### Items (R94, R95) -/

def itemId (i : Item) : Nat := i.index * 256 + i.sub

/-- The value of an item lies within the body. -/
def itemWhole (i : Item) : Bool := decide (i.len ≤ i.value.length)

/-- The octets that the Length field counts. -/
def itemOctets (i : Item) : Bytes := i.value.take i.len

/-- A value as its route carries it. -/
def octetsOf (window : Bool) (t : OType) (v : OVal) : Bytes :=
  match v, window with
  | .bytes b, _ => b
  | .num n, true => if t = .time then timeMemory n else toLE t.size n
  | .num n, false => toBE t.size n

/-- The code of the first refused item. -/
def firstCode (l : List ReplyItem) : Nat := ((l.map (·.code)).find? (· != 0)).getD 0

/-- The room that a value has in one reply: what is left of the message, or a window's value buffer. -/
def replyRoom (window : Bool) : Nat := if window then 3852 else 1384

/-- Read items in order: each has its code; a value that no longer fits the reply is not returned. -/
def State.getItems (s : State) (who : Caller) (window active : Bool) : Nat → List Item → List ReplyItem → State × List ReplyItem
  | _, [], acc => (s, acc)
  | room, i :: l, acc =>
    match s.readObject who (itemId i) i.present i.sel i.typ active with
    | (t, .error c) => t.getItems who window active (room - 12) l (acc ++ [⟨c.value, i.typ, []⟩])
    | (t, .ok (r, v)) =>
      let b := octetsOf window r.typ v
      let need := 12 + (b.length + 3) / 4 * 4
      if room < need then t.getItems who window active (room - 12) l (acc ++ [⟨Code.stringTooLong.value, r.typ.code, []⟩])
      else t.getItems who window active (room - need) l (acc ++ [⟨0, r.typ.code, b⟩])

/-- Write or stage items in order. -/
def State.writeItems (s : State) (f : State → Item → State × Nat) : List Item → List ReplyItem → State × List ReplyItem
  | [], acc => (s, acc)
  | i :: l, acc =>
    let (t, c) := f s i
    t.writeItems f l (acc ++ [⟨c, i.typ, []⟩])

/-- The number of items that a Get, Put or Stage carries on its route. -/
def itemsOk (via : Via) (l : List Item) : Bool :=
  decide (1 ≤ l.length) && decide (l.length ≤ (if viaWindow via then 1 else 64))

def itemsRun (via : Via) (l : List Item) (f : State → Caller → State × List ReplyItem) : Run := fun s who =>
  if itemsOk via l then
    let (t, r) := f s who
    (t, some (firstCode r, .items r))
  else (s, some (Code.malformed.value, .empty))

/-- GET. -/
def execGet (via : Via) (active : Bool) (items : List Item) (s : State) : Res :=
  .next (runOn via 0x10 true (itemsRun via items fun t who =>
    t.getItems who (viaWindow via) active (replyRoom (viaWindow via)) items []) s)

/-- PUT. -/
def execPut (via : Via) (items : List Item) (s : State) : Res :=
  .next (runOn via 0x11 (items.all itemWhole) (itemsRun via items fun t who =>
    t.writeItems (fun u i => u.putObject who who.sess (itemId i) i.present i.sel i.typ (itemOctets i)) items []) s)

/-- STAGE. -/
def execStage (via : Via) (items : List Item) (s : State) : Res :=
  .next (runOn via 0x12 (items.all itemWhole) (itemsRun via items fun t who =>
    t.writeItems (fun u i => u.after (u.stageObject who who.sess (itemId i) i.present i.sel i.typ (itemOctets i))) items []) s)

/-! ### Commits (R72 to R79) -/

/-- The session with its stage set empty. -/
def State.clearStage (s : State) (k : Nat) : State := match s.session k with
  | some x => s.setSession k (some { x with stage := [] })
  | none => s

/-- A commit waits for its blocks. -/
def State.waitCommit (s : State) (k : Nat) (timed : Bool) (l : List StageEnt) (blocks : List (Nat × Nat)) : State :=
  let t := s.startQuiesce blocks
  t.setDict { t.dict with quiesce := t.dict.quiesce ++ [⟨k, timed, l, blocks, s.gtc, []⟩] }

def commitRunNow : Run := fun s who =>
  match s.session who.sess with
  | none => (s, some (Code.noSession.value, .empty))
  | some x => match s.commitSet who x.stage with
    | .done t => (t.clearStage who.sess, some (0, .commit 0xFFFF 0 s.gtc))
    | .failed n c t => (t, some (c, .commit n c 0))
    | .waits l => (s.waitCommit who.sess false x.stage l, none)

/-- COMMIT, with the Now mode. -/
def execCommit (via : Via) (s : State) : Res := .next (runOn via 0x13 true commitRunNow s)

/-- The checks of R74 before the entries, and the form of the TIME (R61). -/
def State.checkTimed (s : State) (x : Session) (d time : Nat) : Except Code Unit := do
  need (decide (time / 2 ^ 16 % 2 ^ 32 ≤ 999999999) && decide (d ≤ 7)) .outOfRange
  need x.timed.isNone .inProgress
  need ((s.dom d).state != 0) .precondition
  need (decide ((s.dom d).valueAt s.gtc ≤ valueOfTime time)) .timeInPast

/-- The held timed commits. -/
def State.timedHeld (s : State) : List TimedCommit := s.dict.sessions.filterMap fun x => x.2.bind Session.timed

/-- The place of a new one in the order of acceptance. -/
def State.timedOrder (s : State) : Nat := s.timedHeld.foldl (fun n c => max n (c.order + 1)) 0

def commitRunAt (d time : Nat) : Run := fun s who =>
  match s.session who.sess with
  | none => (s, some (Code.noSession.value, .empty))
  | some x => match s.checkTimed x d time with
    | .error c => (s, some (c.value, .commit 0xFFFF c.value 0))
    | .ok _ => match s.commitRun who s 0 x.stage [] with
      | .error (n, c, t) => (t, some (c, .commit n c 0))
      | .ok _ =>
        (s.setSession who.sess (some { x with stage := [], timed := some ⟨d, (valueOfTime time / 2 ^ 32).toNat, x.stage, s.timedOrder⟩ }),
          some (0, .commit 0xFFFF 0 0))

/-- COMMIT_AT, with the At mode. -/
def execCommitAt (via : Via) (dom time : Nat) (s : State) : Res := .next (runOn via 0x13 true (commitRunAt dom time) s)

/-- DISCARD (R75). -/
def execDiscard (via : Via) (s : State) : Res :=
  .next (runOn via 0x14 true (fun t who => (match t.session who.sess with
    | some x => t.setSession who.sess (some { x with stage := [], timed := none })
    | none => t, some (0, .empty))) s)

/-- A failed timed commit raises its event (R75): the session, the failing entry and its code. -/
def State.failTimed (s : State) (k entry code : Nat) : State := s.raiseOcc 0xE03 0x8B (k % 2 ^ 24) 2 (entry + code * 2 ^ 16)

/-- A commit that waited ends. -/
def State.commitEnds (s : State) (j : QuiesceJob) (entry code : Nat) : State :=
  if j.timed then (if code = 0 then s else s.failTimed j.sess entry code)
  else s.conclude j.sess ⟨0x93, code, (match s.session j.sess with
    | some x => x.lastSeq
    | none => 0), .commit entry code (if code = 0 then s.gtc else 0)⟩ j.replyTo

def State.jobOf (s : State) (k : Nat) : Option QuiesceJob := s.dict.quiesce.find? fun j => j.sess == k

def State.dropJob (s : State) (j : QuiesceJob) : State :=
  s.setDict { s.dict with quiesce := s.dict.quiesce.filter fun i => i != j }

/-- Every quiesced block has finished: the values are checked once more and applied, and the blocks resume. -/
def quiesceComplete (k : Nat) (s : State) : State :=
  match s.jobOf k, s.session k with
  | some j, some x =>
    let t := s.dropJob j
    match t.commitRun (x.caller k) t 0 j.ents [] with
    | .error (n, c, u) => (u.resumeBlocks j.waiting).commitEnds j n c
    | .ok (u, bs) => match bs.find? fun y => blockForbidden y.2 with
      | some (n, _) => (t.resumeBlocks j.waiting).commitEnds j n Code.quiesceNeeded.value
      | none => ((if j.timed then u else u.clearStage k).commitEnds j 0xFFFF 0)
  | _, _ => s

def execQuiesceComplete (sess : Nat) (s : State) : Res := .next (quiesceComplete sess s)

/-- QUIESCE_TIMEOUT: 10 ms after the start the commit is refused, naming the first entry whose block has not finished. -/
def quiesceTimeout (k : Nat) (s : State) : State :=
  match s.jobOf k with
  | some j =>
    if s.gtc < j.start + 10000000 then s
    else ((s.dropJob j).resumeBlocks j.waiting).commitEnds j ((j.waiting.head?.map (·.1)).getD 0) Code.quiesceTimeout.value
  | none => s

def execQuiesceTimeout (sess : Nat) (s : State) : Res := .next (quiesceTimeout sess s)

/-- A held timed commit whose domain has reached the named time. -/
def State.timedDue (s : State) (c : TimedCommit) : Bool :=
  (s.dom c.dom).state != 0 && decide ((c.time : Int) * 2 ^ 32 ≤ (s.dom c.dom).valueAt s.gtc)

/-- TIMED_COMMIT_APPLY: the domain has reached the named time (R75, R76). Commits of different sessions are applied in the
order in which they were accepted, so one waits for a due one that was accepted before it. -/
def timedApply (k : Nat) (s : State) : State :=
  match s.session k with
  | none => s
  | some x => match x.timed with
    | none => s
    | some c =>
      if ¬ s.timedDue c ∨ s.timedHeld.any (fun o => s.timedDue o && decide (o.order < c.order)) then s
      else
        let t := s.setSession k (some { x with timed := none })
        match t.commitSet (x.caller k) c.ents with
        | .done u => u
        | .failed n e u => u.failTimed k n e
        | .waits l => t.waitCommit k true c.ents l

def execTimedCommitApply (sess : Nat) (s : State) : Res := .next (timedApply sess s)

/-! ### Describe and segments (R95) -/

def Apply.ascii : Apply → Nat
  | .I => 0x49 | .S => 0x53 | .B => 0x42 | .T => 0x54 | .F => 0x46

/-- The bounds of an object's range, where they apply. -/
def ObjectRow.bounds (r : ObjectRow) (window : Bool) : Bytes × Bytes :=
  let enc (n : Nat) : Bytes := octetsOf window r.typ (.num n)
  match r.range with
  | .nat lo hi => (enc lo, enc hi)
  | .int lo hi => (enc (ofInt (8 * r.typ.size) lo), enc (ofInt (8 * r.typ.size) hi))
  | .float lo hi => (enc lo, enc hi)
  | _ => ([], [])

/-- The Attributes of Table 2-9. -/
def State.attributesOf (s : State) (r : ObjectRow) (id : Nat) : Nat :=
  boolNat r.liveSafe + 2 * boolNat (r.sel != .none) + 4 * boolNat r.persistent + 8 * boolNat (s.lockedRange id)

def describeRun (window : Bool) (i : Item) : Run := fun s _ =>
  match s.checkAddress (itemId i) i.present i.sel with
  | .error c => (s, some (c.value, .empty))
  | .ok r =>
    let (lo, hi) := r.bounds window
    (s, some (0, .describe r.typ.code r.apply.ascii (s.attributesOf r (itemId i)) [r.owner, r.manager, r.tenant, r.observer]
      r.maxLength (octetsOf window r.typ (objDefault (itemId i))) lo hi r.name))

/-- DESCRIBE. -/
def execDescribe (via : Via) (item : Item) (s : State) : Res :=
  .next (runOn via 0x15 true (describeRun (viaWindow via) item) s)

def readSegmentRun (window : Bool) (i : Item) (offset count : Nat) : Run := fun s who =>
  match s.readObject who (itemId i) i.present i.sel i.typ false with
  | (t, .error c) => (t, some (c.value, .items [⟨c.value, i.typ, []⟩]))
  | (t, .ok (r, v)) =>
    let b := octetsOf window r.typ v
    let c := if b.length < offset ∨ replyRoom window < 12 + (count + 3) / 4 * 4 then Code.outOfRange.value else 0
    (t, some (c, .items [⟨c, r.typ.code, if c = 0 then (b.drop offset).take count else []⟩]))

/-- READ_SEGMENT. -/
def execReadSegment (via : Via) (item : Item) (offset count : Nat) (s : State) : Res :=
  .next (runOn via 0x16 true (readSegmentRun (viaWindow via) item offset count) s)

/-- A segment joins the session's buffer, and the object is written with its last octet. -/
def State.writeSegment (s : State) (who : Caller) (i : Item) (offset : Nat) : State × Nat :=
  match (do
    let r ← s.checkAddress (itemId i) i.present i.sel
    s.checkWriter who r (itemId i) i.sel
    need (i.typ == r.typ.code && (r.typ == .blob || r.typ == .str)) .typeMismatch
    s.checkBoot who (itemId i)
    .ok r : Except Code ObjectRow), s.session who.sess with
  | .error c, _ => (s, c.value)
  | .ok _, none => (s, Code.noSession.value)
  | .ok r, some x =>
    let old := if x.segObject = some ((itemId i), i.sel) then x.segBuffer else []
    let put (b : Bytes) : State :=
      s.setSession who.sess (some { x with segObject := if b.isEmpty then none else some ((itemId i), i.sel), segBuffer := b })
    if old.length < offset then (put old, Code.outOfRange.value)
    else if r.maxLength < offset + (itemOctets i).length then (put old, Code.stringTooLong.value)
    else
      let b := splice old offset (itemOctets i)
      if offset + (itemOctets i).length = r.maxLength then (put []).putObject who who.sess (itemId i) i.present i.sel i.typ b
      else (put b, 0)

/-- WRITE_SEGMENT. -/
def execWriteSegment (via : Via) (item : Item) (offset : Nat) (s : State) : Res :=
  .next (runOn via 0x17 (itemWhole item) (fun t who =>
    let (u, c) := t.writeSegment who item offset
    (u, some (c, .items [⟨c, item.typ, []⟩]))) s)

/-! ### Opening and ending sessions (R97, R99, R712) -/

/-- The role of a number, R63. -/
def roleOf : Nat → Role
  | 1 => .owner
  | 2 => .manager
  | 3 => .tenant
  | 4 => .observer
  | _ => .nobody

/-- The checks of an Open (R712), and the restart that takes no new session (Table 19-4). -/
def State.checkOpen (s : State) (h : Header) (role reserved sel : Nat) : Except Code Unit := do
  need (reserved == 0) .reservedBitSet
  need (decide (1 ≤ role) && decide (role ≤ 4) && (role == 3 || sel == 0)) .outOfRange
  need (h.assoc != 0 || (role == 4 && s.num Od.balmuenePlainObserver == 1)) .roleNotOnRoute
  need (role == 4 || match tabGet none s.dict.assocs h.assoc with
    | some a => (s.grantingEntry a.client role sel).isSome
    | none => false) .notAuthenticated
  need (role != 3 || s.instExists sel) .noSuchObject
  need s.start.warm.isNone .busy
  need (decide (s.balmueneOpen < 32)) .sessionLimit

/-- A session number that is free: which one is open. -/
def State.freshSession (s : State) : Nat :=
  let a := s.free % (2 ^ 32 - 1)
  (((numbersFrom a 64).map fun n => n % (2 ^ 32 - 1) + 1).find? fun k => (s.session k).isNone).getD (a + 1)

/-- The session that an Open duplicates (R99). -/
def State.openedBy (s : State) (h : Header) : Option (Nat × Session) :=
  s.dict.sessions.findSome? fun y => match y.2 with
    | some x => if y.1 < 2 ^ 32 ∧ !x.firstDone ∧ x.addr = h.addr ∧ x.port = h.port ∧ x.assoc = h.assoc ∧ x.openSeq = h.seq
        then some (y.1, x) else none
    | none => none

/-- OPEN on Balmuene. -/
def State.openBalmuene (s : State) (h : Header) (role reserved sel : Nat) : State :=
  if !s.balmueneServed || (h.assoc != 0 && (tabGet none s.dict.assocs h.assoc).isNone) then s
  else if !(headerFits h && h.body == 4) then s.dropDatagram
  else match s.openedBy h with
    | some (k, x) => s.duplicate { h with session := k } x
    | none => match s.checkOpen h role reserved sel with
      | .error c => s.sendReply h.addr h.port 0 ⟨0x81, c.value, h.seq, .empty⟩
      | .ok _ =>
        let k := s.freshSession
        let rate := s.num Od.balmueneRequestRate * tokenUnit
        let r : Reply := ⟨0x81, 0, h.seq, .opened k 1400 (s.num Od.balmueneSessionTimeout / 1000)⟩
        let x : Session := ⟨roleOf role, sel, if h.assoc = 0 then .udp else .dtls, h.addr, h.port, h.assoc, h.seq, role, sel,
          false, h.seq, some r, false, rate, s.gtc, s.gtc, [], none, none, []⟩
        ((s.tookFree.count48 Od.balmueneRequests).setSession k (some x)).sendReply h.addr h.port k r

/-- OPEN: no other route carries one (R712, Table 2-12). -/
def execOpenSession (h : Header) (route : Route) (role reserved sel : Nat) (s : State) : Res :=
  let refused : Run := fun t _ => (t, some (Code.malformed.value, .empty))
  .next (match route with
    | .dtls => s.openBalmuene h role reserved sel
    | .udp => s.openBalmuene h role reserved sel
    | .window w => s.windowOp (windowSession w) 1 refused
    | .pf => s.windowOp (functionSession 0) 1 refused
    | .vf n => s.windowOp (functionSession n) 1 refused)

/-- CLOSE (R97). -/
def execClose (h : Header) (s : State) : Res :=
  .next (s.balmuene h 2 true fun t who => (t.endSession who.sess, some (0, .empty)))

/-- KEEPALIVE. -/
def execKeepalive (h : Header) (s : State) : Res := .next (s.balmuene h 3 true fun t _ => (t, some (0, .empty)))

/-- SESSION_TIMEOUT: no request for the idle time (R97). -/
def sessionTimeout (k : Nat) (s : State) : State :=
  match s.session k with
  | some x =>
    if k < 2 ^ 32 ∧ x.lastRequest + s.num Od.balmueneSessionTimeout * 1000000 ≤ s.gtc then s.endSession k else s
  | none => s

def execSessionTimeout (sess : Nat) (s : State) : Res := .next (sessionTimeout sess s)

/-- DTLS_HANDSHAKE (R91): the stateless cookie exchange, or the end of a handshake, for at most 32 associations. -/
def dtlsHandshake (addr port assoc : Nat) (cookie : Bool) (client : DtlsClient) (ok : Bool) (s : State) : State :=
  if !s.balmueneServed then s
  else if cookie then s.emit (.dtls addr port true true)
  else
    let good := ok && assoc != 0 && (tabGet none s.dict.assocs assoc).isNone && decide (s.dict.assocs.length < 32)
    let t := if good then s.setDict { s.dict with assocs := tabSet none s.dict.assocs assoc (some ⟨false, client, addr, port⟩) }
      else s.count32 Od.balmueneHandshakeFailures
    t.emit (.dtls addr port false good)

def execDtlsHandshake (addr port assoc : Nat) (cookie : Bool) (client : DtlsClient) (ok : Bool) (s : State) : Res :=
  .next (dtlsHandshake addr port assoc cookie client ok s)

/-- DTLS_ASSOCIATION_END: every session on the association ends (R97). -/
def dtlsEnd (assoc : Nat) (s : State) : State :=
  if assoc = 0 then s
  else
    let t := (s.sessionsWith fun _ x => x.assoc == assoc).foldl State.endSession s
    t.setDict { t.dict with assocs := tabSet none t.dict.assocs assoc none }

def execDtlsAssociationEnd (assoc : Nat) (s : State) : Res := .next (dtlsEnd assoc s)

/-! ### Window registers (Tables 2-10 to 2-13) -/

/-- LOCAL_WINDOW_BINDING (R89). -/
def localWindowBinding (who : Caller) (w v : Nat) (s : State) : Act := do
  let id := Od.localWindowBinding + w
  let r ← s.gate who id false 0 (.num v)
  checkValue r id (.num v)
  s.checkChapter who id 0 (.num v)
  .ok ((s.applyChapter id 0 (.num v)).bumpVersion id 0)

def execLocalWindowBinding (who : Caller) (w value : Nat) (s : State) : Res :=
  .next (s.answer who (localWindowBinding who w value s))

/-- WIN_CONTROL_COLLISION (R101). -/
def winControlCollision (k : Nat) (s : State) : State :=
  let w := s.window k
  if w.busy then s.setWindow k { w with collision := true } else s

def execWinControlCollision (w value : Nat) (s : State) : Res :=
  .next (if value < 2 ^ 32 then winControlCollision w s else s)

/-- A length, a value and its padding of Table 2-9. -/
def described (window : Bool) (b : Bytes) : Bytes :=
  (if window then toLE 2 b.length else toBE 2 b.length) ++ b ++ List.replicate ((4 - b.length % 4) % 4) 0

/-- What WinData holds after an operation, and the value length. -/
def windowData : ReplyBody → Bytes × Nat
  | .items [x] => (x.value, x.value.length)
  | .commit e _ g => (toLE 2 e ++ List.replicate 6 0 ++ toLE 8 g, 16)
  | .bytes b => (b, b.length)
  | .describe typ apply attributes access maxLength dflt lo hi name =>
    let b := toLE 1 typ ++ toLE 1 apply ++ toLE 2 attributes ++ access.flatMap (toLE 1) ++ toLE 2 maxLength ++ [0, 0]
      ++ described true dflt ++ described true lo ++ described true hi ++ described true (ascii name)
    (b, b.length)
  | _ => ([], 0)

/-- The source, kind and number of a window's completion event. -/
def windowSource (k : Nat) : Nat × Nat × Nat :=
  let n := k - 2 ^ 32
  if n < 64 then (0xC40 + n, 0x80, 0) else if n = 64 then (0xE02, 0x80, 0) else (0xE02, 0x0D, n - 65)

/-- WINDOW_COMPLETION (R102): Done and the code are set, the result lies in WinData, and the event is raised if
InterruptOnDone asks for it. -/
def windowCompletion (k : Nat) (s : State) : State :=
  let w := s.window k
  match w.busy, w.result with
  | true, some r =>
    let (b, n) := windowData r.body
    let t := s.setWindow k { w with
      busy := false, done := true, code := r.status, result := none
      length := if n = 0 then w.length else n
      data := if n = 0 then w.data else splice (slice w.data 0 3840) 0 (b.take 3840) }
    if w.control.testBit 10 then
      let (src, kind, num) := windowSource k
      t.raiseDone src kind num (w.object / 256) r.status
    else t
  | _, _ => s

def execWindowCompletion (w : Nat) (s : State) : Res := .next (windowCompletion w s)

end Sys2Proof.Machine
end

