-- ==== Sys2Proof/Machine/IsaWords.lean ====
section
/-! DEFINITION. The words of the scan instruction set (Tables 11-3 to 11-13): encoding, decoding and cycles. -/

namespace Sys2Proof.Machine

/-- A scan instruction with the fields of its word (Tables 11-4 to 11-12). -/
inductive IsaOp where
  | addi (d a : Fin 32) (imm : Fin 65536)
  | andi (d a : Fin 32) (imm : Fin 65536)
  | ori (d a : Fin 32) (imm : Fin 65536)
  | xori (d a : Fin 32) (imm : Fin 65536)
  | cati (d a : Fin 32) (imm : Fin 65536)
  | ldb (d a : Fin 32) (imm : Fin 65536)
  | ldbu (d a : Fin 32) (imm : Fin 65536)
  | ldh (d a : Fin 32) (imm : Fin 65536)
  | ldhu (d a : Fin 32) (imm : Fin 65536)
  | ldw (d a : Fin 32) (imm : Fin 65536)
  | ldwu (d a : Fin 32) (imm : Fin 65536)
  | ldd (d a : Fin 32) (imm : Fin 65536)
  | fldw (d a : Fin 32) (imm : Fin 65536)
  | stb (d a : Fin 32) (imm : Fin 65536)
  | sth (d a : Fin 32) (imm : Fin 65536)
  | stw (d a : Fin 32) (imm : Fin 65536)
  | std (d a : Fin 32) (imm : Fin 65536)
  | fstw (d a : Fin 32) (imm : Fin 65536)
  | shiSll (d a : Fin 32) (amount : Fin 64)
  | shiSrl (d a : Fin 32) (amount : Fin 64)
  | shiSra (d a : Fin 32) (amount : Fin 64)
  | cmpi (a : Fin 32) (imm : Fin 65536)
  | movi (d : Fin 32) (imm : Fin 65536)
  | bCmd (cond : Fin 16) (offset : Fin 4194304)
  | bl (offset : Fin 67108864)
  | jr (d a : Fin 32)
  | bz (a : Fin 32) (offset : Fin 2097152)
  | bnz (a : Fin 32) (offset : Fin 2097152)
  | add (d a b : Fin 32)
  | sub (d a b : Fin 32)
  | adds (d a b : Fin 32)
  | subs (d a b : Fin 32)
  | mul (d a b : Fin 32)
  | muls (d a b : Fin 32)
  | mulh (d a b : Fin 32)
  | mulhu (d a b : Fin 32)
  | div (d a b : Fin 32)
  | divu (d a b : Fin 32)
  | rem (d a b : Fin 32)
  | remu (d a b : Fin 32)
  | andCmd (d a b : Fin 32)
  | orCmd (d a b : Fin 32)
  | xor (d a b : Fin 32)
  | andn (d a b : Fin 32)
  | sll (d a b : Fin 32)
  | srl (d a b : Fin 32)
  | sra (d a b : Fin 32)
  | minCmd (d a b : Fin 32)
  | maxCmd (d a b : Fin 32)
  | minu (d a b : Fin 32)
  | maxu (d a b : Fin 32)
  | neg (d a : Fin 32)
  | negs (d a : Fin 32)
  | abs (d a : Fin 32)
  | abss (d a : Fin 32)
  | notCmd (d a : Fin 32)
  | sext8 (d a : Fin 32)
  | sext16 (d a : Fin 32)
  | sext32 (d a : Fin 32)
  | zext8 (d a : Fin 32)
  | zext16 (d a : Fin 32)
  | zext32 (d a : Fin 32)
  | sat16 (d a : Fin 32)
  | sat32 (d a : Fin 32)
  | clz (d a : Fin 32)
  | cmp (a b : Fin 32)
  | sel (cond : Fin 16) (d a b : Fin 32)
  | fadd (d a b : Fin 32)
  | fsub (d a b : Fin 32)
  | fmul (d a b : Fin 32)
  | fdiv (d a b : Fin 32)
  | fmin (d a b : Fin 32)
  | fmax (d a b : Fin 32)
  | feq (d a b : Fin 32)
  | flt (d a b : Fin 32)
  | fle (d a b : Fin 32)
  | fsqrt (d a : Fin 32)
  | fabs (d a : Fin 32)
  | fneg (d a : Fin 32)
  | fmov (d a : Fin 32)
  | fclass (d a : Fin 32)
  | fcvtfl (d a : Fin 32)
  | fcvtflu (d a : Fin 32)
  | fcvtlf (d a : Fin 32)
  | fcvtlfz (d a : Fin 32)
  | fmvgf (d a : Fin 32)
  | fmvfg (d a : Fin 32)
  | frndn (d a : Fin 32)
  | frndz (d a : Fin 32)
  | frndm (d a : Fin 32)
  | frndp (d a : Fin 32)
  | fmadd (d a b c : Fin 32)
  | fmsub (d a b c : Fin 32)
  | fnmsub (d a b c : Fin 32)
  | fnmadd (d a b c : Fin 32)
  | cadd (d a b : Fin 32)
  | csub (d a b : Fin 32)
  | cmul (d a b : Fin 32)
  | cmulc (d a b : Fin 32)
  | cscl (d a b : Fin 32)
  | crot (d a b : Fin 32)
  | cpol (d a b : Fin 32)
  | cabs (d a : Fin 32)
  | carg (d a : Fin 32)
  | ient (d a : Fin 32)
  | ielt (d a b : Fin 32)
  | iqual (d a b : Fin 32)
  | tdiff (d a b : Fin 32)
  | tadd (d a b : Fin 32)
  | qcls (d a selector : Fin 32)
  | nop
  | endscan
  | clrf
  | abort
  | rdsr (d sr : Fin 32)
  | wrsr (a sr : Fin 32)
  deriving DecidableEq, Repr

/-- Format R: op, d, a, b, func. -/
def encR (op d a b func : Nat) : Nat := op * 2 ^ 26 + d * 2 ^ 21 + a * 2 ^ 16 + b * 2 ^ 11 + func

/-- Format I: op, d, a, imm. -/
def encI (op d a imm : Nat) : Nat := op * 2 ^ 26 + d * 2 ^ 21 + a * 2 ^ 16 + imm

/-- The word of a scan instruction. -/
def isaWord : IsaOp → Nat
  | .addi d a imm => (encI 0x03 d a imm)
  | .andi d a imm => (encI 0x04 d a imm)
  | .ori d a imm => (encI 0x05 d a imm)
  | .xori d a imm => (encI 0x06 d a imm)
  | .cati d a imm => (encI 0x0a d a imm)
  | .ldb d a imm => (encI 0x10 d a imm)
  | .ldbu d a imm => (encI 0x11 d a imm)
  | .ldh d a imm => (encI 0x12 d a imm)
  | .ldhu d a imm => (encI 0x13 d a imm)
  | .ldw d a imm => (encI 0x14 d a imm)
  | .ldwu d a imm => (encI 0x15 d a imm)
  | .ldd d a imm => (encI 0x16 d a imm)
  | .fldw d a imm => (encI 0x17 d a imm)
  | .stb d a imm => (encI 0x18 d a imm)
  | .sth d a imm => (encI 0x19 d a imm)
  | .stw d a imm => (encI 0x1a d a imm)
  | .std d a imm => (encI 0x1b d a imm)
  | .fstw d a imm => (encI 0x1c d a imm)
  | .shiSll d a n => (encI 0x07 d a (0 * 64 + n))
  | .shiSrl d a n => (encI 0x07 d a (1 * 64 + n))
  | .shiSra d a n => (encI 0x07 d a (2 * 64 + n))
  | .cmpi a imm => (encI 0x08 0 a imm)
  | .movi d imm => (encI 0x09 d 0 imm)
  | .bCmd c off => (0x20 * 2 ^ 26 + c * 2 ^ 22 + off)
  | .bl off => (0x21 * 2 ^ 26 + off)
  | .jr d a => (encR 0x22 d a 0 0)
  | .bz a off => (0x23 * 2 ^ 26 + a * 2 ^ 21 + off)
  | .bnz a off => (0x24 * 2 ^ 26 + a * 2 ^ 21 + off)
  | .add d a b => (encR 0x02 d a b 0x000)
  | .sub d a b => (encR 0x02 d a b 0x001)
  | .adds d a b => (encR 0x02 d a b 0x002)
  | .subs d a b => (encR 0x02 d a b 0x003)
  | .mul d a b => (encR 0x02 d a b 0x010)
  | .muls d a b => (encR 0x02 d a b 0x011)
  | .mulh d a b => (encR 0x02 d a b 0x012)
  | .mulhu d a b => (encR 0x02 d a b 0x013)
  | .div d a b => (encR 0x02 d a b 0x014)
  | .divu d a b => (encR 0x02 d a b 0x015)
  | .rem d a b => (encR 0x02 d a b 0x016)
  | .remu d a b => (encR 0x02 d a b 0x017)
  | .andCmd d a b => (encR 0x02 d a b 0x020)
  | .orCmd d a b => (encR 0x02 d a b 0x021)
  | .xor d a b => (encR 0x02 d a b 0x022)
  | .andn d a b => (encR 0x02 d a b 0x023)
  | .sll d a b => (encR 0x02 d a b 0x030)
  | .srl d a b => (encR 0x02 d a b 0x031)
  | .sra d a b => (encR 0x02 d a b 0x032)
  | .minCmd d a b => (encR 0x02 d a b 0x040)
  | .maxCmd d a b => (encR 0x02 d a b 0x041)
  | .minu d a b => (encR 0x02 d a b 0x042)
  | .maxu d a b => (encR 0x02 d a b 0x043)
  | .neg d a => (encR 0x02 d a 0 0x004)
  | .negs d a => (encR 0x02 d a 0 0x005)
  | .abs d a => (encR 0x02 d a 0 0x006)
  | .abss d a => (encR 0x02 d a 0 0x007)
  | .notCmd d a => (encR 0x02 d a 0 0x024)
  | .sext8 d a => (encR 0x02 d a 0 0x050)
  | .sext16 d a => (encR 0x02 d a 0 0x051)
  | .sext32 d a => (encR 0x02 d a 0 0x052)
  | .zext8 d a => (encR 0x02 d a 0 0x053)
  | .zext16 d a => (encR 0x02 d a 0 0x054)
  | .zext32 d a => (encR 0x02 d a 0 0x055)
  | .sat16 d a => (encR 0x02 d a 0 0x056)
  | .sat32 d a => (encR 0x02 d a 0 0x057)
  | .clz d a => (encR 0x02 d a 0 0x058)
  | .fadd d a b => (encR 0x28 d a b 0x000)
  | .fsub d a b => (encR 0x28 d a b 0x001)
  | .fmul d a b => (encR 0x28 d a b 0x002)
  | .fdiv d a b => (encR 0x28 d a b 0x003)
  | .fmin d a b => (encR 0x28 d a b 0x005)
  | .fmax d a b => (encR 0x28 d a b 0x006)
  | .feq d a b => (encR 0x28 d a b 0x010)
  | .flt d a b => (encR 0x28 d a b 0x011)
  | .fle d a b => (encR 0x28 d a b 0x012)
  | .fsqrt d a => (encR 0x28 d a 0 0x004)
  | .fabs d a => (encR 0x28 d a 0 0x007)
  | .fneg d a => (encR 0x28 d a 0 0x008)
  | .fmov d a => (encR 0x28 d a 0 0x009)
  | .fclass d a => (encR 0x28 d a 0 0x013)
  | .fcvtfl d a => (encR 0x28 d a 0 0x020)
  | .fcvtflu d a => (encR 0x28 d a 0 0x021)
  | .fcvtlf d a => (encR 0x28 d a 0 0x022)
  | .fcvtlfz d a => (encR 0x28 d a 0 0x023)
  | .fmvgf d a => (encR 0x28 d a 0 0x024)
  | .fmvfg d a => (encR 0x28 d a 0 0x025)
  | .frndn d a => (encR 0x28 d a 0 0x030)
  | .frndz d a => (encR 0x28 d a 0 0x031)
  | .frndm d a => (encR 0x28 d a 0 0x032)
  | .frndp d a => (encR 0x28 d a 0 0x033)
  | .cadd d a b => (encR 0x2c d a b 0x000)
  | .csub d a b => (encR 0x2c d a b 0x001)
  | .cmul d a b => (encR 0x2c d a b 0x002)
  | .cmulc d a b => (encR 0x2c d a b 0x003)
  | .cscl d a b => (encR 0x2c d a b 0x004)
  | .crot d a b => (encR 0x2c d a b 0x007)
  | .cpol d a b => (encR 0x2c d a b 0x008)
  | .cabs d a => (encR 0x2c d a 0 0x005)
  | .carg d a => (encR 0x2c d a 0 0x006)
  | .ielt d a b => (encR 0x2d d a b 0x001)
  | .iqual d a b => (encR 0x2d d a b 0x002)
  | .tdiff d a b => (encR 0x2d d a b 0x010)
  | .tadd d a b => (encR 0x2d d a b 0x011)
  | .ient d a => (encR 0x2d d a 0 0x000)
  | .cmp a b => (encR 0x02 0 a b 0x008)
  | .sel c d a b => (encR 0x02 d a b (0x060 + c))
  | .fmadd d a b c => (0x29 * 2 ^ 26 + d * 2 ^ 21 + a * 2 ^ 16 + b * 2 ^ 11 + c * 2 ^ 6 + 0)
  | .fmsub d a b c => (0x29 * 2 ^ 26 + d * 2 ^ 21 + a * 2 ^ 16 + b * 2 ^ 11 + c * 2 ^ 6 + 1)
  | .fnmsub d a b c => (0x29 * 2 ^ 26 + d * 2 ^ 21 + a * 2 ^ 16 + b * 2 ^ 11 + c * 2 ^ 6 + 2)
  | .fnmadd d a b c => (0x29 * 2 ^ 26 + d * 2 ^ 21 + a * 2 ^ 16 + b * 2 ^ 11 + c * 2 ^ 6 + 3)
  | .qcls d a k => (encR 0x2d d a k 0x003)
  | .nop => (encR 0x01 0 0 0 0)
  | .endscan => (encR 0x01 0 0 0 1)
  | .clrf => (encR 0x01 0 0 0 4)
  | .abort => (encR 0x01 0 0 0 5)
  | .rdsr d k => (encR 0x01 d 0 k 2)
  | .wrsr a k => (encR 0x01 0 a k 3)

/-- The integer group (Table 11-6). -/
def decodeInt (d a b : Fin 32) (func : Nat) : Option IsaOp :=
  match func with
  | 0x000 => some (.add d a b)
  | 0x001 => some (.sub d a b)
  | 0x002 => some (.adds d a b)
  | 0x003 => some (.subs d a b)
  | 0x004 => if b = 0 then some (.neg d a) else none
  | 0x005 => if b = 0 then some (.negs d a) else none
  | 0x006 => if b = 0 then some (.abs d a) else none
  | 0x007 => if b = 0 then some (.abss d a) else none
  | 0x008 => if d = 0 then some (.cmp a b) else none
  | 0x010 => some (.mul d a b)
  | 0x011 => some (.muls d a b)
  | 0x012 => some (.mulh d a b)
  | 0x013 => some (.mulhu d a b)
  | 0x014 => some (.div d a b)
  | 0x015 => some (.divu d a b)
  | 0x016 => some (.rem d a b)
  | 0x017 => some (.remu d a b)
  | 0x020 => some (.andCmd d a b)
  | 0x021 => some (.orCmd d a b)
  | 0x022 => some (.xor d a b)
  | 0x023 => some (.andn d a b)
  | 0x024 => if b = 0 then some (.notCmd d a) else none
  | 0x030 => some (.sll d a b)
  | 0x031 => some (.srl d a b)
  | 0x032 => some (.sra d a b)
  | 0x040 => some (.minCmd d a b)
  | 0x041 => some (.maxCmd d a b)
  | 0x042 => some (.minu d a b)
  | 0x043 => some (.maxu d a b)
  | 0x050 => if b = 0 then some (.sext8 d a) else none
  | 0x051 => if b = 0 then some (.sext16 d a) else none
  | 0x052 => if b = 0 then some (.sext32 d a) else none
  | 0x053 => if b = 0 then some (.zext8 d a) else none
  | 0x054 => if b = 0 then some (.zext16 d a) else none
  | 0x055 => if b = 0 then some (.zext32 d a) else none
  | 0x056 => if b = 0 then some (.sat16 d a) else none
  | 0x057 => if b = 0 then some (.sat32 d a) else none
  | 0x058 => if b = 0 then some (.clz d a) else none
  | k => if 0x060 ≤ k ∧ k ≤ 0x06e then some (.sel (Fin.ofNat 16 (k - 0x060)) d a b) else none

/-- The floating-point group (Table 11-9). -/
def decodeFp (d a b : Fin 32) (func : Nat) : Option IsaOp :=
  match func with
  | 0x000 => some (.fadd d a b)
  | 0x001 => some (.fsub d a b)
  | 0x002 => some (.fmul d a b)
  | 0x003 => some (.fdiv d a b)
  | 0x004 => if b = 0 then some (.fsqrt d a) else none
  | 0x005 => some (.fmin d a b)
  | 0x006 => some (.fmax d a b)
  | 0x007 => if b = 0 then some (.fabs d a) else none
  | 0x008 => if b = 0 then some (.fneg d a) else none
  | 0x009 => if b = 0 then some (.fmov d a) else none
  | 0x010 => some (.feq d a b)
  | 0x011 => some (.flt d a b)
  | 0x012 => some (.fle d a b)
  | 0x013 => if b = 0 then some (.fclass d a) else none
  | 0x020 => if b = 0 then some (.fcvtfl d a) else none
  | 0x021 => if b = 0 then some (.fcvtflu d a) else none
  | 0x022 => if b = 0 then some (.fcvtlf d a) else none
  | 0x023 => if b = 0 then some (.fcvtlfz d a) else none
  | 0x024 => if b = 0 then some (.fmvgf d a) else none
  | 0x025 => if b = 0 then some (.fmvfg d a) else none
  | 0x030 => if b = 0 then some (.frndn d a) else none
  | 0x031 => if b = 0 then some (.frndz d a) else none
  | 0x032 => if b = 0 then some (.frndm d a) else none
  | 0x033 => if b = 0 then some (.frndp d a) else none
  | _ => none

/-- The complex group (Table 11-10): pairs are even. -/
def decodeCpx (d a b : Fin 32) (func : Nat) : Option IsaOp :=
  match func with
  | 0x000 => if d.val % 2 = 0 ∧ a.val % 2 = 0 ∧ b.val % 2 = 0 then some (.cadd d a b) else none
  | 0x001 => if d.val % 2 = 0 ∧ a.val % 2 = 0 ∧ b.val % 2 = 0 then some (.csub d a b) else none
  | 0x002 => if d.val % 2 = 0 ∧ a.val % 2 = 0 ∧ b.val % 2 = 0 then some (.cmul d a b) else none
  | 0x003 => if d.val % 2 = 0 ∧ a.val % 2 = 0 ∧ b.val % 2 = 0 then some (.cmulc d a b) else none
  | 0x004 => if d.val % 2 = 0 ∧ a.val % 2 = 0 then some (.cscl d a b) else none
  | 0x005 => if b = 0 ∧ a.val % 2 = 0 then some (.cabs d a) else none
  | 0x006 => if b = 0 ∧ a.val % 2 = 0 then some (.carg d a) else none
  | 0x007 => if d.val % 2 = 0 ∧ a.val % 2 = 0 then some (.crot d a b) else none
  | 0x008 => if d.val % 2 = 0 then some (.cpol d a b) else none
  | _ => none

/-- The image, quality and time group (Table 11-11). -/
def decodeImg (d a b : Fin 32) (func : Nat) : Option IsaOp :=
  match func with
  | 0x000 => if b = 0 then some (.ient d a) else none
  | 0x001 => some (.ielt d a b)
  | 0x002 => some (.iqual d a b)
  | 0x003 => if b.val < 2 then some (.qcls d a b) else none
  | 0x010 => some (.tdiff d a b)
  | 0x011 => some (.tadd d a b)
  | _ => none

/-- The system group (Table 11-12). -/
def decodeSys (d a b : Fin 32) (func : Nat) : Option IsaOp :=
  match func with
  | 0 => if d = 0 ∧ a = 0 ∧ b = 0 then some (.nop) else none
  | 1 => if d = 0 ∧ a = 0 ∧ b = 0 then some (.endscan) else none
  | 4 => if d = 0 ∧ a = 0 ∧ b = 0 then some (.clrf) else none
  | 5 => if d = 0 ∧ a = 0 ∧ b = 0 then some (.abort) else none
  | 2 => if a = 0 ∧ b.val ≤ 10 then some (.rdsr d b) else none
  | 3 => if d = 0 ∧ b = 0 then some (.wrsr a b) else none
  | _ => none

/-- The major opcodes that are no group of format R (Table 11-4). -/
def decodeOther (w : Nat) : Option IsaOp :=
  let d := Fin.ofNat 32 (field w 21 5)
  let a := Fin.ofNat 32 (field w 16 5)
  let b := Fin.ofNat 32 (field w 11 5)
  let imm := Fin.ofNat 65536 (field w 0 16)
  match field w 26 6 with
  | 0x03 => some (.addi d a imm)
  | 0x04 => some (.andi d a imm)
  | 0x05 => some (.ori d a imm)
  | 0x06 => some (.xori d a imm)
  | 0x0a => some (.cati d a imm)
  | 0x10 => some (.ldb d a imm)
  | 0x11 => some (.ldbu d a imm)
  | 0x12 => some (.ldh d a imm)
  | 0x13 => some (.ldhu d a imm)
  | 0x14 => some (.ldw d a imm)
  | 0x15 => some (.ldwu d a imm)
  | 0x16 => some (.ldd d a imm)
  | 0x17 => some (.fldw d a imm)
  | 0x18 => some (.stb d a imm)
  | 0x19 => some (.sth d a imm)
  | 0x1a => some (.stw d a imm)
  | 0x1b => some (.std d a imm)
  | 0x1c => some (.fstw d a imm)
  | 0x07 => if field w 8 8 ≠ 0 then none else (match field w 6 2 with
    | 0 => some (.shiSll d a (Fin.ofNat 64 (field w 0 6)))
    | 1 => some (.shiSrl d a (Fin.ofNat 64 (field w 0 6)))
    | 2 => some (.shiSra d a (Fin.ofNat 64 (field w 0 6)))
    | _ => none)
  | 0x08 => if d = 0 then some (.cmpi a imm) else none
  | 0x09 => if a = 0 then some (.movi d imm) else none
  | 0x20 => if field w 22 4 = 15 then none else some (.bCmd (Fin.ofNat 16 (field w 22 4)) (Fin.ofNat 4194304 (field w 0 22)))
  | 0x21 => some (.bl (Fin.ofNat 67108864 (field w 0 26)))
  | 0x22 => if field w 0 16 = 0 then some (.jr d a) else none
  | 0x23 => some (.bz d (Fin.ofNat 2097152 (field w 0 21)))
  | 0x24 => some (.bnz d (Fin.ofNat 2097152 (field w 0 21)))
  | 0x29 => (match field w 0 6 with
    | 0 => some (.fmadd d a b (Fin.ofNat 32 (field w 6 5)))
    | 1 => some (.fmsub d a b (Fin.ofNat 32 (field w 6 5)))
    | 2 => some (.fnmsub d a b (Fin.ofNat 32 (field w 6 5)))
    | 3 => some (.fnmadd d a b (Fin.ofNat 32 (field w 6 5)))
    | _ => none)
  | _ => none

/-- The instruction that a 32-bit word spells; none where the word is illegal (R423). -/
def decodeIsa (w : Nat) : Option IsaOp :=
  let d := Fin.ofNat 32 (field w 21 5)
  let a := Fin.ofNat 32 (field w 16 5)
  let b := Fin.ofNat 32 (field w 11 5)
  match field w 26 6 with
  | 0x01 => decodeSys d a b (field w 0 11)
  | 0x02 => decodeInt d a b (field w 0 11)
  | 0x28 => decodeFp d a b (field w 0 11)
  | 0x2c => decodeCpx d a b (field w 0 11)
  | 0x2d => decodeImg d a b (field w 0 11)
  | _ => decodeOther w

/-- The cycles of an instruction whose count does not depend on a branch (Table 11-13). -/
def plainCycles : IsaOp → Nat
  | .ldb _ _ _ | .ldbu _ _ _ | .ldh _ _ _ | .ldhu _ _ _ | .ldw _ _ _ | .ldwu _ _ _ | .ldd _ _ _ | .fldw _ _ _
  | .fadd _ _ _ | .fsub _ _ _ | .fmul _ _ _ | .fmin _ _ _ | .fmax _ _ _ | .fcvtfl _ _ | .fcvtflu _ _ | .fcvtlf _ _
  | .fcvtlfz _ _ | .frndn _ _ | .frndz _ _ | .frndm _ _ | .frndp _ _ | .cadd _ _ _ | .csub _ _ _ | .cscl _ _ _
  | .ielt _ _ _ | .bl _ | .jr _ _ => 2
  | .mul _ _ _ | .muls _ _ _ | .mulh _ _ _ | .mulhu _ _ _ | .fmadd _ _ _ _ | .fmsub _ _ _ _ | .fnmsub _ _ _ _
  | .fnmadd _ _ _ _ | .iqual _ _ _ => 3
  | .cmul _ _ _ | .cmulc _ _ _ | .tdiff _ _ _ => 4
  | .tadd _ _ _ => 5
  | .cabs _ _ => 8
  | .fdiv _ _ _ | .fsqrt _ _ => 14
  | .carg _ _ => 24
  | .crot _ _ _ | .cpol _ _ _ => 28
  | .div _ _ _ | .divu _ _ _ | .rem _ _ _ | .remu _ _ _ => 36
  | _ => 1

end Sys2Proof.Machine
end

