-- ==== Sys2Proof/Machine/Isa.lean ====
section
/-! DEFINITION. The scan instruction set (Chapter 11). An instruction command names the instance and the instruction that its
scan processor executes; it has its effect when that is the word at the instance's program counter. -/

namespace Sys2Proof.Machine

/-! ### Registers, flags and memory (R417 to R421) -/

/-- G0 reads as 0 and discards writes. -/
def IsaSt.getG (r : IsaSt) (k : Nat) : BitVec 64 := if k = 0 then 0 else tabGet 0 r.g k
def IsaSt.setG (r : IsaSt) (k : Nat) (v : BitVec 64) : IsaSt := if k = 0 then r else { r with g := tabSet 0 r.g k v }
def IsaSt.getF (r : IsaSt) (k : Nat) : Nat := (tabGet 0 r.f k).toNat
def IsaSt.setF (r : IsaSt) (k : Nat) (v : Nat) : IsaSt := { r with f := tabSet 0 r.f k (BitVec.ofNat 32 v) }

/-- What an integer instruction delivers: result, C, V, and DZ. -/
structure IntOut where
  v : BitVec 64
  c : Bool
  ov : Bool
  dz : Bool
  deriving DecidableEq, Repr

/-- N, Z, C and V replaced; SV and DZ accumulate. -/
def setFlags (flags : BitVec 64) (n z c v sv dz : Bool) : BitVec 64 :=
  let w := boolNat v + 2 * boolNat c + 4 * boolNat z + 8 * boolNat n
  (flags &&& ~~~(15#64)) ||| BitVec.ofNat 64 (w + 128 * boolNat sv + 256 * boolNat dz)

/-- The sticky floating-point flags of an operation (NV, DZ, OF, UF, NX) into FLAGS bits 11 to 15. -/
def stickF (flags : BitVec 64) (fl : Nat) : BitVec 64 := flags ||| BitVec.ofNat 64 (fl % 32 * 2 ^ 11)

def sext16 (imm : Nat) : BitVec 64 := BitVec.ofInt 64 (toInt 16 imm)
def imm16 (imm : Nat) : BitVec 64 := BitVec.ofNat 64 (imm % 65536)

/-- EA of a load or store (R421). -/
def IsaSt.ea (r : IsaSt) (a imm : Nat) : Nat := (r.getG a + sext16 imm).toNat

/-- An access of `n` bytes may be performed. -/
def Prog.allows (p : Prog) (ea n : Nat) : Bool := ea % n == 0 && decide (ea + n ≤ p.dataSize)

/-- The word at a program counter; none outside the code or off its words. -/
def fetchWord (p : Prog) (pc : Nat) : Option Nat :=
  if pc % 4 = 0 ∧ pc < p.code.length then some (leAt p.code pc 4) else none

/-- Conditions (Table 11-5). -/
def condHolds (flags : BitVec 64) (cond : Nat) : Bool :=
  let v := flags.getLsbD 0
  let c := flags.getLsbD 1
  let z := flags.getLsbD 2
  let n := flags.getLsbD 3
  match cond with
  | 0 => z
  | 1 => !z
  | 2 => n != v
  | 3 => n == v
  | 4 => !z && n == v
  | 5 => z || n != v
  | 6 => !c
  | 7 => c
  | 8 => c && !z
  | 9 => !c || z
  | 10 => n
  | 11 => !n
  | 12 => v
  | 13 => !v
  | _ => true

def condNow (cond : Nat) (r : IsaSt) : Bool := condHolds r.flags cond

/-! ### Executing one instruction -/

/-- The cycles of an instruction (Table 11-13): a branch not taken counts 1. -/
def isaCycles (r : IsaSt) : IsaOp → Nat
  | .bCmd cond _ => if condNow cond.val r then 2 else 1
  | .bz a _ => if r.getG a = 0 then 2 else 1
  | .bnz a _ => if r.getG a = 0 then 1 else 2
  | c => plainCycles c

/-- The effect of an instruction on the registers, with PC and CYCLES already moved on, and bytes it stores; none where it
faults. It sees the state, the instance's scan and its program. -/
abbrev Effect := ScanSt → Prog → IsaSt → IsaSt → Option (IsaSt × Option (Nat × Bytes))

/-- Execute the instruction `c` of instance `i` if it is the word at PC: fetch, watchdog, effect (R420, R421, R439). Reports
whether it was executed. -/
def isaRun (i : Nat) (c : IsaOp) (f : Effect) (s : State) : State × Bool :=
  let x := s.scanOf i
  match x.prog with
  | none => (s, false)
  | some p =>
    if ¬ s.executing i then (s, false)
    else if s.deadlinePassed i then (s.overrunInst i 2, false)
    else match fetchWord p x.isa.pc with
      | none => (s.faultInstance i 6, false)
      | some w =>
        if isaWord c ≠ w then (s, false)
        else
          let n := x.isa.cycles + isaCycles x.isa c
          if p.budget < n then (s.overrunInst i 1, false)
          else match f x p x.isa { x.isa with pc := x.isa.pc + 4, cycles := n } with
            | none => ((s.setScan i { x with isa := { x.isa with cycles := n } }).faultInstance i 6, false)
            | some (r, none) => (s.setScan i { x with isa := r }, true)
            | some (r, some (a, b)) => (s.setScan i { x with isa := r, data := memWrite x.data a b }, true)

/-- An instruction without effect on the registers. -/
def noEffect : Effect := fun _ _ _ r => some (r, none)

/-- An integer instruction: result and N, Z, C, V with SV and DZ (Table 11-8). -/
def alu (d : Nat) (f : (Nat → BitVec 64) → IsaSt → IntOut) : Effect := fun _ _ _ r =>
  let o := f r.getG r
  some ({ r.setG d o.v with flags := setFlags r.flags o.v.msb (o.v == 0) o.c o.ov o.ov o.dz }, none)

/-- An instruction that writes a G register and no flag. -/
def move (d : Nat) (f : (Nat → BitVec 64) → BitVec 64) : Effect := fun _ _ _ r => some (r.setG d (f r.getG), none)

/-- Results by R424: exact values wrapped, saturated to `w` bits, or without overflow. -/
def plain (v : BitVec 64) : IntOut := ⟨v, false, false, false⟩
def wrapping (x : Int) : IntOut := ⟨BitVec.ofInt 64 x, false, decide (x < -(2 ^ 63) ∨ 2 ^ 63 ≤ x), false⟩
def saturating (w : Nat) (x : Int) : IntOut :=
  let (q, o) := saturate x w
  ⟨BitVec.ofInt 64 q, false, o, false⟩

def addInt (a b : BitVec 64) : IntOut :=
  { wrapping (a.toInt + b.toInt) with c := decide (2 ^ 64 ≤ a.toNat + b.toNat) }

def subInt (a b : BitVec 64) : IntOut :=
  { wrapping (a.toInt - b.toInt) with c := decide (b.toNat ≤ a.toNat) }

/-- CMP and CMPI: the flags of a difference, without SV. -/
def compare (f : (Nat → BitVec 64) → BitVec 64 × BitVec 64) : Effect := fun _ _ _ r =>
  let (a, b) := f r.getG
  let o := subInt a b
  some ({ r with flags := setFlags r.flags o.v.msb (o.v == 0) o.c o.ov false false }, none)

/-- Division by R426. -/
def divide (a b : BitVec 64) : IntOut :=
  if b = 0 then ⟨0, false, false, true⟩ else wrapping (a.toInt.tdiv b.toInt)

def divideU (a b : BitVec 64) : IntOut :=
  if b = 0 then ⟨0, false, false, true⟩ else plain (BitVec.ofNat 64 (a.toNat / b.toNat))

def remainder (a b : BitVec 64) : IntOut :=
  if b = 0 then ⟨a, false, false, true⟩ else plain (BitVec.ofInt 64 (a.toInt.tmod b.toInt))

def remainderU (a b : BitVec 64) : IntOut :=
  if b = 0 then ⟨a, false, false, true⟩ else plain (BitVec.ofNat 64 (a.toNat % b.toNat))

/-- Shifts by R425: the amount is never taken modulo 64. -/
def shiftLeft (a : BitVec 64) (n : Nat) : BitVec 64 := if 64 ≤ n then 0 else a <<< n
def shiftRight (a : BitVec 64) (n : Nat) : BitVec 64 := if 64 ≤ n then 0 else a >>> n
def shiftSign (a : BitVec 64) (n : Nat) : BitVec 64 := a.sshiftRight (min n 64)

/-- The leading zero bits among the low `w`. -/
def leadingZeros : Nat → Nat → Nat
  | 0, _ => 0
  | w + 1, n => if n.testBit w then 0 else leadingZeros w n + 1

/-! ### Loads, stores and branches -/

def load (n : Nat) (sign : Bool) (d a imm : Nat) : Effect := fun x p _ r =>
  let ea := r.ea a imm
  if p.allows ea n then
    let v := ofLE (x.read ea n)
    some (r.setG d (if sign then BitVec.ofInt 64 (toInt (8 * n) v) else BitVec.ofNat 64 v), none)
  else none

def loadF (d a imm : Nat) : Effect := fun x p _ r =>
  let ea := r.ea a imm
  if p.allows ea 4 then some (r.setF d (ofLE (x.read ea 4)), none) else none

def store (n d a imm : Nat) : Effect := fun _ p _ r =>
  let ea := r.ea a imm
  if p.allows ea n then some (r, some (ea, toLE n (r.getG d).toNat)) else none

def storeF (d a imm : Nat) : Effect := fun _ p _ r =>
  let ea := r.ea a imm
  if p.allows ea 4 then some (r, some (ea, toLE 4 (r.getF d))) else none

/-- The target of a branch at `pc` by a signed word offset. -/
def target (pc : Nat) (off : Int) : Nat := ofInt 64 ((pc : Int) + 4 * off)

def branch (cond : IsaSt → Bool) (off : Int) : Effect := fun _ _ old r =>
  some (if cond old then { r with pc := target old.pc off } else r, none)

def branchLink (off : Int) : Effect := fun _ _ old r =>
  some ({ r.setG 31 (BitVec.ofNat 64 (old.pc + 4)) with pc := target old.pc off }, none)

/-- JR: a target off the words or beyond the code faults at the jump (R438). -/
def jumpReg (d a : Nat) : Effect := fun _ p old r =>
  let t := (old.getG a).toNat
  if t % 4 = 0 ∧ t < p.code.length then some ({ r.setG d (BitVec.ofNat 64 (old.pc + 4)) with pc := t }, none) else none

/-- SEL; condition 15 does not exist. -/
def select (cond d a b : Nat) : Effect := fun _ _ _ r =>
  if cond = 15 then none else some (r.setG d (if condHolds r.flags cond then r.getG a else r.getG b), none)

/-! ### Floating point (R427 to R430) -/

/-- An instruction that delivers an F register and sticky flags. -/
def fpu (d : Nat) (f : (Nat → Nat) → (Nat → BitVec 64) → Nat × Nat) : Effect := fun _ _ _ r =>
  let (v, fl) := f r.getF r.getG
  some ({ r.setF d v with flags := stickF r.flags fl }, none)

/-- An instruction on F registers that delivers a G register and sticky flags. -/
def fpuG (d : Nat) (f : (Nat → Nat) → Nat × Nat) : Effect := fun _ _ _ r =>
  let (v, fl) := f r.getF
  some ({ r.setG d (BitVec.ofNat 64 v) with flags := stickF r.flags fl }, none)

/-- The order of R429: −0 below +0. -/
def fbelow (a b : Nat) : Bool := match f32.cmp a b with
  | some .lt => true
  | some .gt => false
  | _ => f32.neg a && !f32.neg b

def fpick (min : Bool) (a b : Nat) : Nat × Nat :=
  let fl := if f32.isSnan a || f32.isSnan b then flNV else 0
  if f32.isNan a ∧ f32.isNan b then (f32.nan, fl)
  else if f32.isNan a then (b, fl)
  else if f32.isNan b then (a, fl)
  else (if fbelow a b == min then a else b, fl)

def fmin (a b : Nat) : Nat × Nat := fpick true a b
def fmax (a b : Nat) : Nat × Nat := fpick false a b

/-- Comparisons: 0 equal (quiet), 1 less, 2 less or equal. -/
def fcmp (k a b : Nat) : Nat × Nat :=
  let bad := if k = 0 then f32.isSnan a || f32.isSnan b else f32.isNan a || f32.isNan b
  let r := match f32.cmp a b with
    | some .lt => k != 0
    | some .eq => k != 1
    | _ => false
  (boolNat r, if bad then flNV else 0)

/-- The bit number of FCLASS. -/
def fclass (a : Nat) : Nat :=
  let n := f32.neg a
  if f32.isSnan a then 8 else if f32.isNan a then 9
  else if f32.isInf a then (if n then 0 else 7)
  else if f32.isZero a then (if n then 3 else 4)
  else if f32.mag a < 2 ^ 23 then (if n then 2 else 5) else (if n then 1 else 6)

/-- Binary32 to a signed integer (R430): mode 0 nearest even, 1 toward zero. -/
def fcvt (mode a : Nat) : Nat × Nat :=
  if f32.isNan a then (0, flNV)
  else if f32.isInf a then (if f32.neg a then 2 ^ 63 else 2 ^ 63 - 1, flNV)
  else
    let (v, exact) := f32.toInt mode a
    if 2 ^ 63 ≤ v then (2 ^ 63 - 1, flNV)
    else if v < -(2 ^ 63) then (2 ^ 63, flNV)
    else (ofInt 64 v, if exact then 0 else flNX)

/-- Round to an integral binary32. -/
def fround (mode a : Nat) : Nat × Nat :=
  if f32.isNan a then f32.nanOf false [a]
  else if f32.isInf a then (a, 0)
  else
    let v := (f32.toInt mode a).1
    if v = 0 then (f32.signed (f32.neg a) 0, 0) else ((f32.ofRat v 1).1, 0)

/-! ### Complex and phasor (R431, R432) -/

/-- A binary64 step with its NV flag kept. -/
def stepNv (x : Nat × Nat) : Nat × Nat := (x.1, x.2 % 2)

/-- Binary32 to binary64; a signalling input sets FNV. -/
def up (a : Nat) : Nat × Nat := stepNv (f32.convert f64 a)

/-- The final rounding: FNV of the steps, and FOF, FUF and FNX of the rounding. -/
def down (x : Nat × Nat) : Nat × Nat :=
  let (v, fl) := f64.convert f32 x.1
  (v, x.2 ||| (fl / 4 * 4))

def mul2 (a b : Nat × Nat) : Nat × Nat := let r := f64.mul a.1 b.1
  (r.1, a.2 ||| b.2 ||| r.2 % 2)
def add2 (a b : Nat × Nat) : Nat × Nat := let r := f64.add a.1 b.1
  (r.1, a.2 ||| b.2 ||| r.2 % 2)
def sub2 (a b : Nat × Nat) : Nat × Nat := let r := f64.sub a.1 b.1
  (r.1, a.2 ||| b.2 ||| r.2 % 2)

/-- cos and sin of a binary64 angle; an infinite one gives a NaN from no NaN. -/
def trig (g : Nat → Nat) (a : Nat × Nat) : Nat × Nat :=
  if f64.isNan a.1 then (f64.nan, a.2) else if f64.isInf a.1 then (f64.nan, a.2 ||| flNV) else (g a.1, a.2)

/-- An output pair with the flags of both parts. -/
def pairOut (x y : Nat × Nat) : Nat × Nat × Nat := (x.1, y.1, x.2 ||| y.2)

def cadd (ar ai br bi : Nat) : Nat × Nat × Nat := pairOut (f32.add ar br) (f32.add ai bi)
def csub (ar ai br bi : Nat) : Nat × Nat × Nat := pairOut (f32.sub ar br) (f32.sub ai bi)

def cmul (ar ai br bi : Nat) : Nat × Nat × Nat :=
  pairOut (down (sub2 (mul2 (up ar) (up br)) (mul2 (up ai) (up bi))))
    (down (add2 (mul2 (up ar) (up bi)) (mul2 (up ai) (up br))))

def cmulc (ar ai br bi : Nat) : Nat × Nat × Nat :=
  pairOut (down (add2 (mul2 (up ar) (up br)) (mul2 (up ai) (up bi))))
    (down (sub2 (mul2 (up ai) (up br)) (mul2 (up ar) (up bi))))

def cscl (ar ai b : Nat) : Nat × Nat × Nat := pairOut (down (mul2 (up ar) (up b))) (down (mul2 (up ai) (up b)))

def crot (ar ai b : Nat) : Nat × Nat × Nat :=
  let c := trig cos64 (up b)
  let s := trig sin64 (up b)
  pairOut (down (sub2 (mul2 (up ar) c) (mul2 (up ai) s))) (down (add2 (mul2 (up ar) s) (mul2 (up ai) c)))

def cpol (a b : Nat) : Nat × Nat × Nat :=
  pairOut (down (mul2 (up a) (trig cos64 (up b)))) (down (mul2 (up a) (trig sin64 (up b))))

def cabs (ar ai : Nat) : Nat × Nat :=
  if f32.isInf ar ∨ f32.isInf ai then (f32.inf, (up ar).2 ||| (up ai).2)
  else
    let x := add2 (mul2 (up ar) (up ar)) (mul2 (up ai) (up ai))
    let r := f64.sqrt x.1
    down (r.1, x.2 ||| r.2 % 2)

def carg (ar ai : Nat) : Nat × Nat :=
  let nv := (up ar).2 ||| (up ai).2
  if f32.isNan ar ∨ f32.isNan ai then (f32.nan, nv)
  else
    let v := atan2Of f32 (up ai).1 (up ar).1
    -- only a zero is exact
    let fl := if f32.isZero v && (f32.isZero ai || f32.isInf ar) then 0
      else if f32.mag v < 2 ^ 23 then flUF + flNX else flNX
    (v, nv ||| fl)

/-- A complex instruction with the registers that must be even. -/
def cpx (d : Nat) (even : List (Fin 32)) (f : (Nat → Nat) → Nat × Nat × Nat) : Effect := fun _ _ _ r =>
  if even.all fun k => k.val % 2 == 0 then
    let (re, im, fl) := f r.getF
    some ({ (r.setF d re).setF (d + 1) im with flags := stickF r.flags fl }, none)
  else none

/-- A complex instruction with one output. -/
def cpx1 (d a : Nat) (f : Nat → Nat → Nat × Nat) : Effect := fun _ _ _ r =>
  if a % 2 = 0 then
    let (v, fl) := f (r.getF a) (r.getF (a + 1))
    some ({ r.setF d v with flags := stickF r.flags fl }, none)
  else none

/-! ### Image, quality and time (R433 to R437) -/

/-- The entry that Ga names. -/
def entryOf (x : ScanSt) (r : IsaSt) (a : Nat) : Option EntryLay :=
  let n := (r.getG a).toNat
  if n < x.lay.length then x.lay[n]? else none

def imageEntry (d a : Nat) : Effect := fun x _ _ r => match entryOf x r a with
  | some e => some (r.setG d (BitVec.ofNat 64 e.off), none)
  | none => none

/-- The quality word of an element lies this far behind it (R434). -/
def qualityOffset (kind : Nat) : Nat :=
  match kind with
  | 3 | 20 => 8 | 19 => 16 | 16 => 36 | _ => 4

def imageElement (d a b : Nat) (quality : Bool) : Effect := fun x _ _ r => match entryOf x r a with
  | none => none
  | some e =>
    let j := (r.getG b).toNat
    if ofLE (x.read e.off 2) ≤ j then
      some ({ r.setG d 0 with flags := setFlags r.flags false true false false false false }, none)
    else
      let elt := e.off + 16 + j * elementBytes e.kind
      let first := ofLE (x.read (e.off + 4) 4)
      let o := if !quality then elt
        else if e.kind = 2 then
          e.off + 16 + ceilDiv (2 * e.max) 4 * 4 + (first % Nat.max 1 e.step + j) / Nat.max 1 e.step * 4
        else elt + qualityOffset e.kind
      some ({ r.setG d (BitVec.ofNat 64 o) with flags := setFlags r.flags false false false false false false }, none)

/-- QCLS (R436). -/
def qualityClass (d a sel : Nat) : Effect := fun _ _ _ r =>
  if 2 ≤ sel then none
  else
    let q := (r.getG a).toNat
    let cls := if q % 4 = 0 then 0 else if q % 4 = 3 then 1 else 2
    some (r.setG d (BitVec.ofNat 64 (cls + (if q.testBit 17 then 4 else 0) + (if sel = 1 ∧ q.testBit 31 then 8 else 0))), none)

/-- A time in memory as a count of 2^−16 ns (R437); none where it may not be read. -/
def timeAt (x : ScanSt) (p : Prog) (a : Nat) : Option Int :=
  if a % 8 = 0 ∧ a + 16 ≤ p.dataSize then
    let b := x.read a 16
    some (((leAt b 8 6 * 1000000000 + leAt b 0 4) * 65536 + leAt b 4 2 : Nat) : Int)
  else none

def timeDiff (d a b : Nat) : Effect := fun x p _ r =>
  match timeAt x p (r.getG a).toNat, timeAt x p (r.getG b).toNat with
  | some u, some v => (alu d fun _ _ => saturating 64 (u - v)) x p r r
  | _, _ => none

def timeAdd (d a b : Nat) : Effect := fun x p _ r =>
  let out := (r.getG d).toNat
  match timeAt x p (r.getG a).toNat with
  | some u =>
    if out % 8 = 0 ∧ out + 16 ≤ p.dataSize then
      let v := u + (r.getG b).toInt
      let sec := v / 65536000000000
      let rest := (v % 65536000000000).toNat
      let wraps := decide (sec < 0 ∨ 2 ^ 48 ≤ sec)
      some ({ r with flags := setFlags r.flags false false false wraps wraps false },
        some (out, toLE 4 (rest / 65536) ++ toLE 4 (rest % 65536) ++ toLE 8 (ofInt 48 sec)))
    else none
  | none => none

/-! ### Special registers (Table 11-1) -/

def readSpecial (i d k : Nat) : Effect := fun x p old r =>
  let v : Option Nat := match k with
    | 0 => some r.flags.toNat
    | 1 => some p.imageOffset
    | 2 => some p.outputOffset
    | 3 => some p.varOffset
    | 4 => some p.retOffset
    | 5 => some p.dataSize
    | 6 => some x.scan
    | 7 => some old.cycles
    | 8 => some p.budget
    | 9 => some i
    | 10 => some p.map.length
    | _ => none
  v.map fun n => (r.setG d (BitVec.ofNat 64 n), none)

/-- Only FLAGS may be written. -/
def writeSpecial (a k : Nat) : Effect := fun _ _ _ r =>
  if k = 0 then some ({ r with flags := r.getG a &&& 0xF98F#64 }, none) else none

/-! ### The instructions -/

/-- ADDI: Gd := Ga + sext(imm) (R424). -/
def execAddi (inst : Fin 256) (d a : Fin 32) (imm : Fin 65536) (s : State) : Res :=
  .next (isaRun inst.val (.addi d a imm) (alu d fun g _ => addInt (g a) (sext16 imm)) s).1

/-- ANDI: Gd := Ga AND zext(imm). -/
def execAndi (inst : Fin 256) (d a : Fin 32) (imm : Fin 65536) (s : State) : Res :=
  .next (isaRun inst.val (.andi d a imm) (alu d fun g _ => plain (g a &&& imm16 imm)) s).1

/-- ORI: Gd := Ga OR zext(imm). -/
def execOri (inst : Fin 256) (d a : Fin 32) (imm : Fin 65536) (s : State) : Res :=
  .next (isaRun inst.val (.ori d a imm) (alu d fun g _ => plain (g a ||| imm16 imm)) s).1

/-- XORI: Gd := Ga XOR zext(imm). -/
def execXori (inst : Fin 256) (d a : Fin 32) (imm : Fin 65536) (s : State) : Res :=
  .next (isaRun inst.val (.xori d a imm) (alu d fun g _ => plain (g a ^^^ imm16 imm)) s).1

/-- SHI_SLL: Gd := Ga shifted left (R425). -/
def execShiSll (inst : Fin 256) (d a : Fin 32) (n : Fin 64) (s : State) : Res :=
  .next (isaRun inst.val (.shiSll d a n) (alu d fun g _ => plain (shiftLeft (g a) n)) s).1

/-- SHI_SRL: Gd := Ga shifted right with zero fill (R425). -/
def execShiSrl (inst : Fin 256) (d a : Fin 32) (n : Fin 64) (s : State) : Res :=
  .next (isaRun inst.val (.shiSrl d a n) (alu d fun g _ => plain (shiftRight (g a) n)) s).1

/-- SHI_SRA: Gd := Ga shifted right with sign fill (R425). -/
def execShiSra (inst : Fin 256) (d a : Fin 32) (n : Fin 64) (s : State) : Res :=
  .next (isaRun inst.val (.shiSra d a n) (alu d fun g _ => plain (shiftSign (g a) n)) s).1

/-- CMPI: flags of Ga − sext(imm). -/
def execCmpi (inst : Fin 256) (a : Fin 32) (imm : Fin 65536) (s : State) : Res :=
  .next (isaRun inst.val (.cmpi a imm) (compare fun g => (g a, sext16 imm)) s).1

/-- MOVI: Gd := sext(imm); the flags stay. -/
def execMovi (inst : Fin 256) (d : Fin 32) (imm : Fin 65536) (s : State) : Res :=
  .next (isaRun inst.val (.movi d imm) (move d fun _ => sext16 imm) s).1

/-- CATI: Gd := Ga × 2^16 + zext(imm); the flags stay. -/
def execCati (inst : Fin 256) (d a : Fin 32) (imm : Fin 65536) (s : State) : Res :=
  .next (isaRun inst.val (.cati d a imm) (move d fun g => g a * 65536 + imm16 imm) s).1

/-- LDB: Gd := the 1 bytes at EA, sign-extended (R421). -/
def execLdb (inst : Fin 256) (d a : Fin 32) (imm : Fin 65536) (s : State) : Res :=
  .next (isaRun inst.val (.ldb d a imm) (load 1 true d a imm) s).1

/-- LDBU: Gd := the 1 bytes at EA, zero-extended (R421). -/
def execLdbu (inst : Fin 256) (d a : Fin 32) (imm : Fin 65536) (s : State) : Res :=
  .next (isaRun inst.val (.ldbu d a imm) (load 1 false d a imm) s).1

/-- LDH: Gd := the 2 bytes at EA, sign-extended (R421). -/
def execLdh (inst : Fin 256) (d a : Fin 32) (imm : Fin 65536) (s : State) : Res :=
  .next (isaRun inst.val (.ldh d a imm) (load 2 true d a imm) s).1

/-- LDHU: Gd := the 2 bytes at EA, zero-extended (R421). -/
def execLdhu (inst : Fin 256) (d a : Fin 32) (imm : Fin 65536) (s : State) : Res :=
  .next (isaRun inst.val (.ldhu d a imm) (load 2 false d a imm) s).1

/-- LDW: Gd := the 4 bytes at EA, sign-extended (R421). -/
def execLdw (inst : Fin 256) (d a : Fin 32) (imm : Fin 65536) (s : State) : Res :=
  .next (isaRun inst.val (.ldw d a imm) (load 4 true d a imm) s).1

/-- LDWU: Gd := the 4 bytes at EA, zero-extended (R421). -/
def execLdwu (inst : Fin 256) (d a : Fin 32) (imm : Fin 65536) (s : State) : Res :=
  .next (isaRun inst.val (.ldwu d a imm) (load 4 false d a imm) s).1

/-- LDD: Gd := the 8 bytes at EA, zero-extended (R421). -/
def execLdd (inst : Fin 256) (d a : Fin 32) (imm : Fin 65536) (s : State) : Res :=
  .next (isaRun inst.val (.ldd d a imm) (load 8 false d a imm) s).1

/-- FLDW: Fd := the 4 bytes at EA. -/
def execFldw (inst : Fin 256) (d a : Fin 32) (imm : Fin 65536) (s : State) : Res :=
  .next (isaRun inst.val (.fldw d a imm) (loadF d a imm) s).1

/-- STB: the low 1 bytes of Gd to EA (R421). -/
def execStb (inst : Fin 256) (d a : Fin 32) (imm : Fin 65536) (s : State) : Res :=
  .next (isaRun inst.val (.stb d a imm) (store 1 d a imm) s).1

/-- STH: the low 2 bytes of Gd to EA (R421). -/
def execSth (inst : Fin 256) (d a : Fin 32) (imm : Fin 65536) (s : State) : Res :=
  .next (isaRun inst.val (.sth d a imm) (store 2 d a imm) s).1

/-- STW: the low 4 bytes of Gd to EA (R421). -/
def execStw (inst : Fin 256) (d a : Fin 32) (imm : Fin 65536) (s : State) : Res :=
  .next (isaRun inst.val (.stw d a imm) (store 4 d a imm) s).1

/-- STD: the low 8 bytes of Gd to EA (R421). -/
def execStd (inst : Fin 256) (d a : Fin 32) (imm : Fin 65536) (s : State) : Res :=
  .next (isaRun inst.val (.std d a imm) (store 8 d a imm) s).1

/-- FSTW: Fd to EA. -/
def execFstw (inst : Fin 256) (d a : Fin 32) (imm : Fin 65536) (s : State) : Res :=
  .next (isaRun inst.val (.fstw d a imm) (storeF d a imm) s).1

/-- B: branch if the condition holds (Table 11-5). -/
def execBCmd (inst : Fin 256) (cond : Fin 16) (off : Fin 4194304) (s : State) : Res :=
  .next (isaRun inst.val (.bCmd cond off) (branch (condNow cond) (toInt 22 off)) s).1

/-- BL: branch, the return address in G31. -/
def execBl (inst : Fin 256) (off : Fin 67108864) (s : State) : Res :=
  .next (isaRun inst.val (.bl off) (branchLink (toInt 26 off)) s).1

/-- JR: jump to Ga (R438). -/
def execJr (inst : Fin 256) (d a : Fin 32) (s : State) : Res :=
  .next (isaRun inst.val (.jr d a) (jumpReg d a) s).1

/-- BZ: branch if Ga = 0. -/
def execBz (inst : Fin 256) (a : Fin 32) (off : Fin 2097152) (s : State) : Res :=
  .next (isaRun inst.val (.bz a off) (branch (fun r => r.getG a == 0) (toInt 21 off)) s).1

/-- BNZ: branch if Ga ≠ 0. -/
def execBnz (inst : Fin 256) (a : Fin 32) (off : Fin 2097152) (s : State) : Res :=
  .next (isaRun inst.val (.bnz a off) (branch (fun r => r.getG a != 0) (toInt 21 off)) s).1

/-- ADD: Gd := Ga + Gb. -/
def execAdd (inst : Fin 256) (d a b : Fin 32) (s : State) : Res :=
  .next (isaRun inst.val (.add d a b) (alu d fun g _ => addInt (g a) (g b)) s).1

/-- SUB: Gd := Ga − Gb. -/
def execSub (inst : Fin 256) (d a b : Fin 32) (s : State) : Res :=
  .next (isaRun inst.val (.sub d a b) (alu d fun g _ => subInt (g a) (g b)) s).1

/-- ADDS: Gd := Ga + Gb, saturated. -/
def execAdds (inst : Fin 256) (d a b : Fin 32) (s : State) : Res :=
  .next (isaRun inst.val (.adds d a b) (alu d fun g _ => saturating 64 ((g a).toInt + (g b).toInt)) s).1

/-- SUBS: Gd := Ga − Gb, saturated. -/
def execSubs (inst : Fin 256) (d a b : Fin 32) (s : State) : Res :=
  .next (isaRun inst.val (.subs d a b) (alu d fun g _ => saturating 64 ((g a).toInt - (g b).toInt)) s).1

/-- MUL: the low 64 bits of the product. -/
def execMul (inst : Fin 256) (d a b : Fin 32) (s : State) : Res :=
  .next (isaRun inst.val (.mul d a b) (alu d fun g _ => wrapping ((g a).toInt * (g b).toInt)) s).1

/-- MULS: the product, saturated. -/
def execMuls (inst : Fin 256) (d a b : Fin 32) (s : State) : Res :=
  .next (isaRun inst.val (.muls d a b) (alu d fun g _ => saturating 64 ((g a).toInt * (g b).toInt)) s).1

/-- MULH: the high 64 bits of the signed product. -/
def execMulh (inst : Fin 256) (d a b : Fin 32) (s : State) : Res :=
  .next (isaRun inst.val (.mulh d a b) (alu d fun g _ => plain (BitVec.ofInt 64 ((g a).toInt * (g b).toInt / 2 ^ 64))) s).1

/-- MULHU: the high 64 bits of the unsigned product. -/
def execMulhu (inst : Fin 256) (d a b : Fin 32) (s : State) : Res :=
  .next (isaRun inst.val (.mulhu d a b) (alu d fun g _ => plain (BitVec.ofNat 64 ((g a).toNat * (g b).toNat / 2 ^ 64))) s).1

/-- DIV: the signed quotient, toward zero (R426). -/
def execDiv (inst : Fin 256) (d a b : Fin 32) (s : State) : Res :=
  .next (isaRun inst.val (.div d a b) (alu d fun g _ => divide (g a) (g b)) s).1

/-- DIVU: the unsigned quotient. -/
def execDivu (inst : Fin 256) (d a b : Fin 32) (s : State) : Res :=
  .next (isaRun inst.val (.divu d a b) (alu d fun g _ => divideU (g a) (g b)) s).1

/-- REM: the signed remainder (R426). -/
def execRem (inst : Fin 256) (d a b : Fin 32) (s : State) : Res :=
  .next (isaRun inst.val (.rem d a b) (alu d fun g _ => remainder (g a) (g b)) s).1

/-- REMU: the unsigned remainder. -/
def execRemu (inst : Fin 256) (d a b : Fin 32) (s : State) : Res :=
  .next (isaRun inst.val (.remu d a b) (alu d fun g _ => remainderU (g a) (g b)) s).1

/-- AND: Ga AND Gb. -/
def execAndCmd (inst : Fin 256) (d a b : Fin 32) (s : State) : Res :=
  .next (isaRun inst.val (.andCmd d a b) (alu d fun g _ => plain (g a &&& g b)) s).1

/-- OR: Ga OR Gb. -/
def execOrCmd (inst : Fin 256) (d a b : Fin 32) (s : State) : Res :=
  .next (isaRun inst.val (.orCmd d a b) (alu d fun g _ => plain (g a ||| g b)) s).1

/-- XOR: Ga XOR Gb. -/
def execXor (inst : Fin 256) (d a b : Fin 32) (s : State) : Res :=
  .next (isaRun inst.val (.xor d a b) (alu d fun g _ => plain (g a ^^^ g b)) s).1

/-- ANDN: Ga AND NOT Gb. -/
def execAndn (inst : Fin 256) (d a b : Fin 32) (s : State) : Res :=
  .next (isaRun inst.val (.andn d a b) (alu d fun g _ => plain (g a &&& ~~~(g b))) s).1

/-- SLL: Ga shifted left by Gb (R425). -/
def execSll (inst : Fin 256) (d a b : Fin 32) (s : State) : Res :=
  .next (isaRun inst.val (.sll d a b) (alu d fun g _ => plain (shiftLeft (g a) (g b).toNat)) s).1

/-- SRL: Ga shifted right by Gb, zero fill (R425). -/
def execSrl (inst : Fin 256) (d a b : Fin 32) (s : State) : Res :=
  .next (isaRun inst.val (.srl d a b) (alu d fun g _ => plain (shiftRight (g a) (g b).toNat)) s).1

/-- SRA: Ga shifted right by Gb, sign fill (R425). -/
def execSra (inst : Fin 256) (d a b : Fin 32) (s : State) : Res :=
  .next (isaRun inst.val (.sra d a b) (alu d fun g _ => plain (shiftSign (g a) (g b).toNat)) s).1

/-- MIN: the signed smaller. -/
def execMinCmd (inst : Fin 256) (d a b : Fin 32) (s : State) : Res :=
  .next (isaRun inst.val (.minCmd d a b) (alu d fun g _ => plain (if (g a).toInt ≤ (g b).toInt then g a else g b)) s).1

/-- MAX: the signed larger. -/
def execMaxCmd (inst : Fin 256) (d a b : Fin 32) (s : State) : Res :=
  .next (isaRun inst.val (.maxCmd d a b) (alu d fun g _ => plain (if (g a).toInt ≤ (g b).toInt then g b else g a)) s).1

/-- MINU: the unsigned smaller. -/
def execMinu (inst : Fin 256) (d a b : Fin 32) (s : State) : Res :=
  .next (isaRun inst.val (.minu d a b) (alu d fun g _ => plain (if (g a).toNat ≤ (g b).toNat then g a else g b)) s).1

/-- MAXU: the unsigned larger. -/
def execMaxu (inst : Fin 256) (d a b : Fin 32) (s : State) : Res :=
  .next (isaRun inst.val (.maxu d a b) (alu d fun g _ => plain (if (g a).toNat ≤ (g b).toNat then g b else g a)) s).1

/-- NEG: Gd := −Ga. -/
def execNeg (inst : Fin 256) (d a : Fin 32) (s : State) : Res :=
  .next (isaRun inst.val (.neg d a) (alu d fun g _ => wrapping (-(g a).toInt)) s).1

/-- NEGS: Gd := −Ga, saturated. -/
def execNegs (inst : Fin 256) (d a : Fin 32) (s : State) : Res :=
  .next (isaRun inst.val (.negs d a) (alu d fun g _ => saturating 64 (-(g a).toInt)) s).1

/-- ABS: the absolute value. -/
def execAbs (inst : Fin 256) (d a : Fin 32) (s : State) : Res :=
  .next (isaRun inst.val (.abs d a) (alu d fun g _ => wrapping ((g a).toInt.natAbs : Int)) s).1

/-- ABSS: the absolute value, saturated. -/
def execAbss (inst : Fin 256) (d a : Fin 32) (s : State) : Res :=
  .next (isaRun inst.val (.abss d a) (alu d fun g _ => saturating 64 ((g a).toInt.natAbs : Int)) s).1

/-- NOT: NOT Ga. -/
def execNotCmd (inst : Fin 256) (d a : Fin 32) (s : State) : Res :=
  .next (isaRun inst.val (.notCmd d a) (alu d fun g _ => plain (~~~(g a))) s).1

/-- SEXT8: the low 8 bits, sign-extended. -/
def execSext8 (inst : Fin 256) (d a : Fin 32) (s : State) : Res :=
  .next (isaRun inst.val (.sext8 d a) (alu d fun g _ => plain (((g a).setWidth 8).signExtend 64)) s).1

/-- SEXT16: the low 16 bits, sign-extended. -/
def execSext16 (inst : Fin 256) (d a : Fin 32) (s : State) : Res :=
  .next (isaRun inst.val (.sext16 d a) (alu d fun g _ => plain (((g a).setWidth 16).signExtend 64)) s).1

/-- SEXT32: the low 32 bits, sign-extended. -/
def execSext32 (inst : Fin 256) (d a : Fin 32) (s : State) : Res :=
  .next (isaRun inst.val (.sext32 d a) (alu d fun g _ => plain (((g a).setWidth 32).signExtend 64)) s).1

/-- ZEXT8: the low 8 bits, zero-extended. -/
def execZext8 (inst : Fin 256) (d a : Fin 32) (s : State) : Res :=
  .next (isaRun inst.val (.zext8 d a) (alu d fun g _ => plain (((g a).setWidth 8).setWidth 64)) s).1

/-- ZEXT16: the low 16 bits, zero-extended. -/
def execZext16 (inst : Fin 256) (d a : Fin 32) (s : State) : Res :=
  .next (isaRun inst.val (.zext16 d a) (alu d fun g _ => plain (((g a).setWidth 16).setWidth 64)) s).1

/-- ZEXT32: the low 32 bits, zero-extended. -/
def execZext32 (inst : Fin 256) (d a : Fin 32) (s : State) : Res :=
  .next (isaRun inst.val (.zext32 d a) (alu d fun g _ => plain (((g a).setWidth 32).setWidth 64)) s).1

/-- SAT16: Ga limited to the 16-bit signed range (R424). -/
def execSat16 (inst : Fin 256) (d a : Fin 32) (s : State) : Res :=
  .next (isaRun inst.val (.sat16 d a) (alu d fun g _ => saturating 16 (g a).toInt) s).1

/-- SAT32: Ga limited to the 32-bit signed range (R424). -/
def execSat32 (inst : Fin 256) (d a : Fin 32) (s : State) : Res :=
  .next (isaRun inst.val (.sat32 d a) (alu d fun g _ => saturating 32 (g a).toInt) s).1

/-- CLZ: the leading zero bits of Ga. -/
def execClz (inst : Fin 256) (d a : Fin 32) (s : State) : Res :=
  .next (isaRun inst.val (.clz d a) (alu d fun g _ => plain (BitVec.ofNat 64 (leadingZeros 64 (g a).toNat))) s).1

/-- CMP: flags of Ga − Gb. -/
def execCmp (inst : Fin 256) (a b : Fin 32) (s : State) : Res :=
  .next (isaRun inst.val (.cmp a b) (compare fun g => (g a, g b)) s).1

/-- SEL: Gd := Ga if the condition holds, else Gb. -/
def execSel (inst : Fin 256) (cond : Fin 16) (d a b : Fin 32) (s : State) : Res :=
  .next (isaRun inst.val (.sel cond d a b) (select cond d a b) s).1

/-- FADD: binary32, rounded once (R427). -/
def execFadd (inst : Fin 256) (d a b : Fin 32) (s : State) : Res :=
  .next (isaRun inst.val (.fadd d a b) (fpu d fun f _ => f32.add (f a) (f b)) s).1

/-- FSUB: binary32, rounded once (R427). -/
def execFsub (inst : Fin 256) (d a b : Fin 32) (s : State) : Res :=
  .next (isaRun inst.val (.fsub d a b) (fpu d fun f _ => f32.sub (f a) (f b)) s).1

/-- FMUL: binary32, rounded once (R427). -/
def execFmul (inst : Fin 256) (d a b : Fin 32) (s : State) : Res :=
  .next (isaRun inst.val (.fmul d a b) (fpu d fun f _ => f32.mul (f a) (f b)) s).1

/-- FDIV: binary32, rounded once (R427). -/
def execFdiv (inst : Fin 256) (d a b : Fin 32) (s : State) : Res :=
  .next (isaRun inst.val (.fdiv d a b) (fpu d fun f _ => f32.div (f a) (f b)) s).1

/-- FMIN: the smaller by R429. -/
def execFmin (inst : Fin 256) (d a b : Fin 32) (s : State) : Res :=
  .next (isaRun inst.val (.fmin d a b) (fpu d fun f _ => fmin (f a) (f b)) s).1

/-- FMAX: the larger by R429. -/
def execFmax (inst : Fin 256) (d a b : Fin 32) (s : State) : Res :=
  .next (isaRun inst.val (.fmax d a b) (fpu d fun f _ => fmax (f a) (f b)) s).1

/-- FEQ: 1 if a = b, quiet. -/
def execFeq (inst : Fin 256) (d a b : Fin 32) (s : State) : Res :=
  .next (isaRun inst.val (.feq d a b) (fpuG d fun f => fcmp 0 (f a) (f b)) s).1

/-- FLT: 1 if a < b. -/
def execFlt (inst : Fin 256) (d a b : Fin 32) (s : State) : Res :=
  .next (isaRun inst.val (.flt d a b) (fpuG d fun f => fcmp 1 (f a) (f b)) s).1

/-- FLE: 1 if a ≤ b. -/
def execFle (inst : Fin 256) (d a b : Fin 32) (s : State) : Res :=
  .next (isaRun inst.val (.fle d a b) (fpuG d fun f => fcmp 2 (f a) (f b)) s).1

/-- FSQRT: the square root. -/
def execFsqrt (inst : Fin 256) (d a : Fin 32) (s : State) : Res :=
  .next (isaRun inst.val (.fsqrt d a) (fpu d fun f _ => f32.sqrt (f a)) s).1

/-- FABS: clears the sign bit (R428). -/
def execFabs (inst : Fin 256) (d a : Fin 32) (s : State) : Res :=
  .next (isaRun inst.val (.fabs d a) (fpu d fun f _ => (f32.mag (f a), 0)) s).1

/-- FNEG: inverts the sign bit (R428). -/
def execFneg (inst : Fin 256) (d a : Fin 32) (s : State) : Res :=
  .next (isaRun inst.val (.fneg d a) (fpu d fun f _ => (f32.flip (f a), 0)) s).1

/-- FMOV: copies the bits (R428). -/
def execFmov (inst : Fin 256) (d a : Fin 32) (s : State) : Res :=
  .next (isaRun inst.val (.fmov d a) (fpu d fun f _ => (f a, 0)) s).1

/-- FCLASS: one bit of the class. -/
def execFclass (inst : Fin 256) (d a : Fin 32) (s : State) : Res :=
  .next (isaRun inst.val (.fclass d a) (fpuG d fun f => (2 ^ fclass (f a), 0)) s).1

/-- FCVTFL: a signed integer to binary32. -/
def execFcvtfl (inst : Fin 256) (d a : Fin 32) (s : State) : Res :=
  .next (isaRun inst.val (.fcvtfl d a) (fpu d fun _ g => f32.ofRat (g a).toInt 1) s).1

/-- FCVTFLU: an unsigned integer to binary32. -/
def execFcvtflu (inst : Fin 256) (d a : Fin 32) (s : State) : Res :=
  .next (isaRun inst.val (.fcvtflu d a) (fpu d fun _ g => f32.ofRat ((g a).setWidth 65).toInt 1) s).1

/-- FCVTLF: binary32 to a signed integer, nearest even (R430). -/
def execFcvtlf (inst : Fin 256) (d a : Fin 32) (s : State) : Res :=
  .next (isaRun inst.val (.fcvtlf d a) (fpuG d fun f => fcvt 0 (f a)) s).1

/-- FCVTLFZ: binary32 to a signed integer, toward zero (R430). -/
def execFcvtlfz (inst : Fin 256) (d a : Fin 32) (s : State) : Res :=
  .next (isaRun inst.val (.fcvtlfz d a) (fpuG d fun f => fcvt 1 (f a)) s).1

/-- FMVGF: Gd := the bits of Fa. -/
def execFmvgf (inst : Fin 256) (d a : Fin 32) (s : State) : Res :=
  .next (isaRun inst.val (.fmvgf d a) (fpuG d fun f => (f a, 0)) s).1

/-- FMVFG: Fd := Ga[31:0]. -/
def execFmvfg (inst : Fin 256) (d a : Fin 32) (s : State) : Res :=
  .next (isaRun inst.val (.fmvfg d a) (fpu d fun _ g => ((g a).toNat % 2 ^ 32, 0)) s).1

/-- FRNDN: to an integral binary32; FNX is not set. -/
def execFrndn (inst : Fin 256) (d a : Fin 32) (s : State) : Res :=
  .next (isaRun inst.val (.frndn d a) (fpu d fun f _ => fround 0 (f a)) s).1

/-- FRNDZ: to an integral binary32; FNX is not set. -/
def execFrndz (inst : Fin 256) (d a : Fin 32) (s : State) : Res :=
  .next (isaRun inst.val (.frndz d a) (fpu d fun f _ => fround 1 (f a)) s).1

/-- FRNDM: to an integral binary32; FNX is not set. -/
def execFrndm (inst : Fin 256) (d a : Fin 32) (s : State) : Res :=
  .next (isaRun inst.val (.frndm d a) (fpu d fun f _ => fround 2 (f a)) s).1

/-- FRNDP: to an integral binary32; FNX is not set. -/
def execFrndp (inst : Fin 256) (d a : Fin 32) (s : State) : Res :=
  .next (isaRun inst.val (.frndp d a) (fpu d fun f _ => fround 3 (f a)) s).1

/-- FMADD: a × b + c, rounded once. -/
def execFmadd (inst : Fin 256) (d a b c : Fin 32) (s : State) : Res :=
  .next (isaRun inst.val (.fmadd d a b c) (fpu d fun f _ => f32.fma (f a) (f b) (f c)) s).1

/-- FMSUB: a × b − c, rounded once. -/
def execFmsub (inst : Fin 256) (d a b c : Fin 32) (s : State) : Res :=
  .next (isaRun inst.val (.fmsub d a b c) (fpu d fun f _ => f32.fma (f a) (f b) (f32.flip (f c))) s).1

/-- FNMSUB: −(a × b) + c, rounded once. -/
def execFnmsub (inst : Fin 256) (d a b c : Fin 32) (s : State) : Res :=
  .next (isaRun inst.val (.fnmsub d a b c) (fpu d fun f _ => f32.fma (f32.flip (f a)) (f b) (f c)) s).1

/-- FNMADD: −(a × b) − c, rounded once. -/
def execFnmadd (inst : Fin 256) (d a b c : Fin 32) (s : State) : Res :=
  .next (isaRun inst.val (.fnmadd d a b c) (fpu d fun f _ => f32.fma (f32.flip (f a)) (f b) (f32.flip (f c))) s).1

/-- CADD: the sum in binary32, as FADD. -/
def execCadd (inst : Fin 256) (d a b : Fin 32) (s : State) : Res :=
  .next (isaRun inst.val (.cadd d a b) (cpx d [d, a, b] fun f => cadd (f a) (f (a + 1)) (f b) (f (b + 1))) s).1

/-- CSUB: the difference in binary32, as FSUB. -/
def execCsub (inst : Fin 256) (d a b : Fin 32) (s : State) : Res :=
  .next (isaRun inst.val (.csub d a b) (cpx d [d, a, b] fun f => csub (f a) (f (a + 1)) (f b) (f (b + 1))) s).1

/-- CMUL: the product (R432). -/
def execCmul (inst : Fin 256) (d a b : Fin 32) (s : State) : Res :=
  .next (isaRun inst.val (.cmul d a b) (cpx d [d, a, b] fun f => cmul (f a) (f (a + 1)) (f b) (f (b + 1))) s).1

/-- CMULC: a × conj(b) (R432). -/
def execCmulc (inst : Fin 256) (d a b : Fin 32) (s : State) : Res :=
  .next (isaRun inst.val (.cmulc d a b) (cpx d [d, a, b] fun f => cmulc (f a) (f (a + 1)) (f b) (f (b + 1))) s).1

/-- CSCL: (ar·b, ai·b). -/
def execCscl (inst : Fin 256) (d a b : Fin 32) (s : State) : Res :=
  .next (isaRun inst.val (.cscl d a b) (cpx d [d, a] fun f => cscl (f a) (f (a + 1)) (f b)) s).1

/-- CROT: rotation by the angle b. -/
def execCrot (inst : Fin 256) (d a b : Fin 32) (s : State) : Res :=
  .next (isaRun inst.val (.crot d a b) (cpx d [d, a] fun f => crot (f a) (f (a + 1)) (f b)) s).1

/-- CPOL: (a·cos b, a·sin b). -/
def execCpol (inst : Fin 256) (d a b : Fin 32) (s : State) : Res :=
  .next (isaRun inst.val (.cpol d a b) (cpx d [d] fun f => cpol (f a) (f b)) s).1

/-- CABS: sqrt(ar² + ai²). -/
def execCabs (inst : Fin 256) (d a : Fin 32) (s : State) : Res :=
  .next (isaRun inst.val (.cabs d a) (cpx1 d a cabs) s).1

/-- CARG: atan2(ai, ar). -/
def execCarg (inst : Fin 256) (d a : Fin 32) (s : State) : Res :=
  .next (isaRun inst.val (.carg d a) (cpx1 d a carg) s).1

/-- IENT: the data offset of an entry header (R433). -/
def execIent (inst : Fin 256) (d a : Fin 32) (s : State) : Res :=
  .next (isaRun inst.val (.ient d a) (imageEntry d a) s).1

/-- IELT: the data offset of an element (R434, R435). -/
def execIelt (inst : Fin 256) (d a b : Fin 32) (s : State) : Res :=
  .next (isaRun inst.val (.ielt d a b) (imageElement d a b false) s).1

/-- IQUAL: the data offset of a quality word (R434, R435). -/
def execIqual (inst : Fin 256) (d a b : Fin 32) (s : State) : Res :=
  .next (isaRun inst.val (.iqual d a b) (imageElement d a b true) s).1

/-- QCLS: the class of a quality word (R436). -/
def execQcls (inst : Fin 256) (d a k : Fin 32) (s : State) : Res :=
  .next (isaRun inst.val (.qcls d a k) (qualityClass d a k) s).1

/-- TDIFF: time at Ga − time at Gb (R437). -/
def execTdiff (inst : Fin 256) (d a b : Fin 32) (s : State) : Res :=
  .next (isaRun inst.val (.tdiff d a b) (timeDiff d a b) s).1

/-- TADD: time at Gd := time at Ga + Gb (R437). -/
def execTadd (inst : Fin 256) (d a b : Fin 32) (s : State) : Res :=
  .next (isaRun inst.val (.tadd d a b) (timeAdd d a b) s).1

/-- RDSR: Gd := a special register (Table 11-1). -/
def execRdsr (inst : Fin 256) (d k : Fin 32) (s : State) : Res :=
  .next (isaRun inst.val (.rdsr d k) (readSpecial inst.val d k) s).1

/-- WRSR: FLAGS := Ga without its reserved bits (R419). -/
def execWrsr (inst : Fin 256) (a k : Fin 32) (s : State) : Res :=
  .next (isaRun inst.val (.wrsr a k) (writeSpecial a k) s).1

/-- NOP: none. -/
def execNop (inst : Fin 256) (s : State) : Res := .next (isaRun inst.val .nop noEffect s).1

/-- CLRF: clears FLAGS bits [15:7]. -/
def execClrf (inst : Fin 256) (s : State) : Res :=
  .next (isaRun inst.val .clrf (fun _ _ _ r => some ({ r with flags := r.flags &&& 0x7F }, none)) s).1

/-- ENDSCAN: ends the scan (R438). -/
def execEndscan (inst : Fin 256) (s : State) : Res :=
  let (t, done) := isaRun inst.val .endscan noEffect s
  .next (if done then t.endScan inst.val else t)

/-- ABORT: the scan ends and the instance becomes Faulted with cause Access. -/
def execAbort (inst : Fin 256) (s : State) : Res :=
  .next (isaRun inst.val .abort (fun _ _ _ _ => none) s).1

/-- ILLEGAL_INSTRUCTION (R423): the next word is illegal, or its fetch is (R421). -/
def illegalInstruction (i : Nat) (s : State) : State :=
  match (s.scanOf i).prog with
  | some p =>
    if s.executing i then (match (fetchWord p (s.scanOf i).isa.pc).bind decodeIsa with
      | none => s.faultInstance i 6
      | some _ => s)
    else s
  | none => s

def execIllegalInstruction (inst : Fin 256) (s : State) : Res := .next (illegalInstruction inst.val s)

/-- RETAINED_STORE_WAIT (R422): the store waits; the wait is no cycle of the scan and changes nothing. -/
def execRetainedStoreWait (_inst : Fin 256) (s : State) : Res := .next s

/-- The next instruction would take the sum beyond ExecBudget (R439). -/
def State.overBudget (s : State) (i : Nat) : Bool :=
  let x := s.scanOf i
  match x.prog with
  | some p => (match (fetchWord p x.isa.pc).bind decodeIsa with
      | some c => decide (p.budget < x.isa.cycles + isaCycles x.isa c)
      | none => false)
  | none => false

/-- OVERRUN (R397): the budget is used up, or the deadline has come before the scan ended. -/
def overrun (i : Nat) (s : State) : State :=
  if s.instState i = 3 ∧ (s.scanOf i).phase = 1 then
    (if s.deadlinePassed i then s.overrunInst i 2 else if s.overBudget i then s.overrunInst i 1 else s)
  else s

def execOverrun (inst : Fin 256) (s : State) : Res := .next (overrun inst.val s)

end Sys2Proof.Machine
end

