-- ==== Sys2Proof/Machine/Load.lean ====
section
/-! DEFINITION. Loading the saved configuration at start-up (R669, R670, R674). -/

namespace Sys2Proof.Machine

/-- The steps of Table 19-3 in order, with the order that the chapters give inside a group: which objects each one applies,
by number, and its group. -/
def loadSteps : List (Nat × (Nat → Bool)) :=
  let within (a b : Nat) (id : Nat) : Bool := decide (a * 256 ≤ id) && decide (id < b * 256)
  let channels (lo hi : Nat) (id : Nat) : Bool :=
    within 0x6100 0x6700 id && decide (lo ≤ id / 256 % 256) && decide (id / 256 % 256 ≤ hi)
  [(1, within 0x1000 0x2000),
   (2, within 0xE000 0xF000), (2, within 0xF800 0x10000),
   (3, within 0xC000 0xD000),
   (4, within 0x2000 0x3000),
   (5, within 0x3500 0x3600), (5, fun id => within 0x3000 0x4000 id && !within 0x3500 0x3600 id),
   (6, fun id => within 0x4000 0x4C00 id && !within 0x4200 0x4300 id), (6, within 0x4200 0x4300),
   (7, within 0x4C00 0x5000),
   (8, within 0x5000 0x6000),
   (9, within 0x6000 0x6100), (9, channels 0 0x3F), (9, channels 0x40 0x43), (9, within 0x6700 0x6800),
   (9, within 0x6800 0x7000),
   (10, within 0x7000 0x8000),
   (11, within 0xA000 0xA200), (11, within 0xA300 0xA500),
   (12, within 0x8000 0x9000),
   (13, fun id => within 0x9000 0xA000 id && id != Od.pairEnable), (13, fun id => id == Od.pairEnable)]

/-- The source of the event that an enable refused by the load raises (R297, R332). -/
def enableSource (id : Nat) : Option (Nat × Nat × Nat) :=
  let x := id / 256
  if 0x5700 ≤ x ∧ x ≤ 0x5707 then some (0x200 + (id - Od.intakeEnable) / 2, 0x02, id - Od.intakeEnable)
  else if 0x6400 ≤ x ∧ x ≤ 0x6443 then
    let c := chAt Od.filterEnable id
    some (chSource c, (chItem c).1, (chItem c).2)
  else if 0x6710 ≤ x ∧ x ≤ 0x6717 then
    some (0x780 + (id - Od.phasorEnable) / 64, 0x83, id - Od.phasorEnable)
  else if x = 0x6801 then some (trackerSource (id % 256), 0x84, id % 256)
  else none

/-- One entry takes effect, or its code. The load writes as the Owner where the object lets the Owner write, else as the
Manager, and it is no Put: no block is too busy for it. -/
def State.loadEntry (s : State) (id : Nat) (v : OVal) : State × Nat :=
  match objectRow id with
  | none => (s, Code.noSuchObject.value)
  | some r =>
    let who : Caller := ⟨0, if r.owner.testBit 1 then .owner else .manager, 0⟩
    if id = Od.managerPages then (s, 0)
    else if r.apply = .T then s.after (do
      checkValue r id v
      s.checkChapter who id 0 v
      .ok (if id = Od.fabricEnable then s.applyFabricEnable v.nat else s.setObj id 0 v))
    else s.putValue who r id 0 v

/-- An entry of the copy applied; a refused one is counted, recorded and reported. -/
def State.loadOne (s : State) (id : Nat) (v : OVal) : State :=
  match s.loadEntry id v with
  | (t, 0) => t
  | (t, c) =>
    let word := id / 256 * 2 ^ 32 + id % 256 * 2 ^ 24 + c
    let t := (t.count32 Od.configLoadRefusals).setNum Od.configLoadLastRefused word
    let t := match enableSource id with
      | some (src, kind, num) => t.raiseAdmission src kind num 2 c
      | none => t
    t.raiseOcc 0xE07 0x80 0 1 word

/-- The objects that a shore wake loads: groups 1 and 5 to 13 (R674). -/
def wakeGroup (g : Nat) : Bool := g == 1 || decide (5 ≤ g)

/-- The pending and present values that a shore wake's load replaces: those of module objects of group 1 leave. -/
def State.forgetReloaded (s : State) : State :=
  let module (k : Nat) : Bool := k / 4096 / 2 ^ 20 == 1 && match objectRow (k / 4096) with
    | some r => r.persistent
    | none => false
  let t := s.setDict { s.dict with
    values := s.dict.values.filter fun x => !module x.1
    pendingValues := s.dict.pendingValues.filter fun x => !module x.1 && x.1 / 4096 / 2 ^ 20 != 4 }
  t.applyPending

/-- CONFIG_LOAD: milestone 8. -/
def configLoad (s : State) : State :=
  if s.start.flow = 0 ∨ s.start.milestone ≠ 7 then s
  else
    let wake := s.start.flow = 4
    let t := s.reach [8]
    let t := (t.setStart { t.start with flow := 0 }).setNum Od.bootState 1
    let t := ((t.setNum Od.configLoadRefusals 0).setNum Od.configLoadLastRefused 0).setNum Od.configLoadGtc s.gtc
    let t := [s.dict.copy0, s.dict.copy1].foldl (fun (u : State) c =>
      if !c.valid && c.sequence != 0 then u.raiseOcc 0xE07 0x80 0 2 c.sequence else u) t
    let t := if wake then t.forgetReloaded else t
    let t := match s.configCopy with
      | none => t.setNum Od.configLoadedFrom 0
      | some (d, c) =>
        let t := (t.setNum Od.configLoadedFrom (d + 1)).setNum Od.configSequence c.sequence
        let steps := loadSteps.filter fun g => !wake || wakeGroup g.1
        let t := steps.foldl (fun (u : State) g =>
          c.values.foldl (fun (w : State) x => match x.2 with
            | some v => if g.2 (x.1 / 4096) then w.loadOne (x.1 / 4096) v else w
            | none => w) u) t
        t.setDict { t.dict with versions := s.dict.versions }
    if s.dict.restoreDefaults then t.setDict { t.dict with copy0 := .none_, copy1 := .none_, restoreDefaults := false } else t

def execConfigLoad (s : State) : Res := .next (configLoad s)

end Sys2Proof.Machine
end

