-- ==== Sys2Proof/Machine/Registers.lean ====
section
/-! DEFINITION. Writes of direct registers that have no behaviour of their own (R18): the value is stored, reserved bits and
read-only registers apart. -/

namespace Sys2Proof.Machine

/-- A write into an object window's page (Table 2-10). The fields of WinControl are stored; the operation that they start
is a command of its own. -/
def State.writeWindow (s : State) (k offset v : Nat) : State :=
  let w := s.window k
  if !isWindow k then s
  else if offset = 0 then s.setWindow k { w with object := v }
  else if offset = 4 then s.setWindow k { w with selector := v % 4096 + (if v.testBit 31 then 2 ^ 31 else 0) }
  else if offset = 8 then s.setWindow k { w with length := v % 4096 }
  else if offset = 0xC then (if w.busy then s.setWindow k { w with collision := true } else s.setWindow k { w with control := v % 2048 })
  else if offset = 0x10 then (if v.testBit 29 then s.setWindow k { w with collision := false } else s)
  else if 0x100 ≤ offset ∧ offset < 0x1000 ∧ offset % 4 = 0 then
    s.setWindow k { w with data := splice (slice w.data 0 3840) (offset - 0x100) (toLE 4 v) }
  else s

/-- A write into a fast I/O page (Table 13-2): the words of a submission, and the Collision bit, cleared by writing 1. -/
def State.writeFio (s : State) (i offset v : Nat) : State :=
  let x := s.fqPage i
  if offset < 0x20 ∧ offset % 4 = 0 then s.setFqPage i { x with words := (slice8 x.words).set (offset / 4) v }
  else if offset = 0x24 ∧ v.testBit 29 then s.setFqPage i { x with collision := false }
  else s
where
  /-- Eight words. -/
  slice8 (l : List Nat) : List Nat := (l ++ List.replicate 8 0).take 8

/-- A write into the inbound basket's slots. -/
def State.writeBasket (s : State) (i offset v : Nat) : State :=
  if offset < 64 * 64 ∧ offset % 4 = 0 then
    let k := i * 2 * 64 + offset / 64
    { s with inst := { s.inst with
        baskets := tabSet [] s.inst.baskets k (splice (slice (tabGet [] s.inst.baskets k) 0 64) (offset % 64) (toLE 4 v)) } }
  else s

/-- A write of kinst by the Manager's core software: the valid bit and the instance (R549). -/
def State.writeKinst (s : State) (core v : Nat) : State :=
  { s with mem := { s.mem with kinst := tabSet 0 s.mem.kinst core (v % 4096 + (if v.testBit 31 then 2 ^ 31 else 0)) } }

/-- A write of the vector control word of an MSI-X entry sets or clears its mask (R588). -/
def State.writeMsix (s : State) (fn offset v : Nat) : State :=
  if offset % 16 = 12 ∧ offset / 16 < 64 then
    if v.testBit 0 then
      { s with ev := { s.ev with msixMasked := tabSet false s.ev.msixMasked (fn * 64 + offset / 16) true } }
    else msixUnmask fn (offset / 16) s
  else s

/-- REGISTER_WRITE. -/
def registerWrite (page : RegPage) (offset value : Nat) (s : State) : State :=
  let v := value % 2 ^ 32
  match page with
  | .window w => s.writeWindow w offset v
  | .time _ => s
  | .fio i => s.writeFio i offset v
  | .basketIn i => s.writeBasket i offset v
  | .kinst core => s.writeKinst core v
  | .msix fn => s.writeMsix fn offset v
  | .other p => s.setDict { s.dict with registers := tabSet 0 s.dict.registers (p * 2 ^ 16 + offset) v }

def execRegisterWrite (page : RegPage) (offset value : Nat) (s : State) : Res := .next (registerWrite page offset value s)

end Sys2Proof.Machine
end

