-- ==== Sys2Proof/Machine/Dispatch.lean ====
section
/-! DEFINITION. The meaning of every command, one arm for each constructor. -/

namespace Sys2Proof.Machine

/-- The effect of command `i` on everything but the queue. -/
def exec (i : Instr) (s : State) : Host.Outcome State Fault Refusal :=
  match i with
  | .linkGroupDegraded group link => Sys2Proof.Machine.execLinkGroupDegraded group link s
  | .linkGroupFailed group => Sys2Proof.Machine.execLinkGroupFailed group s
  | .pondCreateChild who pond value => Sys2Proof.Machine.execPondCreateChild who pond value s
  | .pondDelete who pond value => Sys2Proof.Machine.execPondDelete who pond value s
  | .pondMove who pond value => Sys2Proof.Machine.execPondMove who pond value s
  | .pondEnergyShareWrite who pond value => Sys2Proof.Machine.execPondEnergyShareWrite who pond value s
  | .openSession h route role reserved sel => Sys2Proof.Machine.execOpenSession h route role reserved sel s
  | .close h => Sys2Proof.Machine.execClose h s
  | .keepalive h => Sys2Proof.Machine.execKeepalive h s
  | .get via active items => Sys2Proof.Machine.execGet via active items s
  | .put via items => Sys2Proof.Machine.execPut via items s
  | .stage via items => Sys2Proof.Machine.execStage via items s
  | .commit via => Sys2Proof.Machine.execCommit via s
  | .commitAt via dom time => Sys2Proof.Machine.execCommitAt via dom time s
  | .discard via => Sys2Proof.Machine.execDiscard via s
  | .describe via item => Sys2Proof.Machine.execDescribe via item s
  | .readSegment via item offset count => Sys2Proof.Machine.execReadSegment via item offset count s
  | .writeSegment via item offset => Sys2Proof.Machine.execWriteSegment via item offset s
  | .sessionTimeout sess => Sys2Proof.Machine.execSessionTimeout sess s
  | .quiesceComplete sess => Sys2Proof.Machine.execQuiesceComplete sess s
  | .quiesceTimeout sess => Sys2Proof.Machine.execQuiesceTimeout sess s
  | .timedCommitApply sess => Sys2Proof.Machine.execTimedCommitApply sess s
  | .configSave who value => Sys2Proof.Machine.execConfigSave who value s
  | .configSaveDone ok => Sys2Proof.Machine.execConfigSaveDone ok s
  | .configRestoreDefaults who value => Sys2Proof.Machine.execConfigRestoreDefaults who value s
  | .localWindowBinding who w value => Sys2Proof.Machine.execLocalWindowBinding who w value s
  | .winControlCollision w value => Sys2Proof.Machine.execWinControlCollision w value s
  | .windowCompletion w => Sys2Proof.Machine.execWindowCompletion w s
  | .registerWrite page offset value => Sys2Proof.Machine.execRegisterWrite page offset value s
  | .shoreRefLost => Sys2Proof.Machine.execShoreRefLost s
  | .shoreRefReturn => Sys2Proof.Machine.execShoreRefReturn s
  | .ptpMessageReceive d port msg => Sys2Proof.Machine.execPtpMessageReceive d port msg s
  | .ptpSourceLost d => Sys2Proof.Machine.execPtpSourceLost d s
  | .sourceSwitch d => Sys2Proof.Machine.execSourceSwitch d s
  | .holdoverLimitExceeded d => Sys2Proof.Machine.execHoldoverLimitExceeded d s
  | .ppsInEdge => Sys2Proof.Machine.execPpsInEdge s
  | .irigFrame frame marker => Sys2Proof.Machine.execIrigFrame frame marker s
  | .ppsInTimeout => Sys2Proof.Machine.execPpsInTimeout s
  | .leapSecond d => Sys2Proof.Machine.execLeapSecond d s
  | .stepApply d => Sys2Proof.Machine.execStepApply d s
  | .domainSetTime who d time => Sys2Proof.Machine.execDomainSetTime who d time s
  | .domainStep who d amount => Sys2Proof.Machine.execDomainStep who d amount s
  | .domainStepToReference who d value => Sys2Proof.Machine.execDomainStepToReference who d value s
  | .domainStepCancel who d value => Sys2Proof.Machine.execDomainStepCancel who d value s
  | .domainEnable who d value => Sys2Proof.Machine.execDomainEnable who d value s
  | .pairOffsetMeasure d offset peerState peerTrim => Sys2Proof.Machine.execPairOffsetMeasure d offset peerState peerTrim s
  | .gtcLoRead reader => Sys2Proof.Machine.execGtcLoRead reader s
  | .domSecLoRead reader d => Sys2Proof.Machine.execDomSecLoRead reader d s
  | .snapAllTrigger reader => Sys2Proof.Machine.execSnapAllTrigger reader s
  | .pgArm who n => Sys2Proof.Machine.execPgArm who n s
  | .pgDisarm who n => Sys2Proof.Machine.execPgDisarm who n s
  | .pgEdge n => Sys2Proof.Machine.execPgEdge n s
  | .pgPulseEnd n => Sys2Proof.Machine.execPgPulseEnd n s
  | .ppsOutEdge k => Sys2Proof.Machine.execPpsOutEdge k s
  | .ppsOutPulseEnd k => Sys2Proof.Machine.execPpsOutPulseEnd k s
  | .portEnable who n value => Sys2Proof.Machine.execPortEnable who n value s
  | .portMode who n value => Sys2Proof.Machine.execPortMode who n value s
  | .portFec who n value => Sys2Proof.Machine.execPortFec who n value s
  | .linkUp n since => Sys2Proof.Machine.execLinkUp n since s
  | .linkFault n remote => Sys2Proof.Machine.execLinkFault n remote s
  | .signalLossSleep n since => Sys2Proof.Machine.execSignalLossSleep n since s
  | .signalDetect n => Sys2Proof.Machine.execSignalDetect n s
  | .trainingRestart n => Sys2Proof.Machine.execTrainingRestart n s
  | .fecDegraded n ratio => Sys2Proof.Machine.execFecDegraded n ratio s
  | .portReset who n => Sys2Proof.Machine.execPortReset who n s
  | .portResetForced who n => Sys2Proof.Machine.execPortResetForced who n s
  | .frameReceive n octets => Sys2Proof.Machine.execFrameReceive n octets s
  | .frameTransmit n => Sys2Proof.Machine.execFrameTransmit n s
  | .lpiEnter n => Sys2Proof.Machine.execLpiEnter n s
  | .lpiWake n => Sys2Proof.Machine.execLpiWake n s
  | .downshiftRequest n thermal => Sys2Proof.Machine.execDownshiftRequest n thermal s
  | .upshiftRequest n => Sys2Proof.Machine.execUpshiftRequest n s
  | .shiftRequest n txn target source admitted => Sys2Proof.Machine.execShiftRequest n txn target source admitted s
  | .shiftAccept n txn => Sys2Proof.Machine.execShiftAccept n txn s
  | .shiftDecline n txn cause => Sys2Proof.Machine.execShiftDecline n txn cause s
  | .shiftMarker n txn aligned => Sys2Proof.Machine.execShiftMarker n txn aligned s
  | .shiftTxResume n => Sys2Proof.Machine.execShiftTxResume n s
  | .shiftAlignFail n => Sys2Proof.Machine.execShiftAlignFail n s
  | .portCounterSnapshot who n value => Sys2Proof.Machine.execPortCounterSnapshot who n value s
  | .allPortSnapshot who value => Sys2Proof.Machine.execAllPortSnapshot who value s
  | .portCounterClear who n value => Sys2Proof.Machine.execPortCounterClear who n value s
  | .filterEntryWrite who n slot value => Sys2Proof.Machine.execFilterEntryWrite who n slot value s
  | .octetPllLockLoss k => Sys2Proof.Machine.execOctetPllLockLoss k s
  | .octetPllStop k => Sys2Proof.Machine.execOctetPllStop k s
  | .streamAdmit who e value => Sys2Proof.Machine.execStreamAdmit who e value s
  | .admissionShiftWait e => Sys2Proof.Machine.execAdmissionShiftWait e s
  | .streamWithdraw who e value => Sys2Proof.Machine.execStreamWithdraw who e value s
  | .learn pipeline => Sys2Proof.Machine.execLearn pipeline s
  | .skimmerSweep => Sys2Proof.Machine.execSkimmerSweep s
  | .staticMacWrite who slot value => Sys2Proof.Machine.execStaticMacWrite who slot value s
  | .soundingPass => Sys2Proof.Machine.execSoundingPass s
  | .dropEvent counter => Sys2Proof.Machine.execDropEvent counter s
  | .shaperRateWrite who n q value => Sys2Proof.Machine.execShaperRateWrite who n q value s
  | .redSupervisionSend g => Sys2Proof.Machine.execRedSupervisionSend g s
  | .redNodeForget g address => Sys2Proof.Machine.execRedNodeForget g address s
  | .xosynHelloSend n => Sys2Proof.Machine.execXosynHelloSend n s
  | .xosynHello n serial fabricId address seen => Sys2Proof.Machine.execXosynHello n serial fabricId address seen s
  | .neighbourTimeout n => Sys2Proof.Machine.execNeighbourTimeout n s
  | .delayReqSend n => Sys2Proof.Machine.execDelayReqSend n s
  | .delayReq n source seq => Sys2Proof.Machine.execDelayReq n source seq s
  | .delayResp n t2 residence seq => Sys2Proof.Machine.execDelayResp n t2 residence seq s
  | .lsaOriginate => Sys2Proof.Machine.execLsaOriginate s
  | .lsa n head msg => Sys2Proof.Machine.execLsa n head msg s
  | .lsaAgeOut serial => Sys2Proof.Machine.execLsaAgeOut serial s
  | .addressDecide => Sys2Proof.Machine.execAddressDecide s
  | .addressAssign serial address cause => Sys2Proof.Machine.execAddressAssign serial address cause s
  | .routeCompute => Sys2Proof.Machine.execRouteCompute s
  | .flowEnable who f value => Sys2Proof.Machine.execFlowEnable who f value s
  | .flowDisable who f value => Sys2Proof.Machine.execFlowDisable who f value s
  | .flowSetup n head msg => Sys2Proof.Machine.execFlowSetup n head msg s
  | .flowAck n head msg => Sys2Proof.Machine.execFlowAck n head msg s
  | .flowRefuse n head msg => Sys2Proof.Machine.execFlowRefuse n head msg s
  | .flowRelease n head msg => Sys2Proof.Machine.execFlowRelease n head msg s
  | .flowSetupTimeout f pathB => Sys2Proof.Machine.execFlowSetupTimeout f pathB s
  | .flowData n head carried => Sys2Proof.Machine.execFlowData n head carried s
  | .timeSend d => Sys2Proof.Machine.execTimeSend d s
  | .time source d offer pathDelay valid => Sys2Proof.Machine.execTime source d offer pathDelay valid s
  | .fabricSourceLost d address => Sys2Proof.Machine.execFabricSourceLost d address s
  | .pondReportSend => Sys2Proof.Machine.execPondReportSend s
  | .pondReport source msg => Sys2Proof.Machine.execPondReport source msg s
  | .memberStale address => Sys2Proof.Machine.execMemberStale address s
  | .datagram n head payload => Sys2Proof.Machine.execDatagram n head payload s
  | .sinkEntryWrite who k value => Sys2Proof.Machine.execSinkEntryWrite who k value s
  | .sinkPathSilent k pathB => Sys2Proof.Machine.execSinkPathSilent k pathB s
  | .intakeFrame => Sys2Proof.Machine.execIntakeFrame s
  | .horizonClose e => Sys2Proof.Machine.execHorizonClose e s
  | .intakeEnable who e value => Sys2Proof.Machine.execIntakeEnable who e value s
  | .intakeKeySlots who e value => Sys2Proof.Machine.execIntakeKeySlots who e value s
  | .streamSilent e => Sys2Proof.Machine.execStreamSilent e s
  | .filterOutput c => Sys2Proof.Machine.execFilterOutput c s
  | .phasorOutput p => Sys2Proof.Machine.execPhasorOutput p s
  | .filterInput who c value => Sys2Proof.Machine.execFilterInput who c value s
  | .filterEnable who c value => Sys2Proof.Machine.execFilterEnable who c value s
  | .filterScale who c value => Sys2Proof.Machine.execFilterScale who c value s
  | .firSetWrite who k value => Sys2Proof.Machine.execFirSetWrite who k value s
  | .phasorEnable who p value => Sys2Proof.Machine.execPhasorEnable who p value s
  | .trackerEnable who t value => Sys2Proof.Machine.execTrackerEnable who t value s
  | .chainEccError corrected fir n => Sys2Proof.Machine.execChainEccError corrected fir n s
  | .chainScrubPass micros => Sys2Proof.Machine.execChainScrubPass micros s
  | .unitArm who u => Sys2Proof.Machine.execUnitArm who u s
  | .unitDisarm who u => Sys2Proof.Machine.execUnitDisarm who u s
  | .unitDisarmAfterFreeze who u => Sys2Proof.Machine.execUnitDisarmAfterFreeze who u s
  | .triggerDecide u => Sys2Proof.Machine.execTriggerDecide u s
  | .unitSoftTrigger who u value => Sys2Proof.Machine.execUnitSoftTrigger who u value s
  | .recordFreeze u => Sys2Proof.Machine.execRecordFreeze u s
  | .recordLock who u slot => Sys2Proof.Machine.execRecordLock who u slot s
  | .recordUnlock who u slot => Sys2Proof.Machine.execRecordUnlock who u slot s
  | .recordRelease who u slot => Sys2Proof.Machine.execRecordRelease who u slot s
  | .rippleEdge line asserted => Sys2Proof.Machine.execRippleEdge line asserted s
  | .rippleRelease line => Sys2Proof.Machine.execRippleRelease line s
  | .rippleStuck line => Sys2Proof.Machine.execRippleStuck line s
  | .trigger n head msg => Sys2Proof.Machine.execTrigger n head msg s
  | .exportRequest who value => Sys2Proof.Machine.execExportRequest who value s
  | .exportDone failed => Sys2Proof.Machine.execExportDone failed s
  | .acqEccError corrected u slot => Sys2Proof.Machine.execAcqEccError corrected u slot s
  | .lockstepMismatch p => Sys2Proof.Machine.execLockstepMismatch p s
  | .spRecover who p value => Sys2Proof.Machine.execSpRecover who p value s
  | .spSelfTestDone p pass => Sys2Proof.Machine.execSpSelfTestDone p pass s
  | .spEccError p corrected code inst => Sys2Proof.Machine.execSpEccError p corrected code inst s
  | .spScrubPass p micros => Sys2Proof.Machine.execSpScrubPass p micros s
  | .programLoad who inst address => Sys2Proof.Machine.execProgramLoad who inst address s
  | .programLoadDone inst => Sys2Proof.Machine.execProgramLoadDone inst s
  | .coldStart who inst => Sys2Proof.Machine.execColdStart who inst s
  | .warmStart who inst => Sys2Proof.Machine.execWarmStart who inst s
  | .stopCmd who inst => Sys2Proof.Machine.execStopCmd who inst s
  | .imageFreeze inst => Sys2Proof.Machine.execImageFreeze inst s
  | .overrun inst => Sys2Proof.Machine.execOverrun inst s
  | .scanBoundary inst => Sys2Proof.Machine.execScanBoundary inst s
  | .autoRestart inst => Sys2Proof.Machine.execAutoRestart inst s
  | .ferrySwitch who inst scan => Sys2Proof.Machine.execFerrySwitch who inst scan s
  | .ferryCancel who inst value => Sys2Proof.Machine.execFerryCancel who inst value s
  | .addi inst d a imm => Sys2Proof.Machine.execAddi inst d a imm s
  | .andi inst d a imm => Sys2Proof.Machine.execAndi inst d a imm s
  | .ori inst d a imm => Sys2Proof.Machine.execOri inst d a imm s
  | .xori inst d a imm => Sys2Proof.Machine.execXori inst d a imm s
  | .shiSll inst d a amount => Sys2Proof.Machine.execShiSll inst d a amount s
  | .shiSrl inst d a amount => Sys2Proof.Machine.execShiSrl inst d a amount s
  | .shiSra inst d a amount => Sys2Proof.Machine.execShiSra inst d a amount s
  | .cmpi inst a imm => Sys2Proof.Machine.execCmpi inst a imm s
  | .movi inst d imm => Sys2Proof.Machine.execMovi inst d imm s
  | .cati inst d a imm => Sys2Proof.Machine.execCati inst d a imm s
  | .ldb inst d a imm => Sys2Proof.Machine.execLdb inst d a imm s
  | .ldbu inst d a imm => Sys2Proof.Machine.execLdbu inst d a imm s
  | .ldh inst d a imm => Sys2Proof.Machine.execLdh inst d a imm s
  | .ldhu inst d a imm => Sys2Proof.Machine.execLdhu inst d a imm s
  | .ldw inst d a imm => Sys2Proof.Machine.execLdw inst d a imm s
  | .ldwu inst d a imm => Sys2Proof.Machine.execLdwu inst d a imm s
  | .ldd inst d a imm => Sys2Proof.Machine.execLdd inst d a imm s
  | .fldw inst d a imm => Sys2Proof.Machine.execFldw inst d a imm s
  | .stb inst d a imm => Sys2Proof.Machine.execStb inst d a imm s
  | .sth inst d a imm => Sys2Proof.Machine.execSth inst d a imm s
  | .stw inst d a imm => Sys2Proof.Machine.execStw inst d a imm s
  | .std inst d a imm => Sys2Proof.Machine.execStd inst d a imm s
  | .fstw inst d a imm => Sys2Proof.Machine.execFstw inst d a imm s
  | .bCmd inst cond offset => Sys2Proof.Machine.execBCmd inst cond offset s
  | .bl inst offset => Sys2Proof.Machine.execBl inst offset s
  | .jr inst d a => Sys2Proof.Machine.execJr inst d a s
  | .bz inst a offset => Sys2Proof.Machine.execBz inst a offset s
  | .bnz inst a offset => Sys2Proof.Machine.execBnz inst a offset s
  | .add inst d a b => Sys2Proof.Machine.execAdd inst d a b s
  | .sub inst d a b => Sys2Proof.Machine.execSub inst d a b s
  | .adds inst d a b => Sys2Proof.Machine.execAdds inst d a b s
  | .subs inst d a b => Sys2Proof.Machine.execSubs inst d a b s
  | .neg inst d a => Sys2Proof.Machine.execNeg inst d a s
  | .negs inst d a => Sys2Proof.Machine.execNegs inst d a s
  | .abs inst d a => Sys2Proof.Machine.execAbs inst d a s
  | .abss inst d a => Sys2Proof.Machine.execAbss inst d a s
  | .cmp inst a b => Sys2Proof.Machine.execCmp inst a b s
  | .mul inst d a b => Sys2Proof.Machine.execMul inst d a b s
  | .muls inst d a b => Sys2Proof.Machine.execMuls inst d a b s
  | .mulh inst d a b => Sys2Proof.Machine.execMulh inst d a b s
  | .mulhu inst d a b => Sys2Proof.Machine.execMulhu inst d a b s
  | .div inst d a b => Sys2Proof.Machine.execDiv inst d a b s
  | .divu inst d a b => Sys2Proof.Machine.execDivu inst d a b s
  | .rem inst d a b => Sys2Proof.Machine.execRem inst d a b s
  | .remu inst d a b => Sys2Proof.Machine.execRemu inst d a b s
  | .andCmd inst d a b => Sys2Proof.Machine.execAndCmd inst d a b s
  | .orCmd inst d a b => Sys2Proof.Machine.execOrCmd inst d a b s
  | .xor inst d a b => Sys2Proof.Machine.execXor inst d a b s
  | .andn inst d a b => Sys2Proof.Machine.execAndn inst d a b s
  | .notCmd inst d a => Sys2Proof.Machine.execNotCmd inst d a s
  | .sll inst d a b => Sys2Proof.Machine.execSll inst d a b s
  | .srl inst d a b => Sys2Proof.Machine.execSrl inst d a b s
  | .sra inst d a b => Sys2Proof.Machine.execSra inst d a b s
  | .minCmd inst d a b => Sys2Proof.Machine.execMinCmd inst d a b s
  | .maxCmd inst d a b => Sys2Proof.Machine.execMaxCmd inst d a b s
  | .minu inst d a b => Sys2Proof.Machine.execMinu inst d a b s
  | .maxu inst d a b => Sys2Proof.Machine.execMaxu inst d a b s
  | .sext8 inst d a => Sys2Proof.Machine.execSext8 inst d a s
  | .sext16 inst d a => Sys2Proof.Machine.execSext16 inst d a s
  | .sext32 inst d a => Sys2Proof.Machine.execSext32 inst d a s
  | .zext8 inst d a => Sys2Proof.Machine.execZext8 inst d a s
  | .zext16 inst d a => Sys2Proof.Machine.execZext16 inst d a s
  | .zext32 inst d a => Sys2Proof.Machine.execZext32 inst d a s
  | .sat16 inst d a => Sys2Proof.Machine.execSat16 inst d a s
  | .sat32 inst d a => Sys2Proof.Machine.execSat32 inst d a s
  | .clz inst d a => Sys2Proof.Machine.execClz inst d a s
  | .sel inst cond d a b => Sys2Proof.Machine.execSel inst cond d a b s
  | .fadd inst d a b => Sys2Proof.Machine.execFadd inst d a b s
  | .fsub inst d a b => Sys2Proof.Machine.execFsub inst d a b s
  | .fmul inst d a b => Sys2Proof.Machine.execFmul inst d a b s
  | .fdiv inst d a b => Sys2Proof.Machine.execFdiv inst d a b s
  | .fsqrt inst d a => Sys2Proof.Machine.execFsqrt inst d a s
  | .fmin inst d a b => Sys2Proof.Machine.execFmin inst d a b s
  | .fmax inst d a b => Sys2Proof.Machine.execFmax inst d a b s
  | .fabs inst d a => Sys2Proof.Machine.execFabs inst d a s
  | .fneg inst d a => Sys2Proof.Machine.execFneg inst d a s
  | .fmov inst d a => Sys2Proof.Machine.execFmov inst d a s
  | .feq inst d a b => Sys2Proof.Machine.execFeq inst d a b s
  | .flt inst d a b => Sys2Proof.Machine.execFlt inst d a b s
  | .fle inst d a b => Sys2Proof.Machine.execFle inst d a b s
  | .fclass inst d a => Sys2Proof.Machine.execFclass inst d a s
  | .fcvtfl inst d a => Sys2Proof.Machine.execFcvtfl inst d a s
  | .fcvtflu inst d a => Sys2Proof.Machine.execFcvtflu inst d a s
  | .fcvtlf inst d a => Sys2Proof.Machine.execFcvtlf inst d a s
  | .fcvtlfz inst d a => Sys2Proof.Machine.execFcvtlfz inst d a s
  | .fmvgf inst d a => Sys2Proof.Machine.execFmvgf inst d a s
  | .fmvfg inst d a => Sys2Proof.Machine.execFmvfg inst d a s
  | .frndn inst d a => Sys2Proof.Machine.execFrndn inst d a s
  | .frndz inst d a => Sys2Proof.Machine.execFrndz inst d a s
  | .frndm inst d a => Sys2Proof.Machine.execFrndm inst d a s
  | .frndp inst d a => Sys2Proof.Machine.execFrndp inst d a s
  | .fmadd inst d a b c => Sys2Proof.Machine.execFmadd inst d a b c s
  | .fmsub inst d a b c => Sys2Proof.Machine.execFmsub inst d a b c s
  | .fnmsub inst d a b c => Sys2Proof.Machine.execFnmsub inst d a b c s
  | .fnmadd inst d a b c => Sys2Proof.Machine.execFnmadd inst d a b c s
  | .cadd inst d a b => Sys2Proof.Machine.execCadd inst d a b s
  | .csub inst d a b => Sys2Proof.Machine.execCsub inst d a b s
  | .cmul inst d a b => Sys2Proof.Machine.execCmul inst d a b s
  | .cmulc inst d a b => Sys2Proof.Machine.execCmulc inst d a b s
  | .cscl inst d a b => Sys2Proof.Machine.execCscl inst d a b s
  | .cabs inst d a => Sys2Proof.Machine.execCabs inst d a s
  | .carg inst d a => Sys2Proof.Machine.execCarg inst d a s
  | .crot inst d a b => Sys2Proof.Machine.execCrot inst d a b s
  | .cpol inst d a b => Sys2Proof.Machine.execCpol inst d a b s
  | .ient inst d a => Sys2Proof.Machine.execIent inst d a s
  | .ielt inst d a b => Sys2Proof.Machine.execIelt inst d a b s
  | .iqual inst d a b => Sys2Proof.Machine.execIqual inst d a b s
  | .qcls inst d a selector => Sys2Proof.Machine.execQcls inst d a selector s
  | .tdiff inst d a b => Sys2Proof.Machine.execTdiff inst d a b s
  | .tadd inst d a b => Sys2Proof.Machine.execTadd inst d a b s
  | .nop inst => Sys2Proof.Machine.execNop inst s
  | .endscan inst => Sys2Proof.Machine.execEndscan inst s
  | .rdsr inst d sr => Sys2Proof.Machine.execRdsr inst d sr s
  | .wrsr inst a sr => Sys2Proof.Machine.execWrsr inst a sr s
  | .clrf inst => Sys2Proof.Machine.execClrf inst s
  | .abort inst => Sys2Proof.Machine.execAbort inst s
  | .illegalInstruction inst => Sys2Proof.Machine.execIllegalInstruction inst s
  | .retainedStoreWait inst => Sys2Proof.Machine.execRetainedStoreWait inst s
  | .pairEnable who value => Sys2Proof.Machine.execPairEnable who value s
  | .pairHelloSend => Sys2Proof.Machine.execPairHelloSend s
  | .pairHello port seq serial pairId role beat dom => Sys2Proof.Machine.execPairHello port seq serial pairId role beat dom s
  | .pairIsolated => Sys2Proof.Machine.execPairIsolated s
  | .beat c0 c1 => Sys2Proof.Machine.execBeat c0 c1 s
  | .beatReceive port seq msg => Sys2Proof.Machine.execBeatReceive port seq msg s
  | .digestSend => Sys2Proof.Machine.execDigestSend s
  | .digest port seq records => Sys2Proof.Machine.execDigest port seq records s
  | .digestCompare inst => Sys2Proof.Machine.execDigestCompare inst s
  | .statusSend => Sys2Proof.Machine.execStatusSend s
  | .status port seq msg => Sys2Proof.Machine.execStatus port seq msg s
  | .leaseExpiry => Sys2Proof.Machine.execLeaseExpiry s
  | .claim claimIn => Sys2Proof.Machine.execClaim claimIn s
  | .claimSample claimIn => Sys2Proof.Machine.execClaimSample claimIn s
  | .claimInAsserted => Sys2Proof.Machine.execClaimInAsserted s
  | .claimLineFault since => Sys2Proof.Machine.execClaimLineFault since s
  | .releaseCause => Sys2Proof.Machine.execReleaseCause s
  | .release port seq instant cause => Sys2Proof.Machine.execRelease port seq instant cause s
  | .offer port seq instant cause => Sys2Proof.Machine.execOffer port seq instant cause s
  | .accept port seq instant cause => Sys2Proof.Machine.execAccept port seq instant cause s
  | .refuse port seq instant cause => Sys2Proof.Machine.execRefuse port seq instant cause s
  | .takeRequest port seq instant cause => Sys2Proof.Machine.execTakeRequest port seq instant cause s
  | .takeBack => Sys2Proof.Machine.execTakeBack s
  | .handoverInstant => Sys2Proof.Machine.execHandoverInstant s
  | .paddleHandOver who => Sys2Proof.Machine.execPaddleHandOver who s
  | .paddleTake who => Sys2Proof.Machine.execPaddleTake who s
  | .clearSuspect who => Sys2Proof.Machine.execClearSuspect who s
  | .clearRevertSuspended who => Sys2Proof.Machine.execClearRevertSuspended who s
  | .pairJoin who inst => Sys2Proof.Machine.execPairJoin who inst s
  | .resyncData port seq msg => Sys2Proof.Machine.execResyncData port seq msg s
  | .resyncAbandon inst => Sys2Proof.Machine.execResyncAbandon inst s
  | .ferryPropose port seq inst scan tag => Sys2Proof.Machine.execFerryPropose port seq inst scan tag s
  | .ferryAccept port seq inst scan tag => Sys2Proof.Machine.execFerryAccept port seq inst scan tag s
  | .ferryCancelMessage port seq inst scan tag => Sys2Proof.Machine.execFerryCancelMessage port seq inst scan tag s
  | .startPropose port seq inst mode scan tag => Sys2Proof.Machine.execStartPropose port seq inst mode scan tag s
  | .startAccept port seq inst mode scan tag => Sys2Proof.Machine.execStartAccept port seq inst mode scan tag s
  | .selfTestFail test => Sys2Proof.Machine.execSelfTestFail test s
  | .fioEntryExecute pin => Sys2Proof.Machine.execFioEntryExecute pin s
  | .heldEntryDiscard pin => Sys2Proof.Machine.execHeldEntryDiscard pin s
  | .fqSubmit inst => Sys2Proof.Machine.execFqSubmit inst s
  | .fqSubmitCollision inst => Sys2Proof.Machine.execFqSubmitCollision inst s
  | .fioInputEdge pin high sample => Sys2Proof.Machine.execFioInputEdge pin high sample s
  | .chatterClear pin => Sys2Proof.Machine.execChatterClear pin s
  | .readbackFault pin differs => Sys2Proof.Machine.execReadbackFault pin differs s
  | .fioClassWrite who pin polarity value => Sys2Proof.Machine.execFioClassWrite who pin polarity value s
  | .lsConversion samples => Sys2Proof.Machine.execLsConversion samples s
  | .lsCalibrateZero who m => Sys2Proof.Machine.execLsCalibrateZero who m s
  | .lsCalibrateSpan who m => Sys2Proof.Machine.execLsCalibrateSpan who m s
  | .lsCalibrationDone m => Sys2Proof.Machine.execLsCalibrationDone m s
  | .tcsDelayExpiry m => Sys2Proof.Machine.execTcsDelayExpiry m s
  | .instanceCreate who value => Sys2Proof.Machine.execInstanceCreate who value s
  | .instanceDelete who value => Sys2Proof.Machine.execInstanceDelete who value s
  | .vfInstance who n value => Sys2Proof.Machine.execVfInstance who n value s
  | .functionLevelReset fn => Sys2Proof.Machine.execFunctionLevelReset fn s
  | .ringProd inst ring value => Sys2Proof.Machine.execRingProd inst ring value s
  | .ringCons inst ring value => Sys2Proof.Machine.execRingCons inst ring value s
  | .ringCommand inst ring value => Sys2Proof.Machine.execRingCommand inst ring value s
  | .ringStatusKnock inst ring value => Sys2Proof.Machine.execRingStatusKnock inst ring value s
  | .ringConfig who inst ring value => Sys2Proof.Machine.execRingConfig who inst ring value s
  | .txPacketSend inst ring dma => Sys2Proof.Machine.execTxPacketSend inst ring dma s
  | .resetDrain who inst => Sys2Proof.Machine.execResetDrain who inst s
  | .resetSquash who inst => Sys2Proof.Machine.execResetSquash who inst s
  | .resetComplete inst => Sys2Proof.Machine.execResetComplete inst s
  | .drainLimitExpiry inst => Sys2Proof.Machine.execDrainLimitExpiry inst s
  | .hbmBindHost who inst count first => Sys2Proof.Machine.execHbmBindHost who inst count first s
  | .hbmBindManager who count first => Sys2Proof.Machine.execHbmBindManager who count first s
  | .hbmUnbind who count first => Sys2Proof.Machine.execHbmUnbind who count first s
  | .hbmRetire who count first => Sys2Proof.Machine.execHbmRetire who count first s
  | .protectionViolation core virt write addr => Sys2Proof.Machine.execProtectionViolation core virt write addr s
  | .dmaViolation inst ring addr data => Sys2Proof.Machine.execDmaViolation inst ring addr data s
  | .readShared core line => Sys2Proof.Machine.execReadShared core line s
  | .readUnique core line store => Sys2Proof.Machine.execReadUnique core line store s
  | .upgrade core line store => Sys2Proof.Machine.execUpgrade core line store s
  | .writeback core line arrived => Sys2Proof.Machine.execWriteback core line arrived s
  | .cleanEvict core line arrived => Sys2Proof.Machine.execCleanEvict core line arrived s
  | .ioRead line => Sys2Proof.Machine.execIoRead line s
  | .ioWrite line offset data => Sys2Proof.Machine.execIoWrite line offset data s
  | .snoop core line => Sys2Proof.Machine.execSnoop core line s
  | .hbmEccError addr l3 => Sys2Proof.Machine.execHbmEccError addr l3 s
  | .hbmEccCorrected addr l3 checkBit => Sys2Proof.Machine.execHbmEccCorrected addr l3 checkBit s
  | .directoryEccError line => Sys2Proof.Machine.execDirectoryEccError line s
  | .hbmScrubPass micros => Sys2Proof.Machine.execHbmScrubPass micros s
  | .l3ScrubPass die micros => Sys2Proof.Machine.execL3ScrubPass die micros s
  | .eventRaiseInDie die source code kind num detail => Sys2Proof.Machine.execEventRaiseInDie die source code kind num detail s
  | .eventRelease markN markC0 markC1 markS => Sys2Proof.Machine.execEventRelease markN markC0 markC1 markS s
  | .dieSilent die mark => Sys2Proof.Machine.execDieSilent die mark s
  | .dieReadmit die mark => Sys2Proof.Machine.execDieReadmit die mark s
  | .eqCoalesceTimeout q => Sys2Proof.Machine.execEqCoalesceTimeout q s
  | .eqKick q => Sys2Proof.Machine.execEqKick q s
  | .eqConfig who q value => Sys2Proof.Machine.execEqConfig who q value s
  | .evtPinPulseEnd k => Sys2Proof.Machine.execEvtPinPulseEnd k s
  | .evtPinAck who k value => Sys2Proof.Machine.execEvtPinAck who k value s
  | .eventRaise who value => Sys2Proof.Machine.execEventRaise who value s
  | .recorderWrite => Sys2Proof.Machine.execRecorderWrite s
  | .recorderCrcPass => Sys2Proof.Machine.execRecorderCrcPass s
  | .operatingSecondsSave => Sys2Proof.Machine.execOperatingSecondsSave s
  | .recorderFreeze who => Sys2Proof.Machine.execRecorderFreeze who s
  | .recorderUnfreeze who => Sys2Proof.Machine.execRecorderUnfreeze who s
  | .freezeLimitExpiry => Sys2Proof.Machine.execFreezeLimitExpiry s
  | .recorderClear who value => Sys2Proof.Machine.execRecorderClear who value s
  | .imageBoot => Sys2Proof.Machine.execImageBoot s
  | .bootConfirm who value => Sys2Proof.Machine.execBootConfirm who value s
  | .securityVersionAdvance who value => Sys2Proof.Machine.execSecurityVersionAdvance who value s
  | .ownerBootKeyProgram who value => Sys2Proof.Machine.execOwnerBootKeyProgram who value s
  | .ownerBootKeyRevoke who value => Sys2Proof.Machine.execOwnerBootKeyRevoke who value s
  | .measureExtend who value => Sys2Proof.Machine.execMeasureExtend who value s
  | .recoveryBlock who b value => Sys2Proof.Machine.execRecoveryBlock who b value s
  | .recoveryRestart who value => Sys2Proof.Machine.execRecoveryRestart who value s
  | .ownerClaim who value => Sys2Proof.Machine.execOwnerClaim who value s
  | .ownerRelease who value => Sys2Proof.Machine.execOwnerRelease who value s
  | .credentialEntry who n value => Sys2Proof.Machine.execCredentialEntry who n value s
  | .credentialSecret who n value => Sys2Proof.Machine.execCredentialSecret who n value s
  | .keyLoad who slot value => Sys2Proof.Machine.execKeyLoad who slot value s
  | .keyLoadDone slot readBack => Sys2Proof.Machine.execKeyLoadDone slot readBack s
  | .keyCommit who slot after => Sys2Proof.Machine.execKeyCommit who slot after s
  | .keyDiscard who slot => Sys2Proof.Machine.execKeyDiscard who slot s
  | .keyErase who slot value => Sys2Proof.Machine.execKeyErase who slot value s
  | .journalCheckPass bad => Sys2Proof.Machine.execJournalCheckPass bad s
  | .sluice cause => Sys2Proof.Machine.execSluice cause s
  | .sluiceCommand who value => Sys2Proof.Machine.execSluiceCommand who value s
  | .tamperStatusKnock who value => Sys2Proof.Machine.execTamperStatusKnock who value s
  | .attestMSecret who value => Sys2Proof.Machine.execAttestMSecret who value s
  | .attestMChallenge who value => Sys2Proof.Machine.execAttestMChallenge who value s
  | .attestMResponse who => Sys2Proof.Machine.execAttestMResponse who s
  | .attestPGenerate who value => Sys2Proof.Machine.execAttestPGenerate who value s
  | .attestPChallenge who value => Sys2Proof.Machine.execAttestPChallenge who value s
  | .attestPQuote who => Sys2Proof.Machine.execAttestPQuote who s
  | .hamperTick rails => Sys2Proof.Machine.execHamperTick rails s
  | .holdupConversion code => Sys2Proof.Machine.execHoldupConversion code s
  | .shedCoreGate => Sys2Proof.Machine.execShedCoreGate s
  | .holdupCalibrateZero who => Sys2Proof.Machine.execHoldupCalibrateZero who s
  | .holdupCalibrateSpan who => Sys2Proof.Machine.execHoldupCalibrateSpan who s
  | .holdupCalibrationDone => Sys2Proof.Machine.execHoldupCalibrationDone s
  | .moduleSleepEnter who => Sys2Proof.Machine.execModuleSleepEnter who s
  | .moduleSleepLeave who => Sys2Proof.Machine.execModuleSleepLeave who s
  | .thermalSample temps => Sys2Proof.Machine.execThermalSample temps s
  | .throttleStep => Sys2Proof.Machine.execThrottleStep s
  | .thermalDownshiftStep => Sys2Proof.Machine.execThermalDownshiftStep s
  | .thermalTrip => Sys2Proof.Machine.execThermalTrip s
  | .thermalTripShore => Sys2Proof.Machine.execThermalTripShore s
  | .powerOnReset supply => Sys2Proof.Machine.execPowerOnReset supply s
  | .powerOnResetEnd roleB bad => Sys2Proof.Machine.execPowerOnResetEnd roleB bad s
  | .railCheckRetry outside => Sys2Proof.Machine.execRailCheckRetry outside s
  | .fastDiesUp => Sys2Proof.Machine.execFastDiesUp s
  | .managerStarted => Sys2Proof.Machine.execManagerStarted s
  | .configLoad => Sys2Proof.Machine.execConfigLoad s
  | .wrstN => Sys2Proof.Machine.execWrstN s
  | .moduleResetWarm who => Sys2Proof.Machine.execModuleResetWarm who s
  | .moduleResetPowerOn who => Sys2Proof.Machine.execModuleResetPowerOn who s
  | .moduleResetForced who => Sys2Proof.Machine.execModuleResetForced who s
  | .warmResetDone => Sys2Proof.Machine.execWarmResetDone s
  | .shoreWake => Sys2Proof.Machine.execShoreWake s
  | .srefCheck edges ppm => Sys2Proof.Machine.execSrefCheck edges ppm s
  | .pePerstN asserted => Sys2Proof.Machine.execPePerstN asserted s
  | .bootFlashBlock who b value => Sys2Proof.Machine.execBootFlashBlock who b value s
  | .bootFlashVerify who value => Sys2Proof.Machine.execBootFlashVerify who value s
  | .mb0TargetWrite pointer data => Sys2Proof.Machine.execMb0TargetWrite pointer data s
  | .powerFail value => Sys2Proof.Machine.execPowerFail value s
  | .wake value => Sys2Proof.Machine.execWake value s
  | .boardControllerWrite ack => Sys2Proof.Machine.execBoardControllerWrite ack s
  | .mb1RecordSend monitor ack => Sys2Proof.Machine.execMb1RecordSend monitor ack s
  | .mb1RecordReceive pointer data => Sys2Proof.Machine.execMb1RecordReceive pointer data s
  | .arbitrationLost bus monitor asTarget => Sys2Proof.Machine.execArbitrationLost bus monitor asTarget s
  | .mbRetry bus ack => Sys2Proof.Machine.execMbRetry bus ack s
  | .mbBusRecovery bus sclHigh => Sys2Proof.Machine.execMbBusRecovery bus sclHigh s
  | .unitSleepEntry unit n => Sys2Proof.Machine.execUnitSleepEntry unit n s
  | .preFreezeWake inst => Sys2Proof.Machine.execPreFreezeWake inst s
  | .sgmiiSpeedChange n speed => Sys2Proof.Machine.execSgmiiSpeedChange n speed s
  | .ptpMessageSend d port kind => Sys2Proof.Machine.execPtpMessageSend d port kind s
  | .dtlsHandshake addr port assoc cookie client ok => Sys2Proof.Machine.execDtlsHandshake addr port assoc cookie client ok s
  | .dtlsAssociationEnd assoc => Sys2Proof.Machine.execDtlsAssociationEnd assoc s
  | .pairedStartTimeout inst => Sys2Proof.Machine.execPairedStartTimeout inst s
  | .ferryProposeTimeout inst => Sys2Proof.Machine.execFerryProposeTimeout inst s
  | .releaseInstant => Sys2Proof.Machine.execReleaseInstant s
  | .selfTestRecover test => Sys2Proof.Machine.execSelfTestRecover test s
  | .tamperCauseClear cause => Sys2Proof.Machine.execTamperCauseClear cause s
  | .mgmtLinkChange state => Sys2Proof.Machine.execMgmtLinkChange state s
  | .pcieLinkChange width rate => Sys2Proof.Machine.execPcieLinkChange width rate s
  | .msixVectorUnmask fn vector => Sys2Proof.Machine.execMsixVectorUnmask fn vector s
  | .rippleStuckClear line => Sys2Proof.Machine.execRippleStuckClear line s
  | .bootFlashBlockDone ok => Sys2Proof.Machine.execBootFlashBlockDone ok s
  | .bootFlashVerifyDone => Sys2Proof.Machine.execBootFlashVerifyDone s
  | .functionLevelResetDone fn => Sys2Proof.Machine.execFunctionLevelResetDone fn s
  | .octetPllLocked k => Sys2Proof.Machine.execOctetPllLocked k s
  | .keyCommitDone slot => Sys2Proof.Machine.execKeyCommitDone slot s

end Sys2Proof.Machine
end

