-- ==== Sys2Proof/Machine/Step.lean ====
section
/-! DEFINITION. One step of the block: the command at the front of the queue, or a tick of the Global Tick Counter. -/

namespace Sys2Proof.Machine

/-- The state with one more command at the front of its queue. -/
def State.withFront (s : State) (i : Instr) : State := { s with pending := i :: s.pending }

/-- The state with `q` as its queue. -/
def State.withQueue (s : State) (q : List Instr) : State := { s with pending := q }

/-- An empty queue lets the Global Tick Counter advance by one count of 1 ns (R36, R37), and nothing else. DESIGN CHOICE: the spec gives the
block a clock and the table no row for its tick; log entry 1. -/
def State.tick (s : State) : State := { s with gtc := (s.gtc + 1) % 2 ^ 64 }

/-- Take the command at the front of the queue and execute it; idle for one tick on an empty queue. -/
def step (s : State) : Host.Outcome State Fault Refusal :=
  match s.pending with
  | [] => .next s.tick
  | i :: q => exec i (s.withQueue q)

/-- The state whose next step executes the command that a word spells; unchanged where the word spells none. -/
def State.withFetchWord (s : State) (nbits w : Nat) : State :=
  match decodeTableWord nbits w with
  | some i => s.withFront i
  | none => s

end Sys2Proof.Machine
end

