-- ==== Sys2Proof/Safety.lean ====
section
/-! DEFINITION. The terms that the statements use: when a command is admitted, and what a step leaves. -/

namespace Sys2Proof.Machine

/-! ### Admission of an action, its answer, and updates of one group of the state -/

/-- The checks of R104 before a chapter's own let the write or action through: address, role, lock, form and range. -/
def State.lets (s : State) (who : Caller) (id : Nat) (present : Bool) (sel : Nat) (v : OVal) : Bool :=
  (s.gateRange who id present sel v).isOk

/-- The same without the range that the object's table states. -/
def State.letsForm (s : State) (who : Caller) (id : Nat) (present : Bool) (sel : Nat) (v : OVal) : Bool :=
  (s.gate who id present sel v).isOk

/-- The effect `s` together with the answer Done to the caller. -/
def State.done (s : State) (who : Caller) : State := s.emit (.answer who.sess 0)

/-- No effect but the answer with a refusal code (R103). -/
def State.turned (s : State) (who : Caller) (c : Code) : State := s.emit (.answer who.sess c.value)

def State.withTime (s : State) (f : TimeSt → TimeSt) : State := { s with time := f s.time }
def State.withDict (s : State) (f : DictSt → DictSt) : State := { s with dict := f s.dict }
def State.withPond (s : State) (f : PondSt → PondSt) : State := { s with pond := f s.pond }
def State.withSw (s : State) (f : SwitchSt → SwitchSt) : State := { s with sw := f s.sw }
def State.withFab (s : State) (f : FabricSt → FabricSt) : State := { s with fab := f s.fab }
def State.withIntake (s : State) (f : IntakeSt → IntakeSt) : State := { s with intake := f s.intake }
def State.withChain (s : State) (f : ChainSt → ChainSt) : State := { s with chain := f s.chain }
def State.withAcq (s : State) (f : AcqSt → AcqSt) : State := { s with acq := f s.acq }
def State.withScanAll (s : State) (f : ScanAll → ScanAll) : State := { s with scan := f s.scan }
def State.withPair (s : State) (f : PairSt → PairSt) : State := { s with pair := f s.pair }
def State.withFio (s : State) (f : FioSt → FioSt) : State := { s with fio := f s.fio }
def State.withInst (s : State) (f : InstSt → InstSt) : State := { s with inst := f s.inst }
def State.withMem (s : State) (f : MemSt → MemSt) : State := { s with mem := f s.mem }
def State.withEv (s : State) (f : EventSt → EventSt) : State := { s with ev := f s.ev }
def State.withSec (s : State) (f : SecSt → SecSt) : State := { s with sec := f s.sec }
def State.withEnergy (s : State) (f : EnergySt → EnergySt) : State := { s with energy := f s.energy }
def State.withStart (s : State) (f : StartSt → StartSt) : State := { s with start := f s.start }
def State.withBoard (s : State) (f : BoardSt → BoardSt) : State := { s with board := f s.board }

/-! ### The time page -/

def State.latched (s : State) (reader : Nat) (l : TimeLatch) : State :=
  { s with time := { s.time with latches := tabSet .init s.time.latches reader l } }

def State.snapped (s : State) (reader : Nat) (x : SnapAll) : State :=
  { s with time := { s.time with snaps := tabSet .init s.time.snaps reader x } }

/-! ### Requests and writes (Chapter 2) -/

/-- Every check of R104 lets the write through: address, role, lock, form, range, and those of the object's chapter. -/
def State.letsWrite (s : State) (who : Caller) (id : Nat) (present : Bool) (sel : Nat) (v : OVal) : Bool :=
  (do
    let r ← s.gate who id present sel v
    checkValue r id v
    s.checkChapter who id sel v : Except Code Unit).isOk

/-- Balmuene accepts the request of header `h` as the next one of session `x`: it is served, the header fits, the sequence
number follows, no request is being executed and a token is there (R92, R96, R98). -/
def State.takes (s : State) (h : Header) (x : Session) : Bool :=
  s.balmueneServed && headerFits h && s.named h == some x && h.seq == (x.lastSeq + 1) % 2 ^ 32 && !x.executing
    && decide (tokenUnit ≤ s.tokensNow x)

/-- The state in which an accepted request is executed: it is counted, and its session has taken the token. -/
def State.taken (s : State) (h : Header) (x : Session) : State :=
  (s.count48 Od.balmueneRequests).setSession h.session (some { x with
    lastSeq := h.seq, firstDone := true, tokens := s.tokensNow x - tokenUnit, tokensAt := s.gtc
    lastRequest := s.gtc, executing := true, cached := none })

/-- The end of an accepted request: reply with code `c` and body `b`, cached and sent to the requester. -/
def State.replied (s : State) (h : Header) (op c : Nat) (b : ReplyBody) : State :=
  s.conclude h.session ⟨op + 0x80, c, h.seq, b⟩ [(h.addr, h.port)]

/-- A window of role `role` takes an operation: it is one of the windows and not busy (R100, R101). -/
def State.windowTakes (s : State) (k : Nat) (x : Session) : Bool :=
  isWindow k && !(s.window k).busy && (s.windowRole k).1 != .nobody && s.session k == some x

/-- The window is busy with the operation. -/
def State.windowTaken (s : State) (k : Nat) : State :=
  s.setWindow k { s.window k with busy := true, done := false, result := none }

def State.withEnergyShare (s : State) (p v : Nat) : State := s.setNum Od.pondEnergyShare v p

/-- The tables of ponds with the record of `p` replaced. -/
def State.withPondRec (s : State) (p : Nat) (r : Option PondRec) : State :=
  { s with pond := { s.pond with ponds := tabSet none s.pond.ponds p r } }

/-! ### Scan words -/

/-- The fields of `c` are those that its group admits (R423): a condition is 0 to 14, register pairs are even, a class
selector is 0 or 1, SR 0 to 10 are read and SR 0 is written. -/
def IsaOp.legal : IsaOp → Bool
  | .bCmd c _ => c.val != 15
  | .sel c _ _ _ => c.val != 15
  | .cadd d a b | .csub d a b | .cmul d a b | .cmulc d a b => d.val % 2 == 0 && a.val % 2 == 0 && b.val % 2 == 0
  | .cscl d a _ | .crot d a _ => d.val % 2 == 0 && a.val % 2 == 0
  | .cabs _ a | .carg _ a => a.val % 2 == 0
  | .cpol d _ _ => d.val % 2 == 0
  | .qcls _ _ k => decide (k.val < 2)
  | .rdsr _ k => decide (k.val ≤ 10)
  | .wrsr _ k => k.val == 0
  | _ => true

/-! ### Events -/

/-- No die's event buffer holds more than its room (R582). -/
def State.buffersFit (s : State) : Prop := ∀ d : Die, (s.evDie d).buffer.length ≤ evCapacity d

/-! ### Scan instructions (Chapter 11) -/

/-- Instance `i` executes its scan, its deadline is ahead, the word at its PC is the word of `c`, and the cycles of `c`
do not take the sum beyond ExecBudget (R397, R420, R439). -/
def State.readyFor (s : State) (i : Nat) (c : IsaOp) : Bool :=
  match (s.scanOf i).prog with
  | none => false
  | some p => s.executing i && !s.deadlinePassed i && fetchWord p (s.scanOf i).isa.pc == some (isaWord c)
      && decide ((s.scanOf i).isa.cycles + isaCycles (s.scanOf i).isa c ≤ p.budget)

/-- The registers of instance `i`. -/
def State.regs (s : State) (i : Nat) : IsaSt := (s.scanOf i).isa

/-- G register `k` of instance `i`. -/
def State.g (s : State) (i : Nat) (k : Fin 32) : BitVec 64 := (s.regs i).getG k

/-- F register `k` of instance `i`, as its binary32 pattern. -/
def State.f (s : State) (i k : Nat) : Nat := (s.regs i).getF k

/-- The registers of instance `i` with PC moved to the next word and the cycles of `c` counted (R439, Table 11-13). -/
def State.stepped (s : State) (i : Nat) (c : IsaOp) : IsaSt :=
  { s.regs i with pc := (s.regs i).pc + 4, cycles := (s.regs i).cycles + isaCycles (s.regs i) c }

/-- `s` with `r` as the registers of instance `i`. -/
def State.withRegs (s : State) (i : Nat) (r : IsaSt) : State := s.setScan i { s.scanOf i with isa := r }

/-- `s` with `r` as the registers of instance `i`, and octets `b` stored in its data memory from `a` on. -/
def State.withStore (s : State) (i : Nat) (r : IsaSt) (a : Nat) (b : Bytes) : State :=
  s.setScan i { s.scanOf i with isa := r, data := memWrite (s.scanOf i).data a b }

/-- An integer result by Table 11-8: Gd, N and Z from the result, C, V, SV if V, DZ. -/
def IsaSt.deliver (r : IsaSt) (d : Fin 32) (v : BitVec 64) (c ov dz : Bool) : IsaSt :=
  { r.setG d v with flags := setFlags r.flags v.msb (v == 0) c ov ov dz }

/-- A floating-point result: Fd and the sticky flags. -/
def IsaSt.deliverF (r : IsaSt) (d : Nat) (v fl : Nat) : IsaSt := { r.setF d v with flags := stickF r.flags fl }

/-- A G register from floating-point operands, and the sticky flags. -/
def IsaSt.deliverGF (r : IsaSt) (d : Fin 32) (v fl : Nat) : IsaSt :=
  { r.setG d (BitVec.ofNat 64 v) with flags := stickF r.flags fl }

/-- The exact result `x` lies outside MIN to MAX (R424). -/
def outside64 (x : Int) : Bool := decide (x < -(2 ^ 63) ∨ 2 ^ 63 ≤ x)

/-- The value nearest `x` in the signed range of `w` bits (R424). -/
def nearest (w : Nat) (x : Int) : Int := max (-(2 ^ (w - 1))) (min (2 ^ (w - 1) - 1) x)

/-- An access of `n` octets at `a` lies in the data memory of instance `i` and is aligned (R421). -/
def State.dataOk (s : State) (i a n : Nat) : Bool := match (s.scanOf i).prog with
  | none => false
  | some p => p.allows a n

/-- The effective address Ga + sext(imm) modulo 2^64 (R421). -/
def State.ea (s : State) (i : Nat) (a : Fin 32) (imm : Fin 65536) : Nat := (s.g i a + sext16 imm).toNat

/-- The fault of an instruction: its cycles count and the instance becomes Faulted with cause Access (R421, R423). -/
def State.accessFault (s : State) (i : Nat) (c : IsaOp) : State :=
  (s.withRegs i { s.regs i with cycles := (s.stepped i c).cycles }).faultInstance i 6

/-- Registers with FLAGS replaced. -/
def IsaSt.withFlags (r : IsaSt) (w : BitVec 64) : IsaSt := { r with flags := w }

/-- Registers with PC replaced. -/
def IsaSt.withPc (r : IsaSt) (pc : Nat) : IsaSt := { r with pc := pc }

end Sys2Proof.Machine
end

