-- ==== Sys2Proof/Certificates/Slice0/Obligations.lean ====
section
/-! DEFINITION. The statements for the provers. Each docstring says what the statement states and what of the spec it rests on. -/

section

open Sys2Proof Sys2Proof.Machine

/-- Ponds and in-package links: create, delete, move, energy share, and what a failed link does (Chapter 1; R24; R25; R44; R45;
R49; R51). With the checks of R104 passed: POND_CREATE_CHILD puts a user pond of the next depth under an instance or user pond
and answers Done; POND_DELETE takes an empty user pond out; POND_MOVE of one item that the source holds, outside every
instance, changes its holder; POND_ENERGY_SHARE_WRITE writes the share and counts the version; a move of an item that the
source does not hold is refused with NotOwner. LINK_GROUP_DEGRADED marks the link down with its event; LINK_GROUP_FAILED marks
every link of the group down and stops the 16 processors of the C-die that it cuts off. -/
def Obligations.PondsAndLinks : Prop :=
  (∀ (s : State) (g : Fin 5) (l : Fin 4), 1 < groupLinks g → l.val < groupLinks g → tabGet false s.pond.linkDown (g * 8 + l) = false →
    exec (.linkGroupDegraded g l) s = .next ((s.withPond fun x =>
      { x with linkDown := tabSet false x.linkDown (g * 8 + l) true }).raiseOcc 0xC12 0x80 0 1 g))
  ∧ (∀ (s : State) (g : Fin 5) (d : Nat), cutDie g = some d → ∃ t : State, exec (.linkGroupFailed g) s
      = .next ((numbersFrom (16 * d) 16).foldl State.stopProcessor (t.raiseOcc 0xC12 0x80 0 2 g))
      ∧ ∀ l, l < groupLinks g → tabGet false t.pond.linkDown (g * 8 + l) = true)
  ∧ (∀ (s : State) (who : Caller) (p v : Nat) (r : PondRec), s.lets who Od.pondCreateChild true p (.num v) = true →
    s.pondAt v = none → s.pondAt p = some r → (r.kind = 1 ∨ r.kind = 5) → r.depth < 8 →
    exec (.pondCreateChild who p v) s = .next (((s.forgetSelector v).withPondRec v (some ⟨5, p, r.depth + 1⟩)).done who))
  ∧ (∀ (s : State) (who : Caller) (p : Nat) (r : PondRec), s.lets who Od.pondDelete true p (.num 1) = true →
    s.pondAt p = some r → r.kind = 5 → s.holdsItems p = false → s.pondChildren p = [] →
    ∃ t : State, exec (.pondDelete who p 1) s = .next (t.done who) ∧ t.pondAt p = none)
  ∧ (∀ (s : State) (who : Caller) (src dest kind n : Nat), dest < 2 ^ 12 → kind < 2 ^ 8 → n < itemCount kind →
    s.letsForm who Od.pondMove true src (.num (dest * 2 ^ 48 + kind * 2 ^ 40 + 2 ^ 24 + n)) = true →
    (s.pondAt dest).isSome = true → who.role ≠ .tenant → s.holderOf kind n = src → s.moveBusy src dest = false →
    s.itemInUse kind n = false → src ≤ 0xF00 → dest ≤ 0xF00 → kind ≠ 0x0B →
    exec (.pondMove who src (dest * 2 ^ 48 + kind * 2 ^ 40 + 2 ^ 24 + n)) s = .next ((s.moveItem kind dest n).watchHealth.done who))
  ∧ (∀ (s : State) (who : Caller) (src dest kind n : Nat), dest < 2 ^ 12 → kind < 2 ^ 8 → n < itemCount kind →
    s.letsForm who Od.pondMove true src (.num (dest * 2 ^ 48 + kind * 2 ^ 40 + 2 ^ 24 + n)) = true →
    (s.pondAt dest).isSome = true → who.role ≠ .tenant → s.holderOf kind n ≠ src →
    exec (.pondMove who src (dest * 2 ^ 48 + kind * 2 ^ 40 + 2 ^ 24 + n)) s = .next (s.turned who .notOwner))
  ∧ (∀ (s : State) (who : Caller) (p v : Nat), s.letsForm who Od.pondEnergyShare true p (.num v) = true →
    s.checkShare who p v = .ok () →
    exec (.pondEnergyShareWrite who p v) s = .next (((s.withEnergyShare p v).bumpVersion Od.pondEnergyShare p).done who))

/-- Sessions: opened by a checked Open, closed by Close, idle time or the end of their association (Chapter 2; R91; R97; R98; R99;
R712). A checked OPEN on Balmuene opens a session of the role and selector with a full token bucket and replies with its
number, 1,400 octets and the idle time in seconds; a refused one replies with its code. An accepted CLOSE ends the session and
replies Done; an accepted KEEPALIVE replies Done. SESSION_TIMEOUT after BalmueneSessionTimeout without a request ends the
session. A completed DTLS handshake enters its association, a failed one counts; the end of an association ends every session
on it. -/
def Obligations.SessionLifecycle : Prop :=
  (∀ (s : State) (h : Header) (role sel : Nat), s.balmueneServed = true → (h.assoc = 0 ∨ (tabGet none s.dict.assocs h.assoc).isSome) →
    headerFits h = true → h.body = 4 → s.openedBy h = none → s.checkOpen h role 0 sel = .ok () →
    ∃ (t : State) (k : Nat), exec (.openSession h .dtls role 0 sel) s = .next (t.sendReply h.addr h.port k
        ⟨0x81, 0, h.seq, .opened k 1400 (s.num Od.balmueneSessionTimeout / 1000)⟩)
      ∧ ∃ x : Session, t.session k = some x ∧ x.role = roleOf role ∧ x.inst = sel ∧ x.addr = h.addr ∧ x.port = h.port ∧ x.lastSeq = h.seq
        ∧ x.tokens = s.num Od.balmueneRequestRate * tokenUnit ∧ x.stage = [] ∧ x.timed = none)
  ∧ (∀ (s : State) (h : Header) (role res sel : Nat) (c : Code), s.balmueneServed = true → h.assoc = 0 →
    headerFits h = true → h.body = 4 → s.openedBy h = none → s.checkOpen h role res sel = .error c →
    exec (.openSession h .udp role res sel) s = .next (s.sendReply h.addr h.port 0 ⟨0x81, c.value, h.seq, .empty⟩))
  ∧ (∀ (s : State) (h : Header) (x : Session), s.takes h x = true →
    exec (.close h) s = .next (((s.taken h x).endSession h.session).replied h 2 0 .empty))
  ∧ (∀ (s : State) (h : Header) (x : Session), s.takes h x = true →
    exec (.keepalive h) s = .next ((s.taken h x).replied h 3 0 .empty))
  ∧ (∀ (s : State) (k : Nat) (x : Session), s.session k = some x → k < 2 ^ 32 →
    x.lastRequest + s.num Od.balmueneSessionTimeout * 1000000 ≤ s.gtc → exec (.sessionTimeout k) s = .next (s.endSession k))
  ∧ (∀ (s : State) (addr port assoc : Nat) (client : DtlsClient), s.balmueneServed = true → assoc ≠ 0 →
    tabGet none s.dict.assocs assoc = none → s.dict.assocs.length < 32 →
    exec (.dtlsHandshake addr port assoc false client true) s = .next ((s.withDict fun x => { x with
      assocs := tabSet none x.assocs assoc (some ⟨false, client, addr, port⟩) }).emit (.dtls addr port false true)))
  ∧ (∀ (s : State) (addr port assoc : Nat) (client : DtlsClient), s.balmueneServed = true →
    exec (.dtlsHandshake addr port assoc false client false) s = .next ((s.count32 Od.balmueneHandshakeFailures).emit
      (.dtls addr port false false)))
  ∧ (∀ (s : State) (a : Nat), a ≠ 0 → ∃ t : State, t = (s.sessionsWith fun _ x => x.assoc == a).foldl State.endSession s
      ∧ exec (.dtlsAssociationEnd a) s = .next (t.withDict fun x => { x with assocs := tabSet none x.assocs a none }))

/-- Accepted requests: items in order, staging, commits now and at a time, discards, descriptions and segments, each with its
reply (Chapter 2; R70; R72; R73; R74; R75; R94; R95; R96; R98). For a request that Balmuene accepts as the next of its session
(takes), exec executes it on the state that has counted it and replies. GET, PUT and STAGE treat 1 to 64 items in order, each
with its code. COMMIT of a set whose entries all check out applies the set at once, empties it, and replies with the GTC.
COMMIT_AT holds the set with its domain and time. DISCARD empties the set and withdraws a held commit. DESCRIBE answers type,
apply class, attributes, access, length, Default and bounds of an addressed object. READ_SEGMENT and WRITE_SEGMENT answer or
take part of a value. -/
def Obligations.RequestsOfASession : Prop :=
  (∀ (s u : State) (h : Header) (x : Session) (active : Bool) (l : List Item) (r : List ReplyItem), s.takes h x = true →
    1 ≤ l.length → l.length ≤ 64 → (s.taken h x).getItems (x.caller h.session) false active 1384 l [] = (u, r) →
    exec (.get (.balmuene h) active l) s = .next (u.replied h 0x10 (firstCode r) (.items r)))
  ∧ (∀ (s : State) (h : Header) (x : Session) (i : Item) (c : Nat) (u : State), s.takes h x = true → itemWhole i = true →
    (s.taken h x).putObject (x.caller h.session) h.session (itemId i) i.present i.sel i.typ (itemOctets i) = (u, c) →
    exec (.put (.balmuene h) [i]) s = .next (u.replied h 0x11 (firstCode [⟨c, i.typ, []⟩]) (.items [⟨c, i.typ, []⟩])))
  ∧ (∀ (s u : State) (h : Header) (x : Session) (i : Item), s.takes h x = true → itemWhole i = true →
    (s.taken h x).stageObject (x.caller h.session) h.session (itemId i) i.present i.sel i.typ (itemOctets i) = .ok u →
    exec (.stage (.balmuene h) [i]) s = .next (u.replied h 0x12 0 (.items [⟨0, i.typ, []⟩])))
  ∧ (∀ (s u : State) (h : Header) (x : Session), s.takes h x = true →
    (s.taken h x).commitSet (x.caller h.session) x.stage = .done u →
    exec (.commit (.balmuene h)) s = .next ((u.clearStage h.session).replied h 0x13 0 (.commit 0xFFFF 0 s.gtc)))
  ∧ (∀ (s u : State) (h : Header) (x : Session) (n c : Nat), s.takes h x = true →
    (s.taken h x).commitSet (x.caller h.session) x.stage = .failed n c u →
    exec (.commit (.balmuene h)) s = .next (u.replied h 0x13 c (.commit n c 0)))
  ∧ (∀ (s u : State) (h : Header) (x : Session) (d time : Nat) (bs : List (Nat × Block)), s.takes h x = true → x.timed = none →
    d ≤ 7 → time / 2 ^ 16 % 2 ^ 32 ≤ 999999999 → (s.dom d).state ≠ 0 → (s.dom d).valueAt s.gtc ≤ valueOfTime time →
    (s.taken h x).commitRun (x.caller h.session) (s.taken h x) 0 x.stage [] = .ok (u, bs) →
    ∃ (t : State) (y : Session), exec (.commitAt (.balmuene h) d time) s = .next (t.replied h 0x13 0 (.commit 0xFFFF 0 0))
      ∧ t.session h.session = some y ∧ y.stage = []
      ∧ ∃ c : TimedCommit, y.timed = some c ∧ c.dom = d ∧ c.time = (valueOfTime time / 2 ^ 32).toNat ∧ c.ents = x.stage)
  ∧ (∀ (s : State) (h : Header) (x : Session), s.takes h x = true → ∃ (t : State) (y : Session),
    exec (.discard (.balmuene h)) s = .next (t.replied h 0x14 0 .empty) ∧ t.session h.session = some y
      ∧ y.stage = [] ∧ y.timed = none)
  ∧ (∀ (s : State) (h : Header) (x : Session) (i : Item) (r : ObjectRow), s.takes h x = true →
    (s.taken h x).checkAddress (itemId i) i.present i.sel = .ok r →
    exec (.describe (.balmuene h) i) s = .next ((s.taken h x).replied h 0x15 0 (.describe r.typ.code r.apply.ascii
      ((s.taken h x).attributesOf r (itemId i)) [r.owner, r.manager, r.tenant, r.observer] r.maxLength
      (octetsOf false r.typ (objDefault (itemId i))) (r.bounds false).1 (r.bounds false).2 r.name)))
  ∧ (∀ (s u : State) (h : Header) (x : Session) (i : Item) (r : ObjectRow) (v : OVal) (off n : Nat), s.takes h x = true →
    (s.taken h x).readObject (x.caller h.session) (itemId i) i.present i.sel i.typ false = (u, .ok (r, v)) →
    off ≤ (octetsOf false r.typ v).length → n ≤ 1372 →
    exec (.readSegment (.balmuene h) i off n) s = .next (u.replied h 0x16 0
      (.items [⟨0, r.typ.code, ((octetsOf false r.typ v).drop off).take n⟩])))
  ∧ (∀ (s u : State) (h : Header) (x : Session) (i : Item) (off c : Nat), s.takes h x = true → itemWhole i = true →
    (s.taken h x).writeSegment (x.caller h.session) i off = (u, c) →
    exec (.writeSegment (.balmuene h) i off) s = .next (u.replied h 0x17 c (.items [⟨c, i.typ, []⟩])))

/-- Waiting commits, timed commits, object windows, register writes, and saving the configuration (Chapter 2; R75; R76; R79; R84;
R89; R101; R102; R670). QUIESCE_COMPLETE checks a waiting set once more and applies it; QUIESCE_TIMEOUT 10 ms after the start
refuses it with QuiesceTimeout and resumes the blocks. TIMED_COMMIT_APPLY applies a due held set once, or raises the event of
R75. CONFIG_SAVE starts a save of the persistent set into the older copy, CONFIG_SAVE_DONE ends it, CONFIG_RESTORE_DEFAULTS is
pending for the next restart. A LocalWindowBinding write rebinds a window; an operation on a busy window sets Collision alone;
WINDOW_COMPLETION sets Done, the code and the data. REGISTER_WRITE stores a register. -/
def Obligations.CommitsWindowsAndSaving : Prop :=
  (∀ (s u : State) (k : Nat) (x : Session) (j : QuiesceJob) (bs : List (Nat × Block)), s.jobOf k = some j → s.session k = some x →
    (s.dropJob j).commitRun (x.caller k) (s.dropJob j) 0 j.ents [] = .ok (u, bs) → bs.all (fun y => !blockForbidden y.2) = true →
    exec (.quiesceComplete k) s = .next ((if j.timed then u else u.clearStage k).commitEnds j 0xFFFF 0))
  ∧ (∀ (s : State) (k : Nat) (j : QuiesceJob), s.jobOf k = some j → j.start + 10000000 ≤ s.gtc →
    exec (.quiesceTimeout k) s = .next (((s.dropJob j).resumeBlocks j.waiting).commitEnds j
      ((j.waiting.head?.map (·.1)).getD 0) Code.quiesceTimeout.value))
  ∧ (∀ (s u : State) (k : Nat) (x : Session) (c : TimedCommit), s.session k = some x → x.timed = some c → s.timedDue c = true →
    s.timedHeld.all (fun o => !s.timedDue o || decide (c.order ≤ o.order)) = true →
    (s.setSession k (some { x with timed := none })).commitSet (x.caller k) c.ents = .done u →
    exec (.timedCommitApply k) s = .next u)
  ∧ (∀ (s u : State) (k n e : Nat) (x : Session) (c : TimedCommit), s.session k = some x → x.timed = some c → s.timedDue c = true →
    s.timedHeld.all (fun o => !s.timedDue o || decide (c.order ≤ o.order)) = true →
    (s.setSession k (some { x with timed := none })).commitSet (x.caller k) c.ents = .failed n e u →
    exec (.timedCommitApply k) s = .next (u.failTimed k n e))
  ∧ (∀ (s : State) (who : Caller), s.lets who Od.configSave false 0 (.num 1) = true → s.dict.saving = none → s.shedLevel < 2 →
    ∃ t : State, exec (.configSave who 1) s = .next (t.done who) ∧ t.num Od.configSaveStatus = 1
      ∧ t.dict.saving = some (s.olderCopy, ⟨true, (s.lastSequence + 1) % 2 ^ 32, s.persistentValues⟩)
      ∧ (if s.olderCopy = 0 then t.dict.copy0.valid = false else t.dict.copy1.valid = false))
  ∧ (∀ (s : State) (d : Nat) (c : ConfigCopy), s.dict.saving = some (d, c) → exec (.configSaveDone true) s = .next
    ((((s.setDict { s.dict with saving := none }).setCopy d c).setNum Od.configSequence c.sequence).setNum Od.configSaveStatus 2))
  ∧ (∀ (s : State) (who : Caller), s.lets who Od.configRestoreDefaults false 0 (.num 1) = true →
    exec (.configRestoreDefaults who 1) s = .next ((s.withDict fun x => { x with restoreDefaults := true }).done who))
  ∧ (∀ (s : State) (who : Caller) (w : Fin 64) (v : Nat),
    s.letsWrite who (Od.localWindowBinding + w) false 0 (.num v) = true →
    exec (.localWindowBinding who w v) s = .next (((s.bindWindow w v).bumpVersion (Od.localWindowBinding + w) 0).done who))
  ∧ (∀ (s : State) (k v : Nat), v < 2 ^ 32 → (s.window k).busy = true →
    exec (.winControlCollision k v) s = .next (s.setWindow k { s.window k with collision := true }))
  ∧ (∀ (s : State) (k : Nat) (l : List Item) (active : Bool), isWindow k = true → (s.window k).busy = true →
    exec (.get (.window k) active l) s = .next (s.setWindow k { s.window k with collision := true })
    ∧ exec (.put (.window k) []) s = .next (s.setWindow k { s.window k with collision := true })
    ∧ exec (.commit (.window k)) s = .next (s.setWindow k { s.window k with collision := true }))
  ∧ (∀ (s : State) (k : Nat) (r : Reply), (s.window k).busy = true → (s.window k).result = some r → (s.window k).control = 0 →
    ∃ t : State, exec (.windowCompletion k) s = .next t ∧ (t.window k).busy = false ∧ (t.window k).done = true
      ∧ (t.window k).code = r.status ∧ (t.window k).result = none)
  ∧ (∀ (s : State) (p off v : Nat), v < 2 ^ 32 → exec (.registerWrite (.other p) off v) s = .next (s.withDict fun x => { x with
      registers := tabSet 0 x.registers (p * 2 ^ 16 + off) v }))

/-- The shore reference, PTP, PPS and IRIG-B: what each event of a time source does to the domains (Chapter 3; R106; R107; R114;
R115; R117; R119; R120; R128; R129). SHORE_REF_LOST starts the backup oscillator, counts the loss, and sends every enabled
domain to RefFault and its generators to Held; SHORE_REF_RETURN undoes it. A first accepted Announce makes its sender the
master; a two-step Sync of the master is kept for its Follow_Up; a Pdelay_Req is answered. PTP_SOURCE_LOST, PPS_IN_TIMEOUT and
a third bad IRIG frame withdraw the source. SOURCE_SWITCH activates the first source of higher priority that stayed qualified
for 10 s. HOLDOVER_LIMIT_EXCEEDED enters HoldoverBeyond. LEAP_SECOND changes TaiUtcOffset by one. PPS_IN_EDGE and IRIG_FRAME
measure the domains. PTP_MESSAGE_SEND sends a Sync or Announce of a master port. Each clause says when. -/
def Obligations.TimeReferencesAndSources : Prop :=
  (∀ s : State, s.time.backup = false → exec .shoreRefLost s = .next ((numbersFrom 0 8).foldl State.holdGens
    (((((s.withTime fun x => { x with backup := true }).setNum Od.shoreRefState 1).count32 Od.shoreRefLossCount).raiseState
      0x1C0 0x80 0 0 1 0 0).eachDom fun d u => if (u.dom d).state = 0 then u else u.domEnter d 6 (u.dom d))))
  ∧ (∀ s : State, s.time.backup = true → exec .shoreRefReturn s = .next
    ((((s.withTime fun x => { x with backup := false }).setNum Od.shoreRefState 0).raiseState 0x1C0 0x80 0 1 0 0 0).eachDom
      fun d u => if (u.dom d).state = 6 then u.domEnter d (if (u.dom d).lockedSinceEnable then 2 else 1) (u.dom d) else u))
  ∧ (∀ (s : State) (d : Fin 8) (port : Fin 256) (p1 cc ac va p2 idt st : Nat), s.ptpOn d port = true →
    (s.dom d).ptp.master = none → s.num (Od.ptpSlaveOnly + 256 * d) = 1 →
    ∃ t : State, exec (.ptpMessageReceive d port (.announce p1 cc ac va p2 idt st 37 false false false)) s = .next t
      ∧ (t.dom d).ptp.master = some (⟨p1, cc, ac, va, p2, idt, st⟩, port.val) ∧ (t.dom d).ptp.lastAnnounce = s.gtc)
  ∧ (∀ (s : State) (d : Fin 8) (port : Fin 256) (sq : Nat) (origin corr : Int) (a : Announce), s.ptpOn d port = true →
    (s.dom d).ptp.master = some (a, port.val) →
    exec (.ptpMessageReceive d port (.sync sq true origin corr)) s = .next (s.setPtp d
      { (s.dom d).ptp with lastSync := s.gtc, syncWait := some (sq, s.gtc, corr) }))
  ∧ (∀ (s : State) (d : Fin 8) (port : Fin 256) (sq t1 : Nat) (corr : Int), s.ptpOn d port = true → s.ptpPeer d = true →
    exec (.ptpMessageReceive d port (.pdelayReq sq t1 corr)) s = .next (s.emit (.ptp d port 3 sq 0)))
  ∧ (∀ (s : State) (d : Fin 8), (s.dom d).state ≠ 0 → (s.dom d).ptp.master.isSome = true →
    ((s.dom d).ptp.lastAnnounce + (s.ptpIntervals d).2.2.2 * (s.ptpIntervals d).2.1 ≤ s.gtc
      ∨ (s.dom d).ptp.lastSync + 3 * (s.ptpIntervals d).1 ≤ s.gtc) →
    exec (.ptpSourceLost d) s = .next ((s.setPtp d { (s.dom d).ptp with master := none, syncWait := none }).loseSource d 1))
  ∧ (∀ (s : State) (d : Fin 8) (port : Fin 256) (kind : Nat), s.ptpOn d port = true → kind = 1 →
    tabGet 0 (s.dom d).ptp.portStates port = 3 → tabGet 0 (s.dom d).ptp.sent (port * 8 + kind) = 0 →
    exec (.ptpMessageSend d port kind) s = .next ((s.setPtp d { (s.dom d).ptp with
      seq := ((s.dom d).ptp.seq + 1) % 65536, sent := tabSet 0 (s.dom d).ptp.sent (port * 8 + 1) s.gtc }).emit
        (.ptp d port 1 (s.dom d).ptp.seq 0)))
  ∧ (∀ (s : State) (d : Fin 8) (n g : Nat), (s.dom d).state ≠ 0 → (s.dom d).source ≠ 0 →
    (s.sourceList d).head? = some n → n ≠ (s.dom d).source → ((s.dom d).src n).since = some g → g + 10000000000 ≤ s.gtc →
    exec (.sourceSwitch d) s = .next (s.activate d n))
  ∧ (∀ (s : State) (d : Fin 8), (s.dom d).state = 4 → s.num (Od.holdoverLimit + 256 * d) < s.domErrorAt d s.gtc →
    exec (.holdoverLimitExceeded d) s = .next ((s.domEnter d 5 (s.dom d)).raiseState (0x190 + d) 0x88 d 4 5 0 0))
  ∧ (∀ s : State, s.time.ppsLast = none → s.time.irigLabel = none → exec .ppsInEdge s = .next
    ((s.withTime fun x => { x with ppsLast := some s.gtc, ppsOutliers := 0 }).ppsState 1))
  ∧ (∀ (s : State) (f : IrigFrame) (m : Nat), f.modulated = false → f.framingError = false → f.parityError = false →
    f.code < 8 → s.num Od.irigFormat = 0 → s.num Od.irig1344 ≠ 1 → s.time.ppsLast = none →
    exec (.irigFrame f m) s = .next (((s.withTime fun x => { x with irigBad := 0, irigLabel := some (f, m) }).irigSt 1).irigMeasure
      f m m 1000))
  ∧ (∀ (s : State) (f : IrigFrame) (m : Nat), f.modulated = true → s.time.irigBad = 2 →
    exec (.irigFrame f m) s = .next ((((s.count32 Od.irigFramesDiscarded).irigSt 2).withTime fun x =>
      { x with irigBad := 0, irigLabel := none }).eachDom fun d u => u.loseSource d 2))
  ∧ (∀ (s : State) (p : Nat), s.time.ppsLast = some p → p + 1500000000 ≤ s.gtc → exec .ppsInTimeout s = .next
    (((s.withTime fun x => { x with ppsLast := none, ppsOutliers := 0 }).ppsState 0).eachDom fun d u => u.loseSource d 2))
  ∧ (∀ (s : State) (d : Fin 8) (neg : Bool) (sec : Nat), tabGet none s.time.leap d = some (neg, sec) →
    sec ≤ s.domTime d s.gtc / 2 ^ 48 → ∃ t : State, exec (.leapSecond d) s = .next t
      ∧ t.num (Od.taiUtcOffset + 256 * d) = ofInt 32 (toInt 32 (s.num (Od.taiUtcOffset + 256 * d)) + (if neg then -1 else 1))
      ∧ (t.dom d).leap61 = false ∧ (t.dom d).leap59 = false ∧ tabGet none t.time.leap d = none)

/-- Steps of a domain: announced, cancelled and applied by the rules; a domain put into force; pair trim (Chapter 3; R114; R122;
R123; R133; R136; R148). With the checks of R104 passed and no step pending, DOMAIN_SET_TIME, DOMAIN_STEP (amount not 0, an
enabled domain without a source) and DOMAIN_STEP_TO_REFERENCE (a qualified source) announce the step and answer Done.
DOMAIN_STEP_CANCEL at least 2 us before the effective GTC withdraws it. STEP_APPLY at the effective GTC issues the new
parameter set, counts the step and raises its event; a step to the reference without a source is withdrawn. DOMAIN_ENABLE puts
a domain into force or out of it, counts a version, and answers Done. PAIR_OFFSET_MEASURE keeps the measured offset. -/
def Obligations.DomainStepsAndEnable : Prop :=
  (∀ (s : State) (who : Caller) (d : Fin 8) (time : Nat), s.lets who (Od.domainSetTime + 256 * d) false 0 (.num time) = true →
    (s.dom d).step = none → (s.dom d).state ≠ 0 → (s.dom d).source = 0 → s.protectionDom d = false →
    exec (.domainSetTime who d time) s = .next ((s.announceStep d 1 (valueOfTime time / 2 ^ 32)).done who))
  ∧ (∀ (s : State) (who : Caller) (d : Fin 8) (amount : Int),
    s.lets who (Od.domainStep + 256 * d) false 0 (.num (ofInt 64 amount)) = true → amount ≠ 0 →
    (s.dom d).step = none → (s.dom d).state ≠ 0 → (s.dom d).source = 0 →
    exec (.domainStep who d amount) s = .next ((s.announceStep d 0 amount).done who))
  ∧ (∀ (s : State) (who : Caller) (d : Fin 8) (n : Nat), s.lets who (Od.domainStepToReference + 256 * d) false 0 (.num 1) = true →
    (s.dom d).step = none → s.bestSource d = some n →
    exec (.domainStepToReference who d 1) s = .next ((s.announceStep d 2 (-((s.dom d).src n).offset)).done who))
  ∧ (∀ (s : State) (who : Caller) (d : Fin 8) (p : StepPending), s.lets who (Od.domainStepCancel + 256 * d) false 0 (.num 1) = true →
    (s.dom d).step = some p → s.gtc + 2000 ≤ p.g →
    exec (.domainStepCancel who d 1) s = .next ((s.cancelStep d).done who))
  ∧ (∀ (s : State) (who : Caller) (d : Fin 8) (p : StepPending), s.lets who (Od.domainStepCancel + 256 * d) false 0 (.num 1) = true →
    (s.dom d).step = some p → p.g < s.gtc + 2000 →
    exec (.domainStepCancel who d 1) s = .next (s.turned who .precondition))
  ∧ (∀ (s : State) (d : Fin 8) (p : StepPending), (s.dom d).step = some p → p.g ≤ s.gtc → p.kind ≠ 2 →
    (s.dom d).stepCount < 2 ^ 32 - 1 →
    ∃ t : State, t = stepApply d s ∧ (t.dom d).step = none ∧ (t.dom d).stepCount = (s.dom d).stepCount + 1
      ∧ exec (.stepApply d) s = .next ((t.restartSettling d ((s.dom d).valueAt p.g) ((t.dom d).valueAt p.g)).scanStep d
        ((s.dom d).valueAt p.g) ((t.dom d).valueAt p.g)))
  ∧ (∀ (s : State) (d : Fin 8) (p : StepPending), (s.dom d).step = some p → p.g ≤ s.gtc → p.kind = 2 → s.bestSource d = none →
    exec (.stepApply d) s = .next (s.cancelStep d))
  ∧ (∀ (s : State) (who : Caller) (d : Fin 8), s.lets who (Od.domainEnable + 256 * d) false 0 (.num 1) = true →
    s.ptpPairFree d (s.num (Od.ptpProfile + 256 * d)) (s.num (Od.ptpDomainNumber + 256 * d)) = true → (s.dom d).state = 0 →
    exec (.domainEnable who d 1) s = .next (((((((s.applyDomainEnable d 1).thawStreams d).regridFilters d).rejoinDomain d).captureAll).bumpVersion
      (Od.domainEnable + 256 * d) 0).done who))
  ∧ (∀ (s : State) (who : Caller) (d : Fin 8), s.lets who (Od.domainEnable + 256 * d) false 0 (.num 0) = true →
    s.domUsers d = [] → (s.dom d).state ≠ 0 →
    exec (.domainEnable who d 0) s = .next ((((s.freezeStreams d).applyDomainEnable d 0).bumpVersion
      (Od.domainEnable + 256 * d) 0).done who))
  ∧ (∀ (s : State) (d : Fin 8) (off : Int) (peer : Nat), d.val ≠ s.num Od.pairDomain → (s.dom d).state = 3 → peer = 1 →
    s.num (Od.pairTrim + 256 * d) = 1 →
    exec (.pairOffsetMeasure d off peer true) s = .next (s.setDom d { s.dom d with pairOffset := off }))

/-- The time page, pulse generators and PPS outputs: what a read latches, what an edge drives (Chapter 3; R137; R138; R139; R140;
R141; R142; R143; R144). A read of GtcLo latches GtcHi and GtcFlags for its reader and returns the low word; a read of
DomSecLo latches the whole block of the domain; a write of Trigger latches the GTC and all eight domains at one instant with
Ready set. PG_ARM of a generator without a pin, at least 20 us ahead, without a lock requirement and with its width within the
period, arms it from edge 0; PG_DISARM disarms it. At its half-nanosecond instant PG_EDGE counts the edge, drives the active
level and notes the pins; PG_PULSE_END drives the inactive level. PPS_OUT asserts at an integer second of a Locked domain and
ends after its width. -/
def Obligations.TimePageAndPulses : Prop :=
  (∀ (s : State) (r : Nat), exec (.gtcLoRead r) s = .next ((s.latched r { tabGet TimeLatch.init s.time.latches r with
      gtcHi := s.stamp (readerDie r) / 2 ^ 32 % 2 ^ 32, gtcFlags := s.gtcFlags (readerDie r) }).emit
      (.readData (s.stamp (readerDie r) % 2 ^ 32))))
  ∧ (∀ (s : State) (r : Nat) (d : Fin 8), ∃ t : State, exec (.domSecLoRead r d) s = .next t
      ∧ tabGet .init (tabGet .init t.time.latches r).blocks d = s.timeBlock d (s.stamp (readerDie r))
      ∧ t.out = .readData (s.domTime d (s.stamp (readerDie r)) / 2 ^ 48 % 2 ^ 32) :: s.out)
  ∧ (∀ (s : State) (r : Nat), exec (.snapAllTrigger r) s = .next (s.snapped r ⟨true, s.stamp (readerDie r), s.gtcFlags (readerDie r),
        (numbersFrom 0 8).map fun d => timeParts (s.domTime d (s.stamp (readerDie r)))⟩))
  ∧ (∀ (s : State) (who : Caller) (n : Fin 32), s.lets who (Od.pgArm + 256 * n) false 0 (.num 1) = true →
    s.tenantHolds who 0x08 n = true → s.pgNum Od.pgTarget n = 0xFF →
    (s.dom (s.pgNum Od.pgDomain n)).valueAt s.gtc + 20000 * 2 ^ 48 ≤ valueOfTime (s.pgNum Od.pgStart n) →
    s.pgNum Od.pgRequireLock n = 0 → (s.pgNum Od.pgPeriod n = 0 ∨ s.pgNum Od.pgWidth n * 32768 < s.pgNum Od.pgPeriod n) →
    exec (.pgArm who n) s = .next ((s.setGen n { s.gen n with state := 1, next := 0, since := s.gtc }).done who))
  ∧ (∀ (s : State) (who : Caller) (n : Fin 32), s.lets who (Od.pgArm + 256 * n) false 0 (.num 1) = true →
    s.tenantHolds who 0x08 n = true →
    valueOfTime (s.pgNum Od.pgStart n) < (s.dom (s.pgNum Od.pgDomain n)).valueAt s.gtc + 20000 * 2 ^ 48 →
    exec (.pgArm who n) s = .next (s.turned who .timeInPast))
  ∧ (∀ (s : State) (who : Caller) (n : Fin 32), s.lets who (Od.pgArm + 256 * n) false 0 (.num 2) = true →
    s.tenantHolds who 0x08 n = true →
    exec (.pgDisarm who n) s = .next ((s.setGen n { s.gen n with state := 0 }).done who))
  ∧ (∀ (s : State) (n : Fin 32) (h : Nat), (s.gen n).state = 1 ∨ (s.gen n).state = 2 →
    (s.dom (s.pgNum Od.pgDomain n)).place (s.gen n).since (s.pgEdgeValue n (s.gen n).next) = some (h, false) → h ≤ 2 * s.gtc →
    s.pgNum Od.pgEvents n = 0 → s.pgTotal n = none →
    exec (.pgEdge n) s = .next (((s.setGen n { s.gen n with
      next := (s.gen n).next + 1, edges := ((s.gen n).edges + 1) % 2 ^ 48, state := 2,
      pulseEnd := some (h + s.pgNum Od.pgWidth n), since := h / 2 }).pgLevel n true).notePins))
  ∧ (∀ (s : State) (n : Fin 32) (h : Nat), (s.gen n).pulseEnd = some h → h ≤ 2 * s.gtc →
    exec (.pgPulseEnd n) s = .next (((s.setGen n { s.gen n with pulseEnd := none }).pgLevel n false).notePins))
  ∧ (∀ (s : State) (k : Fin 2), s.num (Od.ppsOutDomain + 256 * k) < 8 → (s.dom (s.num (Od.ppsOutDomain + 256 * k))).state = 3 →
    s.secondNow (s.num (Od.ppsOutDomain + 256 * k)) = true →
    exec (.ppsOutEdge k) s = .next (s.setPps k ⟨true, s.gtc + s.num (Od.ppsOutWidth + 256 * k)⟩))
  ∧ (∀ (s : State) (k : Fin 2), (tabGet PpsOut.init s.time.pps k).active = true → (tabGet PpsOut.init s.time.pps k).until_ ≤ s.gtc →
    exec (.ppsOutPulseEnd k) s = .next (s.setPps k ⟨false, (tabGet PpsOut.init s.time.pps k).until_⟩))

/-- Ports: enable, mode, FEC, reset, counters and filters, with Busy of a running port and NotOwner of a Tenant (Chapter 4; R149;
R151; R152; R155; R156; R166; R168; R171; R185; R187; R188). With the checks of R104 and of the chapter passed, PORT_ENABLE 1
charges the port, fills its policer buckets and starts its bring-up, PORT_ENABLE 0 takes it out of Up; PORT_MODE and PORT_FEC
of a disabled port write the mode and the FEC, and of an enabled port are refused with Busy; PORT_RESET and PORT_RESET_FORCED
bring an enabled port up anew; the counter snapshots copy and the clear zeroes the counters; a filter entry is written; each
answers Done and writes count a version. A reset in use without force, and a Tenant without the lanes, are refused. -/
def Obligations.PortConfiguration : Prop :=
  (∀ (s : State) (who : Caller) (n : Fin 256) (v : Nat), s.letsForm who (Od.portEnable + 256 * n) false 0 (.num v) = true →
    s.checkPortEnable who n v = .ok () →
    exec (.portEnable who n v) s = .next (((s.applyPortEnable n v).bumpVersion (Od.portEnable + 256 * n) 0).done who))
  ∧ (∀ (s : State) (n : Fin 256), s.pnum Od.portEnable n = 0 → s.pnum Od.portMode n = 0 → ∃ t : State,
    s.applyPortEnable n 1 = t ∧ t.pnum Od.portEnable n = 1
      ∧ (t.bucket (0x1000 + n)).level = (s.pnum Od.policerBurst n * 8000000000 : Nat)
      ∧ (t.bucket (0x2000 + n)).level = (s.pnum Od.floodBurst n * 8000000000 : Nat))
  ∧ (∀ (s : State) (who : Caller) (n : Fin 256) (v : Nat), s.letsForm who (Od.portMode + 256 * n) false 0 (.num v) = true →
    s.portEnabled n = false → s.checkPortMode who n v = .ok () →
    exec (.portMode who n v) s = .next (((s.applyPortMode n v).bumpVersion (Od.portMode + 256 * n) 0).done who))
  ∧ (∀ (s : State) (who : Caller) (n : Fin 256) (v : Nat), s.letsForm who (Od.portMode + 256 * n) false 0 (.num v) = true →
    s.portEnabled n = true → exec (.portMode who n v) s = .next (s.turned who .busy))
  ∧ (∀ (s : State) (who : Caller) (n : Fin 256) (v : Nat), s.letsForm who (Od.portFec + 256 * n) false 0 (.num v) = true →
    s.portEnabled n = false → v ≤ 3 → (modeFecs (s.pnum Od.portMode n)).contains v = true → s.tenantPort who n = true →
    s.absorbed n = false →
    exec (.portFec who n v) s = .next (((s.setPnum Od.portFec n v).bumpVersion (Od.portFec + 256 * n) 0).done who))
  ∧ (∀ (s : State) (who : Caller) (n : Fin 256), s.lets who (Od.portReset + 256 * n) false 0 (.num 1) = true →
    s.tenantPort who n = true → (s.portAt n).resetting = false → s.absorbed n = false → s.portInUse n = false →
    s.portEnabled n = true → s.pnum Od.portMode n ≠ 0 → s.portState n ≠ 1 →
    exec (.portReset who n) s = .next ((s.resetPort n).done who))
  ∧ (∀ (s : State) (who : Caller) (n : Fin 256), s.lets who (Od.portReset + 256 * n) false 0 (.num 1) = true →
    s.tenantPort who n = true → (s.portAt n).resetting = false → s.absorbed n = false → s.portInUse n = true →
    exec (.portReset who n) s = .next (s.turned who .precondition))
  ∧ (∀ (s : State) (who : Caller) (n : Fin 256), s.lets who (Od.portReset + 256 * n) false 0 (.num 2) = true →
    s.tenantPort who n = true → (s.portAt n).resetting = false → s.absorbed n = false →
    s.portEnabled n = true → s.pnum Od.portMode n ≠ 0 → s.portState n ≠ 1 →
    exec (.portResetForced who n) s = .next ((s.resetPort n).done who))
  ∧ (∀ (s : State) (who : Caller) (n : Fin 256), s.lets who (Od.portCounterSnapshot + 256 * n) false 0 (.num 1) = true →
    s.tenantPort who n = true → exec (.portCounterSnapshot who n 1) s = .next ((s.snapshotPort n).done who))
  ∧ (∀ (s : State) (who : Caller), s.lets who Od.allPortSnapshot false 0 (.num 1) = true →
    exec (.allPortSnapshot who 1) s = .next (((numbersFrom 0 256).foldl (fun u n => u.snapshotPort n) s).done who))
  ∧ (∀ (s : State) (who : Caller) (n : Fin 256), s.lets who (Od.portCounterClear + 256 * n) false 0 (.num 1) = true →
    exec (.portCounterClear who n 1) s = .next ((s.clearPort n).done who))
  ∧ (∀ (s : State) (who : Caller) (n : Fin 256) (k : Fin 16) (v : Nat),
    s.letsForm who (Od.filterEntry + 256 * n + k) false 0 (.num v) = true → v < 2 ^ 48 → s.tenantPort who n = true →
    s.absorbed n = false →
    exec (.filterEntryWrite who n k v) s = .next (((s.setNum (Od.filterEntry + 256 * n + k) v).bumpVersion
      (Od.filterEntry + 256 * n + k) 0).done who))

/-- Link states, PLLs, low-power idle and frames: the state each port event leads to (Chapter 4; R150; R151; R160; R161; R162;
R163; R164; R174; R176; R177; R190). A port aligned for LinkUpHold enters Up with its time and rate; a fault takes an Up port
to LocalFault or RemoteFault; 1 s without signal to Sleep; signal starts training; training at twice its bound restarts with a
count and an event; a symbol error ratio above the limit sets FecDegraded. A PLL that loses lock takes its Up ports to
LocalFault, one that locks restarts them, one dark for 1 ms stops. An idle port 20 us empty enters low-power idle, a waiting
frame wakes it. A received runt is counted; the head frame of the highest eligible queue is sent when the port is free. Each
clause says when. -/
def Obligations.PortLinkStates : Prop :=
  (∀ (s : State) (n : Fin 256) (g : Nat), s.portState n = 6 → s.pllState (n / 8) = 2 → (s.portAt n).since ≤ g →
    g + s.linkUpHold n ≤ s.gtc → ∃ t : State, t = ((s.enterPortState n 4).setPnum Od.linkUpGtc n s.gtc).setPnum Od.portRate n
        (s.pnum Od.portMode n)
      ∧ exec (.linkUp n g) s = .next (t.setPort n { t.portAt n with
          resetting := false, emptyAt := s.gtc, busyUntil := s.gtc }).fabricUpdate)
  ∧ (∀ (s : State) (n : Fin 256) (remote : Bool), s.portState n = 4 →
    exec (.linkFault n remote) s = .next (s.leaveUp n (if remote then 6 else 5)))
  ∧ (∀ (s : State) (n : Fin 256) (g : Nat), s.portState n = 4 → g + 1000000000 ≤ s.gtc →
    exec (.signalLossSleep n g) s = .next (s.leaveUp n 2))
  ∧ (∀ (s : State) (n : Fin 256), s.portState n = 2 → exec (.signalDetect n) s = .next (s.startTraining n))
  ∧ (∀ (s : State) (n : Fin 256), s.portState n = 3 → (s.portAt n).trainAt + 2 * (s.portAt n).bound ≤ s.gtc →
    exec (.trainingRestart n) s = .next (((s.count32 (Od.trainingRestarts + 256 * n)).raiseOcc n 0x01 n 8 0).startTraining n))
  ∧ (∀ (s : State) (n : Fin 256), s.portState n = 4 → s.pnum Od.portMode n = 1 → s.pnum Od.portAutoneg n = 1 →
    portLanes n 1 = [n.val] → s.pnum Od.portFaultFlags n = 0 →
    exec (.fecDegraded n 0x3F800000) s = .next (((s.setPnum Od.lanePreFecSer n 0x3F800000).setPnum Od.portFaultFlags n 4).raiseFlag
      n 0x01 n true 2 4))
  ∧ (∀ (s : State) (k : Fin 32), s.pllState k = 2 → ∃ t : State,
    t = ((s.setPnum Od.octetPllState k 1).count32 (Od.octetPllLockLoss + 256 * k)).raiseOcc (8 * k) 0x01 (8 * k) 9 k
    ∧ exec (.octetPllLockLoss k) s = .next ((t.octetPorts k).foldl (fun u n => if u.portUp n then u.leaveUp n 5 else u) t))
  ∧ (∀ (s : State) (k : Fin 32), s.pllState k = 1 → ∃ t : State, t = s.setPnum Od.octetPllState k 2
    ∧ exec (.octetPllLocked k) s = .next ((t.octetPorts k).foldl (fun u n => if u.portState n = 5 then u.startTraining n else u) t))
  ∧ (∀ (s : State) (k : Fin 32) (g : Nat), tabGet none s.port.pllOff k = some g → g + 1000000 ≤ s.gtc → s.octetLit k = false →
    exec (.octetPllStop k) s = .next ((s.setPllOff k none).setPnum Od.octetPllState k 0))
  ∧ (∀ (s : State) (n : Fin 256) (m : Nat), s.pnum Od.portMode n = 8 → s.portEnabled n = true → (m = 10 ∨ m = 100 ∨ m = 1000) →
    s.admittedThrough n = 0 → ∃ t : State, exec (.sgmiiSpeedChange n m) s = .next t ∧ (t.portAt n).sgmii = m)
  ∧ (∀ (s : State) (n : Fin 256), s.portState n = 4 → s.pnum Od.lpiEnable n = 1 → s.pnum Od.lpiPartnerAgreed n = 1 →
    s.pnum Od.portProtection n = 0 → modeLpi (s.pnum Od.portMode n) = true → (s.portAt n).queues = [] →
    (s.portAt n).emptyAt + 20000 ≤ s.gtc → (s.portAt n).lpi = false →
    exec (.lpiEnter n) s = .next ((s.setPort n { s.portAt n with lpi := true }).portCount Od.lpiTransitions n))
  ∧ (∀ (s : State) (n : Fin 256), (s.portAt n).queues ≠ [] → (s.portAt n).lpi = true →
    exec (.lpiWake n) s = .next (s.setPort n { s.portAt n with
      lpi := false, wakeUntil := s.gtc + Config.lpiWake (s.pnum Od.portMode n) }))
  ∧ (∀ (s : State) (n : Fin 256) (o : Bytes), s.portUp n = true → o.length < 64 →
    exec (.frameReceive n o) s = .next ((((s.setAsleep .pipeline (n / 32) false).portCount Od.rxOctets n o.length).noteTraffic
      n true o.length).portCount (if fcsGood o then Od.rxUndersize else Od.rxFragments) n))
  ∧ (∀ (s : State) (n : Fin 256) (o : Bytes), s.portUp n = true → 64 ≤ o.length → o.length ≤ s.pnum Od.maxFrameSize n →
    fcsGood o = true →
    exec (.frameReceive n o) s = .next ((((s.setAsleep .pipeline (n / 32) false).portCount Od.rxOctets n o.length).noteTraffic
      n true o.length).receiveGood n o))
  ∧ (∀ (s : State) (n : Fin 256) (q : Nat) (f : QFrame) (rest : List QFrame), s.portUp n = true → (s.portAt n).busyUntil ≤ s.gtc →
    (s.portAt n).wakeUntil ≤ s.gtc → (s.portAt n).lpi = false → (s.portAt n).shift.txAt = none → s.nextQueue n = some q →
    (s.portAt n).queue q = f :: rest → s.shaperOn n q = false → f.stomp = false →
    ∃ t u : State, t = (((((((s.setPort n ((s.portAt n).setQueue q rest)).releaseFrame f.id).emit (.frame n (s.finishFrame f))).noteDelayReq
        n (s.finishFrame f)).portCount Od.txOctets n (s.finishFrame f).length).portCount Od.txFrames n).countCast Od.txUnicast n
          (parseFrame (s.finishFrame f)).dst).portCount (Od.txQueueFrames + q) n
      ∧ exec (.frameTransmit n) s = .next u
      ∧ (t.shaperOn n q = false → (u.portAt n).busyUntil = s.gtc + t.frameTime n (s.finishFrame f).length))

/-- The shift of a port between 100 and 50 Gbit/s: request, answer, marker, and the failure that brings the port up again (Chapter
4; R178; R179; R180; R181; R182; R183). A port that may ask, with little traffic (or a thermal reason) and at most 25 Gbit/s
of protection bandwidth, asks for 50 Gbit/s; with much traffic or a waiting admission and paid energy it asks for 100. A
request that nothing forbids is accepted and the shift begins; one against the admitted bandwidth is declined with cause 1 and
its event. An accept of this end's request begins the shift, a decline ends the attempt for 1 s, the marker switches the
receiver, 10 us later the transmitter resumes, and a direction not aligned after 100 us counts a failure and trains the port
anew. -/
def Obligations.PortRateShifts : Prop :=
  (∀ (s : State) (n : Fin 256) (th : Bool), s.mayAsk n = true → s.pnum Od.portRate n = 1 → s.admittedThrough n ≤ 25000000000 →
    (th = true ∨ s.utilLow n = true) → exec (.downshiftRequest n th) s = .next (s.askShift n 2))
  ∧ (∀ (s : State) (n : Fin 256), s.mayAsk n = true → s.pnum Od.portRate n = 2 → (s.utilHigh n = true ∨ s.admissionWaits n = true) →
    s.upshiftPaid n = true → exec (.upshiftRequest n) s = .next (s.askShift n 1))
  ∧ (∀ (s : State) (n : Fin 256) (txn src adm : Nat), s.shifts n = true → s.portState n = 4 → s.pnum Od.portRate n = 2 →
    (s.portAt n).shift.asked = none → (s.setShift n { (s.portAt n).shift with asked := none }).upshiftPaid n = true →
    exec (.shiftRequest n txn 1 src adm) s = .next (((s.setShift n { (s.portAt n).shift with asked := none }).linkControl
      n txn 2 1 0).beginShift n txn 1))
  ∧ (∀ (s : State) (n : Fin 256) (txn src adm : Nat), s.shifts n = true → s.portState n = 4 → s.pnum Od.portRate n = 1 →
    (s.portAt n).shift.asked = none → 25000 < adm →
    exec (.shiftRequest n txn 2 src adm) s = .next (((s.setShift n { (s.portAt n).shift with asked := none }).linkControl
      n txn 3 2 1).raiseOcc n 0x01 n 5 1))
  ∧ (∀ (s : State) (n : Fin 256) (txn tgt : Nat), (s.portAt n).shift.asked = some (txn, tgt) → s.portState n = 4 →
    exec (.shiftAccept n txn) s = .next (s.beginShift n txn tgt))
  ∧ (∀ (s : State) (n : Fin 256) (txn tgt cause : Nat), (s.portAt n).shift.asked = some (txn, tgt) →
    exec (.shiftDecline n txn cause) s = .next ((s.setShift n { (s.portAt n).shift with
      asked := none, quietUntil := s.gtc + 1000000000 }).raiseOcc n 0x01 n 5 cause))
  ∧ (∀ (s : State) (n : Fin 256) (txn tgt : Nat) (al : Bool), (s.portAt n).shift.running = some (txn, tgt) →
    (s.portAt n).shift.rxAt = none →
    exec (.shiftMarker n txn al) s = .next (((s.setNb n { s.nb n with asked := none }).setShift n { (s.portAt n).shift with
      rxAt := some s.gtc, aligned := al }).shiftDone n))
  ∧ (∀ (s : State) (n : Fin 256) (g : Nat), (s.portAt n).shift.txAt = some g → g + 10000 ≤ s.gtc →
    exec (.shiftTxResume n) s = .next ((s.setShift n { (s.portAt n).shift with txAt := none }).shiftDone n))
  ∧ (∀ (s : State) (n : Fin 256) (r : Nat × Nat) (g : Nat), (s.portAt n).shift.running = some r → (s.portAt n).shift.rxAt = some g →
    (s.portAt n).shift.aligned = false → g + 100000 ≤ s.gtc →
    ∃ t : State, t = ((((s.count32 (Od.shiftFailures + 256 * n)).raiseOcc n 0x01 n 6 0).leaveUp n 3).startTraining n).setCharge
        0x01 n (portCharge 1)
      ∧ exec (.shiftAlignFail n) s = .next (t.setShift n { (t.portAt n).shift with quietUntil := s.gtc + 1000000000 }))

/-- Admission and withdrawal of streams, learning, the skimmer and static entries (Chapter 5; R202; R203; R204; R205; R206; R207;
R214; R216; R217; R218). Where the checks of R104 pass: STREAM_ADMIT of an entry that Table 5-5 admits fills its bucket,
stores it, raises Admitted and answers Done; one that Table 5-5 refuses changes no entry, raises Refused and answers the code;
one that only an upshift could satisfy waits without an answer. ADMISSION_SHIFT_WAIT decides a waiting entry, or refuses it
with NoResource after 10 ms. STREAM_WITHDRAW of an admitted entry that feeds nothing unbinds and withdraws it. LEARN takes the
oldest queued learn of a pipeline: a new address is entered, a known one gets its hit bit. SKIMMER_SWEEP clears hit bits and
removes entries unhit for two sweeps. STATIC_MAC_WRITE stores a slot that passes its checks. -/
def Obligations.SwitchTablesAndStreams : Prop :=
  (∀ (s : State) (who : Caller) (e : Fin 2048) (b : Bytes), s.letsForm who (Od.streamEntry + e) false 0 (.bytes b) = true →
    s.tenantHolds who 0x02 e = true → seAdmitted b = true → seAdmitted (s.streamEntry e) = false →
    s.checkAdmission who e b = .ok () → exec (.streamAdmit who e b) s = .next
      ((((s.admitStream e b).bumpVersion (Od.streamEntry + e) 0).done who).bindingsChanged))
  ∧ (∀ (s : State) (who : Caller) (e : Fin 2048) (b : Bytes) (c : Code),
    s.letsForm who (Od.streamEntry + e) false 0 (.bytes b) = true →
    s.tenantHolds who 0x02 e = true → seAdmitted b = true → seAdmitted (s.streamEntry e) = false →
    s.admissionShift who e b = false → s.checkAdmission who e b = .error c →
    exec (.streamAdmit who e b) s = .next (((s.refuseStream e c).turned who c).bindingsChanged))
  ∧ (∀ (s : State) (who : Caller) (e : Fin 2048) (b : Bytes), s.letsForm who (Od.streamEntry + e) false 0 (.bytes b) = true →
    s.tenantHolds who 0x02 e = true → seAdmitted b = true → seAdmitted (s.streamEntry e) = false →
    s.admissionShift who e b = true → exec (.streamAdmit who e b) s = .next (s.withSw fun x => { x with
      waiting := x.waiting ++ [⟨e, b, s.gtc, s.overLimit b false, who.sess⟩] }).bindingsChanged)
  ∧ (∀ (s : State) (e : Fin 2048) (w : WaitAdmit), s.sw.waiting = [w] → w.entry = e →
    w.ports.all (fun n => s.pnum Od.portRate n != 2) = true →
    (s.withSw fun x => { x with waiting := [] }).checkAdmission ⟨w.sess, .manager, 0⟩ e w.value = .ok () →
    exec (.admissionShiftWait e) s = .next ((((s.withSw fun x => { x with waiting := [] }).admitStream e w.value).bumpVersion
      (Od.streamEntry + e) 0).emit (.answer w.sess 0)))
  ∧ (∀ (s : State) (e : Fin 2048) (w : WaitAdmit), s.sw.waiting = [w] → w.entry = e →
    w.ports.any (fun n => s.pnum Od.portRate n == 2) = true → w.since + 10000000 ≤ s.gtc →
    exec (.admissionShiftWait e) s = .next (((s.withSw fun x => { x with waiting := [] }).refuseStream e .noResource).emit
      (.answer w.sess Code.noResource.value)))
  ∧ (∀ (s : State) (who : Caller) (e : Fin 2048) (b : Bytes), s.letsForm who (Od.streamEntry + e) false 0 (.bytes b) = true →
    s.tenantHolds who 0x02 e = true → seAdmitted b = false → seAdmitted (s.streamEntry e) = true →
    checkStreamForm b = .ok () → s.streamFeeds e = false → exec (.streamWithdraw who e b) s = .next
      ((((s.withdrawStream e b).bumpVersion (Od.streamEntry + e) 0).done who).bindingsChanged))
  ∧ (∀ (s : State) (who : Caller) (e : Fin 2048) (b : Bytes), s.letsForm who (Od.streamEntry + e) false 0 (.bytes b) = true →
    s.tenantHolds who 0x02 e = true → seAdmitted b = false → seAdmitted (s.streamEntry e) = true →
    checkStreamForm b = .ok () → s.streamFeeds e = true →
    exec (.streamWithdraw who e b) s = .next ((s.turned who .precondition).bindingsChanged))
  ∧ (∀ (s : State) (p : Fin 8) (key n : Nat) (rest : List (Nat × Nat)), tabGet [] s.sw.learns p = (key, n) :: rest →
    s.macEnt key = none → s.learnedOn n < s.pnum Od.learnLimit n → (s.bucketOf key).length < 8 →
    exec (.learn p) s = .next ((s.withSw fun x => { x with learns := tabSet [] x.learns p rest }).setMac key
      (some ⟨n, true, 0, none, []⟩)))
  ∧ (∀ (s : State) (p : Fin 8) (key : Nat) (rest : List (Nat × Nat)) (e : MacEnt),
    tabGet [] s.sw.learns p = (key, e.port) :: rest → s.macEnt key = some e → e.static = none →
    exec (.learn p) s = .next ((s.withSw fun x => { x with learns := tabSet [] x.learns p rest }).setMac key
      (some { e with hit := true, sweeps := 0 })))
  ∧ (∀ (s : State), s.num Od.agingEnable = 1 → s.sw.lastSweep + s.num Od.skimmerInterval * 1000000000 ≤ s.gtc →
    ∃ t : State, exec .skimmerSweep s = .next t ∧ t.sw.lastSweep = s.gtc
      ∧ ∀ k e, (k, e) ∈ t.sw.macs ↔ (k, e) ∈ s.sw.macs ∧ e.static.isSome = true
        ∨ ∃ o, (k, o) ∈ s.sw.macs ∧ o.static = none
          ∧ (o.hit = true ∧ e = { o with hit := false } ∨ o.hit = false ∧ o.sweeps = 0 ∧ e = { o with sweeps := 1 }))
  ∧ (∀ (s : State) (who : Caller) (k : Fin 16384) (b : Bytes),
    s.letsForm who (Od.staticMacEntry + k) false 0 (.bytes b) = true → s.checkStatic k b = .ok () →
    exec (.staticMacWrite who k b) s = .next (((s.applyStatic k b).bumpVersion (Od.staticMacEntry + k) 0).done who))

/-- Sounding passes, drop events, shaper rates, and the supervision and node table of redundancy groups (Chapter 5; R223; R224;
R229; R230; R231; section 16.2). SOUNDING_PASS due while sounding is enabled keeps the rows that differ from their shadow;
with none that differed before it changes no counter. DROP_EVENT of a drop counter that changed, at most once a second, raises
one event with the drops since the last. SHAPER_RATE_WRITE within the rate of the port's mode settles the shaper's level and
stores the rate; above it the write is refused with OutOfRange. RED_SUPERVISION_SEND sends one doubled supervision frame per
RedLifeCheckInterval; RED_NODE_FORGET removes a source not heard for RedForgetTime. -/
def Obligations.SwitchSupervision : Prop :=
  (∀ (s : State), s.num Od.soundingEnable = 1 → s.num Od.soundingPassGtc + 10000000 ≤ s.gtc → s.sw.sounding = [] →
    exec .soundingPass s = .next ((s.withSw fun x => { x with sounding := s.soundingDiffs }).setNum Od.soundingPassGtc s.gtc))
  ∧ (∀ (s : State), s.num Od.soundingEnable = 1 → s.num Od.soundingPassGtc + 10000000 ≤ s.gtc → s.soundingDiffs = [] →
    exec .soundingPass s = .next ((s.withSw fun x => { x with sounding := [] }).setNum Od.soundingPassGtc s.gtc))
  ∧ (∀ (s : State) (id src kind num code : Nat), dropSource id = some (src, kind, num, code) →
    s.dropCount id ≠ (tabGet (0, 0) s.sw.drops id).2 → (tabGet (0, 0) s.sw.drops id).1 + 1000000000 ≤ s.gtc →
    exec (.dropEvent id) s = .next ((s.withSw fun x => { x with drops := tabSet (0, 0) x.drops id (s.gtc, s.dropCount id) }).raise
      src code kind num ((s.dropCount id + 2 ^ 48 - (tabGet (0, 0) s.sw.drops id).2) % 2 ^ 48)))
  ∧ (∀ (s : State) (who : Caller) (n : Fin 256) (q : Fin 6) (v : Nat),
    s.letsForm who (Od.shaperRate + 256 * n + q) false 0 (.num v) = true → v ≤ s.modeRate n → s.checkPort who n = .ok () →
    exec (.shaperRateWrite who n q v) s = .next ((((s.shaperSettle n q).setNum (Od.shaperRate + 256 * n + q) v).bumpVersion
      (Od.shaperRate + 256 * n + q) 0).done who))
  ∧ (∀ (s : State) (who : Caller) (n : Fin 256) (q : Fin 6) (v : Nat),
    s.letsForm who (Od.shaperRate + 256 * n + q) false 0 (.num v) = true → s.modeRate n < v →
    exec (.shaperRateWrite who n q v) s = .next (s.turned who .outOfRange))
  ∧ (∀ (s : State) (g : Fin 32), s.gnum Od.redMode g = 1 →
    tabGet 0 s.sw.redSent g + s.gnum Od.redLifeCheckInterval g * 1000000 ≤ s.gtc →
    exec (.redSupervisionSend g) s = .next ((s.withSw fun x => { x with redSent := tabSet 0 x.redSent g s.gtc }).sendDoubled g
      (s.pnum Od.portDefaultPriority (s.gnum Od.redPortA g)) 0 (withFcs (padFrame (toBE 6 0x01154E000100
        ++ toBE 6 (s.portMac (s.gnum Od.redPortA g)) ++ toBE 2 0x88FB ++ toBE 2 1 ++ toBE 2 (tabGet 0 s.sw.redSeq g)
        ++ toBE 1 20 ++ toBE 1 6 ++ toBE 6 (s.portMac (s.gnum Od.redPortA g)) ++ toBE 2 0)))))
  ∧ (∀ (s : State) (g : Fin 32) (a : Nat) (x : RedNode), s.node g a = some x →
    x.last + s.gnum Od.redForgetTime g * 1000000 ≤ s.gtc → exec (.redNodeForget g a) s = .next (s.setNode g a none))
  ∧ (∀ (s : State) (g : Fin 32) (a : Nat) (x : RedNode), s.node g a = some x →
    s.gtc < x.last + s.gnum Od.redForgetTime g * 1000000 → exec (.redNodeForget g a) s = .next s)

/-- Xosyn neighbours, link delay, the database and addresses (Chapter 6; R241; R242; R243; R244; R246; R247; R248). On an Up
fabric port a due Hello is sent and an arriving Hello sets the neighbour OneWay, TwoWay or Foreign; three intervals of silence
take it Down. A due DelayReq is sent on a TwoWay link; a DelayReq is answered with its own count and residence; a DelayResp
that comes too late ends the measurement without a value, one in time is taken. A module's own due Lsa is sent with the next
number; an Lsa of 120 s age is removed; a copy of an old Lsa changes nothing. The root decides addresses after a change; an
assignment of an address takes it with its event, and a refused one clears it. -/
def Obligations.FabricNeighboursAndDelay : Prop :=
  (∀ (s : State) (n : Fin 256), s.xosynUp n = true → (s.nb n).helloAt + 1000000 * s.num Od.helloInterval ≤ s.gtc →
    s.pnum Od.neighbourState n = 0 → s.ownAddress = none →
    exec (.xosynHelloSend n) s = .next ((s.setNb n { s.nb n with helloAt := s.gtc }).sendLink n 0 0
      (toBE 8 s.ownSerial ++ toBE 4 (s.num Od.fabricId) ++ toBE 2 0 ++ toBE 1 n ++ toBE 1 0)))
  ∧ (∀ (s : State) (n : Fin 256) (serial fabric : Nat) (a : Option Nat) (seen : Bool), s.xosynUp n = true →
    exec (.xosynHello n serial fabric a seen) s = .next (((((s.setNb n { s.nb n with heard := s.gtc }).setPnum
      Od.neighbourSerial n serial).setPnum Od.neighbourAddress n (a.getD 0xFFFF))).setNeighbour n
      (if fabric ≠ s.num Od.fabricId ∨ serial = s.ownSerial then 3 else if seen then 2 else 1)))
  ∧ (∀ (s : State) (n : Fin 256), s.pnum Od.neighbourState n ≠ 0 → (s.nb n).heard + s.helloLimit ≤ s.gtc →
    exec (.neighbourTimeout n) s = .next (s.setNeighbour n 0))
  ∧ (∀ (s : State) (n : Fin 256), s.twoWay n = true → (s.nb n).delayAt + 1000000 * s.num Od.delayInterval ≤ s.gtc →
    exec (.delayReqSend n) s = .next ((s.setNb n { s.nb n with delayAt := s.gtc, asked := none }).sendLink n 2 0 []))
  ∧ (∀ (s : State) (n : Fin 256) (src : Option Nat) (q : Nat), s.twoWay n = true →
    exec (.delayReq n src q) s = .next (s.sendLink n 3 0 (toBE 8 s.gtc ++ toBE 4 0 ++ toBE 4 q) .residence))
  ∧ (∀ (s : State) (n : Fin 256) (t2 res q t1 : Nat), (s.nb n).asked = some (q, t1) → s.twoWay n = true →
    s.gtc ≤ t1 + 5000000 → (s.nb n).means = [] → exec (.delayResp n t2 res q) s = .next
      ((s.setNb n { s.nb n with asked := none, outliers := 0, means := [(s.gtc : Int) - t1 - res] }).publishDelay n))
  ∧ (∀ (s : State) (n : Fin 256) (t2 res q t1 : Nat), (s.nb n).asked = some (q, t1) → s.twoWay n = true →
    t1 + 5000000 < s.gtc → exec (.delayResp n t2 res q) s = .next (s.setNb n { s.nb n with asked := none }))
  ∧ (∀ (s : State), s.fabricOn = true → s.fab.lsaDue = true → exec .lsaOriginate s = .next s.originateLsa.dbChanged)
  ∧ (∀ (s : State), s.fabricOn = true → s.fab.lsaDue = false → s.fab.lsaAt + 30000000000 ≤ s.gtc →
    exec .lsaOriginate s = .next s.originateLsa)
  ∧ (∀ (s : State) (n : Fin 256) (h : XosynHead) (m : LsaMsg), s.xosynUp n = true → s.twoWay n = true → h.hopsLeft ≠ 0 →
    m.serial = s.ownSerial → s.fab.ownSeq < m.seq →
    exec (.lsa n h m) s = .next (s.withFab fun x => { x with ownSeq := m.seq }).originateLsa)
  ∧ (∀ (s : State) (n : Fin 256) (h : XosynHead) (m : LsaMsg) (r : LsaRec), s.xosynUp n = true → s.twoWay n = true →
    h.hopsLeft ≠ 0 → m.serial ≠ s.ownSerial → tabGet none s.fab.db m.serial = some r → m.seq ≤ r.seq →
    exec (.lsa n h m) s = .next s)
  ∧ (∀ (s : State) (n : Fin 256) (h : XosynHead) (m : LsaMsg), s.xosynUp n = true → s.twoWay n = true →
    h.hopsLeft ≠ 0 → m.serial ≠ s.ownSerial → tabGet none s.fab.db m.serial = none → s.fab.db.length < 4095 →
    s.xosynPorts = [n.val] → exec (.lsa n h m) s = .next (s.withFab fun x => { x with
      db := tabSet none x.db m.serial (some (lsaRecord m s.gtc)) }).dbChanged)
  ∧ (∀ (s : State) (v : Nat) (r : LsaRec), tabGet none s.fab.db v = some r → s.fab.transit = [] → s.fab.arrivals = [] →
    r.at_ + 120000000000 ≤ s.gtc →
    exec (.lsaAgeOut v) s = .next (s.withFab fun x => { x with db := tabSet none x.db v none }).dbChanged)
  ∧ (∀ (s t : State), s.fabricOn = true → s.fab.undecided = true →
    t = (s.withFab fun x => { x with undecided := false }).updateRoot → t.num Od.rootSerial = t.ownSerial →
    t.num Od.fabricState ≠ 0 → exec .addressDecide s = .next ((decideAddresses t.members).foldl State.announceAddress t))
  ∧ (∀ (s : State) (a c : Nat), s.fabricOn = true → s.ownAddress ≠ some a →
    exec (.addressAssign s.ownSerial (some a) c) s = .next ((((s.setNum Od.fabricAddress a).withFab fun x => { x with
      lsaDue := true, changed := true }).raiseOcc 0x150 0x80 0 3 a).fabricUpdate))
  ∧ (∀ (s : State), s.fabricOn = true → s.ownAddress = none →
    exec (.addressAssign s.ownSerial none 1) s = .next (s.raiseOcc 0x152 0x80 0 1 (s.num Od.fabricAddress)))

/-- Routes, flows and sinks: enabling, setup along a path, its answers, release, data and silence (Chapter 6; R249; R250; R252;
R253; R254; R255; R256; R257). ROUTE_COMPUTE after a change installs the routes of the database and, on a Member, repairs each
flow. FLOW_ENABLE and FLOW_DISABLE that pass the checks put the entry into force, with the paths set up or released, and
answer Done. A FLOW_SETUP that reaches the destination's sink installs its arrival and is acknowledged, or is refused with
cause 6 without a sink; on the way it is charged or refused. FLOW_ACK makes a Pending path Up at its origin; FLOW_REFUSE and
the 100 ms of FLOW_SETUP_TIMEOUT refuse it; FLOW_RELEASE drops what it installed. A first copy of FLOW_DATA is presented as
received on the sink's stream. SINK_ENTRY_WRITE binds a sink, and SINK_PATH_SILENT reports 10 ms of silence once. -/
def Obligations.FabricFlows : Prop :=
  (∀ (s t u : State), s.fabricOn = true → s.fab.changed = true →
    t = (s.withFab fun x => { x with changed := false, routes := s.routesNow }).updateRoot →
    u = t.withFab (fun x => { x with reports := x.reports.filter fun y => (t.members.filterMap fun z => z.2.addr).contains y.1 }) →
    u.num Od.fabricState = 2 → exec .routeCompute s = .next
      (let v := u.setNum Od.staleMembers (u.fab.reports.filter fun x => (x.2.map (·.stale)).getD false).length
       if v.num Od.fabricState = 2 then v.flows.foldl State.repairFlow v else v))
  ∧ (∀ (s : State) (who : Caller) (f : Fin 1024) (b : Bytes), s.letsForm who (Od.flowEntry + f) false 0 (.bytes b) = true →
    s.checkFlow f b = .ok () → flowEnabled b = true → s.flowEntry f ≠ b → (s.setBlob (Od.flowEntry + f) b).num Od.fabricState = 2 →
    exec (.flowEnable who f b) s = .next ((((s.setBlob (Od.flowEntry + f) b).setupFlow f).bumpVersion (Od.flowEntry + f) 0).done who))
  ∧ (∀ (s : State) (who : Caller) (f : Fin 1024) (b : Bytes), s.letsForm who (Od.flowEntry + f) false 0 (.bytes b) = true →
    s.checkFlow f b = .ok () → flowEnabled b = false → flowEnabled (s.flowEntry f) = true →
    exec (.flowDisable who f b) s = .next ((((((s.releasePath f false).releasePath f true).setBlob (Od.flowEntry + f) b).flowSync f).bumpVersion
      (Od.flowEntry + f) 0).done who))
  ∧ (∀ (s : State) (n : Fin 256) (h : XosynHead) (m : FlowMsg) (i : Nat), s.twoWay n = true → s.hopIndex m.hops = some i →
    i + 1 = m.hops.length → s.sinkOf h.source h.flow = none →
    exec (.flowSetup n h m) s = .next (s.answerSetup (s.arrivedHead n h) m i 3 6))
  ∧ (∀ (s t : State) (n : Fin 256) (h : XosynHead) (m : FlowMsg) (i k : Nat), s.twoWay n = true → s.hopIndex m.hops = some i →
    i + 1 = m.hops.length → s.sinkOf h.source h.flow = some k →
    t = s.withFab (fun x => { x with arrivals := tabSet none x.arrivals (transitKey h.source h.flow h.pathB) none }) →
    t.rxFits n m.rate = true → exec (.flowSetup n h m) s = .next ((t.withFab fun x => { x with
      arrivals := tabSet none x.arrivals (transitKey h.source h.flow h.pathB)
        (some ⟨n, none, m.rate, m.burst, s.serialOf h.source⟩) }).answerSetup (s.arrivedHead n h) m i 2 0))
  ∧ (∀ (s : State) (n : Fin 256) (h : XosynHead) (m : FlowMsg) (i : Nat), s.twoWay n = true → s.hopIndex m.hops = some i →
    i + 1 ≠ m.hops.length → (s.arrivedHead n h).hopsLeft ≠ 0 → s.portToAddress (m.hops.getD (i + 1) 0) = none →
    exec (.flowSetup n h m) s = .next ((s.raiseAdmission 0x155 0x80 0 2 2).answerSetup (s.arrivedHead n h) m i 3 2))
  ∧ (∀ (s : State) (n : Fin 256) (h : XosynHead) (m : FlowMsg) (p : PathSt), s.twoWay n = true →
    s.ownAddress = some h.destination → p = (s.flowAt h.flow).path h.pathB → h.flow < 1024 → p.st = 1 → p.hops = m.hops →
    exec (.flowAck n h m) s = .next ((s.setPath h.flow h.pathB { p with st := 2 }).flowSync h.flow))
  ∧ (∀ (s : State) (n : Fin 256) (h : XosynHead) (m : FlowMsg), s.twoWay n = true →
    s.ownAddress = some h.destination → h.flow < 1024 → ((s.flowAt h.flow).path h.pathB).st = 1 →
    ((s.flowAt h.flow).path h.pathB).hops = m.hops →
    exec (.flowRefuse n h m) s = .next (s.refusePath h.flow h.pathB m.cause m.refusedAt))
  ∧ (∀ (s : State) (n : Fin 256) (h : XosynHead) (m : FlowMsg) (i : Nat), s.twoWay n = true → s.hopIndex m.hops = some i →
    i + 1 = m.hops.length → exec (.flowRelease n h m) s = .next (s.withFab fun x => { x with
      arrivals := tabSet none x.arrivals (transitKey (s.arrivedHead n h).source (s.arrivedHead n h).flow (s.arrivedHead n h).pathB) none }))
  ∧ (∀ (s : State) (f : Fin 1024) (b : Bool), ((s.flowAt f).path b).st = 1 → ((s.flowAt f).path b).sentAt + 100000000 ≤ s.gtc →
    exec (.flowSetupTimeout f b) s = .next (s.refusePath f b 8 0))
  ∧ (∀ (s t u : State) (n : Fin 256) (h : XosynHead) (o : Bytes) (k : Nat), s.xosynUp n = true → s.twoWay n = true →
    s.forwardXosyn n 7 (s.arrivedHead n h) o = (t, true) →
    t.sinkOf (s.arrivedHead n h).source (s.arrivedHead n h).flow = some k → sinkStream (t.sinkEntry k) ≠ 0xFFFF →
    t.takeSink k (s.arrivedHead n h) = (u, true) → exec (.flowData n h o) s = .next
      (u.presentFrame (u.sinkPort k (s.arrivedHead n h).pathB) (withFcs (padFrame o))))
  ∧ (∀ (s t u : State) (n : Fin 256) (h : XosynHead) (o : Bytes) (k : Nat), s.xosynUp n = true → s.twoWay n = true →
    s.forwardXosyn n 7 (s.arrivedHead n h) o = (t, true) →
    t.sinkOf (s.arrivedHead n h).source (s.arrivedHead n h).flow = some k → sinkStream (t.sinkEntry k) ≠ 0xFFFF →
    t.takeSink k (s.arrivedHead n h) = (u, false) → exec (.flowData n h o) s = .next u)
  ∧ (∀ (s : State) (who : Caller) (k : Fin 2048) (b : Bytes), s.letsForm who (Od.sinkEntry + k) false 0 (.bytes b) = true →
    s.checkSink k b = .ok () →
    exec (.sinkEntryWrite who k b) s = .next (((s.applySink k b).bumpVersion (Od.sinkEntry + k) 0).done who))
  ∧ (∀ (s : State) (k : Fin 2048), sinkValid (s.sinkEntry k) = true → (s.sinkAt k).silentA = false →
    (s.sinkAt k).atA + 10000000 ≤ s.gtc → s.gtc < (s.sinkAt k).atB + 10000000 →
    exec (.sinkPathSilent k false) s = .next ((s.setSink k { s.sinkAt k with silentA := true }).raiseOcc
      (0x170 + k / 128) 0x87 k 1 0))

/-- Fabric time, pond reports and datagrams (Chapter 6; R240; R250; R258; R259; R260). A Member broadcasts each offered enabled
domain (depth 0 unless it follows the fabric); a Time message of depth 15 is not used, another is kept as an offer of its
domain and, if its module is followed with a valid delay, measures the domain; an offer silent for 375 ms is dropped, and with
the last one the source is lost. A Member broadcasts its report each ReportInterval; a member's report is kept, and one older
than three intervals is marked stale once with its event. A datagram for this module goes to the ring that DatagramRing names;
a broadcast stranger to the tree or an exhausted hop limit is dropped and counted. -/
def Obligations.FabricTimeReportsDatagrams : Prop :=
  (∀ (s : State) (d : Fin 8), s.num Od.fabricState = 2 → (s.num Od.timeOffer).testBit d = true → (s.dom d).state ≠ 0 →
    (s.dom d).source ≠ 3 → exec (.timeSend d) s = .next (s.sendBroadcast 8 0 (toBE 1 d ++ toBE 1 (s.dom d).state
      ++ toBE 1 (s.dom d).clockClass ++ toBE 1 (s.domQuality d % 256) ++ toBE 1 0 ++ [0, 0, 0] ++ List.replicate 12 0)
      (.domainTime d)))
  ∧ (∀ (s : State) (a : Nat) (d : Fin 8) (m : TimeMsg) (p : Nat) (v : Bool), m.depth = 15 → exec (.time a d m p v) s = .next s)
  ∧ (∀ (s : State) (a : Nat) (d : Fin 8) (m : TimeMsg) (p : Nat), m.depth ≠ 15 → s.offerers.contains a = true →
    exec (.time a d m p false) s = .next (s.withFab fun x => { x with
      offers := tabSet none x.offers (offerKey d a) (some ⟨m.st, m.depth, m.clockClass, m.errorLog2, s.gtc⟩) }))
  ∧ (∀ (s : State) (d : Fin 8) (a : Nat) (o : Offer), s.offer d a = some o → o.at_ + 375000000 ≤ s.gtc → s.followed d ≠ some a →
    exec (.fabricSourceLost d a) s = .next (s.withFab fun x => { x with offers := tabSet none x.offers (offerKey d a) none }))
  ∧ (∀ (s t : State) (d : Fin 8) (a : Nat) (o : Offer), s.offer d a = some o → o.at_ + 375000000 ≤ s.gtc →
    s.followed d = some a → t = s.withFab (fun x => { x with offers := tabSet none x.offers (offerKey d a) none }) →
    t.followed d = none → exec (.fabricSourceLost d a) s = .next (t.loseSource d 3))
  ∧ (∀ (s t : State), t = s.watchHealth → t.num Od.fabricState = 2 →
    t.fab.reportAt + 1000000 * t.num Od.reportInterval ≤ t.gtc → exec .pondReportSend s = .next
      ((t.withFab fun x => { x with
        reportAt := t.gtc, reportState := hwState t.moduleHealth
        reportSeq := (x.reportSeq + 1) % 2 ^ 32 }).sendBroadcast 9 0
        (State.ownReport (t.withFab fun x => { x with
          reportAt := t.gtc, reportState := hwState t.moduleHealth
          reportSeq := (x.reportSeq + 1) % 2 ^ 32 }) t.fab.reportSeq)))
  ∧ (∀ (s : State) (a : Nat) (m : ReportMsg), tabGet none s.fab.reports a = none →
    exec (.pondReport a m) s = .next (s.withFab fun x => { x with
      reports := tabSet none x.reports a (some ⟨m.seq, m.health, m.share, m.used, m.held, m.inUse, s.gtc, false⟩) }))
  ∧ (∀ (s : State) (a : Nat) (r : Report), tabGet none s.fab.reports a = some r → r.stale = false →
    r.at_ + 3000000 * s.num Od.reportInterval < s.gtc → exec (.memberStale a) s = .next (((s.withFab fun x => { x with
      reports := tabSet none x.reports a (some { r with stale := true }) }).setNum Od.staleMembers
      (s.num Od.staleMembers + 1)).raiseOcc 0x156 0x80 0 1 a))
  ∧ (∀ (s t : State) (n : Fin 256) (h : XosynHead) (o : Bytes), s.xosynUp n = true → s.twoWay n = true →
    s.forwardXosyn n 0xC (s.arrivedHead n h) o = (t, true) → exec (.datagram n h o) s = .next
      (t.receiveInto (t.num Od.datagramRing / 256) (t.num Od.datagramRing % 256)
        (receivePacket 2 (s.arrivedHead n h).source false true false (!t.fine .n) t.gtc (s.arrivedHead n h).sequence o)).1)
  ∧ (∀ (s : State) (n : Fin 256) (h : XosynHead) (o : Bytes), s.xosynUp n = true → s.twoWay n = true →
    s.pnum Od.portForwardState n = 2 → s.ownAddress ≠ some h.destination → h.hopsLeft = 0 → h.broadcast = false →
    exec (.datagram n h o) s = .next (s.fabricDrop Od.hopLimitDrops))

/-- Sampled values: binding, key slots, frames, closing of instants and silence (Chapter 7; R273; R274; R277; R278; R284; R285;
R286; R287; R288; R295; R299). INTAKE_ENABLE 1 that passes Table 7-4 binds an unbound stream and starts its grid;
INTAKE_ENABLE 0 of a stream that no running instance reads unbinds it; either answers Done and then the channels it fed and
the units that captured them are brought up to date. INTAKE_KEY_SLOTS sets the key slots. INTAKE_FRAME takes the oldest copy:
one that fails a check of Table 7-5 is discarded with its cause, one that passes is counted and each sample placed by R283 to
R286. HORIZON_CLOSE closes the instants that the domain passed by H and 24 us as missing. STREAM_SILENT sets Silent, or
Rejecting where frames still come. -/
def Obligations.IntakeStreams : Prop :=
  (∀ (s : State) (who : Caller) (e : Fin 2048), s.lets who (Od.intakeEnable + e) false 0 (.num 1) = true →
    s.checkEntryOwner who e = .ok () → s.checkBinding who e = .ok () → s.bound e = false → exec (.intakeEnable who e 1) s =
      .next ((((s.bindStream e).bumpVersion (Od.intakeEnable + e) 0).bindingsChanged).done who))
  ∧ (∀ (s : State) (who : Caller) (e : Fin 2048), s.lets who (Od.intakeEnable + e) false 0 (.num 0) = true →
    s.checkEntryOwner who e = .ok () → s.streamRead e = false → exec (.intakeEnable who e 0) s =
      .next ((((s.unbindStream e).bumpVersion (Od.intakeEnable + e) 0).bindingsChanged).done who))
  ∧ (∀ (s : State) (who : Caller) (e : Fin 2048) (c : Code), s.lets who (Od.intakeEnable + e) false 0 (.num 1) = true →
    s.checkEntryOwner who e = .ok () → s.checkBinding who e = .error c →
    exec (.intakeEnable who e 1) s = .next (s.turned who c))
  ∧ (∀ (s : State) (who : Caller) (e : Fin 2048) (v : Nat), s.lets who (Od.intakeKeySlots + e) false 0 (.num v) = true →
    s.checkKeySlots who e v = .ok () →
    exec (.intakeKeySlots who e v) s = .next (((s.applyKeySlots e v).bumpVersion (Od.intakeKeySlots + e) 0).done who))
  ∧ (∀ (s t u : State) (c : IntakeCopy) (rest : List IntakeCopy) (x : StreamSt) (cause : Nat), s.intake.copies = c :: rest →
    t = s.withIntake (fun y => { y with copies := rest }) → t.stream c.entry = some x → s.intakeRuns = true → x.since ≤ c.stamp →
    u = (t.setStream c.entry (some { x with lastFrame := s.gtc })).noteAmbiguous c.entry (seClass (s.streamEntry c.entry)) c.octets →
    u.intakeSamples c.entry c.octets ((t.dom (icDomain (t.intakeConfig c.entry))).valueAt c.stamp) = .error cause →
    exec .intakeFrame s = .next (u.intakeDiscard c.entry cause).captureAll)
  ∧ (∀ (s t u : State) (c : IntakeCopy) (rest : List IntakeCopy) (x : StreamSt) (l : List Sample), s.intake.copies = c :: rest →
    t = s.withIntake (fun y => { y with copies := rest }) → t.stream c.entry = some x → s.intakeRuns = true → x.since ≤ c.stamp →
    u = (t.setStream c.entry (some { x with lastFrame := s.gtc })).noteAmbiguous c.entry (seClass (s.streamEntry c.entry)) c.octets →
    u.intakeSamples c.entry c.octets ((t.dom (icDomain (t.intakeConfig c.entry))).valueAt c.stamp) = .ok l → x.frozen = none →
    exec .intakeFrame s = .next (l.foldl (fun v a => v.takeSample c.entry
      ((t.dom (icDomain (t.intakeConfig c.entry))).valueAt c.stamp) a) (horizonClose c.entry (u.streamCount c.entry 0 1))).captureAll)
  ∧ (∀ (s : State) (e : Fin 2048) (x : StreamSt), s.stream e = some x → x.frozen = none → s.intakeRuns = true →
    exec (.horizonClose e) s = .next (s.closeMissing e (s.openInstants e x ((s.dom (icDomain (s.intakeConfig e))).valueAt s.gtc
      - icHorizonUnits (s.intakeConfig e) - 24000 * 2 ^ 48))).captureAll)
  ∧ (∀ (s : State) (e : Fin 2048) (x : StreamSt), s.stream e = some x → 2 ≤ field (s.num (Od.intakeStreamStatus + e)) 28 4 →
    icRateCode (s.intakeConfig e) = 1 → x.lastPlaced + 2083334 < s.gtc → x.lastFrame ≤ x.lastPlaced →
    exec (.streamSilent e) s = .next (s.streamState e 3))
  ∧ (∀ (s : State) (e : Fin 2048) (x : StreamSt), s.stream e = some x → 2 ≤ field (s.num (Od.intakeStreamStatus + e)) 28 4 →
    icRateCode (s.intakeConfig e) = 1 → x.lastPlaced + 2083334 < s.gtc → x.lastPlaced < x.lastFrame →
    s.gtc ≤ x.lastFrame + 2083334 → exec (.streamSilent e) s = .next (s.streamState e 4))

/-- The chain: channels, FIR sets, phasors and trackers are enabled, written and run; memory errors (Chapter 8; R302; R303; R304;
R312; R313; R315; R321; R325; R326; R327; R329). With the checks of R104 and of the chapter passed: FILTER_INPUT,
FILTER_ENABLE, FILTER_SCALE, FIR_SET_WRITE, PHASOR_ENABLE and TRACKER_ENABLE take effect and answer Done, and the units that
captured a channel that ended stop; FILTER_ENABLE without a feeding stream is refused with Precondition, and a FirSet that an
enabled channel names with Busy. FILTER_OUTPUT runs a channel up to its next output, then captures. PHASOR_OUTPUT without an
output of its source leaves the phasor alone. CHAIN_ECC_ERROR counts a corrected error, marks a named FIR set Corrupt and
idles its channels, or restarts a running channel; CHAIN_SCRUB_PASS notes the duration, with an event beyond 100 ms. -/
def Obligations.ChainOfFilters : Prop :=
  (∀ (s : State) (who : Caller) (c v : Nat), chExists c = true → s.lets who (Od.filterInput + chOff c) false 0 (.num v) = true →
    s.checkFilterInput who c v = .ok () → exec (.filterInput who c v) s =
      .next ((((s.applyFilterInput c v).bumpVersion (Od.filterInput + chOff c) 0).stopLostUnits).done who))
  ∧ (∀ (s : State) (who : Caller) (c : Nat), chExists c = true → s.lets who (Od.filterEnable + chOff c) false 0 (.num 1) = true →
    s.checkFilterEnable who c 1 = .ok () → s.filterOn c = false → exec (.filterEnable who c 1) s = .next
      ((((((((s.setFilter c none).startFilter c).setNum (Od.filterEnable + chOff c) 1).filterEvent c (s.filterState c)).bumpVersion
        (Od.filterEnable + chOff c) 0)).stopLostUnits).done who))
  ∧ (∀ (s : State) (who : Caller) (c : Nat), chExists c = true → s.lets who (Od.filterEnable + chOff c) false 0 (.num 0) = true →
    s.checkFilterEnable who c 0 = .ok () → exec (.filterEnable who c 0) s = .next
      ((((((s.setNum (Od.filterEnable + chOff c) 0).setFilter c none).filterEvent c (s.filterState c)).bumpVersion
        (Od.filterEnable + chOff c) 0).stopLostUnits).done who))
  ∧ (∀ (s : State) (who : Caller) (c : Nat), chExists c = true → s.lets who (Od.filterEnable + chOff c) false 0 (.num 1) = true →
    s.tenantHolds who (chItem c).1 (chItem c).2 = true → s.feedOf (s.inputKey c) = none →
    exec (.filterEnable who c 1) s = .next (s.turned who .precondition))
  ∧ (∀ (s : State) (who : Caller) (c : Nat) (b : Bytes), chExists c = true →
    s.lets who (Od.filterScale + chOff c) false 0 (.bytes b) = true → s.checkFilterScale who c b = .ok () →
    exec (.filterScale who c b) s = .next (((s.applyFilterScale c b).bumpVersion (Od.filterScale + chOff c) 0).done who))
  ∧ (∀ (s : State) (who : Caller) (k : Fin 64) (b : Bytes), s.letsForm who (Od.firSet + k) false 0 (.bytes b) = true →
    checkFirForm b = .ok () → s.firNamed k = false →
    exec (.firSetWrite who k b) s = .next (((s.applyFir k b).bumpVersion (Od.firSet + k) 0).done who))
  ∧ (∀ (s : State) (who : Caller) (k : Fin 64) (b : Bytes), s.letsForm who (Od.firSet + k) false 0 (.bytes b) = true →
    checkFirForm b = .ok () → s.firNamed k = true → s.chain.corrupt.contains k.val = false →
    exec (.firSetWrite who k b) s = .next (s.turned who .busy))
  ∧ (∀ (s : State) (who : Caller) (p : Fin 2048) (v : Nat), s.lets who (Od.phasorEnable + p) false 0 (.num v) = true →
    s.checkPhasorEnable who p v = .ok () → exec (.phasorEnable who p v) s = .next
      ((((s.applyPhasorEnable p v).bumpVersion (Od.phasorEnable + p) 0).stopLostUnits).done who))
  ∧ (∀ (s : State) (who : Caller) (t : Fin 64) (v : Nat), s.lets who (Od.trackerEnable + t) false 0 (.num v) = true →
    s.checkTrackerEnable t v = .ok () → exec (.trackerEnable who t v) s = .next
      ((((s.applyTrackerEnable t v).bumpVersion (Od.trackerEnable + t) 0).stopLostUnits).done who))
  ∧ (∀ (s : State) (c : Nat), s.shedLevel ≤ 3 → exec (.filterOutput c) s = .next
      (s.chainRun c (fcR (s.filterConfig c) * fcQ (s.filterConfig c) + 1)).captureAll)
  ∧ (∀ (s : State) (p : Fin 2048) (x : PhasorSt) (src : FilterSt) (e : ChainEnt) (d fs fo : Nat), s.phasor p = some x →
    s.filter (pcSource (s.phasorConfig p)) = some src → s.filterRates (pcSource (s.phasorConfig p)) = some (d, fs, fo) →
    src.ents = [e] → x.last < e.at_ → pcTracker (s.phasorConfig p) = 0xFF → s.tracker 0xFF = none → s.shedLevel ≤ 3 →
    ∃ (t : State) (y : PhasorSt), exec (.phasorOutput p) s = .next t.captureAll ∧ y.last = e.at_ ∧ y.win = (e :: x.win).take 8192
      ∧ t = ((if x.settled && !y.settled then (s.setPhasor p (some y)).raiseLimited (0x780 + p / 64) 0xA003 0x83 p 0
          else s.setPhasor p (some y)).enabledTrackers.filter fun k =>
            (tcRefs ((if x.settled && !y.settled then (s.setPhasor p (some y)).raiseLimited (0x780 + p / 64) 0xA003 0x83 p 0
              else s.setPhasor p (some y)).trackerConfig k)).contains p.val).foldl (fun w k => w.trackerRecord k e.at_)
          (if x.settled && !y.settled then (s.setPhasor p (some y)).raiseLimited (0x780 + p / 64) 0xA003 0x83 p 0
            else s.setPhasor p (some y)))
  ∧ (∀ (s : State) (fir : Bool) (n : Nat), exec (.chainEccError true fir n) s = .next (s.count32 Od.chainEccCorrected).stopLostUnits)
  ∧ (∀ (s t : State) (n : Nat), t = s.count32 Od.chainEccUncorrectable → t.filterState n = 2 → s.filterState n = 2 →
    exec (.chainEccError false false n) s = .next (((t.startFilter n).raiseOcc (chSource n) 0x82 n 4 0).stopLostUnits))
  ∧ (∀ (s : State) (m : Nat), m ≤ 100000 → exec (.chainScrubPass m) s = .next (s.setNum Od.chainScrubPassTime (sat32 m)))
  ∧ (∀ (s : State) (m : Nat), 100000 < m → exec (.chainScrubPass m) s =
    .next ((s.setNum Od.chainScrubPassTime (sat32 m)).raiseOcc 0x7A0 0x80 0 2 m))

/-- Units: arming, disarming, software triggers, conditions, record freezes and record control (Chapter 9; R335; R344; R348; R349;
R350; R351; R352; R353; R364; R370). Where the checks of R104 pass and the caller reaches the unit: UNIT_ARM of an idle unit
that passes Table 9-4 arms it, of an armed unit changes nothing; UNIT_DISARM disarms at once; UNIT_DISARM_AFTER_FREEZE of an
open record waits for its freeze; UNIT_SOFT_TRIGGER of an armed unit decides a trigger at the domain time now, of another is
refused with Precondition. TRIGGER_DECIDE evaluates the instants of the unit's source after the last one, oldest first.
RECORD_FREEZE freezes a complete open record and goes on. RECORD_LOCK locks a Frozen or Locked record, RECORD_UNLOCK makes it
Frozen, RECORD_RELEASE empties its slot; an exporting slot is Busy. -/
def Obligations.AcquisitionUnits : Prop :=
  (∀ (s : State) (who : Caller) (u : Fin 64), s.lets who (Od.unitArm + 256 * u) false 0 (.num 1) = true →
    s.checkUnitOwner who u = .ok () → s.armed u = false → s.checkArm u = .ok () →
    exec (.unitArm who u) s = .next ((s.arm u).done who))
  ∧ (∀ (s : State) (who : Caller) (u : Fin 64), s.lets who (Od.unitArm + 256 * u) false 0 (.num 1) = true →
    s.checkUnitOwner who u = .ok () → s.armed u = true → exec (.unitArm who u) s = .next (s.done who))
  ∧ (∀ (s : State) (who : Caller) (u : Fin 64), s.lets who (Od.unitArm + 256 * u) false 0 (.num 2) = true →
    s.checkUnitOwner who u = .ok () → exec (.unitDisarm who u) s = .next ((if s.armed u then s.disarm u else s).done who))
  ∧ (∀ (s : State) (who : Caller) (u : Fin 64) (x : UnitSt), s.lets who (Od.unitArm + 256 * u) false 0 (.num 3) = true →
    s.checkUnitOwner who u = .ok () → s.unitState u = 3 → s.unit u = some x →
    exec (.unitDisarmAfterFreeze who u) s = .next ((s.setUnit u (some { x with disarmAfter := true })).done who))
  ∧ (∀ (s : State) (who : Caller) (u : Fin 64) (v : Nat), s.lets who (Od.unitSoftTrigger + 256 * u) false 0 (.num v) = true →
    s.checkUnitOwner who u = .ok () → s.armed u = true → exec (.unitSoftTrigger who u v) s = .next ((s.decideTrigger u
      (.own ((s.dom (ccDomain (s.captureConfig u))).unitsAt s.gtc 0) 7 0xFFFF 64)).done who))
  ∧ (∀ (s : State) (who : Caller) (u : Fin 64) (v : Nat), s.lets who (Od.unitSoftTrigger + 256 * u) false 0 (.num v) = true →
    s.checkUnitOwner who u = .ok () → s.armed u = false →
    exec (.unitSoftTrigger who u v) s = .next (s.turned who .precondition))
  ∧ (∀ (s : State) (u : Fin 64) (x : UnitSt) (d r g : Nat), s.unit u = some x →
    s.source (ucKind (s.unitConfig u)) (ucNum (s.unitConfig u)) = some (d, r, g) → s.armed u = true →
    ucSourced (s.unitConfig u) = true → s.shedLevel ≤ 3 → exec (.triggerDecide u) s = .next (s.evaluateAll u r
      ((s.sourceEnts (ucKind (s.unitConfig u)) (ucNum (s.unitConfig u))).filter fun e => decide (x.last < e.1)).reverse))
  ∧ (∀ (s : State) (u : Fin 64) (x : UnitSt) (r : OpenRec) (g : Nat), s.unit u = some x → x.open_ = some r → r.endGtc = some g →
    exec (.recordFreeze u) s = .next ((s.freezeRecord u false).afterFreeze u))
  ∧ (∀ (s : State) (u : Fin 64) (x : UnitSt) (r : OpenRec), s.unit u = some x → x.open_ = some r → r.endGtc = none →
    exec (.recordFreeze u) s = .next s)
  ∧ (∀ (s : State) (who : Caller) (u : Fin 64) (k : Fin 256) (x : UnitSt),
    s.lets who (Od.recordControl + 256 * u + k) false 0 (.num 1) = true → s.checkUnitOwner who u = .ok () → s.unit u = some x →
    (x.slot k).st = 3 ∨ (x.slot k).st = 4 →
    exec (.recordLock who u k) s = .next ((s.setUnit u (some (x.setSlot k { x.slot k with st := 4 }))).done who))
  ∧ (∀ (s : State) (who : Caller) (u : Fin 64) (k : Fin 256) (x : UnitSt),
    s.lets who (Od.recordControl + 256 * u + k) false 0 (.num 2) = true → s.checkUnitOwner who u = .ok () → s.unit u = some x →
    (x.slot k).st = 4 → s.unitState u ≠ 4 →
    exec (.recordUnlock who u k) s = .next ((s.setUnit u (some (x.setSlot k { x.slot k with st := 3 }))).done who))
  ∧ (∀ (s : State) (who : Caller) (u : Fin 64) (k : Fin 256) (x : UnitSt),
    s.lets who (Od.recordControl + 256 * u + k) false 0 (.num 3) = true → s.checkUnitOwner who u = .ok () → s.unit u = some x →
    (x.slot k).st = 3 → ((s.setUnit u (some (x.setSlot k .init))).releasePages u).unitState u ≠ 4 →
    exec (.recordRelease who u k) s = .next (((s.setUnit u (some (x.setSlot k .init))).releasePages u).done who))
  ∧ (∀ (s : State) (who : Caller) (u : Fin 64) (k : Fin 256) (x : UnitSt),
    s.lets who (Od.recordControl + 256 * u + k) false 0 (.num 3) = true → s.checkUnitOwner who u = .ok () → s.unit u = some x →
    (x.slot k).st = 5 → exec (.recordRelease who u k) s = .next (s.turned who .busy))

/-- Ripple lines, trigger messages, the COMTRADE export and errors of the record memory (Chapter 9; R357; R358; R359; R361; R362;
R363; R365; R367; R368). RIPPLE_RELEASE ends a due pulse; RIPPLE_EDGE notes the line, and an assertion of a free line is
counted and triggers the units that watch it; a line asserted over 1 ms is Stuck, and one released for 1 ms is no longer
ignored. A broadcast TRIGGER on the tree is offered to the units of sink 0xFFFE. EXPORT_REQUEST of a Frozen or Locked record
with none under way starts the export and marks the slot Exporting; EXPORT_DONE ends it. ACQ_ECC_ERROR counts a corrected
error, and marks a frozen record Suspect with its event. -/
def Obligations.RippleTriggersAndExport : Prop :=
  (∀ (s : State) (k : Fin 8) (g : Nat), (s.rippleAt k).drive = some g → g ≤ s.gtc → exec (.rippleRelease k) s = .next
    (s.setRipple k { s.rippleAt k with drive := none, since := if (s.rippleAt k).level then (s.rippleAt k).since else s.gtc }))
  ∧ (∀ (s : State) (k : Fin 8), (s.rippleAt k).on = false → (s.rippleAt k).stuck = false → s.armedUnits = [] →
    ∃ t : State, exec (.rippleEdge k true) s = .next t ∧ t = (s.setRipple k { s.rippleAt k with level := true, since := s.gtc }).count48ev
      (Od.rippleEdges + k) (0x840 + k) 0x80 0)
  ∧ (∀ (s : State) (k : Fin 8), (s.rippleAt k).drive = none → (s.rippleAt k).level = true →
    exec (.rippleEdge k false) s = .next (s.setRipple k { s.rippleAt k with level := false, since := s.gtc }))
  ∧ (∀ (s : State) (k : Fin 8), (s.rippleAt k).drive = none → (s.rippleAt k).level = true → (s.rippleAt k).stuck = false →
    (s.rippleAt k).since + 1000000 < s.gtc → exec (.rippleStuck k) s = .next (((s.setRipple k { s.rippleAt k with
      stuck := true }).count32 (Od.rippleStuckCount + k)).raiseState (0x840 + k) 0x80 0 1 3 0 0))
  ∧ (∀ (s : State) (k : Fin 8), (s.rippleAt k).drive = none → (s.rippleAt k).level = false → (s.rippleAt k).stuck = true →
    (s.rippleAt k).since + 1000000 ≤ s.gtc → exec (.rippleStuckClear k) s = .next ((s.setRipple k { s.rippleAt k with
      stuck := false }).raiseState (0x840 + k) 0x80 0 3 0 0 0))
  ∧ (∀ (s t : State) (n : Fin 256) (h : XosynHead) (m : TriggerMsg), s.xosynUp n = true → s.twoWay n = true →
    s.forwardXosyn n 0xA (s.arrivedHead n h) (encodeTrigger m) = (t, true) → (s.arrivedHead n h).broadcast = true →
    exec (.trigger n h m) s = .next (t.takeTrigger 0xFFFE (s.arrivedHead n h).source (s.arrivedHead n h).delayValid
      (s.arrivedHead n h).pathDelay m))
  ∧ (∀ (s t : State) (n : Fin 256) (h : XosynHead) (m : TriggerMsg), s.xosynUp n = true → s.twoWay n = true →
    s.forwardXosyn n 0xA (s.arrivedHead n h) (encodeTrigger m) = (t, true) → (s.arrivedHead n h).broadcast = false →
    t.sinkOf (s.arrivedHead n h).source (s.arrivedHead n h).flow = none →
    exec (.trigger n h m) s = .next t.discardTrigger)
  ∧ (∀ (s : State) (who : Caller) (u : Fin 64) (k : Fin 256) (x : UnitSt),
    s.lets who Od.exportRequest false 0 (.num (256 * u + k)) = true → s.unit u = some x → (x.slot k).st = 3 →
    s.tenantHolds who 0x05 u = true → ((pagesOf (s.num Od.exportTarget) (s.exportFile (x.slot k).addr).1.length).all
      fun p => s.tenantHolds who 0x0A p) = true → (s.exportFile (x.slot k).addr).1.length ≤ s.num Od.exportLimit →
    s.acq.export_ = none → exec (.exportRequest who (256 * u + k)) s = .next ((((s.setUnit u (some (x.setSlot k { x.slot k with
      st := 5 }))).withAcq fun y => { y with export_ := some (u, k, 3) }).setNum Od.exportStatus 1).done who))
  ∧ (∀ (s : State) (u k st : Nat) (x : UnitSt), s.acq.export_ = some (u, k, st) → s.unit u = some x → ∃ t : State,
    t = (((s.setUnit u (some (x.setSlot k { x.slot k with st := st }))).setNum Od.exportStatus 3).withAcq fun y => { y with
      export_ := none }) ∧ (t.unitState u ≠ 4 → exec (.exportDone true) s = .next (t.raiseState 0x849 0x80 0 1 3 0 (u * 256 + k))))
  ∧ (∀ (s : State) (u : Fin 64) (k : Fin 256), exec (.acqEccError true u k) s = .next (s.count32 Od.acqEccCorrected))
  ∧ (∀ (s : State) (u : Fin 64) (k : Fin 256) (x : UnitSt), s.unit u = some x → (x.slot k).st = 2 →
    exec (.acqEccError false u k) s = .next (((s.count32 Od.acqEccUncorrectable).setUnit u (some (x.setSlot k { x.slot k with
      suspect := true }))).raiseFlag 0x84A 0x05 u true 11 (2 ^ 11)))

/-- Scan processors, program loads, starts, stops and ferries as commanded (Chapter 10; R377; R378; R379; R384; R386; R387; R388;
R407; R408; R410; R411). PROGRAM_LOAD whose image lies in pages of the instance starts a load; with one under way it is
refused with InProgress; PROGRAM_LOAD_DONE of an image that fails the checks sets the status and raises the completion.
COLD_START and WARM_START that pass R386 launch the program at its first boundary; without a program they are refused with
Precondition; STOP is accepted in every state. FERRY_SWITCH of an unpaired running instance with a candidate sets the switch;
FERRY_CANCEL drops the candidate. LOCKSTEP_MISMATCH stops the processor and faults its instances; SP_RECOVER starts its self-
test, whose end makes it Ready or Failed. SP_ECC_ERROR and SP_SCRUB_PASS count and report. -/
def Obligations.ScanStartsAndLoads : Prop :=
  (∀ (s : State) (who : Caller) (i : Fin 256) (a : Nat), a < 2 ^ 64 → s.lets who Od.programLoad true i (.num a) = true →
    ((pagesOf a (imageLength (s.hbmRead a 128))).all fun p => decide (p < 32768) && s.inInstance i (s.holderOf 0x0A p)) = true →
    s.inReset i = false → (s.scanOf i).loading = none → (s.scanOf i).switchAt = none → (s.pairInst i).ferry = none →
    s.instRunningState i = false → exec (.programLoad who i a) s = .next (((s.setScan i { s.scanOf i with
      loading := some (a, s.gtc) }).setNum Od.programStatus (2 ^ 24) i).done who))
  ∧ (∀ (s : State) (who : Caller) (i : Fin 256) (a : Nat) (x : Nat × Nat), a < 2 ^ 64 →
    s.lets who Od.programLoad true i (.num a) = true →
    ((pagesOf a (imageLength (s.hbmRead a 128))).all fun p => decide (p < 32768) && s.inInstance i (s.holderOf 0x0A p)) = true →
    s.inReset i = false → (s.scanOf i).loading = some x →
    exec (.programLoad who i a) s = .next (s.turned who .inProgress))
  ∧ (∀ (s : State) (i : Fin 256) (a g : Nat) (e : Code), (s.scanOf i).loading = some (a, g) → s.instRunningState i = false →
    s.checkProgram (s.hbmRead a (imageLength (s.hbmRead a 128))) = .error e → e.value ≠ 0 → exec (.programLoadDone i) s = .next
      (((s.setScan i { s.scanOf i with loading := none }).setNum Od.programStatus (3 * 2 ^ 24 + e.value) i).instDone i
        Od.programLoad e.value))
  ∧ (∀ (s t : State) (who : Caller) (i : Fin 256) (p : Prog), s.lets who Od.scanControl true i (.num 1) = true →
    s.inReset i = false → startStates (s.instState i) = true → s.paired i = false → s.checkStart i false = .ok (p, t) →
    exec (.coldStart who i) s = .next ((t.launch i p false (t.firstBoundary i (max 0 (s.gtc + 50000)))).done who))
  ∧ (∀ (s : State) (who : Caller) (i : Fin 256), s.lets who Od.scanControl true i (.num 1) = true →
    s.inReset i = false → startStates (s.instState i) = true → s.paired i = false → (s.scanOf i).prog = none →
    exec (.coldStart who i) s = .next (s.turned who .precondition))
  ∧ (∀ (s t : State) (who : Caller) (i : Fin 256) (p : Prog), s.lets who Od.scanControl true i (.num 2) = true →
    s.inReset i = false → startStates (s.instState i) = true → s.checkStart i true = .ok (p, t) →
    exec (.warmStart who i) s = .next ((t.launch i p true (t.firstBoundary i (max 0 (s.gtc + 50000)))).done who))
  ∧ (∀ (s : State) (who : Caller) (i : Fin 256), s.lets who Od.scanControl true i (.num 3) = true → s.inReset i = false →
    exec (.stopCmd who i) s = .next ((s.requestStop i).done who))
  ∧ (∀ (s : State) (who : Caller) (i : Fin 256) (q : Prog) (n : Nat), n < 2 ^ 64 → n ≠ 0 →
    s.lets who Od.ferrySwitch true i (.num n) = true → s.inReset i = false → (s.scanOf i).switchAt = none →
    (s.pairInst i).ferry = none → (s.scanOf i).cand = some q → s.instRunningState i = true → s.paired i = false →
    s.ferryFirst i ≤ n → exec (.ferrySwitch who i n) s = .next ((s.setSwitch i n).done who))
  ∧ (∀ (s : State) (who : Caller) (i : Fin 256), s.lets who Od.ferryCancel true i (.num 1) = true →
    exec (.ferryCancel who i 1) s = .next ((s.dropCandidate i).done who))
  ∧ (∀ (s : State) (p : Fin 32), s.num (Od.spState + p) = 0 → exec (.lockstepMismatch p) s = .next
    ((((s.enterSp p 1).count32 (Od.spLockstepErrors + p)).spRunning p).foldl (fun u i => u.faultInstance i 5)
      ((s.enterSp p 1).count32 (Od.spLockstepErrors + p))))
  ∧ (∀ (s : State) (who : Caller) (p : Fin 32) (v : Nat), s.lets who (Od.spRecover + p) false 0 (.num v) = true →
    s.spRunning p = [] → s.num (Od.spState + p) = 1 → exec (.spRecover who p v) s = .next (((s.enterSp p 2).withScanAll
      fun x => { x with testing := tabSet none x.testing p (some (s.enterSp p 2).gtc) }).done who))
  ∧ (∀ (s : State) (p : Fin 32) (pass : Bool), s.num (Od.spState + p) = 2 → exec (.spSelfTestDone p pass) s = .next
    ((s.withScanAll fun x => { x with testing := tabSet none x.testing p none }).enterSp p (if pass then 0 else 3)))
  ∧ (∀ (s : State) (p : Fin 32) (c : Bool) (i : Fin 256), exec (.spEccError p true c i) s = .next (s.count32 (Od.spEccCorrected + p)))
  ∧ (∀ (s : State) (p : Fin 32) (m : Nat), 100000 < m → exec (.spScrubPass p m) s = .next (s.spRaise p 0xA003 (m % 2 ^ 64 + 2 ^ 64)))

/-- The cycle of a scan: freeze, overrun, boundary and automatic restart (Chapter 10; R387; R391; R392; R397; R398; R399; R409;
R418). IMAGE_FREEZE when the freeze is due puts the image of the scan into the data memory, sets the registers of EntryPoint
and begins execution, and counts the scan; before that it changes nothing. OVERRUN of an executing scan past its deadline
faults the instance with its cause. SCAN_BOUNDARY at its instant commits the scan that has ended and moves to the next
boundary; a boundary not yet reached changes nothing. AUTO_RESTART of a Faulted instance that its fault allowed makes a warm
start 10 ms after the fault and counts it. -/
def Obligations.ScanCycle : Prop :=
  (∀ (s : State) (i : Fin 256) (p : Prog), (s.scanOf i).prog = some p → s.freezeDue i = true → ∃ (t u : State) (y : ScanSt),
    exec (.imageFreeze i) s = .next (u.enterInst i 3 0)
      ∧ (u = t ∨ u = t.count32 Od.pendingImages 1 i)
      ∧ y.phase = 1 ∧ y.isa = p.entryRegs ∧ y.commits = [] ∧ y.scan = (s.scanOf i).scan ∧ y.boundary = (s.scanOf i).boundary
      ∧ ∃ w : State, t = (((w.setScan i y).setNum Od.scanNumber y.scan i).setNum Od.imageDigest y.imageDigest i).count48 Od.scansRun 1 i)
  ∧ (∀ (s : State) (i : Fin 256), s.freezeDue i = false → exec (.imageFreeze i) s = .next s)
  ∧ (∀ (s : State) (i : Fin 256) (g : Nat), s.boundaryGtc i = some g → g ≤ s.gtc → (s.dom (s.scanD i)).state ≠ 0 →
    s.instRunningState i = true → (s.scanOf i).phase = 2 → s.instState i ≠ 4 → exec (.scanBoundary i) s = .next
      (s.runningBoundary i g (s.boundaryValue i (s.scanOf i).boundary)))
  ∧ (∀ (s : State) (i : Fin 256) (g : Nat), s.boundaryGtc i = some g → g ≤ s.gtc → (s.dom (s.scanD i)).state ≠ 0 →
    s.instRunningState i = false → s.instState i = 4 → exec (.scanBoundary i) s = .next
      (s.faultedBoundary i g (s.boundaryValue i (s.scanOf i).boundary)))
  ∧ (∀ (s : State) (i : Fin 256) (g : Nat), s.boundaryGtc i = some g → s.gtc < g → exec (.scanBoundary i) s = .next s)
  ∧ (∀ (s t u : State) (i : Fin 256), s.instState i = 4 → (s.scanOf i).autoWanted = true → (s.scanOf i).safeDue = false →
    s.inReset i = false → t = s.setScan i { s.scanOf i with
      autoWanted := false,
      autoStarts := (s.scanOf i).autoStarts.filter fun g => decide ((s.scanOf i).faultAt < g + 3600000000000) } →
    t.startInstance i true ((s.scanOf i).faultAt + 10000000) = .ok u → exec (.autoRestart i) s = .next ((u.setScan i { u.scanOf i with
      autoStarts := (s.scanOf i).faultAt :: (s.scanOf i).autoStarts.filter fun g => decide ((s.scanOf i).faultAt < g + 3600000000000) }).count32 Od.autoRestarts 1 i))
  ∧ (∀ (s : State) (i : Fin 256), s.instState i = 3 → (s.scanOf i).phase = 1 → s.deadlinePassed i = true →
    exec (.overrun i) s = .next (s.overrunInst i 2))
  ∧ (∀ (s : State) (i : Fin 256), s.instState i = 3 → (s.scanOf i).phase = 1 → s.deadlinePassed i = false → s.overBudget i = true →
    exec (.overrun i) s = .next (s.overrunInst i 1))
  ∧ (∀ (s : State) (i : Fin 256), s.instState i = 3 → (s.scanOf i).phase = 1 → s.deadlinePassed i = false → s.overBudget i = false →
    exec (.overrun i) s = .next s)

/-- Integer arithmetic delivers the exact result modulo 2^64, or the nearest value, with C and V (R424). For an instance whose
next word is the instruction and whose budget and deadline allow it (readyFor): ADD, ADDI, SUB, NEG, ABS, MUL deliver the
exact result modulo 2^64 and set V exactly when it lies outside MIN to MAX; ADDS, SUBS, NEGS, ABSS, MULS, SAT16 and SAT32
deliver the nearest value of their range and set V when it differs from the exact result; C is the carry of ADD and ADDI, the
no-borrow of SUB, 0 of the others; MULH and MULHU deliver the high 64 bits of the product; CMP and CMPI replace N, Z, C and V
by those of the difference and set no sticky flag and no register. exec answers the next state that differs from s in Gd,
FLAGS, PC and CYCLES of that instance only (Gd = G0 discards the result). -/
def Obligations.IsaArithmetic : Prop :=
  (∀ (s : State) (i : Fin 256) (d a b : Fin 32), s.readyFor i (.add d a b) = true →
    exec (.add i d a b) s = .next (s.withRegs i ((s.stepped i (.add d a b)).deliver d (s.g i a + s.g i b)
      (decide (2 ^ 64 ≤ (s.g i a).toNat + (s.g i b).toNat)) (outside64 ((s.g i a).toInt + (s.g i b).toInt)) false)))
  ∧ (∀ (s : State) (i : Fin 256) (d a : Fin 32) (imm : Fin 65536), s.readyFor i (.addi d a imm) = true →
    exec (.addi i d a imm) s = .next (s.withRegs i ((s.stepped i (.addi d a imm)).deliver d (s.g i a + sext16 imm)
      (decide (2 ^ 64 ≤ (s.g i a).toNat + (sext16 imm).toNat)) (outside64 ((s.g i a).toInt + (sext16 imm).toInt)) false)))
  ∧ (∀ (s : State) (i : Fin 256) (d a b : Fin 32), s.readyFor i (.sub d a b) = true →
    exec (.sub i d a b) s = .next (s.withRegs i ((s.stepped i (.sub d a b)).deliver d (s.g i a - s.g i b)
      (decide ((s.g i b).toNat ≤ (s.g i a).toNat)) (outside64 ((s.g i a).toInt - (s.g i b).toInt)) false)))
  ∧ (∀ (s : State) (i : Fin 256) (d a b : Fin 32), s.readyFor i (.adds d a b) = true →
    exec (.adds i d a b) s = .next (s.withRegs i ((s.stepped i (.adds d a b)).deliver d
      (BitVec.ofInt 64 (nearest 64 ((s.g i a).toInt + (s.g i b).toInt))) false
      (decide (nearest 64 ((s.g i a).toInt + (s.g i b).toInt) ≠ (s.g i a).toInt + (s.g i b).toInt)) false)))
  ∧ (∀ (s : State) (i : Fin 256) (d a b : Fin 32), s.readyFor i (.subs d a b) = true →
    exec (.subs i d a b) s = .next (s.withRegs i ((s.stepped i (.subs d a b)).deliver d
      (BitVec.ofInt 64 (nearest 64 ((s.g i a).toInt - (s.g i b).toInt))) false
      (decide (nearest 64 ((s.g i a).toInt - (s.g i b).toInt) ≠ (s.g i a).toInt - (s.g i b).toInt)) false)))
  ∧ (∀ (s : State) (i : Fin 256) (d a : Fin 32), s.readyFor i (.neg d a) = true →
    exec (.neg i d a) s = .next (s.withRegs i ((s.stepped i (.neg d a)).deliver d (-(s.g i a)) false
      (outside64 (-(s.g i a).toInt)) false)))
  ∧ (∀ (s : State) (i : Fin 256) (d a : Fin 32), s.readyFor i (.negs d a) = true →
    exec (.negs i d a) s = .next (s.withRegs i ((s.stepped i (.negs d a)).deliver d
      (BitVec.ofInt 64 (nearest 64 (-(s.g i a).toInt))) false
      (decide (nearest 64 (-(s.g i a).toInt) ≠ -(s.g i a).toInt)) false)))
  ∧ (∀ (s : State) (i : Fin 256) (d a : Fin 32), s.readyFor i (.abs d a) = true →
    exec (.abs i d a) s = .next (s.withRegs i ((s.stepped i (.abs d a)).deliver d
      (if (s.g i a).toInt < 0 then -(s.g i a) else s.g i a) false (outside64 |(s.g i a).toInt|) false)))
  ∧ (∀ (s : State) (i : Fin 256) (d a : Fin 32), s.readyFor i (.abss d a) = true →
    exec (.abss i d a) s = .next (s.withRegs i ((s.stepped i (.abss d a)).deliver d
      (BitVec.ofInt 64 (nearest 64 |(s.g i a).toInt|)) false
      (decide (nearest 64 |(s.g i a).toInt| ≠ |(s.g i a).toInt|)) false)))
  ∧ (∀ (s : State) (i : Fin 256) (d a b : Fin 32), s.readyFor i (.mul d a b) = true →
    exec (.mul i d a b) s = .next (s.withRegs i ((s.stepped i (.mul d a b)).deliver d (s.g i a * s.g i b) false
      (outside64 ((s.g i a).toInt * (s.g i b).toInt)) false)))
  ∧ (∀ (s : State) (i : Fin 256) (d a b : Fin 32), s.readyFor i (.muls d a b) = true →
    exec (.muls i d a b) s = .next (s.withRegs i ((s.stepped i (.muls d a b)).deliver d
      (BitVec.ofInt 64 (nearest 64 ((s.g i a).toInt * (s.g i b).toInt))) false
      (decide (nearest 64 ((s.g i a).toInt * (s.g i b).toInt) ≠ (s.g i a).toInt * (s.g i b).toInt)) false)))
  ∧ (∀ (s : State) (i : Fin 256) (d a b : Fin 32), s.readyFor i (.mulh d a b) = true →
    exec (.mulh i d a b) s = .next (s.withRegs i ((s.stepped i (.mulh d a b)).deliver d
      (((s.g i a).signExtend 128 * (s.g i b).signExtend 128).extractLsb' 64 64) false false false)))
  ∧ (∀ (s : State) (i : Fin 256) (d a b : Fin 32), s.readyFor i (.mulhu d a b) = true →
    exec (.mulhu i d a b) s = .next (s.withRegs i ((s.stepped i (.mulhu d a b)).deliver d
      (((s.g i a).setWidth 128 * (s.g i b).setWidth 128).extractLsb' 64 64) false false false)))
  ∧ (∀ (s : State) (i : Fin 256) (d a : Fin 32), s.readyFor i (.sat16 d a) = true →
    exec (.sat16 i d a) s = .next (s.withRegs i ((s.stepped i (.sat16 d a)).deliver d
      (BitVec.ofInt 64 (nearest 16 (s.g i a).toInt)) false
      (decide (nearest 16 (s.g i a).toInt ≠ (s.g i a).toInt)) false)))
  ∧ (∀ (s : State) (i : Fin 256) (d a : Fin 32), s.readyFor i (.sat32 d a) = true →
    exec (.sat32 i d a) s = .next (s.withRegs i ((s.stepped i (.sat32 d a)).deliver d
      (BitVec.ofInt 64 (nearest 32 (s.g i a).toInt)) false
      (decide (nearest 32 (s.g i a).toInt ≠ (s.g i a).toInt)) false)))
  ∧ (∀ (s : State) (i : Fin 256) (a b : Fin 32), s.readyFor i (.cmp a b) = true →
    exec (.cmp i a b) s = .next (s.withRegs i ((s.stepped i (.cmp a b)).withFlags
        (setFlags (s.regs i).flags (s.g i a - s.g i b).msb (s.g i a == s.g i b) (decide ((s.g i b).toNat ≤ (s.g i a).toNat))
        (outside64 ((s.g i a).toInt - (s.g i b).toInt)) false false))))
  ∧ (∀ (s : State) (i : Fin 256) (a : Fin 32) (imm : Fin 65536), s.readyFor i (.cmpi a imm) = true →
    exec (.cmpi i a imm) s = .next (s.withRegs i ((s.stepped i (.cmpi a imm)).withFlags
        (setFlags (s.regs i).flags (s.g i a - sext16 imm).msb (s.g i a == sext16 imm)
        (decide ((sext16 imm).toNat ≤ (s.g i a).toNat)) (outside64 ((s.g i a).toInt - (sext16 imm).toInt)) false false))))

/-- DIV, DIVU, REM and REMU round toward zero, and by zero deliver 0 or Ga with DZ (R426). With readyFor, DIV delivers the signed
quotient rounded toward zero, DIVU the unsigned one, REM and REMU the remainders, as the machine-word operations of bit
vectors give them (quotient 0 and remainder Ga by a zero divisor). DZ is set exactly by a zero divisor; V is set exactly by
DIV of MIN by -1. Nothing but Gd, FLAGS, PC and CYCLES of the instance changes. The last clause states the remainder law Ga =
q * Gb + r of the signed pair and that the remainder takes the sign of the dividend. -/
def Obligations.IsaDivision : Prop :=
  (∀ (s : State) (i : Fin 256) (d a b : Fin 32), s.readyFor i (.div d a b) = true →
    exec (.div i d a b) s = .next (s.withRegs i ((s.stepped i (.div d a b)).deliver d ((s.g i a).sdiv (s.g i b)) false
      (s.g i a == BitVec.intMin 64 && s.g i b == -1) (s.g i b == 0))))
  ∧ (∀ (s : State) (i : Fin 256) (d a b : Fin 32), s.readyFor i (.divu d a b) = true →
    exec (.divu i d a b) s = .next (s.withRegs i ((s.stepped i (.divu d a b)).deliver d (s.g i a / s.g i b) false
      false (s.g i b == 0))))
  ∧ (∀ (s : State) (i : Fin 256) (d a b : Fin 32), s.readyFor i (.rem d a b) = true →
    exec (.rem i d a b) s = .next (s.withRegs i ((s.stepped i (.rem d a b)).deliver d ((s.g i a).srem (s.g i b)) false
      false (s.g i b == 0))))
  ∧ (∀ (s : State) (i : Fin 256) (d a b : Fin 32), s.readyFor i (.remu d a b) = true →
    exec (.remu i d a b) s = .next (s.withRegs i ((s.stepped i (.remu d a b)).deliver d (s.g i a % s.g i b) false
      false (s.g i b == 0))))
  ∧ (∀ a b : BitVec 64, a = a.sdiv b * b + a.srem b ∧ (0 ≤ a.toInt → 0 ≤ (a.srem b).toInt)
    ∧ (a.toInt ≤ 0 → (a.srem b).toInt ≤ 0))

/-- Logic, shifts, extensions, CLZ and the smaller or larger of two: the result, C = 0 and V = 0 (R425). With readyFor, each of
the 25 instructions delivers its result of Table 11-6 or Table 11-4 with N and Z from it and C = V = 0. A register shift takes
the whole of Gb: 64 or more gives 0 for SLL and SRL and the sign for SRA. CLZ delivers 64 for 0 and 63 minus the place of the
leading one otherwise. Nothing but Gd, FLAGS, PC and CYCLES of the instance changes. -/
def Obligations.IsaLogicAndShifts : Prop :=
  (∀ (s : State) (i : Fin 256) (d a : Fin 32) (imm : Fin 65536),
    (s.readyFor i (.andi d a imm) = true → exec (.andi i d a imm) s = .next (s.withRegs i
      ((s.stepped i (.andi d a imm)).deliver d (s.g i a &&& BitVec.ofNat 64 imm) false false false)))
    ∧ (s.readyFor i (.ori d a imm) = true → exec (.ori i d a imm) s = .next (s.withRegs i
      ((s.stepped i (.ori d a imm)).deliver d (s.g i a ||| BitVec.ofNat 64 imm) false false false)))
    ∧ (s.readyFor i (.xori d a imm) = true → exec (.xori i d a imm) s = .next (s.withRegs i
      ((s.stepped i (.xori d a imm)).deliver d (s.g i a ^^^ BitVec.ofNat 64 imm) false false false))))
  ∧ (∀ (s : State) (i : Fin 256) (d a : Fin 32) (n : Fin 64),
    (s.readyFor i (.shiSll d a n) = true → exec (.shiSll i d a n) s = .next (s.withRegs i
      ((s.stepped i (.shiSll d a n)).deliver d (s.g i a <<< n.val) false false false)))
    ∧ (s.readyFor i (.shiSrl d a n) = true → exec (.shiSrl i d a n) s = .next (s.withRegs i
      ((s.stepped i (.shiSrl d a n)).deliver d (s.g i a >>> n.val) false false false)))
    ∧ (s.readyFor i (.shiSra d a n) = true → exec (.shiSra i d a n) s = .next (s.withRegs i
      ((s.stepped i (.shiSra d a n)).deliver d ((s.g i a).sshiftRight n.val) false false false))))
  ∧ (∀ (s : State) (i : Fin 256) (d a b : Fin 32),
    (s.readyFor i (.andCmd d a b) = true → exec (.andCmd i d a b) s = .next (s.withRegs i
      ((s.stepped i (.andCmd d a b)).deliver d (s.g i a &&& s.g i b) false false false)))
    ∧ (s.readyFor i (.orCmd d a b) = true → exec (.orCmd i d a b) s = .next (s.withRegs i
      ((s.stepped i (.orCmd d a b)).deliver d (s.g i a ||| s.g i b) false false false)))
    ∧ (s.readyFor i (.xor d a b) = true → exec (.xor i d a b) s = .next (s.withRegs i
      ((s.stepped i (.xor d a b)).deliver d (s.g i a ^^^ s.g i b) false false false)))
    ∧ (s.readyFor i (.andn d a b) = true → exec (.andn i d a b) s = .next (s.withRegs i
      ((s.stepped i (.andn d a b)).deliver d (s.g i a &&& ~~~(s.g i b)) false false false)))
    ∧ (s.readyFor i (.sll d a b) = true → exec (.sll i d a b) s = .next (s.withRegs i
      ((s.stepped i (.sll d a b)).deliver d (s.g i a <<< s.g i b) false false false)))
    ∧ (s.readyFor i (.srl d a b) = true → exec (.srl i d a b) s = .next (s.withRegs i
      ((s.stepped i (.srl d a b)).deliver d (s.g i a >>> s.g i b) false false false)))
    ∧ (s.readyFor i (.sra d a b) = true → exec (.sra i d a b) s = .next (s.withRegs i
      ((s.stepped i (.sra d a b)).deliver d ((s.g i a).sshiftRight' (s.g i b)) false false false)))
    ∧ (s.readyFor i (.minCmd d a b) = true → exec (.minCmd i d a b) s = .next (s.withRegs i
      ((s.stepped i (.minCmd d a b)).deliver d (if (s.g i a).sle (s.g i b) then s.g i a else s.g i b) false false false)))
    ∧ (s.readyFor i (.maxCmd d a b) = true → exec (.maxCmd i d a b) s = .next (s.withRegs i
      ((s.stepped i (.maxCmd d a b)).deliver d (if (s.g i a).sle (s.g i b) then s.g i b else s.g i a) false false false)))
    ∧ (s.readyFor i (.minu d a b) = true → exec (.minu i d a b) s = .next (s.withRegs i
      ((s.stepped i (.minu d a b)).deliver d (if s.g i a ≤ s.g i b then s.g i a else s.g i b) false false false)))
    ∧ (s.readyFor i (.maxu d a b) = true → exec (.maxu i d a b) s = .next (s.withRegs i
      ((s.stepped i (.maxu d a b)).deliver d (if s.g i a ≤ s.g i b then s.g i b else s.g i a) false false false))))
  ∧ (∀ (s : State) (i : Fin 256) (d a : Fin 32),
    (s.readyFor i (.notCmd d a) = true → exec (.notCmd i d a) s = .next (s.withRegs i
      ((s.stepped i (.notCmd d a)).deliver d (~~~(s.g i a)) false false false)))
    ∧ (s.readyFor i (.sext8 d a) = true → exec (.sext8 i d a) s = .next (s.withRegs i
      ((s.stepped i (.sext8 d a)).deliver d (((s.g i a).setWidth 8).signExtend 64) false false false)))
    ∧ (s.readyFor i (.sext16 d a) = true → exec (.sext16 i d a) s = .next (s.withRegs i
      ((s.stepped i (.sext16 d a)).deliver d (((s.g i a).setWidth 16).signExtend 64) false false false)))
    ∧ (s.readyFor i (.sext32 d a) = true → exec (.sext32 i d a) s = .next (s.withRegs i
      ((s.stepped i (.sext32 d a)).deliver d (((s.g i a).setWidth 32).signExtend 64) false false false)))
    ∧ (s.readyFor i (.zext8 d a) = true → exec (.zext8 i d a) s = .next (s.withRegs i
      ((s.stepped i (.zext8 d a)).deliver d (s.g i a &&& 0xFF) false false false)))
    ∧ (s.readyFor i (.zext16 d a) = true → exec (.zext16 i d a) s = .next (s.withRegs i
      ((s.stepped i (.zext16 d a)).deliver d (s.g i a &&& 0xFFFF) false false false)))
    ∧ (s.readyFor i (.zext32 d a) = true → exec (.zext32 i d a) s = .next (s.withRegs i
      ((s.stepped i (.zext32 d a)).deliver d (s.g i a &&& 0xFFFFFFFF) false false false)))
    ∧ (s.readyFor i (.clz d a) = true → exec (.clz i d a) s = .next (s.withRegs i
      ((s.stepped i (.clz d a)).deliver d
        (BitVec.ofNat 64 (if s.g i a = 0 then 64 else 63 - (s.g i a).toNat.log2)) false false false))))

/-- Moves, SEL, special registers, CLRF and NOP: what each writes, and that nothing else changes (Chapter 11, Tables 11-1, 11-4,
11-5, 11-6, 11-8 and 11-12). With readyFor: MOVI, CATI, SEL (condition 0 to 14 by Table 11-5) and RDSR (special registers 0 to
10) write Gd and no flag; WRSR of FLAGS writes Ga without its reserved bits; CLRF clears FLAGS bits 15 to 7; NOP changes PC
and CYCLES alone. Nothing else of the state changes. -/
def Obligations.IsaMovesAndFlags : Prop :=
  (∀ (s : State) (i : Fin 256) (d : Fin 32) (imm : Fin 65536), s.readyFor i (.movi d imm) = true →
    exec (.movi i d imm) s = .next (s.withRegs i ((s.stepped i (.movi d imm)).setG d (BitVec.signExtend 64 (BitVec.ofNat 16 imm)))))
  ∧ (∀ (s : State) (i : Fin 256) (d a : Fin 32) (imm : Fin 65536), s.readyFor i (.cati d a imm) = true →
    exec (.cati i d a imm) s = .next (s.withRegs i ((s.stepped i (.cati d a imm)).setG d
      ((s.g i a <<< 16) + BitVec.ofNat 64 imm))))
  ∧ (∀ (s : State) (i : Fin 256) (c : Fin 16) (d a b : Fin 32), s.readyFor i (.sel c d a b) = true → c ≠ 15 →
    exec (.sel i c d a b) s = .next (s.withRegs i ((s.stepped i (.sel c d a b)).setG d
      (if condHolds (s.regs i).flags c then s.g i a else s.g i b))))
  ∧ (∀ (s : State) (i : Fin 256) (d k : Fin 32) (p : Prog), (s.scanOf i).prog = some p →
    s.readyFor i (.rdsr d k) = true → k ≤ 10 →
    exec (.rdsr i d k) s = .next (s.withRegs i ((s.stepped i (.rdsr d k)).setG d (BitVec.ofNat 64
      ((([(s.regs i).flags.toNat, p.imageOffset, p.outputOffset, p.varOffset, p.retOffset, p.dataSize, (s.scanOf i).scan,
        (s.regs i).cycles, p.budget, i.val, p.map.length] : List Nat)[k.val]?).getD 0)))))
  ∧ (∀ (s : State) (i : Fin 256) (a : Fin 32), s.readyFor i (.wrsr a 0) = true →
    exec (.wrsr i a 0) s = .next (s.withRegs i ((s.stepped i (.wrsr a 0)).withFlags
        (s.g i a &&& 0xF98F#64))))
  ∧ (∀ (s : State) (i : Fin 256), s.readyFor i .clrf = true →
    exec (.clrf i) s = .next (s.withRegs i ((s.stepped i .clrf).withFlags
        ((s.regs i).flags &&& 0x7F#64))))
  ∧ (∀ (s : State) (i : Fin 256), s.readyFor i .nop = true → exec (.nop i) s = .next (s.withRegs i (s.stepped i .nop)))

/-- Loads and stores at an aligned address inside data memory, and the Access fault of any other (Chapter 11, Table 11-4; R421).
With readyFor, a load of 1, 2, 4 or 8 octets at EA = Ga + sext(imm) modulo 2^64, with EA a multiple of the size and EA + size
at most DataSize, writes Gd (sign- or zero-extended) or Fd from data memory in little-endian order; a store writes exactly
those octets of data memory from Gd or Fd. FLAGS stay. Any other EA performs no access: no register and no octet of memory is
written, the cycles count, and the instance becomes Faulted with cause Access. -/
def Obligations.IsaLoadsAndStores : Prop :=
  (∀ (s : State) (i : Fin 256) (d a : Fin 32) (imm : Fin 65536),
    (s.readyFor i (.ldb d a imm) = true → s.dataOk i (s.ea i a imm) 1 = true → exec (.ldb i d a imm) s = .next (s.withRegs i
      ((s.stepped i (.ldb d a imm)).setG d (BitVec.signExtend 64 (BitVec.ofNat 8 (ofLE ((s.scanOf i).read (s.ea i a imm) 1)))))))
    ∧ (s.readyFor i (.ldbu d a imm) = true → s.dataOk i (s.ea i a imm) 1 = true → exec (.ldbu i d a imm) s = .next (s.withRegs i
      ((s.stepped i (.ldbu d a imm)).setG d (BitVec.ofNat 64 (ofLE ((s.scanOf i).read (s.ea i a imm) 1))))))
    ∧ (s.readyFor i (.ldh d a imm) = true → s.dataOk i (s.ea i a imm) 2 = true → exec (.ldh i d a imm) s = .next (s.withRegs i
      ((s.stepped i (.ldh d a imm)).setG d (BitVec.signExtend 64 (BitVec.ofNat 16 (ofLE ((s.scanOf i).read (s.ea i a imm) 2)))))))
    ∧ (s.readyFor i (.ldhu d a imm) = true → s.dataOk i (s.ea i a imm) 2 = true → exec (.ldhu i d a imm) s = .next (s.withRegs i
      ((s.stepped i (.ldhu d a imm)).setG d (BitVec.ofNat 64 (ofLE ((s.scanOf i).read (s.ea i a imm) 2))))))
    ∧ (s.readyFor i (.ldw d a imm) = true → s.dataOk i (s.ea i a imm) 4 = true → exec (.ldw i d a imm) s = .next (s.withRegs i
      ((s.stepped i (.ldw d a imm)).setG d (BitVec.signExtend 64 (BitVec.ofNat 32 (ofLE ((s.scanOf i).read (s.ea i a imm) 4)))))))
    ∧ (s.readyFor i (.ldwu d a imm) = true → s.dataOk i (s.ea i a imm) 4 = true → exec (.ldwu i d a imm) s = .next (s.withRegs i
      ((s.stepped i (.ldwu d a imm)).setG d (BitVec.ofNat 64 (ofLE ((s.scanOf i).read (s.ea i a imm) 4))))))
    ∧ (s.readyFor i (.ldd d a imm) = true → s.dataOk i (s.ea i a imm) 8 = true → exec (.ldd i d a imm) s = .next (s.withRegs i
      ((s.stepped i (.ldd d a imm)).setG d (BitVec.ofNat 64 (ofLE ((s.scanOf i).read (s.ea i a imm) 8))))))
    ∧ (s.readyFor i (.fldw d a imm) = true → s.dataOk i (s.ea i a imm) 4 = true → exec (.fldw i d a imm) s = .next (s.withRegs i
      ((s.stepped i (.fldw d a imm)).setF d (ofLE ((s.scanOf i).read (s.ea i a imm) 4)))))
    ∧ (s.readyFor i (.stb d a imm) = true → s.dataOk i (s.ea i a imm) 1 = true → exec (.stb i d a imm) s = .next (s.withStore i
      (s.stepped i (.stb d a imm)) (s.ea i a imm) (toLE 1 (s.g i d).toNat)))
    ∧ (s.readyFor i (.sth d a imm) = true → s.dataOk i (s.ea i a imm) 2 = true → exec (.sth i d a imm) s = .next (s.withStore i
      (s.stepped i (.sth d a imm)) (s.ea i a imm) (toLE 2 (s.g i d).toNat)))
    ∧ (s.readyFor i (.stw d a imm) = true → s.dataOk i (s.ea i a imm) 4 = true → exec (.stw i d a imm) s = .next (s.withStore i
      (s.stepped i (.stw d a imm)) (s.ea i a imm) (toLE 4 (s.g i d).toNat)))
    ∧ (s.readyFor i (.std d a imm) = true → s.dataOk i (s.ea i a imm) 8 = true → exec (.std i d a imm) s = .next (s.withStore i
      (s.stepped i (.std d a imm)) (s.ea i a imm) (toLE 8 (s.g i d).toNat)))
    ∧ (s.readyFor i (.fstw d a imm) = true → s.dataOk i (s.ea i a imm) 4 = true → exec (.fstw i d a imm) s = .next (s.withStore i
      (s.stepped i (.fstw d a imm)) (s.ea i a imm) (toLE 4 (s.f i d)))))
  ∧ (∀ (s : State) (i : Fin 256) (d a : Fin 32) (imm : Fin 65536),
    (s.readyFor i (.ldb d a imm) = true → s.dataOk i (s.ea i a imm) 1 = false →
      exec (.ldb i d a imm) s = .next (s.accessFault i (.ldb d a imm)))
    ∧ (s.readyFor i (.ldhu d a imm) = true → s.dataOk i (s.ea i a imm) 2 = false →
      exec (.ldhu i d a imm) s = .next (s.accessFault i (.ldhu d a imm)))
    ∧ (s.readyFor i (.ldw d a imm) = true → s.dataOk i (s.ea i a imm) 4 = false →
      exec (.ldw i d a imm) s = .next (s.accessFault i (.ldw d a imm)))
    ∧ (s.readyFor i (.ldd d a imm) = true → s.dataOk i (s.ea i a imm) 8 = false →
      exec (.ldd i d a imm) s = .next (s.accessFault i (.ldd d a imm)))
    ∧ (s.readyFor i (.sth d a imm) = true → s.dataOk i (s.ea i a imm) 2 = false →
      exec (.sth i d a imm) s = .next (s.accessFault i (.sth d a imm)))
    ∧ (s.readyFor i (.std d a imm) = true → s.dataOk i (s.ea i a imm) 8 = false →
      exec (.std i d a imm) s = .next (s.accessFault i (.std d a imm)))
    ∧ (s.readyFor i (.fstw d a imm) = true → s.dataOk i (s.ea i a imm) 4 = false →
      exec (.fstw i d a imm) s = .next (s.accessFault i (.fstw d a imm))))

/-- Branches, BL, JR, ENDSCAN, ABORT, an illegal word, a store that waits: where PC goes and how the scan ends (Chapter 11, Tables
11-4, 11-5, 11-12 and 11-13; R421; R423; R438). With readyFor, B, BZ and BNZ go to their own address plus four times the
signed offset when taken and to the next word otherwise; BL and JR save the return address, JR only to a word of the code, and
otherwise it faults with Gd unwritten. ENDSCAN ends the scan, ABORT makes the instance Faulted with cause Access, so does a
word at PC that is no legal instruction. RETAINED_STORE_WAIT changes nothing: the wait counts no cycle. -/
def Obligations.IsaControlFlow : Prop :=
  (∀ (s : State) (i : Fin 256) (c : Fin 16) (off : Fin 4194304), s.readyFor i (.bCmd c off) = true →
    exec (.bCmd i c off) s = .next (s.withRegs i (if condHolds (s.regs i).flags c
      then ((s.stepped i (.bCmd c off)).withPc
        (target (s.regs i).pc (BitVec.ofNat 22 off).toInt))
      else s.stepped i (.bCmd c off))))
  ∧ (∀ (s : State) (i : Fin 256) (a : Fin 32) (off : Fin 2097152), s.readyFor i (.bz a off) = true →
    exec (.bz i a off) s = .next (s.withRegs i (if s.g i a = 0
      then ((s.stepped i (.bz a off)).withPc
        (target (s.regs i).pc (BitVec.ofNat 21 off).toInt))
      else s.stepped i (.bz a off))))
  ∧ (∀ (s : State) (i : Fin 256) (a : Fin 32) (off : Fin 2097152), s.readyFor i (.bnz a off) = true →
    exec (.bnz i a off) s = .next (s.withRegs i (if s.g i a = 0 then s.stepped i (.bnz a off)
      else ((s.stepped i (.bnz a off)).withPc
        (target (s.regs i).pc (BitVec.ofNat 21 off).toInt)))))
  ∧ (∀ (s : State) (i : Fin 256) (off : Fin 67108864), s.readyFor i (.bl off) = true →
    exec (.bl i off) s = .next (s.withRegs i (((s.stepped i (.bl off)).setG 31 (BitVec.ofNat 64 ((s.regs i).pc + 4))).withPc
        (target (s.regs i).pc (BitVec.ofNat 26 off).toInt))))
  ∧ (∀ (s : State) (i : Fin 256) (d a : Fin 32) (p : Prog), (s.scanOf i).prog = some p → s.readyFor i (.jr d a) = true →
    exec (.jr i d a) s = .next (if (s.g i a).toNat % 4 = 0 ∧ (s.g i a).toNat < p.code.length
      then s.withRegs i (((s.stepped i (.jr d a)).setG d (BitVec.ofNat 64 ((s.regs i).pc + 4))).withPc
        ((s.g i a).toNat))
      else s.accessFault i (.jr d a)))
  ∧ (∀ (s : State) (i : Fin 256), s.readyFor i .endscan = true →
    exec (.endscan i) s = .next ((s.withRegs i (s.stepped i .endscan)).endScan i))
  ∧ (∀ (s : State) (i : Fin 256), s.readyFor i .abort = true → exec (.abort i) s = .next (s.accessFault i .abort))
  ∧ (∀ (s : State) (i : Fin 256) (p : Prog), (s.scanOf i).prog = some p → s.executing i = true →
    (fetchWord p (s.regs i).pc).bind decodeIsa = none →
    exec (.illegalInstruction i) s = .next (s.faultInstance i 6))
  ∧ (∀ (s : State) (i : Fin 256), exec (.retainedStoreWait i) s = .next s)

/-- Binary32 instructions: the destination register and the sticky flags of the operation, and nothing else (Chapter 11, Table
11-9; R427 to R430). With readyFor, each of the 29 floating-point instructions writes the one destination register with the
value of its binary32 operation (add, subtract, multiply, divide, square root, fused multiply-add, smaller, larger,
comparison, class, conversion, rounding, copy) and ORs the operation's exceptions into FLAGS bits 15 to 11. Copies and sign
changes set no flag. Only Fd (or Gd), FLAGS, PC and CYCLES of the instance change. -/
def Obligations.IsaFloatingPoint : Prop :=
  (∀ (s : State) (i : Fin 256) (d a b : Fin 32),
    (s.readyFor i (.fadd d a b) = true → exec (.fadd i d a b) s = .next (s.withRegs i
      ((s.stepped i (.fadd d a b)).deliverF d (f32.add (s.f i a) (s.f i b)).1 (f32.add (s.f i a) (s.f i b)).2)))
    ∧ (s.readyFor i (.fsub d a b) = true → exec (.fsub i d a b) s = .next (s.withRegs i
      ((s.stepped i (.fsub d a b)).deliverF d (f32.sub (s.f i a) (s.f i b)).1 (f32.sub (s.f i a) (s.f i b)).2)))
    ∧ (s.readyFor i (.fmul d a b) = true → exec (.fmul i d a b) s = .next (s.withRegs i
      ((s.stepped i (.fmul d a b)).deliverF d (f32.mul (s.f i a) (s.f i b)).1 (f32.mul (s.f i a) (s.f i b)).2)))
    ∧ (s.readyFor i (.fdiv d a b) = true → exec (.fdiv i d a b) s = .next (s.withRegs i
      ((s.stepped i (.fdiv d a b)).deliverF d (f32.div (s.f i a) (s.f i b)).1 (f32.div (s.f i a) (s.f i b)).2)))
    ∧ (s.readyFor i (.fmin d a b) = true → exec (.fmin i d a b) s = .next (s.withRegs i
      ((s.stepped i (.fmin d a b)).deliverF d (fmin (s.f i a) (s.f i b)).1 (fmin (s.f i a) (s.f i b)).2)))
    ∧ (s.readyFor i (.fmax d a b) = true → exec (.fmax i d a b) s = .next (s.withRegs i
      ((s.stepped i (.fmax d a b)).deliverF d (fmax (s.f i a) (s.f i b)).1 (fmax (s.f i a) (s.f i b)).2)))
    ∧ (s.readyFor i (.feq d a b) = true → exec (.feq i d a b) s = .next (s.withRegs i
      ((s.stepped i (.feq d a b)).deliverGF d (fcmp 0 (s.f i a) (s.f i b)).1 (fcmp 0 (s.f i a) (s.f i b)).2)))
    ∧ (s.readyFor i (.flt d a b) = true → exec (.flt i d a b) s = .next (s.withRegs i
      ((s.stepped i (.flt d a b)).deliverGF d (fcmp 1 (s.f i a) (s.f i b)).1 (fcmp 1 (s.f i a) (s.f i b)).2)))
    ∧ (s.readyFor i (.fle d a b) = true → exec (.fle i d a b) s = .next (s.withRegs i
      ((s.stepped i (.fle d a b)).deliverGF d (fcmp 2 (s.f i a) (s.f i b)).1 (fcmp 2 (s.f i a) (s.f i b)).2))))
  ∧ (∀ (s : State) (i : Fin 256) (d a : Fin 32),
    (s.readyFor i (.fsqrt d a) = true → exec (.fsqrt i d a) s = .next (s.withRegs i
      ((s.stepped i (.fsqrt d a)).deliverF d (f32.sqrt (s.f i a)).1 (f32.sqrt (s.f i a)).2)))
    ∧ (s.readyFor i (.fabs d a) = true → exec (.fabs i d a) s = .next (s.withRegs i
      ((s.stepped i (.fabs d a)).setF d (s.f i a % 2 ^ 31))))
    ∧ (s.readyFor i (.fneg d a) = true → exec (.fneg i d a) s = .next (s.withRegs i
      ((s.stepped i (.fneg d a)).setF d (s.f i a ^^^ 2 ^ 31))))
    ∧ (s.readyFor i (.fmov d a) = true → exec (.fmov i d a) s = .next (s.withRegs i
      ((s.stepped i (.fmov d a)).setF d (s.f i a))))
    ∧ (s.readyFor i (.fclass d a) = true → exec (.fclass i d a) s = .next (s.withRegs i
      ((s.stepped i (.fclass d a)).setG d (BitVec.ofNat 64 (2 ^ fclass (s.f i a))))))
    ∧ (s.readyFor i (.fcvtfl d a) = true → exec (.fcvtfl i d a) s = .next (s.withRegs i
      ((s.stepped i (.fcvtfl d a)).deliverF d (f32.ofRat (s.g i a).toInt 1).1 (f32.ofRat (s.g i a).toInt 1).2)))
    ∧ (s.readyFor i (.fcvtflu d a) = true → exec (.fcvtflu i d a) s = .next (s.withRegs i
      ((s.stepped i (.fcvtflu d a)).deliverF d (f32.ofRat ((s.g i a).setWidth 65).toInt 1).1 (f32.ofRat ((s.g i a).setWidth 65).toInt 1).2)))
    ∧ (s.readyFor i (.fcvtlf d a) = true → exec (.fcvtlf i d a) s = .next (s.withRegs i
      ((s.stepped i (.fcvtlf d a)).deliverGF d (fcvt 0 (s.f i a)).1 (fcvt 0 (s.f i a)).2)))
    ∧ (s.readyFor i (.fcvtlfz d a) = true → exec (.fcvtlfz i d a) s = .next (s.withRegs i
      ((s.stepped i (.fcvtlfz d a)).deliverGF d (fcvt 1 (s.f i a)).1 (fcvt 1 (s.f i a)).2)))
    ∧ (s.readyFor i (.fmvgf d a) = true → exec (.fmvgf i d a) s = .next (s.withRegs i
      ((s.stepped i (.fmvgf d a)).setG d (BitVec.ofNat 64 (s.f i a)))))
    ∧ (s.readyFor i (.fmvfg d a) = true → exec (.fmvfg i d a) s = .next (s.withRegs i
      ((s.stepped i (.fmvfg d a)).setF d ((s.g i a).toNat % 2 ^ 32))))
    ∧ (s.readyFor i (.frndn d a) = true → exec (.frndn i d a) s = .next (s.withRegs i
      ((s.stepped i (.frndn d a)).deliverF d (fround 0 (s.f i a)).1 (fround 0 (s.f i a)).2)))
    ∧ (s.readyFor i (.frndz d a) = true → exec (.frndz i d a) s = .next (s.withRegs i
      ((s.stepped i (.frndz d a)).deliverF d (fround 1 (s.f i a)).1 (fround 1 (s.f i a)).2)))
    ∧ (s.readyFor i (.frndm d a) = true → exec (.frndm i d a) s = .next (s.withRegs i
      ((s.stepped i (.frndm d a)).deliverF d (fround 2 (s.f i a)).1 (fround 2 (s.f i a)).2)))
    ∧ (s.readyFor i (.frndp d a) = true → exec (.frndp i d a) s = .next (s.withRegs i
      ((s.stepped i (.frndp d a)).deliverF d (fround 3 (s.f i a)).1 (fround 3 (s.f i a)).2))))
  ∧ (∀ (s : State) (i : Fin 256) (d a b c : Fin 32),
    (s.readyFor i (.fmadd d a b c) = true → exec (.fmadd i d a b c) s = .next (s.withRegs i
      ((s.stepped i (.fmadd d a b c)).deliverF d (f32.fma (s.f i a) (s.f i b) (s.f i c)).1 (f32.fma (s.f i a) (s.f i b) (s.f i c)).2)))
    ∧ (s.readyFor i (.fmsub d a b c) = true → exec (.fmsub i d a b c) s = .next (s.withRegs i
      ((s.stepped i (.fmsub d a b c)).deliverF d (f32.fma (s.f i a) (s.f i b) (f32.flip (s.f i c))).1 (f32.fma (s.f i a) (s.f i b) (f32.flip (s.f i c))).2)))
    ∧ (s.readyFor i (.fnmsub d a b c) = true → exec (.fnmsub i d a b c) s = .next (s.withRegs i
      ((s.stepped i (.fnmsub d a b c)).deliverF d (f32.fma (f32.flip (s.f i a)) (s.f i b) (s.f i c)).1 (f32.fma (f32.flip (s.f i a)) (s.f i b) (s.f i c)).2)))
    ∧ (s.readyFor i (.fnmadd d a b c) = true → exec (.fnmadd i d a b c) s = .next (s.withRegs i
      ((s.stepped i (.fnmadd d a b c)).deliverF d (f32.fma (f32.flip (s.f i a)) (s.f i b) (f32.flip (s.f i c))).1 (f32.fma (f32.flip (s.f i a)) (s.f i b) (f32.flip (s.f i c))).2))))

/-- Complex, image, quality and time instructions: results, flags and the Access fault of an odd pair (Chapter 11, Tables 11-10
and 11-11; R431 to R437). With readyFor, the complex instructions write the pair or register d with the binary32 roundings of
their computation over the operands read before, and OR the exceptions into FLAGS; a register named as a pair that is odd
makes the instance Faulted with cause Access. IENT delivers the header's data offset of the entry that Ga names. IELT and
IQUAL deliver the offset and Z = 0 for an element below Count, and 0 with Z = 1 otherwise. QCLS classifies, TDIFF delivers the
saturated difference of two times, TADD stores the normalised sum. -/
def Obligations.IsaComplexAndImage : Prop :=
  (∀ (s : State) (i : Fin 256) (d a b : Fin 32), s.readyFor i (.cadd d a b) = true →
    exec (.cadd i d a b) s = .next (if d.val % 2 = 0 ∧ a.val % 2 = 0 ∧ b.val % 2 = 0
      then s.withRegs i ((((s.stepped i (.cadd d a b)).setF d (cadd (s.f i a) (s.f i (a + 1)) (s.f i b) (s.f i (b + 1))).1).setF (d + 1) (cadd (s.f i a) (s.f i (a + 1)) (s.f i b) (s.f i (b + 1))).2.1).withFlags
        (stickF (s.regs i).flags (cadd (s.f i a) (s.f i (a + 1)) (s.f i b) (s.f i (b + 1))).2.2))
      else s.accessFault i (.cadd d a b)))
  ∧ (∀ (s : State) (i : Fin 256) (d a b : Fin 32), s.readyFor i (.csub d a b) = true →
    exec (.csub i d a b) s = .next (if d.val % 2 = 0 ∧ a.val % 2 = 0 ∧ b.val % 2 = 0
      then s.withRegs i ((((s.stepped i (.csub d a b)).setF d (csub (s.f i a) (s.f i (a + 1)) (s.f i b) (s.f i (b + 1))).1).setF (d + 1) (csub (s.f i a) (s.f i (a + 1)) (s.f i b) (s.f i (b + 1))).2.1).withFlags
        (stickF (s.regs i).flags (csub (s.f i a) (s.f i (a + 1)) (s.f i b) (s.f i (b + 1))).2.2))
      else s.accessFault i (.csub d a b)))
  ∧ (∀ (s : State) (i : Fin 256) (d a b : Fin 32), s.readyFor i (.cmul d a b) = true →
    exec (.cmul i d a b) s = .next (if d.val % 2 = 0 ∧ a.val % 2 = 0 ∧ b.val % 2 = 0
      then s.withRegs i ((((s.stepped i (.cmul d a b)).setF d (cmul (s.f i a) (s.f i (a + 1)) (s.f i b) (s.f i (b + 1))).1).setF (d + 1) (cmul (s.f i a) (s.f i (a + 1)) (s.f i b) (s.f i (b + 1))).2.1).withFlags
        (stickF (s.regs i).flags (cmul (s.f i a) (s.f i (a + 1)) (s.f i b) (s.f i (b + 1))).2.2))
      else s.accessFault i (.cmul d a b)))
  ∧ (∀ (s : State) (i : Fin 256) (d a b : Fin 32), s.readyFor i (.cmulc d a b) = true →
    exec (.cmulc i d a b) s = .next (if d.val % 2 = 0 ∧ a.val % 2 = 0 ∧ b.val % 2 = 0
      then s.withRegs i ((((s.stepped i (.cmulc d a b)).setF d (cmulc (s.f i a) (s.f i (a + 1)) (s.f i b) (s.f i (b + 1))).1).setF (d + 1) (cmulc (s.f i a) (s.f i (a + 1)) (s.f i b) (s.f i (b + 1))).2.1).withFlags
        (stickF (s.regs i).flags (cmulc (s.f i a) (s.f i (a + 1)) (s.f i b) (s.f i (b + 1))).2.2))
      else s.accessFault i (.cmulc d a b)))
  ∧ (∀ (s : State) (i : Fin 256) (d a b : Fin 32), s.readyFor i (.cscl d a b) = true →
    exec (.cscl i d a b) s = .next (if d.val % 2 = 0 ∧ a.val % 2 = 0
      then s.withRegs i ((((s.stepped i (.cscl d a b)).setF d (cscl (s.f i a) (s.f i (a + 1)) (s.f i b)).1).setF (d + 1) (cscl (s.f i a) (s.f i (a + 1)) (s.f i b)).2.1).withFlags
        (stickF (s.regs i).flags (cscl (s.f i a) (s.f i (a + 1)) (s.f i b)).2.2))
      else s.accessFault i (.cscl d a b)))
  ∧ (∀ (s : State) (i : Fin 256) (d a b : Fin 32), s.readyFor i (.crot d a b) = true →
    exec (.crot i d a b) s = .next (if d.val % 2 = 0 ∧ a.val % 2 = 0
      then s.withRegs i ((((s.stepped i (.crot d a b)).setF d (crot (s.f i a) (s.f i (a + 1)) (s.f i b)).1).setF (d + 1) (crot (s.f i a) (s.f i (a + 1)) (s.f i b)).2.1).withFlags
        (stickF (s.regs i).flags (crot (s.f i a) (s.f i (a + 1)) (s.f i b)).2.2))
      else s.accessFault i (.crot d a b)))
  ∧ (∀ (s : State) (i : Fin 256) (d a b : Fin 32), s.readyFor i (.cpol d a b) = true →
    exec (.cpol i d a b) s = .next (if d.val % 2 = 0
      then s.withRegs i ((((s.stepped i (.cpol d a b)).setF d (cpol (s.f i a) (s.f i b)).1).setF (d + 1) (cpol (s.f i a) (s.f i b)).2.1).withFlags
        (stickF (s.regs i).flags (cpol (s.f i a) (s.f i b)).2.2))
      else s.accessFault i (.cpol d a b)))
  ∧ (∀ (s : State) (i : Fin 256) (d a : Fin 32), s.readyFor i (.cabs d a) = true →
    exec (.cabs i d a) s = .next (if a.val % 2 = 0
      then s.withRegs i ((s.stepped i (.cabs d a)).deliverF d (cabs (s.f i a) (s.f i (a + 1))).1 (cabs (s.f i a) (s.f i (a + 1))).2)
      else s.accessFault i (.cabs d a)))
  ∧ (∀ (s : State) (i : Fin 256) (d a : Fin 32), s.readyFor i (.carg d a) = true →
    exec (.carg i d a) s = .next (if a.val % 2 = 0
      then s.withRegs i ((s.stepped i (.carg d a)).deliverF d (carg (s.f i a) (s.f i (a + 1))).1 (carg (s.f i a) (s.f i (a + 1))).2)
      else s.accessFault i (.carg d a)))
  ∧ (∀ (s : State) (i : Fin 256) (d a : Fin 32) (e : EntryLay), s.readyFor i (.ient d a) = true →
    (s.scanOf i).lay[(s.g i a).toNat]? = some e →
    exec (.ient i d a) s = .next (s.withRegs i ((s.stepped i (.ient d a)).setG d (BitVec.ofNat 64 e.off))))
  ∧ (∀ (s : State) (i : Fin 256) (d a b : Fin 32) (e : EntryLay), s.readyFor i (.ielt d a b) = true →
    (s.scanOf i).lay[(s.g i a).toNat]? = some e →
    exec (.ielt i d a b) s = .next (s.withRegs i (if (s.g i b).toNat < ofLE ((s.scanOf i).read e.off 2)
      then (((s.stepped i (.ielt d a b)).setG d (BitVec.ofNat 64 (e.off + 16 + (s.g i b).toNat * elementBytes e.kind))).withFlags
        (setFlags (s.regs i).flags false false false false false false))
      else (((s.stepped i (.ielt d a b)).setG d 0).withFlags
        (setFlags (s.regs i).flags false true false false false false)))))
  ∧ (∀ (s : State) (i : Fin 256) (d a b : Fin 32) (e : EntryLay), s.readyFor i (.iqual d a b) = true →
    (s.scanOf i).lay[(s.g i a).toNat]? = some e → e.kind ≠ 2 →
    exec (.iqual i d a b) s = .next (s.withRegs i (if (s.g i b).toNat < ofLE ((s.scanOf i).read e.off 2)
      then (((s.stepped i (.iqual d a b)).setG d (BitVec.ofNat 64 (e.off + 16 + (s.g i b).toNat * elementBytes e.kind + qualityOffset e.kind))).withFlags
        (setFlags (s.regs i).flags false false false false false false))
      else (((s.stepped i (.iqual d a b)).setG d 0).withFlags
        (setFlags (s.regs i).flags false true false false false false)))))
  ∧ (∀ (s : State) (i : Fin 256) (d a k : Fin 32), s.readyFor i (.qcls d a k) = true → k ≤ 1 →
    exec (.qcls i d a k) s = .next (s.withRegs i ((s.stepped i (.qcls d a k)).setG d (BitVec.ofNat 64
      ((if (s.g i a).toNat % 4 = 0 then 0 else if (s.g i a).toNat % 4 = 3 then 1 else 2)
        + (if (s.g i a).getLsbD 17 then 4 else 0) + (if k = 1 ∧ (s.g i a).getLsbD 31 then 8 else 0))))))
  ∧ (∀ (s : State) (i : Fin 256) (d a b : Fin 32) (p : Prog) (u v : Int), s.readyFor i (.tdiff d a b) = true →
    (s.scanOf i).prog = some p → timeAt (s.scanOf i) p (s.g i a).toNat = some u → timeAt (s.scanOf i) p (s.g i b).toNat = some v →
    exec (.tdiff i d a b) s = .next (s.withRegs i ((s.stepped i (.tdiff d a b)).deliver d
      (BitVec.ofInt 64 (nearest 64 (u - v))) false (decide (nearest 64 (u - v) ≠ u - v)) false)))
  ∧ (∀ (s : State) (i : Fin 256) (d a b : Fin 32) (p : Prog) (u w : Int), s.readyFor i (.tadd d a b) = true →
    (s.scanOf i).prog = some p → timeAt (s.scanOf i) p (s.g i a).toNat = some u → w = u + (s.g i b).toInt →
    0 ≤ w → w < 2 ^ 48 * 65536000000000 → (s.g i d).toNat % 8 = 0 → (s.g i d).toNat + 16 ≤ p.dataSize →
    exec (.tadd i d a b) s = .next (s.withStore i
      ((s.stepped i (.tadd d a b)).withFlags
        (setFlags (s.regs i).flags false false false false false false))
      (s.g i d).toNat (toLE 4 (w.toNat / 65536 % 1000000000) ++ toLE 4 (w.toNat % 65536) ++ toLE 8 (w.toNat / 65536000000000))))

/-- The pair: enabling, Hello, isolation, beats, digests, resynchronisation requests and status (Chapter 12; R446; R447; R449;
R450; R453; R455; R459; R460; R462; R463; R478). PAIR_ENABLE that passes its checks is applied; PAIR_HELLO_SEND sends after
100 ms or a change; a Hello of the same PairId and role sets Conflict; four silent beats isolate the pair. BEAT at a new beat
renews the lease where its conditions hold and sends the Beat; BEAT_RECEIVE keeps the peer's Beat. DIGEST_SEND sends what is
due; a Digest takes each record; DIGEST_COMPARE gives a scan its outcome. A ResyncData that was not asked for is only heard;
the third failed resynchronisation gives up with its event. PAIR_JOIN asks for one. STATUS_SEND and STATUS exchange reports. A
copy of a message already heard does nothing. -/
def Obligations.PairFormingAndBeats : Prop :=
  (∀ (s : State) (who : Caller) (v : Nat), s.lets who Od.pairEnable false 0 (.num v) = true → s.checkPairEnable v = .ok () →
    exec (.pairEnable who v) s = .next (((s.applyPairEnable v).bumpVersion Od.pairEnable 0).done who))
  ∧ (∀ (s : State), s.pairOn = true → s.pair.helloAt + 100000000 ≤ s.gtc → exec .pairHelloSend s = .next
    ((s.setPair { s.pair with helloAt := s.gtc, helloSaid := s.helloFields }).sendPair 1 0 (toBE 8 s.ownSerial
      ++ toBE 4 (s.num Od.pairId) ++ toBE 1 (boolNat s.pair.roleB) ++ toBE 1 (s.num Od.pairBeat) ++ toBE 1 s.pairDom ++ toBE 1 0)))
  ∧ (∀ (s t : State) (p : Fin 256) (q serial role beat dom : Nat), s.takePair p q = some t → role = boolNat s.pair.roleB →
    exec (.pairHello p q serial (s.num Od.pairId) role beat dom) s = .next (t.setPairState 3 1))
  ∧ (∀ (s t : State) (p : Fin 256) (q serial role beat dom : Nat), s.takePair p q = some t → role ≠ boolNat s.pair.roleB →
    beat = s.num Od.pairBeat → dom = s.pairDom → s.num Od.peerSerialExpected = 0 → (t.setNum Od.peerSerial serial).pairState = 1 →
    exec (.pairHello p q serial (s.num Od.pairId) role beat dom) s = .next ((t.setNum Od.peerSerial serial).setPairState 2 0))
  ∧ (∀ (s : State) (p : Fin 256) (q serial pid role beat dom : Nat), s.takePair p q = none →
    exec (.pairHello p q serial pid role beat dom) s = .next s)
  ∧ (∀ (s : State), s.pairState = 2 → s.pair.heardAt + 4 * s.beatNs ≤ s.gtc → exec .pairIsolated s = .next (s.setPairState 4 0))
  ∧ (∀ (s : State) (c0 c1 : Bool) (k : Int), k = s.pairNow / s.beatUnits → (s.dom s.pairDom).state ≠ 0 → k ≠ s.pair.beatNo →
    s.renews (k * s.beatUnits) c0 c1 = true → ∃ (t : State), exec (.beat c0 c1) s = .next t
      ∧ t = (let u := (s.setPair { s.pair with expires := some (k * s.beatUnits + s.leaseTime), beatNo := k }).pairWatch
             if u.pairOn then u.sendPair 2 0 (u.beatBody (k * s.beatUnits)) else u))
  ∧ (∀ (s t : State) (p : Fin 256) (q : Nat) (m : BeatMsg), s.takePair p q = some t → m.expires = 0 → m.paddle = 0 →
    t.pairState = 2 → exec (.beatReceive p q m) s = .next (t.setPair { t.pair with peerBeat := some m }))
  ∧ (∀ (s : State), s.pairOn = true → s.recordsDue ≠ [] → exec .digestSend s = .next
    (((s.recordsDue.take 40).foldl (fun u i => u.setPairInst i { u.pairInst i with sent := some (u.scanOf i).scan }) s).sendPair 3
      ((s.recordsDue.take 40).filterMap s.ownRecord).length (((s.recordsDue.take 40).filterMap s.ownRecord).flatMap DigestRec.encode)))
  ∧ (∀ (s t : State) (p : Fin 256) (q : Nat) (l : List DigestRec), s.takePair p q = some t →
    exec (.digest p q l) s = .next (l.foldl (fun u r => u.takeDigest r) t))
  ∧ (∀ (s : State) (i : Fin 256) (own : DigestRec) (g : Nat), s.ownRecord i = some own → s.paired i = true → s.instState i = 3 →
    (s.scanOf i).phase = 2 → (s.pairInst i).outcome = none → s.boundaryGtc i = some g → g ≤ s.gtc + 3000 →
    outcomeOf own (s.pairInst i).peer = 0 → exec (.digestCompare i) s = .next
      ((((s.setPairInst i { s.pairInst i with outcome := some 0, absent := 0, mismatches := 0 }).setNum Od.agreedRun
        (sat32 (s.num Od.agreedRun i + 1)) i).pairAdvance i 0).reviewSuspect))
  ∧ (∀ (s t : State) (p : Fin 256) (q : Nat) (m : ResyncMsg), s.takePair p q = some t → t.paired (m.inst % 256) = false →
    exec (.resyncData p q m) s = .next t)
  ∧ (∀ (s : State) (i : Fin 256), s.paired i = true → (s.pairInst i).asking = true → s.instState i = 3 → (s.scanOf i).phase = 0 →
    (s.pairInst i).sent = some (s.num Od.scanNumber i) → s.resyncLate i = true → (s.pairInst i).tries = 2 →
    exec (.resyncAbandon i) s = .next ((s.setPairInst i { s.pairInst i with resync := none, tries := 3, asking := false, sent := none }).raiseOcc (pairInstSource i) 0x81 i 3 (s.num Od.scanNumber i)))
  ∧ (∀ (s : State) (who : Caller) (i : Fin 256), s.lets who Od.pairJoin true i (.num 1) = true → s.resyncFits i = true →
    s.inReset i = false → s.instPairState i = 2 → exec (.pairJoin who i) s = .next ((s.setPairInst i { s.pairInst i with
      asking := true, tries := 0 }).done who))
  ∧ (∀ (s t : State), t = s.watchHealth → t.pairOn = true → t.pair.statusAt + 1000000 * t.num Od.reportInterval90000C ≤ t.gtc →
    exec .statusSend s = .next (State.sendPair (t.setPair { t.pair with statusAt := t.gtc, statusState := hwState t.moduleHealth })
      4 0 (State.ownReport (t.setPair { t.pair with statusAt := t.gtc, statusState := hwState t.moduleHealth })
        (State.xosynSeq (t.setPair { t.pair with statusAt := t.gtc, statusState := hwState t.moduleHealth }) 0xB 0))))
  ∧ (∀ (s t : State) (p : Fin 256) (q : Nat) (m : ReportMsg), s.takePair p q = some t → t.peerStale = false →
    exec (.status p q m) s = .next (t.setPair { t.pair with
      peerStatus := some ⟨m.seq, m.health, m.share, m.used, m.held, m.inUse, s.gtc, false⟩ }))

/-- The paddle: leases, claims, releases, planned handovers, commands and self-tests (Chapter 12; R462; R464; R466; R467; R468;
R470; R472; R475; R476; R477). LEASE_EXPIRY of a lease that has run out ends authority; CLAIM where Table 12-7 allows it
asserts the claim, and CLAIM_SAMPLE 200 ns later gains it on a free line; an asserted CLAIM_IN_N while holding counts a
conflict; a line fault needs a beat. RELEASE_CAUSE of the holder announces a release at a beat; RELEASE_INSTANT ends its
authority. OFFER, ACCEPT, REFUSE, TAKE_REQUEST and HANDOVER_INSTANT carry a planned handover; TAKE_BACK asks for the paddle;
the commands of Table 12-10 hand over, take, and clear Suspect and RevertSuspended, with their refusals. SELF_TEST_FAIL notes
a failing test and SELF_TEST_RECOVER its end, each with its event. -/
def Obligations.PaddleAndClaims : Prop :=
  (∀ (s : State) (e : Int), s.pair.expires = some e → s.pair.gained = true → s.leaseLive = false →
    exec .leaseExpiry s = .next (s.endAuthority e))
  ∧ (∀ (s : State), s.paddle = 0 → s.pairState ≠ 3 → s.hardCause = false → s.mayClaim = true → s.pair.retryAt ≤ s.gtc →
    (s.dom s.pairDom).state ≠ 0 → exec (.claim false) s = .next ((s.setPair { s.pair with
      claimIn := false, claimOut := true, claimAt := s.gtc, claimWaits := false }).setPaddle 1))
  ∧ (∀ (s : State), s.paddle = 1 → s.pair.claimAt + 200 ≤ s.gtc →
    exec (.claimSample false) s = .next (s.setPair { s.pair with claimIn := false }).gainClaim)
  ∧ (∀ (s : State), s.paddle = 1 → s.pair.claimAt + 200 ≤ s.gtc → s.pair.roleB = false →
    exec (.claimSample true) s = .next (s.setPair { s.pair with claimIn := true, claimWaits := true }))
  ∧ (∀ (s : State), s.isHolder = true → s.pair.roleB = false → s.peerHolds = false → exec .claimInAsserted s = .next
    (((s.setPair { s.pair with claimIn := true }).count32 Od.claimConflicts).raiseOcc 0xB02 0x80 0 1 0))
  ∧ (∀ (s : State) (g : Nat), s.paddle = 3 → s.mayClaim = false → g + s.beatNs ≤ s.gtc →
    exec (.claimLineFault g) s = .next ((s.setPair { s.pair with claimIn := false }).setLineFault true))
  ∧ (∀ (s : State) (c : Nat) (x : Int), s.paddle = 2 → s.pair.release = none → s.releaseCause = c → c ≠ 0 →
    s.peerFaultEligible = true → s.pairState = 2 → x = s.beatFrom (s.pairNow + 10000 * 2 ^ 48) * s.beatUnits →
    exec .releaseCause s = .next (((s.setPair { s.pair with release := some (x, c), offer := none, causeHeld := 0 }).setPaddle 4).sendPair
      8 0 (instantBody (timeOfValue x) c)))
  ∧ (∀ (s : State) (x : Int) (c : Nat), s.pair.release = some (x, c) → x ≤ s.pairNow → s.isHolder = true →
    exec .releaseInstant s = .next (s.endAuthority x))
  ∧ (∀ (s t : State) (p : Fin 256) (q v c : Nat), s.takePair p q = some t → s.isHolder = false → t.paddle = 3 →
    exec (.release p q v c) s = .next (t.setPair { t.pair with taking := some (valueOfTime v, false, c) }))
  ∧ (∀ (s t u : State) (p : Fin 256) (q v c : Nat), s.takePair p q = some t → u = t.setPair { t.pair with asked := none } →
    u.eligible_ = true → u.isHolder = false → exec (.offer p q v c) s = .next ((u.setPair { u.pair with
      taking := some (valueOfTime v, true, c) }).sendPair 6 0 (instantBody v c)))
  ∧ (∀ (s t : State) (p : Fin 256) (q c k : Nat) (h : Int) (b : Bool), s.takePair p q = some t → t.pair.offer = some (h, b, k) →
    t.pairNow < h - 10000 * 2 ^ 48 → t.paddle = 2 →
    exec (.accept p q (timeOfValue h) c) s = .next ((t.setPair { t.pair with offer := some (h, true, k) }).setPaddle 4))
  ∧ (∀ (s t : State) (p : Fin 256) (q v c : Nat), s.takePair p q = some t → t.pair.offer.isSome = true →
    exec (.refuse p q v c) s = .next ((t.setPair { t.pair with offer := none, asked := none }).raiseOcc 0xB01 0x80 0 5 c))
  ∧ (∀ (s t : State) (p : Fin 256) (q v : Nat), s.takePair p q = some t → t.isHolder = true → t.pair.offer = none →
    t.pair.release = none → t.peerEligible = true → exec (.takeRequest p q v 1) s = .next (t.makeOffer 2))
  ∧ (∀ (s : State) (h : Int) (c : Nat), s.pair.offer = some (h, false, c) → h ≤ s.pairNow →
    exec .handoverInstant s = .next ((s.setPair { s.pair with offer := none }).raiseOcc 0xB01 0x80 0 6 c))
  ∧ (∀ (s : State) (g : Nat), s.paddle = 3 → s.num Od.pairPreferred = boolNat s.pair.roleB → s.pair.eligibleSince = some g →
    g + 1000000 * s.num Od.revertHold ≤ s.gtc → s.eligible_ = true → s.pair.revertSuspended = false → s.pair.asked = none →
    s.pairedRunning = [] → exec .takeBack s = .next (((s.setPair { s.pair with asked := some 2 }).sendPair 9 0
      (instantBody 0 2)).raiseOcc 0xB04 0x80 0 5 0))
  ∧ (∀ (s : State) (who : Caller), s.lets who Od.paddleCommand false 0 (.num 1) = true → s.paddle = 2 → s.peerEligible = true →
    s.pair.offer = none → s.pair.release = none → exec (.paddleHandOver who) s = .next ((s.makeOffer 1).done who))
  ∧ (∀ (s : State) (who : Caller), s.lets who Od.paddleCommand false 0 (.num 2) = true → s.paddle = 3 → s.eligible_ = true →
    s.pair.asked = none → exec (.paddleTake who) s = .next (((s.setPair { s.pair with asked := some 1 }).sendPair 9 0
      (instantBody 0 1)).done who))
  ∧ (∀ (s : State) (who : Caller), s.lets who Od.paddleCommand false 0 (.num 3) = true →
    exec (.clearSuspect who) s = .next ((s.setSuspect false).done who))
  ∧ (∀ (s : State) (who : Caller), s.lets who Od.paddleCommand false 0 (.num 4) = true →
    exec (.clearRevertSuspended who) s = .next ((s.setRevert false).done who))
  ∧ (∀ (s : State) (k : Fin 6) (t : State), tabGet none s.pair.tests k = none → s.pair.gained = false →
    t = s.setPair { s.pair with tests := tabSet none s.pair.tests k (some 0) } →
    exec (.selfTestFail k) s = .next (t.raiseFlag 0xB03 0x80 0 true 13 t.pairHealth))
  ∧ (∀ (s : State) (k : Fin 6) (t : State) (v : Nat), tabGet none s.pair.tests k = some v →
    t = s.setPair { s.pair with tests := tabSet none s.pair.tests k none } →
    exec (.selfTestRecover k) s = .next (t.raiseFlag 0xB03 0x80 0 false 13 t.pairHealth))

/-- The paired ferry and the paired cold start by message (Chapter 12; R461; R479; R480). For a message that the pair hears first:
FERRY_PROPOSE that this module can follow sets the switch and answers FerryAccept, another is answered with FerryCancel;
FERRY_ACCEPT of the proposal in time sets the switch, too late it withdraws; FERRY_CANCEL_MESSAGE withdraws a matching
proposal or switch and leaves another; FERRY_PROPOSE_TIMEOUT withdraws at B_(n-2). START_PROPOSE without the conditions is
only heard; START_ACCEPT of the proposed start in time confirms it; PAIRED_START_TIMEOUT makes it a start alone. -/
def Obligations.PairedFerryAndStart : Prop :=
  (∀ (s t : State) (p : Fin 256) (q : Nat) (i : Fin 256) (n tag : Nat) (c : Prog), s.takePair p q = some t → t.paired i = true →
    t.instRunningState i = true → (t.scanOf i).switchAt = none → (t.pairInst i).ferry = none → (t.scanOf i).phase = 1 →
    (t.scanOf i).scan + 2 ≤ n → t.inReset i = false → (t.scanOf i).cand = some c → c.tag 8 = tag → exec (.ferryPropose p q i n tag) s =
      .next (((t.setSwitch i n).sendPair 11 0 (ferryBody i n tag)).raiseOcc 0xB06 0x81 i 2 n))
  ∧ (∀ (s t : State) (p : Fin 256) (q : Nat) (i : Fin 256) (n tag : Nat), s.takePair p q = some t → (t.scanOf i).cand = none →
    exec (.ferryPropose p q i n tag) s = .next (t.sendPair 12 0 (ferryBody i n tag)))
  ∧ (∀ (s t : State) (p : Fin 256) (q : Nat) (i : Fin 256) (n tag : Nat), s.takePair p q = some t →
    (t.pairInst i).ferry = some (n, tag) → t.ferryLate i n = false → exec (.ferryAccept p q i n tag) s = .next
      (((t.setPairInst i { t.pairInst i with ferry := none }).setSwitch i n).raiseOcc 0xB06 0x81 i 2 n))
  ∧ (∀ (s t : State) (p : Fin 256) (q : Nat) (i : Fin 256) (n tag : Nat), s.takePair p q = some t →
    (t.pairInst i).ferry = some (n, tag) → t.ferryLate i n = true →
    exec (.ferryAccept p q i n tag) s = .next (t.withdrawFerry i 2 true))
  ∧ (∀ (s t : State) (p : Fin 256) (q : Nat) (i : Fin 256) (n tag : Nat), s.takePair p q = some t → t.paired i = true →
    (t.pairInst i).ferry = some (n, tag) → exec (.ferryCancelMessage p q i n tag) s = .next (t.withdrawFerry i 2 false))
  ∧ (∀ (s t : State) (p : Fin 256) (q : Nat) (i : Fin 256) (n tag : Nat), s.takePair p q = some t → t.paired i = false →
    exec (.ferryCancelMessage p q i n tag) s = .next t)
  ∧ (∀ (s : State) (i : Fin 256) (n tag : Nat), (s.pairInst i).ferry = some (n, tag) → s.ferryLate i n = true →
    exec (.ferryProposeTimeout i) s = .next (s.withdrawFerry i 2 true))
  ∧ (∀ (s t u : State) (p : Fin 256) (q : Nat) (i : Fin 256) (n : Nat) (c : Prog), s.takePair p q = some t → t.paired i = true →
    t.pairState = 2 → t.instState i = 1 → t.inReset i = false → t.firstBoundary i (t.gtc + 50000) ≤ n →
    t.num Od.scanNumber i < n → t.checkStart i false = .ok (c, u) → exec (.startPropose p q i 1 n (c.tag 8)) s =
      .next (((u.launch i c false n).sendPair 15 0 (startBody i n (c.tag 8))).raiseOcc 0xB06 0x81 i 5 n))
  ∧ (∀ (s t : State) (p : Fin 256) (q : Nat) (i : Fin 256) (m n tag : Nat), s.takePair p q = some t → t.paired i = false →
    exec (.startPropose p q i m n tag) s = .next t)
  ∧ (∀ (s t : State) (p : Fin 256) (q : Nat) (i : Fin 256) (m n : Nat) (c : Prog), s.takePair p q = some t →
    (t.pairInst i).start = some n → (t.scanOf i).prog = some c → t.startLate i = false →
    exec (.startAccept p q i m n (c.tag 8)) s = .next (t.setPairInst i { t.pairInst i with start := none }))
  ∧ (∀ (s : State) (i : Fin 256) (n : Nat), (s.pairInst i).start = some n → s.instState i = 2 → s.startLate i = true →
    exec (.pairedStartTimeout i) s = .next (s.startAlone i))

/-- Pins and local sense: queue entries, host submissions, edges, readback, class writes, conversions and supervision (Chapter 13;
R490; R496; R498; R500; R501; R502; R503; R506; R511; R512; R513). FIO_ENTRY_EXECUTE of a pin's due entry drives it, closes a
pulse, or holds a Trip entry without authority; HELD_ENTRY_DISCARD at T + 2 LeaseTime drops a Held one. FQ_SUBMIT that passes
R501 puts the entry in the queue with code 0, one that fails ends with its code (when Busy ends is a free value within 1 us);
while Busy a submission sets Collision. FIO_INPUT_EDGE of a stable new level is accepted with its stamp; CHATTER_CLEAR and
READBACK_FAULT set their flags with events. FIO_CLASS_WRITE of a pin that is not running quiesces it. LS_CONVERSION converts
all inputs once per 500 ns; LS_CALIBRATE_ZERO and _SPAN begin a calibration that ends after 4,096 conversions.
TCS_DELAY_EXPIRY sets or clears the alarm. -/
def Obligations.LocalPinsAndSense : Prop :=
  (∀ (s : State) (n : Fin 48) (e : FioEnt) (h : Nat), s.dueEntry n = some (e, h, false) → e.closing = false → s.pinClass n = 2 →
    exec (.fioEntryExecute n) s = .next (((s.setQueue (s.fio.queue.erase e)).actEntry e
      (if e.fixed.isSome then max h (2 * (s.setQueue (s.fio.queue.erase e)).gtc) else h)).notePins))
  ∧ (∀ (s : State) (n : Fin 48) (e : FioEnt) (h : Nat), s.dueEntry n = some (e, h, false) → e.closing = false → s.pinClass n = 1 →
    s.authority = false → exec (.fioEntryExecute n) s = .next
      ((s.setQueue (s.fio.queue.erase e ++ [{ e with held := true, fixed := some h }])).notePins))
  ∧ (∀ (s : State) (n : Fin 48) (e : FioEnt) (h : Nat) (b : Bool), s.dueEntry n = some (e, h, b) → e.closing = true →
    exec (.fioEntryExecute n) s = .next (((s.setQueue (s.fio.queue.erase e)).setLevel n h false).notePins))
  ∧ (∀ (s : State) (n : Fin 48) (e : FioEnt), s.fio.queue = [e] → e.pin = n → e.held = true → (s.dom e.dom).state ≠ 0 →
    e.time + 2 * s.leaseTime ≤ (s.dom e.dom).valueAt s.gtc → exec (.heldEntryDiscard n) s = .next
      ((((s.setQueue []).count32 Od.fioHeldDiscards).raiseOcc 0xBB0 0x06 n 4 e.inst).notePins))
  ∧ (∀ (s t : State) (i : Fin 256), s.instExists i = true → (s.fqPage i).busyUntil ≤ s.gtc → s.inReset i = false →
    s.submitFio i (s.fqPage i) = .ok t → exec (.fqSubmit i) s = .next ((t.setFqPage i { s.fqPage i with
      busyUntil := s.gtc + s.free % 1001, ended := true, code := 0 }).tookFree))
  ∧ (∀ (s : State) (i : Fin 256) (c : Code), s.instExists i = true → (s.fqPage i).busyUntil ≤ s.gtc → s.inReset i = false →
    s.submitFio i (s.fqPage i) = .error c → exec (.fqSubmit i) s = .next ((s.setFqPage i { s.fqPage i with
      busyUntil := s.gtc + s.free % 1001, ended := true, code := c.value }).tookFree))
  ∧ (∀ (s : State) (i : Fin 256), s.gtc < (s.fqPage i).busyUntil →
    exec (.fqSubmitCollision i) s = .next (s.setFqPage i { s.fqPage i with collision := true }))
  ∧ (∀ (s : State) (n : Fin 48) (m : Nat), s.pinClass n = 3 → s.shedLevel < 4 → s.num (Od.fioPolarity + n) = 0 →
    (s.pin n).input = false → m + 2 * s.num (Od.fioInFilter + n) ≤ 2 * s.gtc → s.num (Od.fioChatterLimit + n) = 0 →
    exec (.fioInputEdge n true m) s = .next ((((s.setPin n { s.pin n with
      input := true,
      edges := (s.edgeStamp n m :: (s.pin n).edges).filter fun e => decide (s.edgeStamp n m < e + 25000000) }).count48ev (Od.fioEdges + n)
        (pinSource n) 0x06 n).setNum (Od.fioLastEdgeGtc + n) (s.edgeStamp n m)).notePins))
  ∧ (∀ (s t : State) (n : Fin 48) (g : Nat), (s.pin n).chatterAt = some g → s.num (Od.fioChatterLimit + n) = 0 →
    t = s.setPin n { s.pin n with chatterAt := none } →
    exec (.chatterClear n) s = .next (t.pinFlagEvent n false 2 (t.pinLevelWord n)).notePins)
  ∧ (∀ (s t : State) (n : Fin 48) (b : Bool), s.pinDriven n = some b → (s.pin n).readFault = true →
    t = s.setPin n { s.pin n with readFault := false } →
    exec (.readbackFault n false) s = .next (t.pinFlagEvent n false 2 (t.pinFlags n)).notePins)
  ∧ (∀ (s : State) (who : Caller) (n : Fin 48) (v : Nat), s.lets who (Od.fioClass + n) false 0 (.num v) = true →
    s.checkPinOwner who n = .ok () → s.pinRunning n = false →
    exec (.fioClassWrite who n false v) s = .next (((s.applyPinClass n false v).bumpVersion (Od.fioClass + n) 0).done who))
  ∧ (∀ (s : State) (who : Caller) (n : Fin 48) (v : Nat), s.lets who (Od.fioPolarity + n) false 0 (.num v) = true →
    s.checkPinOwner who n = .ok () → s.pinRunning n = true →
    exec (.fioClassWrite who n true v) s = .next (s.turned who .busy))
  ∧ (∀ (s : State) (l : List (Nat × Nat)), s.fio.lsAt < s.gtc / 500 → s.shedLevel < 4 → exec (.lsConversion l) s = .next
    ((numbersFrom 0 16).foldl (fun u m => match l[m]? with
      | some (a, b) => u.lsConvert m (a % 65536) (b % 65536)
      | none => u) (s.withFio fun x => { x with lsAt := s.gtc / 500 })))
  ∧ (∀ (s : State) (who : Caller) (m : Fin 16), s.lets who (Od.lsCalibrate + m) false 0 (.num 1) = true →
    s.tenantHolds who 0x07 m = true → (s.ls m).cal = none → s.imageReads [17] m = false → s.lsOn m = true →
    exec (.lsCalibrateZero who m) s = .next (((s.setLs m { s.ls m with cal := some (1, 0, false, []) }).setNum (Od.lsCalStatus + m)
      (2 ^ 24)).done who))
  ∧ (∀ (s : State) (who : Caller) (m : Fin 16), s.lets who (Od.lsCalibrate + m) false 0 (.num 2) = true →
    s.tenantHolds who 0x07 m = true → (s.ls m).cal = none → s.imageReads [17] m = false → s.lsOn m = true →
    exec (.lsCalibrateSpan who m) s = .next (((s.setLs m { s.ls m with cal := some (2, 0, false, []) }).setNum (Od.lsCalStatus + m)
      (2 ^ 24)).done who))
  ∧ (∀ (s : State) (m : Fin 16) (k n : Nat) (l : List Nat), (s.ls m).cal = some (k, n, true, l) → 4096 ≤ n →
    exec (.lsCalibrationDone m) s = .next (((s.setLs m { s.ls m with cal := none }).setNum (Od.lsCalStatus + m)
      (3 * 2 ^ 24 + 3 * 2 ^ 16 + Code.precondition.value)).raiseDone 0xBE0 0x07 m (Od.lsCalibrate + m) Code.precondition.value))
  ∧ (∀ (s : State) (m : Fin 16), (s.tcs m).runs = true → 1000000 * leAt (s.tcsConfig m) 12 4 ≤ (s.tcs m).time s.gtc →
    (s.tcs m).kind = 1 → exec (.tcsDelayExpiry m) s = .next (s.setAlarm m true))

/-- Instances, functions, transmit rings and instance resets (Chapter 14; R519; R520; R521; R524; R526; R537; R538; R539; R540;
R541). INSTANCE_CREATE of a free number forgets what its pond held, gives it a pond inside the module's and makes it exist;
INSTANCE_DELETE of a stopped one deletes it; instance 0 cannot be deleted. VF_INSTANCE binds a function. A Function Level
Reset ends the window session and raises its event; its end clears the mark. TX_PACKET_SEND takes the packet at RingCons once
it is whole. RESET_DRAIN and RESET_SQUASH begin a reset, or refuse a second drain with InProgress; RESET_COMPLETE ends one
whose work is done; DRAIN_LIMIT_EXPIRY squashes an overdue drain. -/
def Obligations.InstancesFunctionsResets : Prop :=
  (∀ (s t : State) (who : Caller) (i : Nat), s.lets who Od.instanceCreate false 0 (.num i) = true → s.instExists i = false →
    t = s.forgetSelector i → exec (.instanceCreate who i) s = .next (((t.withPond fun x => { x with
      ponds := tabSet none x.ponds i (some ⟨1, 0xF00, 4⟩) }).withInst fun x => { x with
      present := insertNat i t.inst.present }).done who))
  ∧ (∀ (s : State) (who : Caller) (i : Nat), s.lets who Od.instanceCreate false 0 (.num i) = true → s.instExists i = true →
    exec (.instanceCreate who i) s = .next (s.turned who .busy))
  ∧ (∀ (s : State) (who : Caller) (i : Nat), s.lets who Od.instanceDelete false 0 (.num i) = true → i ≠ 0 → s.instExists i = true →
    s.instRunning i = false → s.inReset i = false →
    exec (.instanceDelete who i) s = .next ((s.deleteInstance i).done who))
  ∧ (∀ (s : State) (who : Caller), s.letsForm who Od.instanceDelete false 0 (.num 0) = true →
    exec (.instanceDelete who 0) s = .next (s.turned who .denied))
  ∧ (∀ (s : State) (who : Caller) (n : Fin 256) (v : Nat), s.letsForm who (0xB20000 + n) false 0 (.num v) = true →
    s.checkVf n v = .ok () → exec (.vfInstance who n v) s = .next (((s.bindVf n v).bumpVersion (0xB20000 + n) 0).done who))
  ∧ (∀ (s : State) (fn : Fin 256), fn ≠ 0 → exec (.functionLevelReset fn) s = .next (s.resetFunction fn))
  ∧ (∀ (s : State) (fn : Fin 256), fn ≠ 0 →
    exec (.functionLevelResetDone fn) s = .next (s.withInst fun x => { x with flr := tabSet false x.flr fn false }))
  ∧ (∀ (s t u : State) (i : Fin 256) (r : Fin 4) (dma d : Bytes) (k : Nat), s.instExists i = true → s.ringEnabled i (4 + r) = true →
    d = s.txOctets i (4 + r) (s.ring i (4 + r)).cons 1 dma → k = max 1 (leAt d 4 2) → (s.ring i (4 + r)).held ≠ 0 →
    k ≤ (s.ring i (4 + r)).held →
    t = s.setRing i (4 + r) { s.ring i (4 + r) with cons := ((s.ring i (4 + r)).cons + k) % 2 ^ 32, full := false } →
    t.sendPacket i d (slice ((s.txOctets i (4 + r) (s.ring i (4 + r)).cons k dma).drop 32) 0 (leAt d 0 2)) = some u →
    exec (.txPacketSend i r dma) s = .next ((u.ringCount i (4 + r) 0 1).ringCount i (4 + r) 8 (leAt d 0 2)))
  ∧ (∀ (s : State) (who : Caller) (i : Fin 256), s.lets who Od.resetCommand true i (.num 1) = true → s.inReset i = false →
    exec (.resetDrain who i) s = .next ((s.beginReset i 1).done who))
  ∧ (∀ (s : State) (who : Caller) (i : Fin 256), s.lets who Od.resetCommand true i (.num 1) = true → s.inReset i = true →
    exec (.resetDrain who i) s = .next (s.turned who .inProgress))
  ∧ (∀ (s : State) (who : Caller) (i : Fin 256), s.lets who Od.resetCommand true i (.num 2) = true → s.resetJob i = none →
    exec (.resetSquash who i) s = .next ((s.beginReset i 2).done who))
  ∧ (∀ (s : State) (who : Caller) (i : Fin 256) (j : ResetJob), s.lets who Od.resetCommand true i (.num 2) = true →
    s.resetJob i = some j → j.mode = 1 → exec (.resetSquash who i) s = .next ((s.becomeSquash i j).done who))
  ∧ (∀ (s : State) (i : Fin 256) (j : ResetJob), s.resetJob i = some j → s.resetWorkDone i = true →
    exec (.resetComplete i) s = .next (s.finishReset i 3 j))
  ∧ (∀ (s : State) (i : Fin 256) (j : ResetJob), s.resetJob i = some j → s.resetWorkDone i = false → j.mode = 1 →
    j.since + 1000000 * s.num Od.drainLimit i ≤ s.gtc →
    exec (.drainLimitExpiry i) s = .next (((s.resetPins i).squashWork i).finishReset i 4 j))

/-- Rings: what a producer and a consumer index write, a command, a knock and a configuration do (Chapter 14; R527; R528; R529;
R530; R535; R536). On an enabled ring of an existing instance that is not in reset: a RING_PROD of the host on one of its
rings that asks for no more slots than the ring has moves RingProd, a larger one sets Full and Overrun and counts a drop; a
RING_CONS up to RingProd frees the slots before it, beyond RingProd it sets Overrun alone; RING_COMMAND 1 frees the rest of
the current packet; RING_STATUS_KNOCK of bit 29 clears Overrun; a RING_CONFIG that passes its checks takes force and empties a
ring it disables. Where the host does not own the index of the ring, nothing changes. -/
def Obligations.RingsOfInstances : Prop :=
  (∀ (s : State) (i : Fin 256) (r : Fin 10) (v : Nat), hostProduces r = true → s.instExists i = true → s.ringEnabled i r = true →
    s.inReset i = false → v < 2 ^ 32 → (s.ring i r).held + (v + 2 ^ 32 - (s.ring i r).prod) % 2 ^ 32 ≤ s.ringSlots i r →
    ∃ t : State, exec (.ringProd i r v) s = .next t ∧ (t.ring i r).prod = v ∧ (t.ring i r).cons = (s.ring i r).cons
      ∧ (∀ (j q : Nat), i.val * 16 + r.val ≠ j * 16 + q → q < 16 → t.ring j q = s.ring j q) ∧ t.mem = s.mem ∧ t.ev = s.ev)
  ∧ (∀ (s : State) (i : Fin 256) (r : Fin 10) (v : Nat), hostProduces r = true → s.instExists i = true → s.ringEnabled i r = true →
    s.inReset i = false → v < 2 ^ 32 → s.ringSlots i r < (s.ring i r).held + (v + 2 ^ 32 - (s.ring i r).prod) % 2 ^ 32 →
    ∃ t : State, exec (.ringProd i r v) s = .next t ∧ (t.ring i r).prod = (s.ring i r).prod ∧ (t.ring i r).full = true
      ∧ (t.ring i r).overrun = true ∧ (t.ring i r).drops = min 0xFFFFFFFF ((s.ring i r).drops + 1))
  ∧ (∀ (s : State) (i : Fin 256) (r : Fin 10) (v : Nat), hostProduces r = false → s.instExists i = true → s.ringEnabled i r = true →
    v < 2 ^ 32 → (v + 2 ^ 32 - (s.ring i r).cons) % 2 ^ 32 ≤ (s.ring i r).held →
    ∃ t : State, exec (.ringCons i r v) s = .next t ∧ (t.ring i r).cons = v ∧ (t.ring i r).prod = (s.ring i r).prod)
  ∧ (∀ (s : State) (i : Fin 256) (r : Fin 10) (v : Nat), hostProduces r = false → s.instExists i = true → s.ringEnabled i r = true →
    v < 2 ^ 32 → (s.ring i r).held < (v + 2 ^ 32 - (s.ring i r).cons) % 2 ^ 32 →
    ∃ t : State, exec (.ringCons i r v) s = .next t ∧ (t.ring i r).cons = (s.ring i r).cons ∧ (t.ring i r).overrun = true)
  ∧ (∀ (s : State) (i : Fin 256) (r : Fin 10) (f k : Nat) (l : List (Nat × Nat)), hostProduces r = false → s.instExists i = true →
    s.ringEnabled i r = true → (s.ring i r).trim.packets = (f, k) :: l → 0 < (s.ring i r).trim.held →
    ∃ t : State, exec (.ringCommand i r 1) s = .next t ∧ (t.ring i r).cons = (f + k) % 2 ^ 32 ∧ (t.ring i r).full = false
      ∧ (t.ring i r).prod = (s.ring i r).prod)
  ∧ (∀ (s : State) (i : Fin 256) (r : Fin 10) (v : Nat), s.instExists i = true → v.testBit 29 = true →
    exec (.ringStatusKnock i r v) s = .next (s.setRing i r { s.ring i r with overrun := false }))
  ∧ (∀ (s : State) (who : Caller) (i : Fin 256) (r : Fin 8) (b : Bytes), s.letsForm who (Od.ringConfig + r) true i (.bytes b) = true →
    s.checkRing i r b = .ok () →
    exec (.ringConfig who i r b) s = .next (((s.applyRing i r b).bumpVersion (Od.ringConfig + r) i).done who))
  ∧ (∀ (s : State) (i : Fin 256) (r : Fin 10) (v : Nat), hostProduces r = false → exec (.ringProd i r v) s = .next s)
  ∧ (∀ (s : State) (i : Fin 256) (r : Fin 10) (v : Nat), hostProduces r = true →
    exec (.ringCons i r v) s = .next s ∧ exec (.ringCommand i r v) s = .next s)

/-- HBM pages: binding, protection, DMA, memory errors and scrubbing (Chapter 15; R550; R552; R553; R554; R556; R557; R564; R565;
R566; R568). Where the checks of R104 pass, HBM_BIND_HOST, HBM_BIND_MANAGER, HBM_UNBIND and HBM_RETIRE of pages that meet
their conditions change the bindings and answer Done; pages in use are refused with Busy. An access that the binding tables
allow changes nothing; a refused access to HBM raises an access fault in the core, is counted for the module and the core, and
is reported. A DMA write inside the ring's pages lands, another is discarded, counted and reported. An ECC error poisons its
word and is counted and reported; a corrected one is counted. DIRECTORY_ECC_ERROR rebuilds the entry from the caches. Scrub
passes note their duration. -/
def Obligations.HbmPagesAndErrors : Prop :=
  (∀ (s : State) (who : Caller) (i c p : Nat), s.lets who Od.hbmBind false 0 (.num (p + c * 2 ^ 24 + 1 * 2 ^ 40 + i * 2 ^ 48)) = true →
    1 ≤ c → p + c ≤ 32768 → (numbersFrom p c).all (fun q => s.inInstance i (s.holderOf 0x0A q)) = true →
    (numbersFrom p c).all (fun q => s.pageBinding q == 0) = true →
    exec (.hbmBindHost who i c p) s = .next (((numbersFrom p c).foldl (fun u q => u.setBinding q 6) s).done who))
  ∧ (∀ (s : State) (who : Caller) (c p : Nat), s.lets who Od.hbmBind false 0 (.num (p + c * 2 ^ 24 + 2 * 2 ^ 40 + 0 * 2 ^ 48)) = true →
    1 ≤ c → p + c ≤ 32768 → (numbersFrom p c).all (fun q => s.holderOf 0x0A q == 0xF00) = true →
    (numbersFrom p c).all (fun q => s.pageBinding q == 0) = true →
    exec (.hbmBindManager who c p) s = .next (((numbersFrom p c).foldl (fun u q => u.setBinding q 7) s).done who))
  ∧ (∀ (s : State) (who : Caller) (c p : Nat), s.lets who Od.hbmBind false 0 (.num (p + c * 2 ^ 24 + 3 * 2 ^ 40 + 0 * 2 ^ 48)) = true →
    1 ≤ c → p + c ≤ 32768 → (numbersFrom p c).all (fun q => s.pageBinding q == 6 || s.pageBinding q == 7) = true →
    exec (.hbmUnbind who c p) s = .next (((numbersFrom p c).foldl (fun u q => u.setBinding q 0) s).done who))
  ∧ (∀ (s : State) (who : Caller) (p : Nat), s.lets who Od.hbmBind false 0 (.num (p + 1 * 2 ^ 24 + 4 * 2 ^ 40 + 0 * 2 ^ 48)) = true →
    p + 1 ≤ 32768 → s.pageBinding p = 0 → exec (.hbmRetire who 1 p) s = .next
      (((s.setBinding p 8).raiseOcc (0xC14 + p % 4) 0x0A p 3 p).done who))
  ∧ (∀ (s : State) (who : Caller) (p : Nat), s.lets who Od.hbmBind false 0 (.num (p + 1 * 2 ^ 24 + 4 * 2 ^ 40 + 0 * 2 ^ 48)) = true →
    p + 1 ≤ 32768 → s.pageBinding p ≠ 0 → exec (.hbmRetire who 1 p) s = .next (s.turned who .busy))
  ∧ (∀ (s : State) (c : Fin 16) (v w : Bool) (a : Nat), s.accessAllowed c v w a = true → exec (.protectionViolation c v w a) s = .next s)
  ∧ (∀ (s : State) (c : Fin 16) (v w : Bool) (a : Nat), s.accessAllowed c v w a = false → a < 2 ^ 36 →
    exec (.protectionViolation c v w a) s = .next ((((s.emit (.coreException c 0 a)).count32 Od.protectionViolations).count32
      (Od.hcViolations + c)).raiseLimited 0xC1A 0x0B c 0xA001 (a % 2 ^ 52 + tabGet 0 s.mem.kinst c % 2 ^ 12 * 2 ^ 52)))
  ∧ (∀ (s : State) (i : Fin 256) (r : Fin 8) (a : Nat) (b : Bytes), (byteAt (s.blob (Od.ringConfig + r) i) 0).testBit 0 = true →
    byteAt (s.blob (Od.ringConfig + r) i) 1 = 0 → (pagesOf a b.length).all (fun p => (pagesOf (leAt (s.blob (Od.ringConfig + r) i) 8 8)
      (64 * 2 ^ byteAt (s.blob (Od.ringConfig + r) i) 2)).contains p) = true →
    exec (.dmaViolation i r a b) s = .next (s.hbmWrite a b))
  ∧ (∀ (s : State) (i : Fin 256) (r : Fin 8) (a : Nat) (b : Bytes), (byteAt (s.blob (Od.ringConfig + r) i) 0).testBit 0 = false →
    exec (.dmaViolation i r a b) s = .next ((s.count32 Od.protectionViolations).raiseOcc 0xC1A 0x81 i 1 a))
  ∧ (∀ (s : State) (a : Nat), exec (.hbmEccError a false) s = .next (((s.withMem fun x => { x with
      poison := tabSet false x.poison (a / 8) true }).count32 (Od.hbmUncorrectable + stackOf a)).raiseOcc (0xC14 + stackOf a) 0x0A
        (a / 0x200000) 1 a))
  ∧ (∀ (s : State) (a : Nat), exec (.hbmEccCorrected a true false) s = .next (s.count32 (Od.l3Corrected + homeDie a)))
  ∧ (∀ (s : State) (l : Nat), (∀ c : Nat, s.cacheLine c l = none) → exec (.directoryEccError l) s = .next
    (((s.setDirEntry l none).count32 (Od.directoryRecovered + homeDie (l * 64))).raiseOcc (0xC10 + homeDie (l * 64)) 0x89
      (1 + homeDie (l * 64)) 1 (l * 64)))
  ∧ (∀ (s : State) (m : Nat), s.mem.poison = [] → m ≤ 100000 → exec (.hbmScrubPass m) s = .next ((s.withMem fun x => { x with
      scrubNext := (x.scrubNext + 1) % 256 }).setNum (Od.hbmScrubPassTime + s.mem.scrubNext % 4) (sat32 m)))
  ∧ (∀ (s : State) (d : Fin 2) (m : Nat), 100000 < m → exec (.l3ScrubPass d m) s = .next (s.raiseOcc (0xC18 + d) 0x89 (1 + d) 2 m))

/-- Coherence: what each request does at the home directory, and what a snoop, a write-back and an eviction do (Chapter 15; R558;
R559; R560; R561; R562). Each request wakes the line's HBM stack and L3. Of a line no core holds, a READ_SHARED or READ_UNIQUE
grants it exclusively with the line's octets, an IO_READ reads and an IO_WRITE writes the octets. A READ_SHARED of a line that
others hold shared adds the core. A request of a line another core owns waits for a snoop of that core; one on a line with a
waiting request queues. A WRITEBACK takes a dirty line out of the cache and, when it arrives, writes its octets and drops the
holder; a CLEAN_EVICT drops a clean line. UPGRADE gives the line exclusively. SNOOP of no waiting request changes nothing; one
that finds the line flushes it and completes the request. -/
def Obligations.CoherenceOfLines : Prop :=
  (∀ (s t : State) (c : Fin 16) (l : Nat), t = (s.setAsleep .hbmStack (stackOf (64 * l)) false).setAsleep .l3Bank (homeDie (64 * l)) false →
    t.writeback c l = none → t.lineBusy l = false → t.dirEntry l = none →
    exec (.readShared c l) s = .next (t.grant c l 2 (t.lineOf l) [c.val])
    ∧ exec (.readUnique c l none) s = .next (t.grant c l 2 (t.lineOf l) [c.val]))
  ∧ (∀ (s t : State) (c : Fin 16) (l : Nat) (e : DirEntry), t = (s.setAsleep .hbmStack (stackOf (64 * l)) false).setAsleep .l3Bank
      (homeDie (64 * l)) false →
    t.writeback c l = none → t.lineBusy l = false → t.dirEntry l = some e → e.owned = false → e.holders.contains c.val = false →
    exec (.readShared c l) s = .next (t.grant c l 1 (t.lineOf l) (e.holders ++ [c.val])))
  ∧ (∀ (s t : State) (c : Fin 16) (l : Nat) (e : DirEntry) (o : Nat) (r : List Nat), t = (s.setAsleep .hbmStack (stackOf (64 * l))
      false).setAsleep .l3Bank (homeDie (64 * l)) false →
    t.writeback c l = none → t.lineBusy l = false → t.dirEntry l = some e → e.owned = true → e.others c = o :: r →
    exec (.readShared c l) s = .next (t.setWaiting (t.mem.waiting ++ [⟨l, 0, c, o + 1, 0, []⟩])))
  ∧ (∀ (s t : State) (c : Fin 16) (l : Nat) (e : DirEntry) (x : CacheLine), t = (s.setAsleep .hbmStack (stackOf (64 * l)) false).setAsleep
      .l3Bank (homeDie (64 * l)) false →
    t.writeback c l = none → t.lineBusy l = false → t.dirEntry l = some e → e.owned = false → t.cacheLine c l = some x →
    exec (.upgrade c l none) s = .next ((t.invalidate l (e.others c)).grant c l 2 x.data [c.val]))
  ∧ (∀ (s t : State) (l : Nat), t = (s.setAsleep .hbmStack (stackOf (64 * l)) false).setAsleep .l3Bank (homeDie (64 * l)) false →
    t.lineBusy l = false → t.dirEntry l = none → exec (.ioRead l) s = .next (t.emit (.readData (ofLE (t.lineOf l)))))
  ∧ (∀ (s t : State) (l o : Nat) (b : Bytes), t = (s.setAsleep .hbmStack (stackOf (64 * l)) false).setAsleep .l3Bank (homeDie (64 * l)) false →
    o + b.length ≤ 64 → o < 64 → t.lineBusy l = false → t.dirEntry l = none →
    exec (.ioWrite l o b) s = .next (t.hbmWrite (l * 64 + o) b))
  ∧ (∀ (s t : State) (l : Nat), t = (s.setAsleep .hbmStack (stackOf (64 * l)) false).setAsleep .l3Bank (homeDie (64 * l)) false →
    t.lineBusy l = true → exec (.ioRead l) s = .next (t.setWaiting (t.mem.waiting ++ [⟨l, 2, 16, 0, 0, []⟩])))
  ∧ (∀ (s : State) (c : Fin 16) (l : Nat) (x : CacheLine), s.cacheLine c l = some x → x.st = 3 →
    exec (.writeback c l false) s = .next ((s.setCacheLine c l none).setWriteback c l (some x.data)))
  ∧ (∀ (s : State) (c : Fin 16) (l : Nat) (b : Bytes), s.writeback c l = some b → s.mem.waiting = [] →
    exec (.writeback c l true) s = .next (((s.hbmWrite (l * 64) b).setWriteback c l none).dropHolder c l))
  ∧ (∀ (s : State) (c : Fin 16) (l : Nat) (x : CacheLine), s.cacheLine c l = some x → x.st ≠ 3 →
    exec (.cleanEvict c l false) s = .next (s.setCacheLine c l none))
  ∧ (∀ (s : State) (c : Fin 16) (l : Nat), s.cacheLine c l = none → s.writeback c l = none →
    exec (.cleanEvict c l true) s = .next (s.dropHolder c l))
  ∧ (∀ (s : State) (c : Fin 16) (l : Nat), s.mem.waiting = [] → exec (.snoop c l) s = .next s)
  ∧ (∀ (s : State) (c : Fin 16) (l : Nat) (r : DirReq) (x : CacheLine), s.mem.waiting = [r] → r.line = l → r.snooped = c + 1 →
    r.kind = 0 → s.writeback c l = none → s.cacheLine c l = some x → exec (.snoop c l) s = .next (State.serveQueued 1 l
      (((((s.setWaiting []).flushLine l x).setCacheLine c l (some ⟨1, x.data⟩)).finish r true))))

/-- Events: raising in a die, software events, release in key order, silent and readmitted dies (Chapter 16; R575; R578; R580;
R582; R583; R590; R591; R223). EVENT_RAISE_IN_DIE of a disabled source changes nothing; one of an enabled source in a die
whose buffer has room appends the event, stamped now, with the source's priority; a full buffer drops it, starts an episode
and counts. EventRaise of a source that the caller may raise does so in the S-die. EVENT_RELEASE with no event that every
admitted die's watermark has passed changes only the watermarks; else the event leaves its die's buffer, is counted, delivered
to its route and taken by the recorder. DIE_SILENT of a die more than 100 us behind excludes it and raises DieSilent;
DIE_READMIT within 10 us readmits it; a die nearer, or not excluded, changes nothing. -/
def Obligations.EventMergeAndRelease : Prop :=
  (∀ (s : State) (d : Die) (src : Fin 4096) (code kind num detail : Nat), field (s.sourceConfig src) 3 1 = 0 →
    exec (.eventRaiseInDie d src code kind num detail) s = .next s)
  ∧ (∀ (s : State) (d : Die) (src : Fin 4096) (code kind num detail : Nat), code < 65536 → kind < 256 → num < 2 ^ 24 → detail < 2 ^ 96 →
    field (s.sourceConfig src) 3 1 ≠ 0 → 4 * (s.evDie d).buffer.length < 3 * evCapacity d →
    exec (.eventRaiseInDie d src code kind num detail) s = .next (s.setEvDie d { s.evDie d with
      buffer := (s.evDie d).buffer ++ [⟨s.stamp d, !s.fine d, s.time.backup, src, code, kind, num, detail, field (s.sourceConfig src) 0 3, false⟩]
      watermark := max (s.evDie d).watermark (s.stamp d) }))
  ∧ (∀ (s : State) (d : Die) (src : Fin 4096) (code kind num detail : Nat), field (s.sourceConfig src) 3 1 ≠ 0 →
    evCapacity d ≤ (s.evDie d).buffer.length → (s.evDie d).episode = none →
    exec (.eventRaiseInDie d src code kind num detail) s = .next ((s.setEvDie d { s.evDie d with
      episode := some (1, s.stamp d, s.stamp d) }).count32 Od.eventsDropped))
  ∧ (∀ (s : State) (who : Caller) (b : Bytes), s.lets who Od.eventRaise false 0 (.bytes b) = true → 0xF00 ≤ leAt b 0 2 → leAt b 0 2 ≤ 0xFFF →
    leAt b 2 2 / 0x1000 = 0xE → leAt b 4 4 = 0x0C000000 + (leAt b 0 2 - 0xF00) →
    (who.role ≠ .tenant ∨ s.inInstance who.inst (s.holderOf 0x0C (leAt b 0 2 - 0xF00)) = true) → exec (.eventRaise who b) s = .next
      ((s.raiseIn .s (leAt b 0 2) (leAt b 2 2) 0x0C (leAt b 0 2 - 0xF00) (leAt b 8 12)).done who))
  ∧ (∀ (s t : State) (wn w0 w1 ws : Nat), t = (((s.reportMark .n wn).reportMark .c0 w0).reportMark .c1 w1).reportMark .s ws →
    t.nextRelease = none → exec (.eventRelease wn w0 w1 ws) s = .next t)
  ∧ (∀ (s t u : State) (wn w0 w1 ws : Nat) (d : Die) (e : Event), t = (((s.reportMark .n wn).reportMark .c0 w0).reportMark .c1
      w1).reportMark .s ws → t.nextRelease = some (d, e) →
    u = (t.setEvDie d { t.evDie d with buffer := (t.evDie d).buffer.drop 1 }).endEpisode d →
    exec (.eventRelease wn w0 w1 ws) s = .next (((u.count48 Od.eventsReleased).deliver e).recorderTake e))
  ∧ (∀ (s : State) (d : Die) (m : Nat), (s.evDie d).excluded = false → m + 100000 < s.gtc → exec (.dieSilent d m) s = .next
      (((s.setEvDie d { s.evDie d with excluded := true }).setNum Od.diesExcluded (s.num Od.diesExcluded ||| 2 ^ dieNumber d)).raise
        0xE09 0xF003 0x89 (dieNumber d) (dieNumber d + 256)))
  ∧ (∀ (s : State) (d : Die) (m : Nat), s.gtc ≤ m + 100000 → exec (.dieSilent d m) s = .next s)
  ∧ (∀ (s : State) (d : Die) (m : Nat), (s.evDie d).excluded = true → s.gtc ≤ m + 10000 → exec (.dieReadmit d m) s = .next
      (((s.setEvDie d { s.evDie d with
        excluded := false
        watermark := max (s.evDie d).watermark (min m s.gtc) }).setNum Od.diesExcluded (s.num Od.diesExcluded - 2 ^ dieNumber d)).raise
          0xE09 0xF003 0x89 (dieNumber d) (dieNumber d)))

/-- Event queues, pins and MSI-X vectors: configuration, signalling and acknowledgement (Chapter 16; R524; R584; R585; R586; R588;
R589; Table 16-7; Table 16-9; Table 16-10). EQ_CONFIG of a queue with Enable 0 and its other bytes in form stores them when
the queue is not enabled; a change of an enabled queue's other bytes is refused with Busy; an Enable whose checks of R586 pass
binds the free pages of its ring, clears the ring and starts its sequence at 1. EQ_KICK and EQ_COALESCE_TIMEOUT send the
queue's interrupt exactly when entries are not yet signalled, the second when CoalesceTime has passed. EVT_PIN_PULSE_END
deasserts a pulse pin whose width has passed; EvtPinAck 1 deasserts the pin. MSIX_VECTOR_UNMASK clears Mask and Pending and
sends an interrupt that was pending. -/
def Obligations.QueuesPinsAndVectors : Prop :=
  (∀ (s : State) (who : Caller) (q : Fin 256) (b : Bytes), s.lets who (Od.eqConfig + q) false 0 (.bytes b) = true → who.role ≠ .tenant →
    eqEnabled (s.eqConfig q) = false → byteAt b 0 = 0 → byteAt b 23 = 0 → leAt b 28 4 = 0 → exec (.eqConfig who q b) s = .next
      ((((s.setEvQueue q { s.evQueue q with unsignalled := 0, bound := false }).setBlob (Od.eqConfig + q) b).bumpVersion
        (Od.eqConfig + q) 0).done who))
  ∧ (∀ (s : State) (who : Caller) (q : Fin 256) (b : Bytes), s.lets who (Od.eqConfig + q) false 0 (.bytes b) = true → who.role ≠ .tenant →
    eqEnabled (s.eqConfig q) = true → b.drop 1 ≠ (s.eqConfig q).drop 1 → exec (.eqConfig who q b) s = .next (s.turned who .busy))
  ∧ (∀ (s : State) (who : Caller) (q : Fin 256) (b : Bytes), s.lets who (Od.eqConfig + q) false 0 (.bytes b) = true → who.role = .tenant →
    (leAt (s.eqConfig q) 4 2 ≠ who.inst ∨ leAt b 4 2 ≠ who.inst) → exec (.eqConfig who q b) s = .next (s.turned who .notOwner))
  ∧ (∀ (s t : State) (who : Caller) (q : Fin 256) (b : Bytes) (ps : List Nat), s.lets who (Od.eqConfig + q) false 0 (.bytes b) = true →
    who.role ≠ .tenant → eqEnabled (s.eqConfig q) = false → eqEnabled b = true → checkEqFields b = .ok () → s.checkEqOwner b = true →
    byteAt b 1 = 0 → ps = (pagesOf (leAt b 8 8) (64 * 2 ^ byteAt b 2)).filter (fun p => s.pageBinding p == 0) →
    t = (ps.foldl (fun u p => u.setBinding p 5) s).withMem (fun x => { x with
      hbm := memClear (ps.foldl (fun u p => u.setBinding p 5) s).mem.hbm (leAt b 8 8) (64 * 2 ^ byteAt b 2) }) →
    exec (.eqConfig who q b) s = .next ((((t.setEvQueue q ⟨1, 0, 0, !ps.isEmpty⟩).setBlob (Od.eqConfig + q) b).bumpVersion
      (Od.eqConfig + q) 0).done who))
  ∧ (∀ (s : State) (q : Fin 256), (s.evQueue q).unsignalled = 0 → exec (.eqKick q) s = .next s ∧ exec (.eqCoalesceTimeout q) s = .next s)
  ∧ (∀ (s : State) (q : Fin 256), (s.evQueue q).unsignalled ≠ 0 → exec (.eqKick q) s = .next (s.eqSignal q))
  ∧ (∀ (s : State) (q : Fin 256), (s.evQueue q).unsignalled ≠ 0 → eqEnabled (s.eqConfig q) = true →
    (s.evQueue q).firstAt + 1000 * leAt (s.eqConfig q) 24 4 ≤ s.gtc → exec (.eqCoalesceTimeout q) s = .next (s.eqSignal q))
  ∧ (∀ (s : State) (k : Fin 4) (g : Nat), tabGet EvPin.init s.ev.pins k = ⟨true, g⟩ → field (s.num (Od.evtPinConfig + k)) 0 2 = 1 → g ≤ s.gtc →
    exec (.evtPinPulseEnd k) s = .next (s.withEv fun x => { x with pins := tabSet .init x.pins k ⟨false, g⟩ }))
  ∧ (∀ (s : State) (k : Fin 4) (g : Nat), tabGet EvPin.init s.ev.pins k = ⟨true, g⟩ → s.gtc < g → exec (.evtPinPulseEnd k) s = .next s)
  ∧ (∀ (s : State) (who : Caller) (k : Fin 4), s.lets who (Od.evtPinAck + k) false 0 (.num 1) = true → exec (.evtPinAck who k 1) s = .next
      ((s.withEv fun x => { x with pins := tabSet .init x.pins k EvPin.init }).done who))
  ∧ (∀ (s t : State) (f : Fin 256) (v : Fin 64), t = (s.withEv fun x => { x with
      msixMasked := tabSet false x.msixMasked (f.val * 64 + v.val) false
      msixPending := tabSet false x.msixPending (f.val * 64 + v.val) false }) →
    (tabGet false s.ev.msixPending (f.val * 64 + v.val) = true → exec (.msixVectorUnmask f v) s = .next (t.emit (.msix f v)))
    ∧ (tabGet false s.ev.msixPending (f.val * 64 + v.val) = false → exec (.msixVectorUnmask f v) s = .next t))

/-- The event recorder: writing, checking, freezing and clearing the log (Chapter 16; R591; R592; R594; R596; R597; R598; Table
16-5). RECORDER_WRITE takes the oldest event of the input queue into the log, or changes nothing while the queue is empty or
the log frozen. RECORDER_CRC_PASS over records that all pass changes nothing; of one found failing it notes it once, counts it
and raises SuspectRecord. OPERATING_SECONDS_SAVE rewrites the older header. RecorderFreeze 1 freezes for the session and
raises Freeze; of a log another session froze it is refused with HeldElsewhere. RecorderFreeze 2 of the freezing session or
the Owner ends the freeze; FREEZE_LIMIT_EXPIRY does after FreezeLimit. RecorderClear is refused with Busy while frozen, and
otherwise sets Count 0 and records RecorderCleared. -/
def Obligations.RecorderLog : Prop :=
  (∀ (s : State), (s.ev.recorder.frozen.isSome = true ∨ s.ev.recorder.input = []) → exec .recorderWrite s = .next s)
  ∧ (∀ (s : State) (e f : Event) (r : List Event), s.ev.recorder.frozen = none → s.ev.recorder.input = e :: f :: r →
    exec .recorderWrite s = .next ((s.setRecorder { s.ev.recorder with input := f :: r }).record e))
  ∧ (∀ (s : State) (e : Event), s.ev.recorder.frozen = none → s.ev.recorder.input = [e] →
    ((s.setRecorder { s.ev.recorder with input := [] }).record e).num Od.recorderState = 2 →
    exec .recorderWrite s = .next (((s.setRecorder { s.ev.recorder with input := [] }).record e).setNum Od.recorderState 0))
  ∧ (∀ (s : State), (∀ x ∈ s.ev.recorder.slots, ∀ r, x.2 = some r → r.crcOk = true ∨ r.counted = true) →
    exec .recorderCrcPass s = .next s)
  ∧ (∀ (s : State) (k : Nat) (x : Rec), s.ev.recorder.slots = [(k, some x)] → x.crcOk = false → x.counted = false →
    exec .recorderCrcPass s = .next (((s.setRecorder { s.ev.recorder with
      slots := tabSet none [(k, some x)] k (some { x with counted := true }) }).count32 Od.suspectRecords).raise 0xE0A 0xF004 0x80 0 k))
  ∧ (∀ (s : State), exec .operatingSecondsSave s = .next (s.setRecorder (s.ev.recorder.writeHeader s.ev.recorder.header.head
      s.ev.recorder.header.count s.operatingSeconds)))
  ∧ (∀ (s : State) (who : Caller), s.lets who Od.recorderFreeze false 0 (.num 1) = true → s.ev.recorder.frozen = none →
    exec (.recorderFreeze who) s = .next ((((s.setRecorder { s.ev.recorder with
      frozen := some (who.sess, roleNumber who.role, s.gtc) }).setNum Od.recorderState 1).raiseFreeze 1 (roleNumber who.role)).done who))
  ∧ (∀ (s : State) (who : Caller) (k r g : Nat), s.lets who Od.recorderFreeze false 0 (.num 1) = true →
    s.ev.recorder.frozen = some (k, r, g) → k ≠ who.sess → exec (.recorderFreeze who) s = .next (s.turned who .heldElsewhere))
  ∧ (∀ (s : State) (who : Caller) (k r g : Nat), s.lets who Od.recorderFreeze false 0 (.num 2) = true →
    s.ev.recorder.frozen = some (k, r, g) → (k = who.sess ∨ who.role = .owner) →
    exec (.recorderUnfreeze who) s = .next ((s.endFreeze 2).done who))
  ∧ (∀ (s : State) (who : Caller) (k r g : Nat), s.lets who Od.recorderFreeze false 0 (.num 2) = true →
    s.ev.recorder.frozen = some (k, r, g) → k ≠ who.sess → who.role ≠ .owner →
    exec (.recorderUnfreeze who) s = .next (s.turned who .heldElsewhere))
  ∧ (∀ (s : State) (k r g : Nat), s.ev.recorder.frozen = some (k, r, g) → g + s.num Od.freezeLimit * 1000000 ≤ s.gtc →
    exec .freezeLimitExpiry s = .next (s.endFreeze 3))
  ∧ (∀ (s : State) (k r g : Nat), s.ev.recorder.frozen = some (k, r, g) → s.gtc < g + s.num Od.freezeLimit * 1000000 →
    exec .freezeLimitExpiry s = .next s)
  ∧ (∀ (s : State) (who : Caller) (v : Nat), s.lets who Od.recorderClear false 0 (.num v) = true → s.ev.recorder.frozen.isSome = true →
    exec (.recorderClear who v) s = .next (s.turned who .busy))
  ∧ (∀ (s t : State) (who : Caller) (v : Nat), s.lets who Od.recorderClear false 0 (.num v) = true → s.ev.recorder.frozen = none →
    t = s.setRecorder { s.ev.recorder with
      header0 := { s.ev.recorder.header0 with count := 0 }
      header1 := { s.ev.recorder.header1 with count := 0 } } →
    exec (.recorderClear who v) s = .next ((t.record ⟨t.stamp .s, !t.fine .s, t.time.backup, 0xE0A, 0xF006, 0x80, 0,
      s.ev.recorder.header.count, field (t.sourceConfig 0xE0A) 0 3, false⟩).done who))

/-- Keys: loading, committing, discarding and erasing slots, vault secrets, attestation and measurement (Chapter 17; R617; R618;
R619; R620; R621; R622; R626; R627; R611). KEY_LOAD of a valid form, with the slot the caller's, the journal free, no sluice
held and shed level below 3, stages a record in the bank of its Generation. KEY_LOAD_DONE of a load that verified makes it
Staged and reports Done; one that failed drops it with VerifyFailed. KeyCommit 1 with nothing staged is refused with
PreconditionNotMet; otherwise the record becomes Committed at the instant its write completes. KEY_COMMIT_DONE makes both
banks alike. KeyCommit 2 discards the staged record; KeyErase empties the slot. CredentialSecret and AttestMSecret keep a
secret in both banks of its vault record. The challenges keep the session's nonce; a read of AttestMResponse or AttestPQuote
without a nonce or key is refused. AttestPGenerate draws a pair. MeasureExtend extends MC_4 to MC_7. JOURNAL_CHECK_PASS
repairs every record. -/
def Obligations.KeysAndSecrets : Prop :=
  (∀ (s t : State) (who : Caller) (n : Fin 64) (b : Bytes), s.letsForm who (Od.keyLoad + n) false 0 (.bytes b) = true → checkKeyForm b = true →
    byteAt b 1 = 0 → s.tenantHolds who 0x09 n = true → s.journalFree n = .ok () → s.sluiceHeld = false → s.shedLevel < 3 →
    t = s.repairKey n → (leAt b 12 4 = 0 ∨ leAt b 12 4 = keyCheckValue (b.drop 16)) →
    exec (.keyLoad who n b) s = .next (((t.setKeyRec n ((t.generationOf n + 1) % 2) (some {
      st := 1, algorithm := byteAt b 0, generation := t.generationOf n + 1, chainMask := byteAt b 3, usage := leAt b 8 2,
      keyId := leAt b 4 4, key := b.drop 16, digest := t.keyDigest n (byteAt b 3), crcOk := false, written := 0 })).setKeyPend n
        ⟨1, 0, leAt b 4 4, keyCheckValue (b.drop 16), 1⟩).done who))
  ∧ (∀ (s : State) (who : Caller) (n : Fin 64) (b : Bytes), s.letsForm who (Od.keyLoad + n) false 0 (.bytes b) = true →
    checkKeyForm b = false → exec (.keyLoad who n b) s = .next (s.turned who .outOfRange))
  ∧ (∀ (s : State) (n : Fin 64) (k : Nat) (r : KeyRec), (s.keyPend n).act = 1 → (s.keyPend n).code = 0 → s.stagedBank n = some k →
    s.keyRec n k = some r → exec (.keyLoadDone n true) s = .next (((s.setKeyRec n k (some { r with crcOk := true })).setKeyPend n
      { s.keyPend n with st := 2, act := 0 }).raiseDone (0xD20 + n) 0x09 n (Od.keyLoad + n) 0))
  ∧ (∀ (s : State) (n : Fin 64) (k : Nat), (s.keyPend n).act = 1 → s.stagedBank n = some k →
    exec (.keyLoadDone n false) s = .next (((s.copyBank n k).setKeyPend n { s.keyPend n with
      st := 3, code := Code.verifyFailed.value, act := 0 }).raiseDone (0xD20 + n) 0x09 n (Od.keyLoad + n) Code.verifyFailed.value))
  ∧ (∀ (s : State) (who : Caller) (n : Fin 64) (a : Fin 1000001) (k : Nat) (r : KeyRec), s.checkCommit who n 1 = .ok () →
    s.stagedBank n = some k → s.keyRec n k = some r → exec (.keyCommit who n a) s = .next
      (((s.setKeyRec n k (some { r with st := 2, written := s.gtc + a })).setKeyPend n { s.keyPend n with act := 2 }).done who))
  ∧ (∀ (s : State) (who : Caller) (n : Fin 64) (a : Fin 1000001), s.lets who (Od.keyCommit + n) false 0 (.num 1) = true →
    s.tenantHolds who 0x09 n = true → s.journalFree n = .ok () → (s.keyPend n).st ≠ 2 →
    exec (.keyCommit who n a) s = .next (s.turned who .precondition))
  ∧ (∀ (s : State) (n : Fin 64) (r : KeyRec), (s.keyPend n).act = 2 → s.keyContent n = some r → s.generationOf n ≤ r.generation →
    exec (.keyCommitDone n) s = .next ((((s.setKeyRec n 0 (some { r with written := 0 })).setKeyRec n 1 (some { r with
      written := 0 })).setKeyPend n .init).raiseDone (0xD20 + n) 0x09 n (Od.keyCommit + n) 0))
  ∧ (∀ (s : State) (who : Caller) (n : Fin 64), s.checkCommit who n 2 = .ok () → exec (.keyDiscard who n) s = .next
      ((((s.dropStaged n).setKeyPend n .init).raiseDone (0xD20 + n) 0x09 n (Od.keyCommit + n) 0).done who))
  ∧ (∀ (s : State) (who : Caller) (n : Fin 64), s.lets who (Od.keyErase + n) false 0 (.num 1) = true → s.tenantHolds who 0x09 n = true →
    s.intake.streams = [] → s.journalFree n = .ok () → exec (.keyErase who n 1) s = .next ((s.eraseSlot n).done who))
  ∧ (∀ (s : State) (who : Caller) (n : Fin 32) (b : Bytes), s.letsForm who (Od.credentialSecret + n) false 0 (.bytes b) = true →
    s.checkSecret (64 + n) = .ok () → exec (.credentialSecret who n b) s = .next ((s.storeVault (64 + n) b).done who))
  ∧ (∀ (s : State) (who : Caller) (b : Bytes), s.letsForm who Od.attestMSecret false 0 (.bytes b) = true → s.checkSecret 96 = .ok () →
    exec (.attestMSecret who b) s = .next ((s.storeVault 96 b).done who))
  ∧ (∀ (s : State) (who : Caller) (b : Bytes), s.letsForm who Od.attestMChallenge false 0 (.bytes b) = true →
    exec (.attestMChallenge who b) s = .next ((s.withSec fun x => { x with nonces := tabSet [] x.nonces (who.sess * 2) b }).done who))
  ∧ (∀ (s : State) (who : Caller) (b : Bytes), s.letsForm who Od.attestPChallenge false 0 (.bytes b) = true →
    exec (.attestPChallenge who b) s = .next ((s.withSec fun x => { x with nonces := tabSet [] x.nonces (who.sess * 2 + 1) b }).done who))
  ∧ (∀ (s : State) (who : Caller) (r : ObjectRow) (b : Bytes) (k : KeyRec), s.checkAddress Od.attestMResponse false 0 = .ok r →
    s.checkRead who r 0 = .ok () → s.keyContent 96 = some k → tabGet [] s.sec.nonces (who.sess * 2) ≠ [] →
    b = s.evidenceBody 0x4B41544D (tabGet [] s.sec.nonces (who.sess * 2)) (sat32 (s.sec.evidenceM + 1)) →
    exec (.attestMResponse who) s = .next ((s.withSec fun x => { x with evidenceM := sat32 (x.evidenceM + 1) }).emit
      (.value who.sess (b ++ hmacSha384 k.key b))))
  ∧ (∀ (s : State) (who : Caller) (r : ObjectRow) (b : Bytes) (k : KeyRec), s.checkAddress Od.attestPQuote false 0 = .ok r →
    s.checkRead who r 0 = .ok () → s.keyContent 97 = some k → tabGet [] s.sec.nonces (who.sess * 2 + 1) ≠ [] →
    b = s.evidenceBody 0x4B415450 (tabGet [] s.sec.nonces (who.sess * 2 + 1)) (sat32 (s.sec.evidenceP + 1)) →
    exec (.attestPQuote who) s = .next ((s.withSec fun x => { x with
      evidenceP := sat32 (x.evidenceP + 1)
      draws := x.draws + 1 }).emit (.value who.sess (b ++ slice (Config.ecdsaSign k.key b s.sec.draws) 0 96))))
  ∧ (∀ (s : State) (who : Caller) (r : ObjectRow), s.checkAddress Od.attestPQuote false 0 = .ok r → s.checkRead who r 0 = .ok () →
    s.keyContent 97 = none → exec (.attestPQuote who) s = .next ((s.raiseLimited 0xD03 0xA002 0x80 0 who.sess).turned who .precondition))
  ∧ (∀ (s : State) (who : Caller) (v g : Nat) (b pub : Bytes), s.lets who Od.attestPGenerate false 0 (.num v) = true →
    s.checkSecret 97 = .ok () → g = sat32 (s.sec.generated + 1) → pub = slice (Config.keyPair s.sec.draws).2 0 97 →
    b = toBE 4 0x4B415453 ++ toBE 2 1 ++ toBE 2 0 ++ toBE 8 (s.num Od.serialNumber) ++ toBE 4 s.epoch ++ toBE 4 g ++ pub
      ++ List.replicate 7 0 →
    exec (.attestPGenerate who v) s = .next ((((s.storeVault 97 (Config.keyPair s.sec.draws).1).withSec fun x => { x with
      draws := s.sec.draws + 2, generated := g, publicKey := pub
      statement := b ++ slice (Config.ecdsaSign Config.factoryPrivate b (s.sec.draws + 1)) 0 96 }).raiseOcc 0xD03 0x80 0 1 g).done who))
  ∧ (∀ (s : State) (who : Caller) (b : Bytes), s.letsForm who Od.measureExtend false 0 (.bytes b) = true → 4 ≤ byteAt b 0 → byteAt b 0 ≤ 7 →
    s.shedLevel < 3 → exec (.measureExtend who b) s = .next (((s.noteKeys (s.extendChain (byteAt b 0) (b.drop 1))).raiseOcc 0xD01 0x80 0 1
      (byteAt b 0)).done who))
  ∧ (∀ (s : State) (who : Caller) (b : Bytes), s.letsForm who Od.measureExtend false 0 (.bytes b) = true → byteAt b 0 < 4 →
    exec (.measureExtend who b) s = .next (s.turned who .denied))
  ∧ (∀ (s : State) (l : List MramPlace), exec (.journalCheckPass l) s = .next
      (s.noteKeys ((numbersFrom 0 98).foldl State.repairKey (l.foldl State.damage s))))

/-- Ownership, credentials, boot images, the sluice and tamper causes (Chapter 17; R606; R608; R609; R610; R613; R614; R616; R623;
R624; R625; R672). OwnerClaim by a certified client of an Unowned module with the right code makes it Owned with the client's
key as credential 0; a wrong code is counted, reported and refused with VerifyFailed. A CredentialEntry write that leaves an
enabled Owner entry is stored. BootConfirm clears the booted image's UnconfirmedStarts. SecurityVersionAdvance to a version in
range is kept when every image is valid and allows it, and refused otherwise. OwnerBootKeyProgram programs the first free bank
or is refused with NoResource; OwnerBootKeyRevoke revokes one. RecoveryBlock writes its block in Recovery only. IMAGE_BOOT
tries the images in order and starts the first valid one, else enters Recovery. A tamper cause that is enabled, and
SluiceCommand, trip the sluice; OwnerRelease does too and makes the module Unowned. TAMPER_CAUSE_CLEAR clears the cause's bit;
the Owner's knock clears latched bits of absent causes. RecoveryRestart is a power-on reset. -/
def Obligations.OwnershipBootAndSluice : Prop :=
  (∀ (s : State) (who : Caller) (b k : Bytes), s.letsForm who Od.ownerClaim false 0 (.bytes b) = true → s.clientOf who.sess = .cert k →
    s.ownership.owned = false → s.sec.wrongClaims < 8 → s.sluiceHeld = false → b = s.claimCode → exec (.ownerClaim who b) s = .next
      (((s.setOwnership ⟨true, tabSet [] s.ownership.entries 0 ([1, 1, 0, 0, 1, 0, 0] ++ List.replicate 9 0 ++ slice k 0 48)⟩).raiseOcc
        0xD02 0x80 0 1 who.sess).done who))
  ∧ (∀ (s : State) (who : Caller) (b k : Bytes), s.letsForm who Od.ownerClaim false 0 (.bytes b) = true → s.clientOf who.sess = .cert k →
    s.ownership.owned = false → s.sec.wrongClaims < 8 → s.sluiceHeld = false → b ≠ s.claimCode → exec (.ownerClaim who b) s = .next
      (((s.withSec fun x => { x with wrongClaims := x.wrongClaims + 1 }).raiseLimited 0xD02 0xA002 0x80 0 who.sess).turned who
        .verifyFailed))
  ∧ (∀ (s : State) (who : Caller) (b k : Bytes), s.letsForm who Od.ownerClaim false 0 (.bytes b) = true → s.clientOf who.sess = .cert k →
    s.ownership.owned = true → exec (.ownerClaim who b) s = .next (s.turned who .precondition))
  ∧ (∀ (s : State) (who : Caller) (n : Fin 32) (b : Bytes), s.letsForm who (Od.credentialEntry + n) false 0 (.bytes b) = true →
    who.role = .owner → (s.credentialRoles n b).all (fun r => r == 1 || r == 2) = true → checkCredentialFields b = .ok () →
    crEnabled (splice b 6 [0]) = true → crRole (splice b 6 [0]) = 1 → exec (.credentialEntry who n b) s = .next
      (((s.setCredential n (splice b 6 [0])).bumpVersion (Od.credentialEntry + n) 0).done who))
  ∧ (∀ (s : State) (who : Caller) (v : Nat), s.lets who Od.bootConfirm false 0 (.num v) = true → s.sec.booted < 2 →
    exec (.bootConfirm who v) s = .next (((s.setBootRec (s.bootRec.setUnconfirmed s.sec.booted 0)).raiseOcc 0xD00 0x80 0 4
      s.sec.booted).done who))
  ∧ (∀ (s : State) (who : Caller) (v : Nat), s.letsForm who Od.securityVersionAdvance false 0 (.num v) = true → s.sec.minVersion < v → v ≤ 64 →
    s.sec.booted < 2 → s.bootRec.unconfirmed s.sec.booted = 0 → s.shedLevel < 3 → exec (.securityVersionAdvance who v) s = .next
      (if s.imageCheck 0 = 1 ∧ s.imageCheck 1 = 1 ∧ v ≤ imSecurity (s.imageHead 0) ∧ v ≤ imSecurity (s.imageHead 1) then
        ((s.withSec fun x => { x with minVersion := v }).raiseOcc 0xD00 0x80 0 5 v).done who
      else s.turned who .precondition))
  ∧ (∀ (s : State) (who : Caller) (v : Nat), s.letsForm who Od.securityVersionAdvance false 0 (.num v) = true →
    (v ≤ s.sec.minVersion ∨ 64 < v) → exec (.securityVersionAdvance who v) s = .next (s.turned who .outOfRange))
  ∧ (∀ (s : State) (who : Caller) (b : Bytes), s.letsForm who Od.ownerBootKeyProgram false 0 (.bytes b) = true → s.shedLevel < 3 →
    (tabGet (0, []) s.sec.banks 0).1 = 0 → exec (.ownerBootKeyProgram who b) s = .next
      (((s.withSec fun x => { x with banks := tabSet (0, []) x.banks 0 (1, b) }).raiseOcc 0xD00 0x80 0 6 0).done who))
  ∧ (∀ (s : State) (who : Caller) (b : Bytes), s.letsForm who Od.ownerBootKeyProgram false 0 (.bytes b) = true → s.shedLevel < 3 →
    (∀ k, k < 4 → (tabGet (0, []) s.sec.banks k).1 ≠ 0) → exec (.ownerBootKeyProgram who b) s = .next (s.turned who .noResource))
  ∧ (∀ (s : State) (who : Caller) (k : Nat), s.lets who Od.ownerBootKeyRevoke false 0 (.num k) = true →
    exec (.ownerBootKeyRevoke who k) s = .next (((s.withSec fun x => { x with
      banks := tabSet (0, []) x.banks k (2, (tabGet (0, []) x.banks k).2) }).raiseOcc 0xD00 0x80 0 7 k).done who))
  ∧ (∀ (s : State) (who : Caller) (n : Fin 3072) (b : Bytes), s.letsForm who (Od.recoveryBlock + n) false 0 (.bytes b) = true →
    (s.inRecovery = true → exec (.recoveryBlock who n b) s = .next ((s.withSec fun x => { x with
      flash := tabSet none x.flash (s.num Od.recoveryTarget * 3072 + n) (some b) }).done who))
    ∧ (s.inRecovery = false → exec (.recoveryBlock who n b) s = .next (s.turned who .precondition)))
  ∧ (∀ (s t : State), s.start.held = none → s.start.flow = 1 → s.start.milestone = 1 → s.imageOrder = [0, 1] → t = s.noteFlash →
    exec .imageBoot s = .next (if t.imageCheck 0 = 1 then (t.setImageStatus 0 1).startImage 0
      else match (t.tryImage 0).1.tryImage 1 with
        | (v, true) => v
        | (v, false) => ((v.withStart fun x => { x with flow := 0 }).setNum Od.bootState 2).raiseOcc 0xD00 0x80 0 3 0))
  ∧ (∀ (s : State), 2 ≤ s.start.milestone → exec .imageBoot s = .next s)
  ∧ (∀ (s : State) (c : Fin 5), (s.num Od.tamperStatus).testBit c = true → exec (.sluice c) s = .next s)
  ∧ (∀ (s : State) (c : Fin 5), (s.num Od.tamperStatus).testBit c = false → c.val ≠ 2 → c.val ≠ 3 → exec (.sluice c) s = .next
      ((s.setNum Od.tamperStatus (setField (s.num Od.tamperStatus) c 1 1)).sluice c))
  ∧ (∀ (s : State) (c : Fin 5), (s.num Od.tamperStatus).testBit c = false → (c.val = 2 ∨ c.val = 3) →
    (s.num Od.tamperEnableMask).testBit c = false → exec (.sluice c) s = .next
      (s.setNum Od.tamperStatus (setField (s.num Od.tamperStatus) c 1 1)))
  ∧ (∀ (s : State) (who : Caller) (v : Nat), s.lets who Od.sluiceCommand false 0 (.num v) = true →
    exec (.sluiceCommand who v) s = .next ((s.sluice 5).done who))
  ∧ (∀ (s : State) (who : Caller) (v : Nat), s.lets who Od.ownerRelease false 0 (.num v) = true → ∃ (t : State),
    exec (.ownerRelease who v) s = .next (t.done who) ∧ t = ((s.sluice 6).setOwnership ⟨false, []⟩).drawClaim.raiseOcc 0xD02 0x80 0 3 0)
  ∧ (∀ (s : State) (c : Fin 5), exec (.tamperCauseClear c) s = .next (s.setNum Od.tamperStatus (setField (s.num Od.tamperStatus) c 1 0)))
  ∧ (∀ (s : State) (who : Caller) (v : Nat), s.letsForm who Od.tamperStatus false 0 (.num v) = true → (∀ c, c < 7 → v.testBit (8 + c) = false) →
    exec (.tamperStatusKnock who v) s = .next (s.done who))
  ∧ (∀ (s : State) (who : Caller) (v : Nat), s.lets who Od.recoveryRestart false 0 (.num v) = true →
    exec (.recoveryRestart who v) s = .next ((s.powerOnReset 3).done who))

/-- The hamper: ticks, hold-up conversions and calibration, shed levels, notices and sleep (Chapter 18; R634; R640; R642; R643;
R644; R645; R646; R650; R651; R652; R574). HAMPER_TICK charges the ledger, drains the bank, writes thresholds and moves the
shed level. A flagged HOLDUP_CONVERSION counts, and the fourth in a row sets the fault flag. HoldupCalibrate at shed level 0
begins a calibration, is refused with InProgress or ShedLevel; HOLDUP_CALIBRATION_DONE without one, or before 4,096
conversions, changes nothing. SHED_CORE_GATE without a pending gate, or before 5 ms, changes nothing. A PowerFail of 1 sets
the notice and declares the loss. ModuleSleep 1 with nothing running flushes the recorder and powers the fast dies off.
ModuleSleep 2 and WAKE 1 ask for a wake. UNIT_SLEEP_ENTRY puts a unit asleep, but no link group or HBM stack during a scan;
PRE_FREEZE_WAKE of a running instance wakes them. -/
def Obligations.HoldupShedAndSleep : Prop :=
  (∀ (s t u : State) (rails : List Nat), t = ((s.ledgerTick rails).drainTick).judgeReturn →
    u = (t.setNum Od.holdupEnergy (fracFloor t.bankEnergy)).setBlob Od.shedThresholds (toLE 8 (fracFloor t.thresholds.1)
      ++ toLE 8 (fracFloor t.thresholds.2.1) ++ toLE 8 (fracFloor t.thresholds.2.2)) →
    exec (.hamperTick rails) s = .next u.judgeMargin.shedTick)
  ∧ (∀ (s : State) (c : Fin 65536), c.val < 64 → s.energy.cal = none → s.energy.flaggedRun < 3 → exec (.holdupConversion c) s = .next
      (s.withEnergy fun x => { x with flaggedRun := x.flaggedRun + 1 }))
  ∧ (∀ (s : State) (c : Fin 65536), 65471 < c.val → s.energy.cal = none → 3 ≤ s.energy.flaggedRun → exec (.holdupConversion c) s = .next
      ((s.withEnergy fun x => { x with flaggedRun := x.flaggedRun + 1 }).setHamper 0xD82 22 true))
  ∧ (∀ (s : State) (who : Caller), s.lets who Od.holdupCalibrate false 0 (.num 1) = true → s.energy.cal = none → s.shedLevel = 0 →
    exec (.holdupCalibrateZero who) s = .next ((((s.withEnergy fun x => { x with cal := some ⟨1, [], false⟩ }).setNum Od.holdupCalStatus
      (2 ^ 24)).setNum Od.hamperStatus (setField (s.num Od.hamperStatus) 15 1 1)).done who))
  ∧ (∀ (s : State) (who : Caller), s.lets who Od.holdupCalibrate false 0 (.num 2) = true → s.energy.cal = none → s.shedLevel = 0 →
    exec (.holdupCalibrateSpan who) s = .next ((((s.withEnergy fun x => { x with cal := some ⟨2, [], false⟩ }).setNum Od.holdupCalStatus
      (2 ^ 24)).setNum Od.hamperStatus (setField (s.num Od.hamperStatus) 15 1 1)).done who))
  ∧ (∀ (s : State) (who : Caller) (c : HoldupCal), s.lets who Od.holdupCalibrate false 0 (.num 2) = true → s.energy.cal = some c →
    exec (.holdupCalibrateSpan who) s = .next (s.turned who .inProgress))
  ∧ (∀ (s : State) (c : HoldupCal), s.energy.cal = some c → c.codes.length < 4096 → exec .holdupCalibrationDone s = .next s)
  ∧ (∀ (s t : State) (c : HoldupCal) (r : Nat), s.energy.cal = some c → 4096 ≤ c.codes.length → c.flagged = true →
    t = (s.withEnergy fun x => { x with cal := none }).setNum Od.hamperStatus (setField (s.num Od.hamperStatus) 15 1 0) →
    calOutcome c.kind true (c.codes.reverse.map s.holdupPin) (widen (s.num Od.holdupCalNoiseMax))
      (fdiv (widen (s.num Od.holdupCalReference)) (widen (s.num Od.holdupDivider))) (widen (s.num Od.userHoldupGain))
      (widen (s.num Od.userHoldupOffset)) (ratio 1 50) (ratio 3 10) (ratio 5 4) = .error r →
    exec .holdupCalibrationDone s = .next ((t.setNum Od.holdupCalStatus (3 * 2 ^ 24 + r * 2 ^ 16 + Code.precondition.value)).raiseDone
      0xD83 0x80 0 Od.holdupCalibrate Code.precondition.value))
  ∧ (∀ (s : State), s.energy.gateAt = none → exec .shedCoreGate s = .next s)
  ∧ (∀ (s : State) (g : Nat), s.energy.gateAt = some g → g + 5000000 ≤ s.gtc → s.mem.kinst = [] → exec .shedCoreGate s = .next
      (s.withEnergy fun x => { x with gateAt := none }))
  ∧ (∀ (s : State), exec (.powerFail 1) s = .next (s.setHamper 0xD81 23 true).declareLoss)
  ∧ (∀ (s : State), s.hamper 23 = false → exec (.powerFail 0) s = .next s)
  ∧ (∀ (s : State) (who : Caller), s.lets who Od.moduleSleep false 0 (.num 1) = true → (s.inst.present.any s.instRunning) = false →
    ((numbersFrom 0 256).any fun n => s.pnum Od.portProtection n == 1 && s.portUp n) = false →
    exec (.moduleSleepEnter who) s = .next (s.flushRecorder.fastDiesOff.done who))
  ∧ (∀ (s : State) (who : Caller), s.lets who Od.moduleSleep false 0 (.num 1) = true → (s.inst.present.any s.instRunning) = true →
    exec (.moduleSleepEnter who) s = .next (s.turned who .busy))
  ∧ (∀ (s : State) (who : Caller) (r : ObjectRow), s.checkAddress Od.moduleSleep false 0 = .ok r → s.checkWriter who r Od.moduleSleep 0 = .ok () →
    exec (.moduleSleepLeave who) s = .next (s.wantWake.done who))
  ∧ (∀ (s : State), s.num Od.bootState = 3 → s.supplyLost = false → exec (.wake 1) s = .next (s.withEnergy fun x => { x with wake := some 9 }))
  ∧ (∀ (s : State) (v : Nat), v ≠ 1 → exec (.wake v) s = .next s)
  ∧ (∀ (s : State) (n : Nat), n < 65536 → exec (.unitSleepEntry .pipeline n) s = .next (s.setAsleep .pipeline n true)
    ∧ exec (.unitSleepEntry .l3Bank n) s = .next (s.setAsleep .l3Bank n true)
    ∧ (s.scansNow = false → exec (.unitSleepEntry .hbmStack n) s = .next (s.setAsleep .hbmStack n true)
      ∧ exec (.unitSleepEntry .linkGroup n) s = .next (s.setAsleep .linkGroup n true))
    ∧ (s.scansNow = true → exec (.unitSleepEntry .hbmStack n) s = .next s ∧ exec (.unitSleepEntry .linkGroup n) s = .next s))
  ∧ (∀ (s : State) (i : Fin 256), s.instRunning i = false → exec (.preFreezeWake i) s = .next s)
  ∧ (∀ (s : State) (i : Fin 256), s.instRunning i = true → s.instDie i = .c0 → exec (.preFreezeWake i) s = .next
      ((numbersFrom 0 4).foldl (fun (u : State) k => u.setAsleep .hbmStack k false)
        (((s.setAsleep .linkGroup 0 false).setAsleep .linkGroup 2 false).setAsleep .linkGroup 3 false)))

/-- Heat: samples, throttling, downshift requests and the thermal trip (Chapter 18; R653; R654; Table 18-7). THERMAL_SAMPLE with
no reading keeps the readings and judges the thermal state. THROTTLE_STEP lowers the host frequency by 200 MHz a millisecond,
not below HostMinFrequency, while throttled. THERMAL_DOWNSHIFT_STEP outside the Downshift and OutOfSpec states changes
nothing. THERMAL_TRIP at 155 C or above enters the Trip state, notes the trip and enters every shed level up to 3; below it
nothing changes. THERMAL_TRIP_SHORE 20 ms later enters shed level 4. -/
def Obligations.HeatPolicy : Prop :=
  (∀ (s : State), s.junction ≤ toInt 32 (s.num Od.tjMax) → s.judgeHeat.thermalState ≠ 3 → exec (.thermalSample []) s = .next s.judgeHeat)
  ∧ (∀ (s : State), s.junction ≤ toInt 32 (s.num Od.tjMax) → s.judgeHeat.thermalState = 3 → s.judgeHeat.energy.outOfSpecAt ≤ s.judgeHeat.gtc →
    exec (.thermalSample []) s = .next ((s.judgeHeat.withEnergy fun x => { x with
      outOfSpecAt := s.judgeHeat.gtc + 1000000000 }).raiseOcc 0xD85 0x80 0 2 0))
  ∧ (∀ (s : State), s.energy.throttleAt + 1000000 ≤ s.gtc → 1 ≤ s.thermalState → s.hamper 20 = false → exec .throttleStep s = .next
      (s.withEnergy fun x => { x with
        throttleAt := s.gtc
        heatFrequency := max (s.num Od.hostMinFrequency) (x.heatFrequency - 200) }))
  ∧ (∀ (s : State), s.gtc < s.energy.throttleAt + 1000000 → exec .throttleStep s = .next s)
  ∧ (∀ (s : State), s.thermalState ≠ 2 → s.thermalState ≠ 3 → exec .thermalDownshiftStep s = .next s)
  ∧ (∀ (s t : State), s.thermalState = 2 → s.energy.downshiftAt + 10000000 ≤ s.gtc →
    t = (s.withEnergy fun x => { x with downshiftAt := s.gtc }) →
    ((numbersFrom 0 256).find? fun n => t.mayAsk n && t.pnum Od.portRate n == 1 && !tabGet false t.energy.declined n) = none →
    exec .thermalDownshiftStep s = .next t)
  ∧ (∀ (s t : State) (n : Nat), s.thermalState = 2 → s.energy.downshiftAt + 10000000 ≤ s.gtc →
    t = (s.withEnergy fun x => { x with downshiftAt := s.gtc }) →
    ((numbersFrom 0 256).find? fun n => t.mayAsk n && t.pnum Od.portRate n == 1 && !tabGet false t.energy.declined n) = some n →
    exec .thermalDownshiftStep s = .next (downshiftRequest n true (t.withEnergy fun x => { x with declined := tabSet false x.declined n true })))
  ∧ (∀ (s t : State), 155000 ≤ s.junction → s.energy.tripAt = none → t = (s.setThermal 4).withEnergy (fun x => { x with
      tripAt := some (s.setThermal 4).gtc }) → 3 ≤ s.shedLevel →
    exec .thermalTrip s = .next ((t.setNum Od.hamperStatus (setField (t.num Od.hamperStatus) 19 1 1)).raiseOcc 0xD86 0x80 0 1 0))
  ∧ (∀ (s t : State), 155000 ≤ s.junction → s.energy.tripAt = none → t = (s.setThermal 4).withEnergy (fun x => { x with
      tripAt := some (s.setThermal 4).gtc }) → s.shedLevel = 0 →
    exec .thermalTrip s = .next (((((t.setNum Od.hamperStatus (setField (t.num Od.hamperStatus) 19 1 1)).raiseOcc 0xD86 0x80 0 1
      0).enterShed 1 2).enterShed 2 2).enterShed 3 2))
  ∧ (∀ (s : State), s.junction < 155000 → exec .thermalTrip s = .next s)
  ∧ (∀ (s : State) (g : Nat), s.energy.tripAt = some g → s.shedLevel = 3 → g + 20000000 ≤ s.gtc → exec .thermalTripShore s = .next (s.enterShed 4 2))
  ∧ (∀ (s : State) (g : Nat), s.energy.tripAt = some g → s.gtc < g + 20000000 → exec .thermalTripShore s = .next s)

/-- Resets and start-up: power-on, rails, dies, manager, configuration, warm resets and shore wake (Chapter 19; R607; R624; R660;
R661; R664; R666; R669; R671; R673; R674; Table 19-2). POWER_ON_RESET resets all but what outlives it; its end sets GTC 0 and
latches ROLE_SEL. RAIL_CHECK_RETRY notes the rails outside tolerance; with none, FAST_DIES_UP reaches milestones 4 to 6,
MANAGER_STARTED 7 and CONFIG_LOAD 8. Each of these out of its place changes nothing. WRST_N raises its event and, while the
module is operating, begins a warm reset; otherwise it is reported as ignored. ModuleReset 1 begins a warm reset or is refused
with InProgress or ShedLevel; ModuleReset 2 with nothing running and no authority, and ModuleReset 3, are power-on resets.
WARM_RESET_DONE of a valid image ends the reset with PowerOn, of an invalid one enters Recovery. SHORE_WAKE without a wake
asked changes nothing, with one it runs the flow from milestone 4. -/
def Obligations.ResetsAndStartUp : Prop :=
  (∀ (s : State), exec (.powerOnReset true) s = .next (s.powerOnReset 2) ∧ exec (.powerOnReset false) s = .next (s.powerOnReset 1))
  ∧ (∀ (s : State) (c : Nat), (s.powerOnReset c).pending = s.pending ∧ (s.powerOnReset c).start.held = some c
    ∧ (s.powerOnReset c).mem = MemSt.reset ∧ (s.powerOnReset c).sec.minVersion = s.sec.minVersion
    ∧ (s.powerOnReset c).sec.banks = s.sec.banks ∧ (s.powerOnReset c).sec.flash = s.sec.flash)
  ∧ (∀ (s : State) (b : Bool) (l : List MramPlace), s.start.held = none → exec (.powerOnResetEnd b l) s = .next s)
  ∧ (∀ (s t : State) (b : Bool) (l : List MramPlace), s.start.held = some 2 →
    t = ({ s with gtc := 0 }.withPair fun x => { x with roleB := b }).withStart (fun x => { x with held := none }) →
    exec (.powerOnResetEnd b l) s = .next ((l.foldl State.damage t).noteReset 1 2).shoreUp)
  ∧ (∀ (s : State) (o : Nat), s.beforeFastDies = true → o &&& 0x7E = 0 → exec (.railCheckRetry o) s = .next
      (s.withStart fun x => { x with railsOut := 0 }))
  ∧ (∀ (s : State) (o : Nat), s.beforeFastDies = true → o &&& 0x7E ≠ 0 → exec (.railCheckRetry o) s = .next
      ((s.withStart fun x => { x with railsOut := o &&& 0x7E }).raiseOcc 0xE08 0x80 0 4 (o &&& 0x7E)))
  ∧ (∀ (s : State), (s.beforeFastDies = false ∨ s.start.railsOut ≠ 0) → exec .fastDiesUp s = .next s)
  ∧ (∀ (s t : State), s.beforeFastDies = true → s.start.railsOut = 0 → s.configCopy = none → (s.num Od.hamperStatus).testBit 14 = false →
    t = (s.withTime fun x => { x with fineN := true, fineC0 := true, fineC1 := true }).withMem (fun x => { x with
      managerPages := (objDefault Od.managerPages).nat }) →
    exec .fastDiesUp s = .next ((t.setNum Od.hamperStatus (setField (t.num Od.hamperStatus) 14 1 0)).reach [4, 5, 6]))
  ∧ (∀ (s t : State), s.start.flow = 1 → s.start.milestone = 6 →
    t = (s.measureStages 1 fun k => k == 4).measureStages 2 (fun k => k == 2 || k == 3) →
    exec .managerStarted s = .next ((s.noteKeys ((numbersFrom 0 98).foldl State.repairKey (t.extendChain 3 (sha384
      t.securityRecord)))).reach [7]))
  ∧ (∀ (s : State), (s.start.flow = 0 ∨ s.start.milestone ≠ 6) → exec .managerStarted s = .next s)
  ∧ (∀ (s : State), (s.start.flow = 0 ∨ s.start.milestone ≠ 7) → exec .configLoad s = .next s)
  ∧ (∀ (s t : State), s.start.flow = 1 → s.start.milestone = 7 → s.dict.copy0 = .none_ → s.dict.copy1 = .none_ → s.dict.restoreDefaults = false →
    t = ((s.reach [8]).withStart fun x => { x with flow := 0 }).setNum Od.bootState 1 →
    exec .configLoad s = .next ((((t.setNum Od.configLoadRefusals 0).setNum Od.configLoadLastRefused 0).setNum Od.configLoadGtc
      s.gtc).setNum Od.configLoadedFrom 0))
  ∧ (∀ (s t : State), t = s.raiseOcc 0xE08 0x80 0 2 0 →
    ((s.start.flow ≠ 0 ∨ s.start.warm.isSome = true ∨ 2 ≤ s.shedLevel ∨ s.num Od.bootState ≠ 1) →
      exec .wrstN s = .next (t.raiseOcc 0xE08 0x80 0 3 0))
    ∧ (s.start.flow = 0 → s.start.warm = none → s.shedLevel < 2 → s.num Od.bootState = 1 → exec .wrstN s = .next (t.beginWarm 2 5)))
  ∧ (∀ (s : State) (who : Caller), s.lets who Od.moduleReset false 0 (.num 1) = true →
    (s.start.warm = none → s.shedLevel < 2 → ∃ (t : State), exec (.moduleResetWarm who) s = .next (t.done who) ∧ t = s.beginWarm 2 6)
    ∧ (s.start.warm.isSome = true → exec (.moduleResetWarm who) s = .next (s.turned who .inProgress))
    ∧ (s.start.warm = none → 2 ≤ s.shedLevel → exec (.moduleResetWarm who) s = .next (s.turned who .shedLevel)))
  ∧ (∀ (s : State) (who : Caller), s.lets who Od.moduleReset false 0 (.num 2) = true →
    (s.inst.present.any s.instRunning = false → s.authority = false →
      exec (.moduleResetPowerOn who) s = .next ((s.powerOnReset 4).done who))
    ∧ (s.inst.present.any s.instRunning = true → exec (.moduleResetPowerOn who) s = .next (s.turned who .precondition))
    ∧ (s.authority = true → exec (.moduleResetPowerOn who) s = .next (s.turned who .precondition)))
  ∧ (∀ (s : State) (who : Caller), s.lets who Od.moduleReset false 0 (.num 3) = true →
    exec (.moduleResetForced who) s = .next ((s.powerOnReset 4).done who))
  ∧ (∀ (s : State), s.start.warm = none → exec .warmResetDone s = .next s)
  ∧ (∀ (s t : State) (k : Nat), s.start.warm = some k → t = (s.withStart fun x => { x with warm := none }) →
    exec .warmResetDone s = .next (if t.imageCheck t.sec.booted = 1 then
        (s.noteKeys (((t.setImageStatus t.sec.booted 1).zeroChains [1, 4, 5, 6, 7]).measureStages 1 fun k => k == 4)).raisePowerOn k
      else (((t.setImageStatus t.sec.booted (t.imageCheck t.sec.booted)).raise 0xD00 (0x2000 + t.imageCheck t.sec.booted) 0x80 0
        (payFault t.sec.booted 1)).setNum Od.bootState 2).raiseOcc 0xD00 0x80 0 3 0))
  ∧ (∀ (s : State), (s.energy.wake = none ∨ s.num Od.bootState ≠ 3 ∨ s.energy.tripAt.isSome = true) → exec .shoreWake s = .next s)
  ∧ (∀ (s t : State) (c : Nat), s.energy.wake = some c → s.num Od.bootState = 3 → s.energy.tripAt = none →
    field (s.num Od.hamperStatus) 25 3 = 0 →
    t = ((s.withEnergy fun x => { x with wake := none, gated := [], asleep := [] }).setNum Od.hamperStatus (setField (s.num
      Od.hamperStatus) 25 3 0)).withPair (fun x => { x with retryAt := 0 }) →
    exec .shoreWake s = .next ((((((t.noteReset 4 c).count32 Od.shoreWakes).setBlob Od.bootTimeline (List.replicate 64 0)).setNum
      Od.bootState 0).withStart (fun x => { x with flow := 4, milestone := 3, railsOut := 0 })).raisePowerOn 4))

/-- Board interfaces: SREF, PCIe and management links, boot flash and management buses (Chapter 20; R693; R695; R696; R697; R698;
R702; R703; R704; R705; R706; R707). MGMT_LINK_CHANGE takes effect with SREF, or to Down; PCIE_LINK_CHANGE to a width and rate
of R695 trains the link with SREF and PERST deasserted. SREF_CHECK notes and reports a changed state, and a lost reference
takes the links and PLLs down. PE_PERST_N asserted resets the physical function and takes the link down. BootFlashBlock erases
the block and is refused with InProgress while one is written; its end programs it or reports VerifyFailed. BootFlashVerify
checks the other image. A write to MB_0 registers takes effect octet by octet from the pointer, wrapping; a record at 0x40 of
8 octets on MB_1 is kept with its GTC. Messages due to the board controller, rack monitor or peer are delivered when
acknowledged, else wait; a lost arbitration is counted; a retry is due after its back-off. MB_BUS_RECOVERY is counted and
reported. -/
def Obligations.BoardLinksFlashAndBuses : Prop :=
  (∀ (s : State) (x : Fin 4), x.val ≠ 0 → s.num Od.srefState = 0 → exec (.mgmtLinkChange x) s = .next s)
  ∧ (∀ (s : State) (x : Fin 4), s.num Od.srefState ≠ 0 → s.num Od.mgmtLinkState ≠ x.val → exec (.mgmtLinkChange x) s = .next
      ((s.setNum Od.mgmtLinkState x).raiseState 0xE04 0x80 0 (s.num Od.mgmtLinkState) x 0 0))
  ∧ (∀ (s : State) (w r : Nat), (w = 1 ∨ w = 2 ∨ w = 4 ∨ w = 8 ∨ w = 16) → 1 ≤ r → r ≤ 5 →
    (s.num Od.srefState ≠ 0 → (s.num Od.pcieLinkState).testBit 16 = false → exec (.pcieLinkChange w r) s = .next (s.setPcie w r))
    ∧ (s.num Od.srefState = 0 → exec (.pcieLinkChange w r) s = .next s))
  ∧ (∀ (s : State), exec (.pcieLinkChange 0 0) s = .next (s.setPcie 0 0))
  ∧ (∀ (s : State) (p : Int), p.natAbs ≤ 100 → s.num Od.srefState = 1 → exec (.srefCheck true p) s = .next s)
  ∧ (∀ (s : State) (p : Int), 100 < p.natAbs → s.num Od.srefState ≠ 2 → exec (.srefCheck true p) s = .next
      ((s.setNum Od.srefState 2).raiseState 0xE04 0x80 0 (s.num Od.srefState) 2 0 0))
  ∧ (∀ (s t : State) (p : Int), s.num Od.srefState ≠ 0 →
    t = (s.setNum Od.srefState 0).raiseState 0xE04 0x80 0 (s.num Od.srefState) 0 0 0 →
    exec (.srefCheck false p) s = .next ((((numbersFrom 0 32).foldl (fun (u : State) k => octetPllLockLoss k u) t).setMgmtLink 0).setPcie 0 0))
  ∧ (∀ (s : State) (a : Bool), (s.num Od.pcieLinkState).testBit 16 = a → exec (.pePerstN a) s = .next s)
  ∧ (∀ (s t : State) (w : Nat), (s.num Od.pcieLinkState).testBit 16 = false → w = setField (s.num Od.pcieLinkState) 16 1 1 →
    t = (functionLevelReset 0 ((s.setNum Od.pcieLinkState w).raiseFlag 0xE00 0x80 0 true 16 w)).setPcie 0 0 →
    exec (.pePerstN true) s = .next ((t.withInst fun x => { x with numVfs := 0 }).withEv fun x => { x with
      msixMasked := [], msixPending := [] }))
  ∧ (∀ (s : State) (who : Caller) (b : Fin 3072) (v : Bytes), s.letsForm who (Od.bootFlashBlock + b) false 0 (.bytes v) = true →
    s.board.flashWrite = none → s.dict.saving = none → s.shedLevel < 2 → exec (.bootFlashBlock who b v) s = .next
      ((((s.withSec fun x => { x with
        flash := tabSet none x.flash (s.otherFlash * 3072 + b) (some (List.replicate 32768 0xFF)) }).withSec fun x => { x with
          imageStatus := tabSet 0 x.imageStatus s.otherFlash 0 }).withBoard fun x => { x with
            flashWrite := some ⟨s.otherFlash, some (b.val, v)⟩ }).done who))
  ∧ (∀ (s : State) (who : Caller) (b : Fin 3072) (v : Bytes) (j : FlashJob), s.letsForm who (Od.bootFlashBlock + b) false 0 (.bytes v) = true →
    s.board.flashWrite = some j → exec (.bootFlashBlock who b v) s = .next (s.turned who .inProgress))
  ∧ (∀ (s : State) (d b : Nat) (v : Bytes), s.board.flashWrite = some ⟨d, some (b, v)⟩ →
    exec (.bootFlashBlockDone true) s = .next ((((s.withBoard fun x => { x with flashWrite := none }).withSec fun x => { x with
      flash := tabSet none x.flash (d * 3072 + b) (some v) }).setLastCode d 0).raiseDone 0xE07 0x80 0 (Od.bootFlashBlock + b) 0)
    ∧ exec (.bootFlashBlockDone false) s = .next (((s.withBoard fun x => { x with flashWrite := none }).setLastCode d
      Code.verifyFailed.value).raiseDone 0xE07 0x80 0 (Od.bootFlashBlock + b) Code.verifyFailed.value))
  ∧ (∀ (s : State) (who : Caller) (v : Nat), s.lets who Od.bootFlashVerify false 0 (.num v) = true → s.board.flashVerify = none →
    exec (.bootFlashVerify who v) s = .next ((s.withBoard fun x => { x with flashVerify := some ⟨s.otherFlash, none⟩ }).done who))
  ∧ (∀ (s : State) (j : FlashJob), s.board.flashVerify = some j → exec .bootFlashVerifyDone s = .next ((((s.withBoard fun x => { x with
      flashVerify := none }).setImageStatus j.device (s.imageCheck j.device)).setLastCode j.device 0).raiseDone 0xE07 0x80 0
        Od.bootFlashVerify 0))
  ∧ (∀ (s : State) (p : Fin 256) (b : Bytes), s.busesRun = false → exec (.mb0TargetWrite p b) s = .next s
    ∧ exec (.mb1RecordReceive p b) s = .next s)
  ∧ (∀ (s t : State) (p : Fin 256) (o : Byte), s.busesRun = true → t = s.mb0Write p o.toNat →
    exec (.mb0TargetWrite p [o]) s = .next (t.withBoard fun x => { x with pointer0 := (p + 1) % 256 }))
  ∧ (∀ (s : State) (b : Bytes), s.busesRun = true → b.length = 8 → exec (.mb1RecordReceive 0x40 b) s = .next
      ((s.withBoard fun x => { x with pointer1 := 0x48 }).setBlob Od.mb1PeerRecord (b ++ toLE 8 s.gtc)))
  ∧ (∀ (s : State) (a : Bool) (m : MbMsg), s.boardDue = some m → exec (.boardControllerWrite a) s = .next (s.boardStarted.mbAttempt 0 m a))
  ∧ (∀ (s : State) (a : Bool), s.boardDue = none → exec (.boardControllerWrite a) s = .next s)
  ∧ (∀ (s : State) (k a : Bool) (m : MbMsg), s.recordDue k = some m → exec (.mb1RecordSend k a) s = .next ((s.recordStarted k).mbAttempt 1 m a))
  ∧ (∀ (s : State) (k a : Bool), s.recordDue k = none → exec (.mb1RecordSend k a) s = .next s)
  ∧ (∀ (s : State) (n : Fin 2) (a : Bool) (m : MbMsg), s.retryDue n = some m → exec (.mbRetry n a) s = .next (s.mbAttempt n m a))
  ∧ (∀ (s : State) (n : Fin 2) (a : Bool), s.retryDue n = none → exec (.mbRetry n a) s = .next s)
  ∧ (∀ (s : State) (n : Fin 2) (k : Bool) (m : MbMsg), s.retryDue n = some m → exec (.arbitrationLost n k none) s = .next
      (((s.setBusLost n true).count32 (Od.mbArbitrationLost + n)).mbFail n m))
  ∧ (∀ (s : State) (n : Fin 2) (b : Bool), exec (.mbBusRecovery n b) s = .next
      ((s.count32 (Od.mbBusRecoveries + n)).raiseOcc (0xE05 + n) 0x80 0 2 0))

/-- A step runs the command at the front of the queue on the queue's rest; an empty queue lets one tick pass (the model's choice)
(Chapter 1; R36; R37). For every command and state, a step of the state with the command at the front of its queue is the
command's effect on the state with the rest of the queue; the queue after `withFront` is the command and then the old queue.
With an empty queue a step advances the Global Tick Counter by one count, modulo 2^64, and nothing else: the model's choice,
log entry 1. -/
def Obligations.StepRunsTheFrontCommand : Prop :=
  (∀ (c : Instr) (s : State), step (s.withFront c) = exec c s)
  ∧ (∀ (c : Instr) (q : List Instr) (s : State), s.pending = c :: q → step s = exec c (s.withQueue q))
  ∧ (∀ (s : State), s.pending = [] → step s = .next { s with gtc := (s.gtc + 1) % 2 ^ 64 })

/-- What a power-on reset leaves: counter, objects, sessions, pages, queues, pins and start-up (Chapters 15, 16 and 19; R37; R571;
R600; R661; R666). After reset the Global Tick Counter is 0, the queue is empty, every object reads its default, no session is
open and nothing is sent. Pages 0 to 1,023 carry their fixed bindings and no kinst is valid. Every event queue is disabled,
every event output pin deasserted, no vector masked or pending. BootState reads 0 and no milestone is reached. Where the spec
gives no value the default is the model's, log entry 2. -/
def Obligations.StateAfterReset : Prop :=
  State.reset.gtc = 0 ∧ State.reset.pending = [] ∧ State.reset.out = []
  ∧ (∀ (id sel : Nat), State.reset.obj id sel = objDefault id)
  ∧ (∀ (k : Nat), State.reset.session k = none)
  ∧ (∀ (p : Nat), p < 1024 → State.reset.pageBinding p = if p < 256 then 1 else 2)
  ∧ (∀ (c : Nat), State.reset.kinstOf c = none)
  ∧ (∀ (q : Fin 256), eqEnabled (State.reset.eqConfig q) = false)
  ∧ (∀ (k : Fin 4), (tabGet EvPin.init State.reset.ev.pins k).asserted = false)
  ∧ (∀ (k : Nat), tabGet false State.reset.ev.msixMasked k = false ∧ tabGet false State.reset.ev.msixPending k = false)
  ∧ State.reset.num Od.bootState = 0 ∧ State.reset.start.milestone = 0

/-- An action that the checks of R104 refuse has no effect but the answer with the refusal code (Chapter 2; R103; R104). Where
addressing, role, lock, form or range refuses the value with a code, each of the named actions leaves the state as it was and
answers with that code alone. -/
def Obligations.RefusedActionsHaveNoEffect : Prop :=
  ∀ (s : State) (who : Caller) (v : Nat) (e : Code),
    (s.gateRange who Od.bootConfirm false 0 (.num v) = .error e → exec (.bootConfirm who v) s = .next (s.turned who e))
    ∧ (s.gateRange who Od.sluiceCommand false 0 (.num v) = .error e → exec (.sluiceCommand who v) s = .next (s.turned who e))
    ∧ (s.gateRange who Od.ownerRelease false 0 (.num v) = .error e → exec (.ownerRelease who v) s = .next (s.turned who e))
    ∧ (s.gateRange who Od.ownerBootKeyRevoke false 0 (.num v) = .error e → exec (.ownerBootKeyRevoke who v) s = .next (s.turned who e))
    ∧ (s.gateRange who Od.attestPGenerate false 0 (.num v) = .error e → exec (.attestPGenerate who v) s = .next (s.turned who e))
    ∧ (s.gateRange who Od.recoveryRestart false 0 (.num v) = .error e → exec (.recoveryRestart who v) s = .next (s.turned who e))
    ∧ (s.gateRange who Od.recorderClear false 0 (.num v) = .error e → exec (.recorderClear who v) s = .next (s.turned who e))
    ∧ (s.gateRange who Od.bootFlashVerify false 0 (.num v) = .error e → exec (.bootFlashVerify who v) s = .next (s.turned who e))
    ∧ (s.gateRange who Od.recorderFreeze false 0 (.num 1) = .error e → exec (.recorderFreeze who) s = .next (s.turned who e))
    ∧ (s.gateRange who Od.recorderFreeze false 0 (.num 2) = .error e → exec (.recorderUnfreeze who) s = .next (s.turned who e))
    ∧ (s.gateRange who Od.moduleReset false 0 (.num 1) = .error e → exec (.moduleResetWarm who) s = .next (s.turned who e))
    ∧ (s.gateRange who Od.moduleReset false 0 (.num 2) = .error e → exec (.moduleResetPowerOn who) s = .next (s.turned who e))
    ∧ (s.gateRange who Od.moduleReset false 0 (.num 3) = .error e → exec (.moduleResetForced who) s = .next (s.turned who e))
    ∧ (s.gateRange who Od.moduleSleep false 0 (.num 1) = .error e → exec (.moduleSleepEnter who) s = .next (s.turned who e))
    ∧ (s.gateRange who Od.holdupCalibrate false 0 (.num 1) = .error e → exec (.holdupCalibrateZero who) s = .next (s.turned who e))
    ∧ (s.gateRange who Od.holdupCalibrate false 0 (.num 2) = .error e → exec (.holdupCalibrateSpan who) s = .next (s.turned who e))
    ∧ (∀ (k : Fin 64), s.gateRange who (Od.keyErase + k) false 0 (.num v) = .error e → exec (.keyErase who k v) s = .next (s.turned who e))
    ∧ (∀ (k : Fin 4), s.gateRange who (Od.evtPinAck + k) false 0 (.num v) = .error e → exec (.evtPinAck who k v) s = .next (s.turned who e))
    ∧ (∀ (q : Fin 256) (b : Bytes), s.gateRange who (Od.eqConfig + q) false 0 (.bytes b) = .error e →
      exec (.eqConfig who q b) s = .next (s.turned who e))
    ∧ (∀ (b : Bytes), s.gateRange who Od.eventRaise false 0 (.bytes b) = .error e → exec (.eventRaise who b) s = .next (s.turned who e))

/-- Words of the worked example of Table 11-17 decode to the instructions the table names (Chapter 11; R423; Table 11-17). Eight
words written in Table 11-17 of the spec, one of each format, decode to the instruction written beside them. -/
def Obligations.ScanWordsDecode : Prop :=
  decodeIsa 0x64020000 = some (.sth 0 2 0) ∧ decodeIsa 0xB4800001 = some (.ielt 4 0 0) ∧ decodeIsa 0x80000017 = some (.bCmd 0 0x17)
  ∧ decodeIsa 0x54A40010 = some (.ldwu 5 4 16) ∧ decodeIsa 0xB4C50803 = some (.qcls 6 5 1) ∧ decodeIsa 0x20070008 = some (.cmpi 7 8)
  ∧ decodeIsa 0xA1231011 = some (.flt 9 3 2) ∧ decodeIsa 0x8D20000E = some (.bz 9 0xE)

/-- The HBM of the state after reset is in canonical form and every buffer fits (Chapter 15; R571). At reset the memory lists
nothing, which is its canonical form (the model's choice of representation, log entry 3), and no die's event buffer holds an
event. -/
def Obligations.ResetMemoryIsCanonical : Prop :=
  Memory.wf State.reset.mem.hbm = true ∧ State.reset.buffersFit

/-- HBM: octets read back as written, other octets are untouched, and rewriting what is there changes nothing (Chapter 15; R550).
After octets are written from an address on, reading as many from there gives them; reading any octets that do not overlap
them gives what it gave before. In a memory in canonical form, writing the octets that are there leaves the very same memory. -/
def Obligations.HbmReadsWhatWasWritten : Prop :=
  (∀ (s : State) (a : Nat) (b : Bytes), (s.hbmWrite a b).hbmRead a b.length = b)
  ∧ (∀ (s : State) (a x n : Nat) (b : Bytes), (x + n ≤ a ∨ a + b.length ≤ x) → (s.hbmWrite a b).hbmRead x n = s.hbmRead x n)
  ∧ (∀ (s : State) (a n : Nat), Memory.wf s.mem.hbm = true → s.hbmWrite a (s.hbmRead a n) = s)

/-- Raising an event in a die and releasing one keep every die's event buffer within its room (Chapter 16; R582; R583). From every
state whose event buffers hold at most 8,192, 2,048, 2,048 and 1,024 events, EVENT_RAISE_IN_DIE and EVENT_RELEASE give a next
state in which they do, whatever the event, the configuration and the watermarks. -/
def Obligations.BuffersStayWithinRoom : Prop :=
  (∀ (s : State) (d : Die) (src : Fin 4096) (code kind num detail : Nat), s.buffersFit →
    ∃ (t : State), exec (.eventRaiseInDie d src code kind num detail) s = .next t ∧ t.buffersFit)
  ∧ (∀ (s : State) (wn w0 w1 ws : Nat), s.buffersFit → ∃ (t : State), exec (.eventRelease wn w0 w1 ws) s = .next t ∧ t.buffersFit)

/-- The event released next is the least key of the admitted dies, and every admitted watermark has reached it (Chapter 16; R11;
R580; R583). While no excluded die holds an event, the event that is released is the oldest of its die's buffer, that die is
admitted, every admitted die's watermark is at least its GTC, and no oldest event of an admitted die comes before it in the
order of R11. While one does, the released event is out of order and comes from such a die. -/
def Obligations.ReleaseFollowsKeyOrder : Prop :=
  (∀ (s : State) (d : Die) (e : Event), (∀ x : Die, (s.evDie x).excluded = true → (s.evDie x).buffer = []) →
    s.nextRelease = some (d, e) → (s.evDie d).excluded = false ∧ (s.evDie d).buffer.head? = some e
    ∧ (∀ x : Die, (s.evDie x).excluded = false → e.gtc ≤ (s.evDie x).watermark ∧ ∀ f : Event, (s.evDie x).buffer.head? = some f →
      ¬ (f.gtc < e.gtc ∨ f.gtc = e.gtc ∧ f.source < e.source)))
  ∧ (∀ (s : State) (x : Die), (s.evDie x).excluded = true → (s.evDie x).buffer ≠ [] → ∃ (d : Die) (e f : Event),
    s.nextRelease = some (d, e) ∧ (s.evDie d).excluded = true ∧ (s.evDie d).buffer.head? = some f ∧ e = { f with outOfOrder := true })

/-- Writing the recorder's header leaves the new header in force, or the old one when the write is torn (Chapter 16; R594; R595).
With both copies good, a write of the header puts the new header in force with a greater sequence number and leaves the copy
that was in force as it was; when the copy that was being written does not pass its CRC, the header in force is the one that
was in force before. -/
def Obligations.HeaderSurvivesATornWrite : Prop :=
  ∀ (r w : Recorder) (head count op : Nat), r.header0.crcOk = true → r.header1.crcOk = true → w = r.writeHeader head count op →
    w.header = ⟨max r.header0.sequence r.header1.sequence + 1, head, count, op, r.powerCycles, true⟩
    ∧ (r.header0.sequence ≤ r.header1.sequence → w.header1 = r.header1 ∧
      ({ w with header0 := { w.header0 with crcOk := false } } : Recorder).header = r.header)
    ∧ (r.header1.sequence < r.header0.sequence → w.header0 = r.header0 ∧
      ({ w with header1 := { w.header1 with crcOk := false } } : Recorder).header = r.header)

/-- A domain value is carried as the nearest multiple of 2^-16 ns, halves to even; a TIME reads back exactly (Chapter 3; R710).
The TIME of a non-negative domain value names a value within half of 2^-16 ns of it, an even fraction where the value lies
half way, and nanoseconds below one second. A TIME whose nanoseconds are below one second is the TIME of the value it names. -/
def Obligations.TimeValuesRoundToNearest : Prop :=
  (∀ (v : Int), 0 ≤ v → 2 * (valueOfTime (timeOfValue v) - v).natAbs ≤ 2 ^ 32 ∧ timeOfValue v / 2 ^ 16 % 2 ^ 32 < 1000000000
    ∧ (2 * (v % 2 ^ 32) = 2 ^ 32 → timeOfValue v % 2 = 0))
  ∧ (∀ (t : Nat), t / 2 ^ 16 % 2 ^ 32 < 1000000000 → timeOfValue (valueOfTime t) = t)

/-- Decoding and encoding of scan instructions agree, in both directions and for every field (Chapter 11; R421; R423; Tables 11-3
to 11-12). For every scan instruction whose fields are legal, its word has 32 bits and decodes to it; and every word of 32
bits that decodes, decodes to an instruction with legal fields whose word it is. So no field of an encoding is dropped and no
two words spell one instruction. -/
def Obligations.ScanWordsAgree : Prop :=
  (∀ (c : IsaOp), c.legal = true → isaWord c < 2 ^ 32 ∧ decodeIsa (isaWord c) = some c)
  ∧ (∀ (w : Nat) (c : IsaOp), w < 2 ^ 32 → decodeIsa w = some c → c.legal = true ∧ isaWord c = w)

/-- Every step keeps the memory of HBM in its canonical form (Chapter 15; R550; R568; R586). From every state whose memory of HBM
is canonical (addresses strictly rising, no octet equal to what an unlisted address reads), whatever command is at the front
of the queue and on an empty queue, a step that answers a next state leaves a canonical memory. The form is the model's
representation, log entry 3. -/
def Obligations.StepsKeepMemoryCanonical : Prop :=
  ∀ (s t : State), Memory.wf s.mem.hbm = true → step s = .next t → Memory.wf t.mem.hbm = true

/-- No command touches the queue, and the Global Tick Counter is never written but to 0 (Chapters 1 and 19; R36; R37; R661). For
every command and state, where its effect is a next state, the waiting commands are those that waited before, in order, and
the Global Tick Counter holds what it held or restarts from 0 (a power-on reset). That commands take no time of their own is
the model's choice, log entry 1. -/
def Obligations.CommandsKeepQueueAndCounter : Prop :=
  ∀ (c : Instr) (s t : State), exec c s = .next t → t.pending = s.pending ∧ (t.gtc = s.gtc ∨ t.gtc = 0)

/-- No step lowers MinSecurityVersion (Chapter 17; R609). MinSecurityVersion is a thermometer of fuses: whatever command is at the
front of the queue, resets included, the step's next state holds at least the value before. -/
def Obligations.SecurityVersionNeverFalls : Prop :=
  ∀ (s t : State), step s = .next t → s.sec.minVersion ≤ t.sec.minVersion

end
end

