-- ==== Sys2Proof/Laws/Exec.lean ====
section
/-! SUPPORT. Each command's meaning, one lemma for each constructor; and what a step does. -/

namespace Sys2Proof.Machine

@[simp] theorem exec_linkGroupDegraded {group link s} : exec (.linkGroupDegraded group link) s = execLinkGroupDegraded group link s := rfl
@[simp] theorem exec_linkGroupFailed {group s} : exec (.linkGroupFailed group) s = execLinkGroupFailed group s := rfl
@[simp] theorem exec_pondCreateChild {who pond value s} : exec (.pondCreateChild who pond value) s = execPondCreateChild who pond value s := rfl
@[simp] theorem exec_pondDelete {who pond value s} : exec (.pondDelete who pond value) s = execPondDelete who pond value s := rfl
@[simp] theorem exec_pondMove {who pond value s} : exec (.pondMove who pond value) s = execPondMove who pond value s := rfl
@[simp] theorem exec_pondEnergyShareWrite {who pond value s} : exec (.pondEnergyShareWrite who pond value) s = execPondEnergyShareWrite who pond value s := rfl
@[simp] theorem exec_openSession {h route role reserved sel s} : exec (.openSession h route role reserved sel) s = execOpenSession h route role reserved sel s := rfl
@[simp] theorem exec_close {h s} : exec (.close h) s = execClose h s := rfl
@[simp] theorem exec_keepalive {h s} : exec (.keepalive h) s = execKeepalive h s := rfl
@[simp] theorem exec_get {via active items s} : exec (.get via active items) s = execGet via active items s := rfl
@[simp] theorem exec_put {via items s} : exec (.put via items) s = execPut via items s := rfl
@[simp] theorem exec_stage {via items s} : exec (.stage via items) s = execStage via items s := rfl
@[simp] theorem exec_commit {via s} : exec (.commit via) s = execCommit via s := rfl
@[simp] theorem exec_commitAt {via dom time s} : exec (.commitAt via dom time) s = execCommitAt via dom time s := rfl
@[simp] theorem exec_discard {via s} : exec (.discard via) s = execDiscard via s := rfl
@[simp] theorem exec_describe {via item s} : exec (.describe via item) s = execDescribe via item s := rfl
@[simp] theorem exec_readSegment {via item offset count s} : exec (.readSegment via item offset count) s = execReadSegment via item offset count s := rfl
@[simp] theorem exec_writeSegment {via item offset s} : exec (.writeSegment via item offset) s = execWriteSegment via item offset s := rfl
@[simp] theorem exec_sessionTimeout {sess s} : exec (.sessionTimeout sess) s = execSessionTimeout sess s := rfl
@[simp] theorem exec_quiesceComplete {sess s} : exec (.quiesceComplete sess) s = execQuiesceComplete sess s := rfl
@[simp] theorem exec_quiesceTimeout {sess s} : exec (.quiesceTimeout sess) s = execQuiesceTimeout sess s := rfl
@[simp] theorem exec_timedCommitApply {sess s} : exec (.timedCommitApply sess) s = execTimedCommitApply sess s := rfl
@[simp] theorem exec_configSave {who value s} : exec (.configSave who value) s = execConfigSave who value s := rfl
@[simp] theorem exec_configSaveDone {ok s} : exec (.configSaveDone ok) s = execConfigSaveDone ok s := rfl
@[simp] theorem exec_configRestoreDefaults {who value s} : exec (.configRestoreDefaults who value) s = execConfigRestoreDefaults who value s := rfl
@[simp] theorem exec_localWindowBinding {who w value s} : exec (.localWindowBinding who w value) s = execLocalWindowBinding who w value s := rfl
@[simp] theorem exec_winControlCollision {w value s} : exec (.winControlCollision w value) s = execWinControlCollision w value s := rfl
@[simp] theorem exec_windowCompletion {w s} : exec (.windowCompletion w) s = execWindowCompletion w s := rfl
@[simp] theorem exec_registerWrite {page offset value s} : exec (.registerWrite page offset value) s = execRegisterWrite page offset value s := rfl
@[simp] theorem exec_shoreRefLost {s} : exec (.shoreRefLost) s = execShoreRefLost s := rfl
@[simp] theorem exec_shoreRefReturn {s} : exec (.shoreRefReturn) s = execShoreRefReturn s := rfl
@[simp] theorem exec_ptpMessageReceive {d port msg s} : exec (.ptpMessageReceive d port msg) s = execPtpMessageReceive d port msg s := rfl
@[simp] theorem exec_ptpSourceLost {d s} : exec (.ptpSourceLost d) s = execPtpSourceLost d s := rfl
@[simp] theorem exec_sourceSwitch {d s} : exec (.sourceSwitch d) s = execSourceSwitch d s := rfl
@[simp] theorem exec_holdoverLimitExceeded {d s} : exec (.holdoverLimitExceeded d) s = execHoldoverLimitExceeded d s := rfl
@[simp] theorem exec_ppsInEdge {s} : exec (.ppsInEdge) s = execPpsInEdge s := rfl
@[simp] theorem exec_irigFrame {frame marker s} : exec (.irigFrame frame marker) s = execIrigFrame frame marker s := rfl
@[simp] theorem exec_ppsInTimeout {s} : exec (.ppsInTimeout) s = execPpsInTimeout s := rfl
@[simp] theorem exec_leapSecond {d s} : exec (.leapSecond d) s = execLeapSecond d s := rfl
@[simp] theorem exec_stepApply {d s} : exec (.stepApply d) s = execStepApply d s := rfl
@[simp] theorem exec_domainSetTime {who d time s} : exec (.domainSetTime who d time) s = execDomainSetTime who d time s := rfl
@[simp] theorem exec_domainStep {who d amount s} : exec (.domainStep who d amount) s = execDomainStep who d amount s := rfl
@[simp] theorem exec_domainStepToReference {who d value s} : exec (.domainStepToReference who d value) s = execDomainStepToReference who d value s := rfl
@[simp] theorem exec_domainStepCancel {who d value s} : exec (.domainStepCancel who d value) s = execDomainStepCancel who d value s := rfl
@[simp] theorem exec_domainEnable {who d value s} : exec (.domainEnable who d value) s = execDomainEnable who d value s := rfl
@[simp] theorem exec_pairOffsetMeasure {d offset peerState peerTrim s} : exec (.pairOffsetMeasure d offset peerState peerTrim) s = execPairOffsetMeasure d offset peerState peerTrim s := rfl
@[simp] theorem exec_gtcLoRead {reader s} : exec (.gtcLoRead reader) s = execGtcLoRead reader s := rfl
@[simp] theorem exec_domSecLoRead {reader d s} : exec (.domSecLoRead reader d) s = execDomSecLoRead reader d s := rfl
@[simp] theorem exec_snapAllTrigger {reader s} : exec (.snapAllTrigger reader) s = execSnapAllTrigger reader s := rfl
@[simp] theorem exec_pgArm {who n s} : exec (.pgArm who n) s = execPgArm who n s := rfl
@[simp] theorem exec_pgDisarm {who n s} : exec (.pgDisarm who n) s = execPgDisarm who n s := rfl
@[simp] theorem exec_pgEdge {n s} : exec (.pgEdge n) s = execPgEdge n s := rfl
@[simp] theorem exec_pgPulseEnd {n s} : exec (.pgPulseEnd n) s = execPgPulseEnd n s := rfl
@[simp] theorem exec_ppsOutEdge {k s} : exec (.ppsOutEdge k) s = execPpsOutEdge k s := rfl
@[simp] theorem exec_ppsOutPulseEnd {k s} : exec (.ppsOutPulseEnd k) s = execPpsOutPulseEnd k s := rfl
@[simp] theorem exec_portEnable {who n value s} : exec (.portEnable who n value) s = execPortEnable who n value s := rfl
@[simp] theorem exec_portMode {who n value s} : exec (.portMode who n value) s = execPortMode who n value s := rfl
@[simp] theorem exec_portFec {who n value s} : exec (.portFec who n value) s = execPortFec who n value s := rfl
@[simp] theorem exec_linkUp {n since s} : exec (.linkUp n since) s = execLinkUp n since s := rfl
@[simp] theorem exec_linkFault {n remote s} : exec (.linkFault n remote) s = execLinkFault n remote s := rfl
@[simp] theorem exec_signalLossSleep {n since s} : exec (.signalLossSleep n since) s = execSignalLossSleep n since s := rfl
@[simp] theorem exec_signalDetect {n s} : exec (.signalDetect n) s = execSignalDetect n s := rfl
@[simp] theorem exec_trainingRestart {n s} : exec (.trainingRestart n) s = execTrainingRestart n s := rfl
@[simp] theorem exec_fecDegraded {n ratio s} : exec (.fecDegraded n ratio) s = execFecDegraded n ratio s := rfl
@[simp] theorem exec_portReset {who n s} : exec (.portReset who n) s = execPortReset who n s := rfl
@[simp] theorem exec_portResetForced {who n s} : exec (.portResetForced who n) s = execPortResetForced who n s := rfl
@[simp] theorem exec_frameReceive {n octets s} : exec (.frameReceive n octets) s = execFrameReceive n octets s := rfl
@[simp] theorem exec_frameTransmit {n s} : exec (.frameTransmit n) s = execFrameTransmit n s := rfl
@[simp] theorem exec_lpiEnter {n s} : exec (.lpiEnter n) s = execLpiEnter n s := rfl
@[simp] theorem exec_lpiWake {n s} : exec (.lpiWake n) s = execLpiWake n s := rfl
@[simp] theorem exec_downshiftRequest {n thermal s} : exec (.downshiftRequest n thermal) s = execDownshiftRequest n thermal s := rfl
@[simp] theorem exec_upshiftRequest {n s} : exec (.upshiftRequest n) s = execUpshiftRequest n s := rfl
@[simp] theorem exec_shiftRequest {n txn target source admitted s} : exec (.shiftRequest n txn target source admitted) s = execShiftRequest n txn target source admitted s := rfl
@[simp] theorem exec_shiftAccept {n txn s} : exec (.shiftAccept n txn) s = execShiftAccept n txn s := rfl
@[simp] theorem exec_shiftDecline {n txn cause s} : exec (.shiftDecline n txn cause) s = execShiftDecline n txn cause s := rfl
@[simp] theorem exec_shiftMarker {n txn aligned s} : exec (.shiftMarker n txn aligned) s = execShiftMarker n txn aligned s := rfl
@[simp] theorem exec_shiftTxResume {n s} : exec (.shiftTxResume n) s = execShiftTxResume n s := rfl
@[simp] theorem exec_shiftAlignFail {n s} : exec (.shiftAlignFail n) s = execShiftAlignFail n s := rfl
@[simp] theorem exec_portCounterSnapshot {who n value s} : exec (.portCounterSnapshot who n value) s = execPortCounterSnapshot who n value s := rfl
@[simp] theorem exec_allPortSnapshot {who value s} : exec (.allPortSnapshot who value) s = execAllPortSnapshot who value s := rfl
@[simp] theorem exec_portCounterClear {who n value s} : exec (.portCounterClear who n value) s = execPortCounterClear who n value s := rfl
@[simp] theorem exec_filterEntryWrite {who n slot value s} : exec (.filterEntryWrite who n slot value) s = execFilterEntryWrite who n slot value s := rfl
@[simp] theorem exec_octetPllLockLoss {k s} : exec (.octetPllLockLoss k) s = execOctetPllLockLoss k s := rfl
@[simp] theorem exec_octetPllStop {k s} : exec (.octetPllStop k) s = execOctetPllStop k s := rfl
@[simp] theorem exec_streamAdmit {who e value s} : exec (.streamAdmit who e value) s = execStreamAdmit who e value s := rfl
@[simp] theorem exec_admissionShiftWait {e s} : exec (.admissionShiftWait e) s = execAdmissionShiftWait e s := rfl
@[simp] theorem exec_streamWithdraw {who e value s} : exec (.streamWithdraw who e value) s = execStreamWithdraw who e value s := rfl
@[simp] theorem exec_learn {pipeline s} : exec (.learn pipeline) s = execLearn pipeline s := rfl
@[simp] theorem exec_skimmerSweep {s} : exec (.skimmerSweep) s = execSkimmerSweep s := rfl
@[simp] theorem exec_staticMacWrite {who slot value s} : exec (.staticMacWrite who slot value) s = execStaticMacWrite who slot value s := rfl
@[simp] theorem exec_soundingPass {s} : exec (.soundingPass) s = execSoundingPass s := rfl
@[simp] theorem exec_dropEvent {counter s} : exec (.dropEvent counter) s = execDropEvent counter s := rfl
@[simp] theorem exec_shaperRateWrite {who n q value s} : exec (.shaperRateWrite who n q value) s = execShaperRateWrite who n q value s := rfl
@[simp] theorem exec_redSupervisionSend {g s} : exec (.redSupervisionSend g) s = execRedSupervisionSend g s := rfl
@[simp] theorem exec_redNodeForget {g address s} : exec (.redNodeForget g address) s = execRedNodeForget g address s := rfl
@[simp] theorem exec_xosynHelloSend {n s} : exec (.xosynHelloSend n) s = execXosynHelloSend n s := rfl
@[simp] theorem exec_xosynHello {n serial fabricId address seen s} : exec (.xosynHello n serial fabricId address seen) s = execXosynHello n serial fabricId address seen s := rfl
@[simp] theorem exec_neighbourTimeout {n s} : exec (.neighbourTimeout n) s = execNeighbourTimeout n s := rfl
@[simp] theorem exec_delayReqSend {n s} : exec (.delayReqSend n) s = execDelayReqSend n s := rfl
@[simp] theorem exec_delayReq {n source seq s} : exec (.delayReq n source seq) s = execDelayReq n source seq s := rfl
@[simp] theorem exec_delayResp {n t2 residence seq s} : exec (.delayResp n t2 residence seq) s = execDelayResp n t2 residence seq s := rfl
@[simp] theorem exec_lsaOriginate {s} : exec (.lsaOriginate) s = execLsaOriginate s := rfl
@[simp] theorem exec_lsa {n head msg s} : exec (.lsa n head msg) s = execLsa n head msg s := rfl
@[simp] theorem exec_lsaAgeOut {serial s} : exec (.lsaAgeOut serial) s = execLsaAgeOut serial s := rfl
@[simp] theorem exec_addressDecide {s} : exec (.addressDecide) s = execAddressDecide s := rfl
@[simp] theorem exec_addressAssign {serial address cause s} : exec (.addressAssign serial address cause) s = execAddressAssign serial address cause s := rfl
@[simp] theorem exec_routeCompute {s} : exec (.routeCompute) s = execRouteCompute s := rfl
@[simp] theorem exec_flowEnable {who f value s} : exec (.flowEnable who f value) s = execFlowEnable who f value s := rfl
@[simp] theorem exec_flowDisable {who f value s} : exec (.flowDisable who f value) s = execFlowDisable who f value s := rfl
@[simp] theorem exec_flowSetup {n head msg s} : exec (.flowSetup n head msg) s = execFlowSetup n head msg s := rfl
@[simp] theorem exec_flowAck {n head msg s} : exec (.flowAck n head msg) s = execFlowAck n head msg s := rfl
@[simp] theorem exec_flowRefuse {n head msg s} : exec (.flowRefuse n head msg) s = execFlowRefuse n head msg s := rfl
@[simp] theorem exec_flowRelease {n head msg s} : exec (.flowRelease n head msg) s = execFlowRelease n head msg s := rfl
@[simp] theorem exec_flowSetupTimeout {f pathB s} : exec (.flowSetupTimeout f pathB) s = execFlowSetupTimeout f pathB s := rfl
@[simp] theorem exec_flowData {n head carried s} : exec (.flowData n head carried) s = execFlowData n head carried s := rfl
@[simp] theorem exec_timeSend {d s} : exec (.timeSend d) s = execTimeSend d s := rfl
@[simp] theorem exec_time {source d offer pathDelay valid s} : exec (.time source d offer pathDelay valid) s = execTime source d offer pathDelay valid s := rfl
@[simp] theorem exec_fabricSourceLost {d address s} : exec (.fabricSourceLost d address) s = execFabricSourceLost d address s := rfl
@[simp] theorem exec_pondReportSend {s} : exec (.pondReportSend) s = execPondReportSend s := rfl
@[simp] theorem exec_pondReport {source msg s} : exec (.pondReport source msg) s = execPondReport source msg s := rfl
@[simp] theorem exec_memberStale {address s} : exec (.memberStale address) s = execMemberStale address s := rfl
@[simp] theorem exec_datagram {n head payload s} : exec (.datagram n head payload) s = execDatagram n head payload s := rfl
@[simp] theorem exec_sinkEntryWrite {who k value s} : exec (.sinkEntryWrite who k value) s = execSinkEntryWrite who k value s := rfl
@[simp] theorem exec_sinkPathSilent {k pathB s} : exec (.sinkPathSilent k pathB) s = execSinkPathSilent k pathB s := rfl
@[simp] theorem exec_intakeFrame {s} : exec (.intakeFrame) s = execIntakeFrame s := rfl
@[simp] theorem exec_horizonClose {e s} : exec (.horizonClose e) s = execHorizonClose e s := rfl
@[simp] theorem exec_intakeEnable {who e value s} : exec (.intakeEnable who e value) s = execIntakeEnable who e value s := rfl
@[simp] theorem exec_intakeKeySlots {who e value s} : exec (.intakeKeySlots who e value) s = execIntakeKeySlots who e value s := rfl
@[simp] theorem exec_streamSilent {e s} : exec (.streamSilent e) s = execStreamSilent e s := rfl
@[simp] theorem exec_filterOutput {c s} : exec (.filterOutput c) s = execFilterOutput c s := rfl
@[simp] theorem exec_phasorOutput {p s} : exec (.phasorOutput p) s = execPhasorOutput p s := rfl
@[simp] theorem exec_filterInput {who c value s} : exec (.filterInput who c value) s = execFilterInput who c value s := rfl
@[simp] theorem exec_filterEnable {who c value s} : exec (.filterEnable who c value) s = execFilterEnable who c value s := rfl
@[simp] theorem exec_filterScale {who c value s} : exec (.filterScale who c value) s = execFilterScale who c value s := rfl
@[simp] theorem exec_firSetWrite {who k value s} : exec (.firSetWrite who k value) s = execFirSetWrite who k value s := rfl
@[simp] theorem exec_phasorEnable {who p value s} : exec (.phasorEnable who p value) s = execPhasorEnable who p value s := rfl
@[simp] theorem exec_trackerEnable {who t value s} : exec (.trackerEnable who t value) s = execTrackerEnable who t value s := rfl
@[simp] theorem exec_chainEccError {corrected fir n s} : exec (.chainEccError corrected fir n) s = execChainEccError corrected fir n s := rfl
@[simp] theorem exec_chainScrubPass {micros s} : exec (.chainScrubPass micros) s = execChainScrubPass micros s := rfl
@[simp] theorem exec_unitArm {who u s} : exec (.unitArm who u) s = execUnitArm who u s := rfl
@[simp] theorem exec_unitDisarm {who u s} : exec (.unitDisarm who u) s = execUnitDisarm who u s := rfl
@[simp] theorem exec_unitDisarmAfterFreeze {who u s} : exec (.unitDisarmAfterFreeze who u) s = execUnitDisarmAfterFreeze who u s := rfl
@[simp] theorem exec_triggerDecide {u s} : exec (.triggerDecide u) s = execTriggerDecide u s := rfl
@[simp] theorem exec_unitSoftTrigger {who u value s} : exec (.unitSoftTrigger who u value) s = execUnitSoftTrigger who u value s := rfl
@[simp] theorem exec_recordFreeze {u s} : exec (.recordFreeze u) s = execRecordFreeze u s := rfl
@[simp] theorem exec_recordLock {who u slot s} : exec (.recordLock who u slot) s = execRecordLock who u slot s := rfl
@[simp] theorem exec_recordUnlock {who u slot s} : exec (.recordUnlock who u slot) s = execRecordUnlock who u slot s := rfl
@[simp] theorem exec_recordRelease {who u slot s} : exec (.recordRelease who u slot) s = execRecordRelease who u slot s := rfl
@[simp] theorem exec_rippleEdge {line asserted s} : exec (.rippleEdge line asserted) s = execRippleEdge line asserted s := rfl
@[simp] theorem exec_rippleRelease {line s} : exec (.rippleRelease line) s = execRippleRelease line s := rfl
@[simp] theorem exec_rippleStuck {line s} : exec (.rippleStuck line) s = execRippleStuck line s := rfl
@[simp] theorem exec_trigger {n head msg s} : exec (.trigger n head msg) s = execTrigger n head msg s := rfl
@[simp] theorem exec_exportRequest {who value s} : exec (.exportRequest who value) s = execExportRequest who value s := rfl
@[simp] theorem exec_exportDone {failed s} : exec (.exportDone failed) s = execExportDone failed s := rfl
@[simp] theorem exec_acqEccError {corrected u slot s} : exec (.acqEccError corrected u slot) s = execAcqEccError corrected u slot s := rfl
@[simp] theorem exec_lockstepMismatch {p s} : exec (.lockstepMismatch p) s = execLockstepMismatch p s := rfl
@[simp] theorem exec_spRecover {who p value s} : exec (.spRecover who p value) s = execSpRecover who p value s := rfl
@[simp] theorem exec_spSelfTestDone {p pass s} : exec (.spSelfTestDone p pass) s = execSpSelfTestDone p pass s := rfl
@[simp] theorem exec_spEccError {p corrected code inst s} : exec (.spEccError p corrected code inst) s = execSpEccError p corrected code inst s := rfl
@[simp] theorem exec_spScrubPass {p micros s} : exec (.spScrubPass p micros) s = execSpScrubPass p micros s := rfl
@[simp] theorem exec_programLoad {who inst address s} : exec (.programLoad who inst address) s = execProgramLoad who inst address s := rfl
@[simp] theorem exec_programLoadDone {inst s} : exec (.programLoadDone inst) s = execProgramLoadDone inst s := rfl
@[simp] theorem exec_coldStart {who inst s} : exec (.coldStart who inst) s = execColdStart who inst s := rfl
@[simp] theorem exec_warmStart {who inst s} : exec (.warmStart who inst) s = execWarmStart who inst s := rfl
@[simp] theorem exec_stopCmd {who inst s} : exec (.stopCmd who inst) s = execStopCmd who inst s := rfl
@[simp] theorem exec_imageFreeze {inst s} : exec (.imageFreeze inst) s = execImageFreeze inst s := rfl
@[simp] theorem exec_overrun {inst s} : exec (.overrun inst) s = execOverrun inst s := rfl
@[simp] theorem exec_scanBoundary {inst s} : exec (.scanBoundary inst) s = execScanBoundary inst s := rfl
@[simp] theorem exec_autoRestart {inst s} : exec (.autoRestart inst) s = execAutoRestart inst s := rfl
@[simp] theorem exec_ferrySwitch {who inst scan s} : exec (.ferrySwitch who inst scan) s = execFerrySwitch who inst scan s := rfl
@[simp] theorem exec_ferryCancel {who inst value s} : exec (.ferryCancel who inst value) s = execFerryCancel who inst value s := rfl
@[simp] theorem exec_addi {inst d a imm s} : exec (.addi inst d a imm) s = execAddi inst d a imm s := rfl
@[simp] theorem exec_andi {inst d a imm s} : exec (.andi inst d a imm) s = execAndi inst d a imm s := rfl
@[simp] theorem exec_ori {inst d a imm s} : exec (.ori inst d a imm) s = execOri inst d a imm s := rfl
@[simp] theorem exec_xori {inst d a imm s} : exec (.xori inst d a imm) s = execXori inst d a imm s := rfl
@[simp] theorem exec_shiSll {inst d a amount s} : exec (.shiSll inst d a amount) s = execShiSll inst d a amount s := rfl
@[simp] theorem exec_shiSrl {inst d a amount s} : exec (.shiSrl inst d a amount) s = execShiSrl inst d a amount s := rfl
@[simp] theorem exec_shiSra {inst d a amount s} : exec (.shiSra inst d a amount) s = execShiSra inst d a amount s := rfl
@[simp] theorem exec_cmpi {inst a imm s} : exec (.cmpi inst a imm) s = execCmpi inst a imm s := rfl
@[simp] theorem exec_movi {inst d imm s} : exec (.movi inst d imm) s = execMovi inst d imm s := rfl
@[simp] theorem exec_cati {inst d a imm s} : exec (.cati inst d a imm) s = execCati inst d a imm s := rfl
@[simp] theorem exec_ldb {inst d a imm s} : exec (.ldb inst d a imm) s = execLdb inst d a imm s := rfl
@[simp] theorem exec_ldbu {inst d a imm s} : exec (.ldbu inst d a imm) s = execLdbu inst d a imm s := rfl
@[simp] theorem exec_ldh {inst d a imm s} : exec (.ldh inst d a imm) s = execLdh inst d a imm s := rfl
@[simp] theorem exec_ldhu {inst d a imm s} : exec (.ldhu inst d a imm) s = execLdhu inst d a imm s := rfl
@[simp] theorem exec_ldw {inst d a imm s} : exec (.ldw inst d a imm) s = execLdw inst d a imm s := rfl
@[simp] theorem exec_ldwu {inst d a imm s} : exec (.ldwu inst d a imm) s = execLdwu inst d a imm s := rfl
@[simp] theorem exec_ldd {inst d a imm s} : exec (.ldd inst d a imm) s = execLdd inst d a imm s := rfl
@[simp] theorem exec_fldw {inst d a imm s} : exec (.fldw inst d a imm) s = execFldw inst d a imm s := rfl
@[simp] theorem exec_stb {inst d a imm s} : exec (.stb inst d a imm) s = execStb inst d a imm s := rfl
@[simp] theorem exec_sth {inst d a imm s} : exec (.sth inst d a imm) s = execSth inst d a imm s := rfl
@[simp] theorem exec_stw {inst d a imm s} : exec (.stw inst d a imm) s = execStw inst d a imm s := rfl
@[simp] theorem exec_std {inst d a imm s} : exec (.std inst d a imm) s = execStd inst d a imm s := rfl
@[simp] theorem exec_fstw {inst d a imm s} : exec (.fstw inst d a imm) s = execFstw inst d a imm s := rfl
@[simp] theorem exec_bCmd {inst cond offset s} : exec (.bCmd inst cond offset) s = execBCmd inst cond offset s := rfl
@[simp] theorem exec_bl {inst offset s} : exec (.bl inst offset) s = execBl inst offset s := rfl
@[simp] theorem exec_jr {inst d a s} : exec (.jr inst d a) s = execJr inst d a s := rfl
@[simp] theorem exec_bz {inst a offset s} : exec (.bz inst a offset) s = execBz inst a offset s := rfl
@[simp] theorem exec_bnz {inst a offset s} : exec (.bnz inst a offset) s = execBnz inst a offset s := rfl
@[simp] theorem exec_add {inst d a b s} : exec (.add inst d a b) s = execAdd inst d a b s := rfl
@[simp] theorem exec_sub {inst d a b s} : exec (.sub inst d a b) s = execSub inst d a b s := rfl
@[simp] theorem exec_adds {inst d a b s} : exec (.adds inst d a b) s = execAdds inst d a b s := rfl
@[simp] theorem exec_subs {inst d a b s} : exec (.subs inst d a b) s = execSubs inst d a b s := rfl
@[simp] theorem exec_neg {inst d a s} : exec (.neg inst d a) s = execNeg inst d a s := rfl
@[simp] theorem exec_negs {inst d a s} : exec (.negs inst d a) s = execNegs inst d a s := rfl
@[simp] theorem exec_abs {inst d a s} : exec (.abs inst d a) s = execAbs inst d a s := rfl
@[simp] theorem exec_abss {inst d a s} : exec (.abss inst d a) s = execAbss inst d a s := rfl
@[simp] theorem exec_cmp {inst a b s} : exec (.cmp inst a b) s = execCmp inst a b s := rfl
@[simp] theorem exec_mul {inst d a b s} : exec (.mul inst d a b) s = execMul inst d a b s := rfl
@[simp] theorem exec_muls {inst d a b s} : exec (.muls inst d a b) s = execMuls inst d a b s := rfl
@[simp] theorem exec_mulh {inst d a b s} : exec (.mulh inst d a b) s = execMulh inst d a b s := rfl
@[simp] theorem exec_mulhu {inst d a b s} : exec (.mulhu inst d a b) s = execMulhu inst d a b s := rfl
@[simp] theorem exec_div {inst d a b s} : exec (.div inst d a b) s = execDiv inst d a b s := rfl
@[simp] theorem exec_divu {inst d a b s} : exec (.divu inst d a b) s = execDivu inst d a b s := rfl
@[simp] theorem exec_rem {inst d a b s} : exec (.rem inst d a b) s = execRem inst d a b s := rfl
@[simp] theorem exec_remu {inst d a b s} : exec (.remu inst d a b) s = execRemu inst d a b s := rfl
@[simp] theorem exec_andCmd {inst d a b s} : exec (.andCmd inst d a b) s = execAndCmd inst d a b s := rfl
@[simp] theorem exec_orCmd {inst d a b s} : exec (.orCmd inst d a b) s = execOrCmd inst d a b s := rfl
@[simp] theorem exec_xor {inst d a b s} : exec (.xor inst d a b) s = execXor inst d a b s := rfl
@[simp] theorem exec_andn {inst d a b s} : exec (.andn inst d a b) s = execAndn inst d a b s := rfl
@[simp] theorem exec_notCmd {inst d a s} : exec (.notCmd inst d a) s = execNotCmd inst d a s := rfl
@[simp] theorem exec_sll {inst d a b s} : exec (.sll inst d a b) s = execSll inst d a b s := rfl
@[simp] theorem exec_srl {inst d a b s} : exec (.srl inst d a b) s = execSrl inst d a b s := rfl
@[simp] theorem exec_sra {inst d a b s} : exec (.sra inst d a b) s = execSra inst d a b s := rfl
@[simp] theorem exec_minCmd {inst d a b s} : exec (.minCmd inst d a b) s = execMinCmd inst d a b s := rfl
@[simp] theorem exec_maxCmd {inst d a b s} : exec (.maxCmd inst d a b) s = execMaxCmd inst d a b s := rfl
@[simp] theorem exec_minu {inst d a b s} : exec (.minu inst d a b) s = execMinu inst d a b s := rfl
@[simp] theorem exec_maxu {inst d a b s} : exec (.maxu inst d a b) s = execMaxu inst d a b s := rfl
@[simp] theorem exec_sext8 {inst d a s} : exec (.sext8 inst d a) s = execSext8 inst d a s := rfl
@[simp] theorem exec_sext16 {inst d a s} : exec (.sext16 inst d a) s = execSext16 inst d a s := rfl
@[simp] theorem exec_sext32 {inst d a s} : exec (.sext32 inst d a) s = execSext32 inst d a s := rfl
@[simp] theorem exec_zext8 {inst d a s} : exec (.zext8 inst d a) s = execZext8 inst d a s := rfl
@[simp] theorem exec_zext16 {inst d a s} : exec (.zext16 inst d a) s = execZext16 inst d a s := rfl
@[simp] theorem exec_zext32 {inst d a s} : exec (.zext32 inst d a) s = execZext32 inst d a s := rfl
@[simp] theorem exec_sat16 {inst d a s} : exec (.sat16 inst d a) s = execSat16 inst d a s := rfl
@[simp] theorem exec_sat32 {inst d a s} : exec (.sat32 inst d a) s = execSat32 inst d a s := rfl
@[simp] theorem exec_clz {inst d a s} : exec (.clz inst d a) s = execClz inst d a s := rfl
@[simp] theorem exec_sel {inst cond d a b s} : exec (.sel inst cond d a b) s = execSel inst cond d a b s := rfl
@[simp] theorem exec_fadd {inst d a b s} : exec (.fadd inst d a b) s = execFadd inst d a b s := rfl
@[simp] theorem exec_fsub {inst d a b s} : exec (.fsub inst d a b) s = execFsub inst d a b s := rfl
@[simp] theorem exec_fmul {inst d a b s} : exec (.fmul inst d a b) s = execFmul inst d a b s := rfl
@[simp] theorem exec_fdiv {inst d a b s} : exec (.fdiv inst d a b) s = execFdiv inst d a b s := rfl
@[simp] theorem exec_fsqrt {inst d a s} : exec (.fsqrt inst d a) s = execFsqrt inst d a s := rfl
@[simp] theorem exec_fmin {inst d a b s} : exec (.fmin inst d a b) s = execFmin inst d a b s := rfl
@[simp] theorem exec_fmax {inst d a b s} : exec (.fmax inst d a b) s = execFmax inst d a b s := rfl
@[simp] theorem exec_fabs {inst d a s} : exec (.fabs inst d a) s = execFabs inst d a s := rfl
@[simp] theorem exec_fneg {inst d a s} : exec (.fneg inst d a) s = execFneg inst d a s := rfl
@[simp] theorem exec_fmov {inst d a s} : exec (.fmov inst d a) s = execFmov inst d a s := rfl
@[simp] theorem exec_feq {inst d a b s} : exec (.feq inst d a b) s = execFeq inst d a b s := rfl
@[simp] theorem exec_flt {inst d a b s} : exec (.flt inst d a b) s = execFlt inst d a b s := rfl
@[simp] theorem exec_fle {inst d a b s} : exec (.fle inst d a b) s = execFle inst d a b s := rfl
@[simp] theorem exec_fclass {inst d a s} : exec (.fclass inst d a) s = execFclass inst d a s := rfl
@[simp] theorem exec_fcvtfl {inst d a s} : exec (.fcvtfl inst d a) s = execFcvtfl inst d a s := rfl
@[simp] theorem exec_fcvtflu {inst d a s} : exec (.fcvtflu inst d a) s = execFcvtflu inst d a s := rfl
@[simp] theorem exec_fcvtlf {inst d a s} : exec (.fcvtlf inst d a) s = execFcvtlf inst d a s := rfl
@[simp] theorem exec_fcvtlfz {inst d a s} : exec (.fcvtlfz inst d a) s = execFcvtlfz inst d a s := rfl
@[simp] theorem exec_fmvgf {inst d a s} : exec (.fmvgf inst d a) s = execFmvgf inst d a s := rfl
@[simp] theorem exec_fmvfg {inst d a s} : exec (.fmvfg inst d a) s = execFmvfg inst d a s := rfl
@[simp] theorem exec_frndn {inst d a s} : exec (.frndn inst d a) s = execFrndn inst d a s := rfl
@[simp] theorem exec_frndz {inst d a s} : exec (.frndz inst d a) s = execFrndz inst d a s := rfl
@[simp] theorem exec_frndm {inst d a s} : exec (.frndm inst d a) s = execFrndm inst d a s := rfl
@[simp] theorem exec_frndp {inst d a s} : exec (.frndp inst d a) s = execFrndp inst d a s := rfl
@[simp] theorem exec_fmadd {inst d a b c s} : exec (.fmadd inst d a b c) s = execFmadd inst d a b c s := rfl
@[simp] theorem exec_fmsub {inst d a b c s} : exec (.fmsub inst d a b c) s = execFmsub inst d a b c s := rfl
@[simp] theorem exec_fnmsub {inst d a b c s} : exec (.fnmsub inst d a b c) s = execFnmsub inst d a b c s := rfl
@[simp] theorem exec_fnmadd {inst d a b c s} : exec (.fnmadd inst d a b c) s = execFnmadd inst d a b c s := rfl
@[simp] theorem exec_cadd {inst d a b s} : exec (.cadd inst d a b) s = execCadd inst d a b s := rfl
@[simp] theorem exec_csub {inst d a b s} : exec (.csub inst d a b) s = execCsub inst d a b s := rfl
@[simp] theorem exec_cmul {inst d a b s} : exec (.cmul inst d a b) s = execCmul inst d a b s := rfl
@[simp] theorem exec_cmulc {inst d a b s} : exec (.cmulc inst d a b) s = execCmulc inst d a b s := rfl
@[simp] theorem exec_cscl {inst d a b s} : exec (.cscl inst d a b) s = execCscl inst d a b s := rfl
@[simp] theorem exec_cabs {inst d a s} : exec (.cabs inst d a) s = execCabs inst d a s := rfl
@[simp] theorem exec_carg {inst d a s} : exec (.carg inst d a) s = execCarg inst d a s := rfl
@[simp] theorem exec_crot {inst d a b s} : exec (.crot inst d a b) s = execCrot inst d a b s := rfl
@[simp] theorem exec_cpol {inst d a b s} : exec (.cpol inst d a b) s = execCpol inst d a b s := rfl
@[simp] theorem exec_ient {inst d a s} : exec (.ient inst d a) s = execIent inst d a s := rfl
@[simp] theorem exec_ielt {inst d a b s} : exec (.ielt inst d a b) s = execIelt inst d a b s := rfl
@[simp] theorem exec_iqual {inst d a b s} : exec (.iqual inst d a b) s = execIqual inst d a b s := rfl
@[simp] theorem exec_qcls {inst d a selector s} : exec (.qcls inst d a selector) s = execQcls inst d a selector s := rfl
@[simp] theorem exec_tdiff {inst d a b s} : exec (.tdiff inst d a b) s = execTdiff inst d a b s := rfl
@[simp] theorem exec_tadd {inst d a b s} : exec (.tadd inst d a b) s = execTadd inst d a b s := rfl
@[simp] theorem exec_nop {inst s} : exec (.nop inst) s = execNop inst s := rfl
@[simp] theorem exec_endscan {inst s} : exec (.endscan inst) s = execEndscan inst s := rfl
@[simp] theorem exec_rdsr {inst d sr s} : exec (.rdsr inst d sr) s = execRdsr inst d sr s := rfl
@[simp] theorem exec_wrsr {inst a sr s} : exec (.wrsr inst a sr) s = execWrsr inst a sr s := rfl
@[simp] theorem exec_clrf {inst s} : exec (.clrf inst) s = execClrf inst s := rfl
@[simp] theorem exec_abort {inst s} : exec (.abort inst) s = execAbort inst s := rfl
@[simp] theorem exec_illegalInstruction {inst s} : exec (.illegalInstruction inst) s = execIllegalInstruction inst s := rfl
@[simp] theorem exec_retainedStoreWait {inst s} : exec (.retainedStoreWait inst) s = execRetainedStoreWait inst s := rfl
@[simp] theorem exec_pairEnable {who value s} : exec (.pairEnable who value) s = execPairEnable who value s := rfl
@[simp] theorem exec_pairHelloSend {s} : exec (.pairHelloSend) s = execPairHelloSend s := rfl
@[simp] theorem exec_pairHello {port seq serial pairId role beat dom s} : exec (.pairHello port seq serial pairId role beat dom) s = execPairHello port seq serial pairId role beat dom s := rfl
@[simp] theorem exec_pairIsolated {s} : exec (.pairIsolated) s = execPairIsolated s := rfl
@[simp] theorem exec_beat {c0 c1 s} : exec (.beat c0 c1) s = execBeat c0 c1 s := rfl
@[simp] theorem exec_beatReceive {port seq msg s} : exec (.beatReceive port seq msg) s = execBeatReceive port seq msg s := rfl
@[simp] theorem exec_digestSend {s} : exec (.digestSend) s = execDigestSend s := rfl
@[simp] theorem exec_digest {port seq records s} : exec (.digest port seq records) s = execDigest port seq records s := rfl
@[simp] theorem exec_digestCompare {inst s} : exec (.digestCompare inst) s = execDigestCompare inst s := rfl
@[simp] theorem exec_statusSend {s} : exec (.statusSend) s = execStatusSend s := rfl
@[simp] theorem exec_status {port seq msg s} : exec (.status port seq msg) s = execStatus port seq msg s := rfl
@[simp] theorem exec_leaseExpiry {s} : exec (.leaseExpiry) s = execLeaseExpiry s := rfl
@[simp] theorem exec_claim {claimIn s} : exec (.claim claimIn) s = execClaim claimIn s := rfl
@[simp] theorem exec_claimSample {claimIn s} : exec (.claimSample claimIn) s = execClaimSample claimIn s := rfl
@[simp] theorem exec_claimInAsserted {s} : exec (.claimInAsserted) s = execClaimInAsserted s := rfl
@[simp] theorem exec_claimLineFault {since s} : exec (.claimLineFault since) s = execClaimLineFault since s := rfl
@[simp] theorem exec_releaseCause {s} : exec (.releaseCause) s = execReleaseCause s := rfl
@[simp] theorem exec_release {port seq instant cause s} : exec (.release port seq instant cause) s = execRelease port seq instant cause s := rfl
@[simp] theorem exec_offer {port seq instant cause s} : exec (.offer port seq instant cause) s = execOffer port seq instant cause s := rfl
@[simp] theorem exec_accept {port seq instant cause s} : exec (.accept port seq instant cause) s = execAccept port seq instant cause s := rfl
@[simp] theorem exec_refuse {port seq instant cause s} : exec (.refuse port seq instant cause) s = execRefuse port seq instant cause s := rfl
@[simp] theorem exec_takeRequest {port seq instant cause s} : exec (.takeRequest port seq instant cause) s = execTakeRequest port seq instant cause s := rfl
@[simp] theorem exec_takeBack {s} : exec (.takeBack) s = execTakeBack s := rfl
@[simp] theorem exec_handoverInstant {s} : exec (.handoverInstant) s = execHandoverInstant s := rfl
@[simp] theorem exec_paddleHandOver {who s} : exec (.paddleHandOver who) s = execPaddleHandOver who s := rfl
@[simp] theorem exec_paddleTake {who s} : exec (.paddleTake who) s = execPaddleTake who s := rfl
@[simp] theorem exec_clearSuspect {who s} : exec (.clearSuspect who) s = execClearSuspect who s := rfl
@[simp] theorem exec_clearRevertSuspended {who s} : exec (.clearRevertSuspended who) s = execClearRevertSuspended who s := rfl
@[simp] theorem exec_pairJoin {who inst s} : exec (.pairJoin who inst) s = execPairJoin who inst s := rfl
@[simp] theorem exec_resyncData {port seq msg s} : exec (.resyncData port seq msg) s = execResyncData port seq msg s := rfl
@[simp] theorem exec_resyncAbandon {inst s} : exec (.resyncAbandon inst) s = execResyncAbandon inst s := rfl
@[simp] theorem exec_ferryPropose {port seq inst scan tag s} : exec (.ferryPropose port seq inst scan tag) s = execFerryPropose port seq inst scan tag s := rfl
@[simp] theorem exec_ferryAccept {port seq inst scan tag s} : exec (.ferryAccept port seq inst scan tag) s = execFerryAccept port seq inst scan tag s := rfl
@[simp] theorem exec_ferryCancelMessage {port seq inst scan tag s} : exec (.ferryCancelMessage port seq inst scan tag) s = execFerryCancelMessage port seq inst scan tag s := rfl
@[simp] theorem exec_startPropose {port seq inst mode scan tag s} : exec (.startPropose port seq inst mode scan tag) s = execStartPropose port seq inst mode scan tag s := rfl
@[simp] theorem exec_startAccept {port seq inst mode scan tag s} : exec (.startAccept port seq inst mode scan tag) s = execStartAccept port seq inst mode scan tag s := rfl
@[simp] theorem exec_selfTestFail {test s} : exec (.selfTestFail test) s = execSelfTestFail test s := rfl
@[simp] theorem exec_fioEntryExecute {pin s} : exec (.fioEntryExecute pin) s = execFioEntryExecute pin s := rfl
@[simp] theorem exec_heldEntryDiscard {pin s} : exec (.heldEntryDiscard pin) s = execHeldEntryDiscard pin s := rfl
@[simp] theorem exec_fqSubmit {inst s} : exec (.fqSubmit inst) s = execFqSubmit inst s := rfl
@[simp] theorem exec_fqSubmitCollision {inst s} : exec (.fqSubmitCollision inst) s = execFqSubmitCollision inst s := rfl
@[simp] theorem exec_fioInputEdge {pin high sample s} : exec (.fioInputEdge pin high sample) s = execFioInputEdge pin high sample s := rfl
@[simp] theorem exec_chatterClear {pin s} : exec (.chatterClear pin) s = execChatterClear pin s := rfl
@[simp] theorem exec_readbackFault {pin differs s} : exec (.readbackFault pin differs) s = execReadbackFault pin differs s := rfl
@[simp] theorem exec_fioClassWrite {who pin polarity value s} : exec (.fioClassWrite who pin polarity value) s = execFioClassWrite who pin polarity value s := rfl
@[simp] theorem exec_lsConversion {samples s} : exec (.lsConversion samples) s = execLsConversion samples s := rfl
@[simp] theorem exec_lsCalibrateZero {who m s} : exec (.lsCalibrateZero who m) s = execLsCalibrateZero who m s := rfl
@[simp] theorem exec_lsCalibrateSpan {who m s} : exec (.lsCalibrateSpan who m) s = execLsCalibrateSpan who m s := rfl
@[simp] theorem exec_lsCalibrationDone {m s} : exec (.lsCalibrationDone m) s = execLsCalibrationDone m s := rfl
@[simp] theorem exec_tcsDelayExpiry {m s} : exec (.tcsDelayExpiry m) s = execTcsDelayExpiry m s := rfl
@[simp] theorem exec_instanceCreate {who value s} : exec (.instanceCreate who value) s = execInstanceCreate who value s := rfl
@[simp] theorem exec_instanceDelete {who value s} : exec (.instanceDelete who value) s = execInstanceDelete who value s := rfl
@[simp] theorem exec_vfInstance {who n value s} : exec (.vfInstance who n value) s = execVfInstance who n value s := rfl
@[simp] theorem exec_functionLevelReset {fn s} : exec (.functionLevelReset fn) s = execFunctionLevelReset fn s := rfl
@[simp] theorem exec_ringProd {inst ring value s} : exec (.ringProd inst ring value) s = execRingProd inst ring value s := rfl
@[simp] theorem exec_ringCons {inst ring value s} : exec (.ringCons inst ring value) s = execRingCons inst ring value s := rfl
@[simp] theorem exec_ringCommand {inst ring value s} : exec (.ringCommand inst ring value) s = execRingCommand inst ring value s := rfl
@[simp] theorem exec_ringStatusKnock {inst ring value s} : exec (.ringStatusKnock inst ring value) s = execRingStatusKnock inst ring value s := rfl
@[simp] theorem exec_ringConfig {who inst ring value s} : exec (.ringConfig who inst ring value) s = execRingConfig who inst ring value s := rfl
@[simp] theorem exec_txPacketSend {inst ring dma s} : exec (.txPacketSend inst ring dma) s = execTxPacketSend inst ring dma s := rfl
@[simp] theorem exec_resetDrain {who inst s} : exec (.resetDrain who inst) s = execResetDrain who inst s := rfl
@[simp] theorem exec_resetSquash {who inst s} : exec (.resetSquash who inst) s = execResetSquash who inst s := rfl
@[simp] theorem exec_resetComplete {inst s} : exec (.resetComplete inst) s = execResetComplete inst s := rfl
@[simp] theorem exec_drainLimitExpiry {inst s} : exec (.drainLimitExpiry inst) s = execDrainLimitExpiry inst s := rfl
@[simp] theorem exec_hbmBindHost {who inst count first s} : exec (.hbmBindHost who inst count first) s = execHbmBindHost who inst count first s := rfl
@[simp] theorem exec_hbmBindManager {who count first s} : exec (.hbmBindManager who count first) s = execHbmBindManager who count first s := rfl
@[simp] theorem exec_hbmUnbind {who count first s} : exec (.hbmUnbind who count first) s = execHbmUnbind who count first s := rfl
@[simp] theorem exec_hbmRetire {who count first s} : exec (.hbmRetire who count first) s = execHbmRetire who count first s := rfl
@[simp] theorem exec_protectionViolation {core virt write addr s} : exec (.protectionViolation core virt write addr) s = execProtectionViolation core virt write addr s := rfl
@[simp] theorem exec_dmaViolation {inst ring addr data s} : exec (.dmaViolation inst ring addr data) s = execDmaViolation inst ring addr data s := rfl
@[simp] theorem exec_readShared {core line s} : exec (.readShared core line) s = execReadShared core line s := rfl
@[simp] theorem exec_readUnique {core line store s} : exec (.readUnique core line store) s = execReadUnique core line store s := rfl
@[simp] theorem exec_upgrade {core line store s} : exec (.upgrade core line store) s = execUpgrade core line store s := rfl
@[simp] theorem exec_writeback {core line arrived s} : exec (.writeback core line arrived) s = execWriteback core line arrived s := rfl
@[simp] theorem exec_cleanEvict {core line arrived s} : exec (.cleanEvict core line arrived) s = execCleanEvict core line arrived s := rfl
@[simp] theorem exec_ioRead {line s} : exec (.ioRead line) s = execIoRead line s := rfl
@[simp] theorem exec_ioWrite {line offset data s} : exec (.ioWrite line offset data) s = execIoWrite line offset data s := rfl
@[simp] theorem exec_snoop {core line s} : exec (.snoop core line) s = execSnoop core line s := rfl
@[simp] theorem exec_hbmEccError {addr l3 s} : exec (.hbmEccError addr l3) s = execHbmEccError addr l3 s := rfl
@[simp] theorem exec_hbmEccCorrected {addr l3 checkBit s} : exec (.hbmEccCorrected addr l3 checkBit) s = execHbmEccCorrected addr l3 checkBit s := rfl
@[simp] theorem exec_directoryEccError {line s} : exec (.directoryEccError line) s = execDirectoryEccError line s := rfl
@[simp] theorem exec_hbmScrubPass {micros s} : exec (.hbmScrubPass micros) s = execHbmScrubPass micros s := rfl
@[simp] theorem exec_l3ScrubPass {die micros s} : exec (.l3ScrubPass die micros) s = execL3ScrubPass die micros s := rfl
@[simp] theorem exec_eventRaiseInDie {die source code kind num detail s} : exec (.eventRaiseInDie die source code kind num detail) s = execEventRaiseInDie die source code kind num detail s := rfl
@[simp] theorem exec_eventRelease {markN markC0 markC1 markS s} : exec (.eventRelease markN markC0 markC1 markS) s = execEventRelease markN markC0 markC1 markS s := rfl
@[simp] theorem exec_dieSilent {die mark s} : exec (.dieSilent die mark) s = execDieSilent die mark s := rfl
@[simp] theorem exec_dieReadmit {die mark s} : exec (.dieReadmit die mark) s = execDieReadmit die mark s := rfl
@[simp] theorem exec_eqCoalesceTimeout {q s} : exec (.eqCoalesceTimeout q) s = execEqCoalesceTimeout q s := rfl
@[simp] theorem exec_eqKick {q s} : exec (.eqKick q) s = execEqKick q s := rfl
@[simp] theorem exec_eqConfig {who q value s} : exec (.eqConfig who q value) s = execEqConfig who q value s := rfl
@[simp] theorem exec_evtPinPulseEnd {k s} : exec (.evtPinPulseEnd k) s = execEvtPinPulseEnd k s := rfl
@[simp] theorem exec_evtPinAck {who k value s} : exec (.evtPinAck who k value) s = execEvtPinAck who k value s := rfl
@[simp] theorem exec_eventRaise {who value s} : exec (.eventRaise who value) s = execEventRaise who value s := rfl
@[simp] theorem exec_recorderWrite {s} : exec (.recorderWrite) s = execRecorderWrite s := rfl
@[simp] theorem exec_recorderCrcPass {s} : exec (.recorderCrcPass) s = execRecorderCrcPass s := rfl
@[simp] theorem exec_operatingSecondsSave {s} : exec (.operatingSecondsSave) s = execOperatingSecondsSave s := rfl
@[simp] theorem exec_recorderFreeze {who s} : exec (.recorderFreeze who) s = execRecorderFreeze who s := rfl
@[simp] theorem exec_recorderUnfreeze {who s} : exec (.recorderUnfreeze who) s = execRecorderUnfreeze who s := rfl
@[simp] theorem exec_freezeLimitExpiry {s} : exec (.freezeLimitExpiry) s = execFreezeLimitExpiry s := rfl
@[simp] theorem exec_recorderClear {who value s} : exec (.recorderClear who value) s = execRecorderClear who value s := rfl
@[simp] theorem exec_imageBoot {s} : exec (.imageBoot) s = execImageBoot s := rfl
@[simp] theorem exec_bootConfirm {who value s} : exec (.bootConfirm who value) s = execBootConfirm who value s := rfl
@[simp] theorem exec_securityVersionAdvance {who value s} : exec (.securityVersionAdvance who value) s = execSecurityVersionAdvance who value s := rfl
@[simp] theorem exec_ownerBootKeyProgram {who value s} : exec (.ownerBootKeyProgram who value) s = execOwnerBootKeyProgram who value s := rfl
@[simp] theorem exec_ownerBootKeyRevoke {who value s} : exec (.ownerBootKeyRevoke who value) s = execOwnerBootKeyRevoke who value s := rfl
@[simp] theorem exec_measureExtend {who value s} : exec (.measureExtend who value) s = execMeasureExtend who value s := rfl
@[simp] theorem exec_recoveryBlock {who b value s} : exec (.recoveryBlock who b value) s = execRecoveryBlock who b value s := rfl
@[simp] theorem exec_recoveryRestart {who value s} : exec (.recoveryRestart who value) s = execRecoveryRestart who value s := rfl
@[simp] theorem exec_ownerClaim {who value s} : exec (.ownerClaim who value) s = execOwnerClaim who value s := rfl
@[simp] theorem exec_ownerRelease {who value s} : exec (.ownerRelease who value) s = execOwnerRelease who value s := rfl
@[simp] theorem exec_credentialEntry {who n value s} : exec (.credentialEntry who n value) s = execCredentialEntry who n value s := rfl
@[simp] theorem exec_credentialSecret {who n value s} : exec (.credentialSecret who n value) s = execCredentialSecret who n value s := rfl
@[simp] theorem exec_keyLoad {who slot value s} : exec (.keyLoad who slot value) s = execKeyLoad who slot value s := rfl
@[simp] theorem exec_keyLoadDone {slot readBack s} : exec (.keyLoadDone slot readBack) s = execKeyLoadDone slot readBack s := rfl
@[simp] theorem exec_keyCommit {who slot after s} : exec (.keyCommit who slot after) s = execKeyCommit who slot after s := rfl
@[simp] theorem exec_keyDiscard {who slot s} : exec (.keyDiscard who slot) s = execKeyDiscard who slot s := rfl
@[simp] theorem exec_keyErase {who slot value s} : exec (.keyErase who slot value) s = execKeyErase who slot value s := rfl
@[simp] theorem exec_journalCheckPass {bad s} : exec (.journalCheckPass bad) s = execJournalCheckPass bad s := rfl
@[simp] theorem exec_sluice {cause s} : exec (.sluice cause) s = execSluice cause s := rfl
@[simp] theorem exec_sluiceCommand {who value s} : exec (.sluiceCommand who value) s = execSluiceCommand who value s := rfl
@[simp] theorem exec_tamperStatusKnock {who value s} : exec (.tamperStatusKnock who value) s = execTamperStatusKnock who value s := rfl
@[simp] theorem exec_attestMSecret {who value s} : exec (.attestMSecret who value) s = execAttestMSecret who value s := rfl
@[simp] theorem exec_attestMChallenge {who value s} : exec (.attestMChallenge who value) s = execAttestMChallenge who value s := rfl
@[simp] theorem exec_attestMResponse {who s} : exec (.attestMResponse who) s = execAttestMResponse who s := rfl
@[simp] theorem exec_attestPGenerate {who value s} : exec (.attestPGenerate who value) s = execAttestPGenerate who value s := rfl
@[simp] theorem exec_attestPChallenge {who value s} : exec (.attestPChallenge who value) s = execAttestPChallenge who value s := rfl
@[simp] theorem exec_attestPQuote {who s} : exec (.attestPQuote who) s = execAttestPQuote who s := rfl
@[simp] theorem exec_hamperTick {rails s} : exec (.hamperTick rails) s = execHamperTick rails s := rfl
@[simp] theorem exec_holdupConversion {code s} : exec (.holdupConversion code) s = execHoldupConversion code s := rfl
@[simp] theorem exec_shedCoreGate {s} : exec (.shedCoreGate) s = execShedCoreGate s := rfl
@[simp] theorem exec_holdupCalibrateZero {who s} : exec (.holdupCalibrateZero who) s = execHoldupCalibrateZero who s := rfl
@[simp] theorem exec_holdupCalibrateSpan {who s} : exec (.holdupCalibrateSpan who) s = execHoldupCalibrateSpan who s := rfl
@[simp] theorem exec_holdupCalibrationDone {s} : exec (.holdupCalibrationDone) s = execHoldupCalibrationDone s := rfl
@[simp] theorem exec_moduleSleepEnter {who s} : exec (.moduleSleepEnter who) s = execModuleSleepEnter who s := rfl
@[simp] theorem exec_moduleSleepLeave {who s} : exec (.moduleSleepLeave who) s = execModuleSleepLeave who s := rfl
@[simp] theorem exec_thermalSample {temps s} : exec (.thermalSample temps) s = execThermalSample temps s := rfl
@[simp] theorem exec_throttleStep {s} : exec (.throttleStep) s = execThrottleStep s := rfl
@[simp] theorem exec_thermalDownshiftStep {s} : exec (.thermalDownshiftStep) s = execThermalDownshiftStep s := rfl
@[simp] theorem exec_thermalTrip {s} : exec (.thermalTrip) s = execThermalTrip s := rfl
@[simp] theorem exec_thermalTripShore {s} : exec (.thermalTripShore) s = execThermalTripShore s := rfl
@[simp] theorem exec_powerOnReset {supply s} : exec (.powerOnReset supply) s = execPowerOnReset supply s := rfl
@[simp] theorem exec_powerOnResetEnd {roleB bad s} : exec (.powerOnResetEnd roleB bad) s = execPowerOnResetEnd roleB bad s := rfl
@[simp] theorem exec_railCheckRetry {outside s} : exec (.railCheckRetry outside) s = execRailCheckRetry outside s := rfl
@[simp] theorem exec_fastDiesUp {s} : exec (.fastDiesUp) s = execFastDiesUp s := rfl
@[simp] theorem exec_managerStarted {s} : exec (.managerStarted) s = execManagerStarted s := rfl
@[simp] theorem exec_configLoad {s} : exec (.configLoad) s = execConfigLoad s := rfl
@[simp] theorem exec_wrstN {s} : exec (.wrstN) s = execWrstN s := rfl
@[simp] theorem exec_moduleResetWarm {who s} : exec (.moduleResetWarm who) s = execModuleResetWarm who s := rfl
@[simp] theorem exec_moduleResetPowerOn {who s} : exec (.moduleResetPowerOn who) s = execModuleResetPowerOn who s := rfl
@[simp] theorem exec_moduleResetForced {who s} : exec (.moduleResetForced who) s = execModuleResetForced who s := rfl
@[simp] theorem exec_warmResetDone {s} : exec (.warmResetDone) s = execWarmResetDone s := rfl
@[simp] theorem exec_shoreWake {s} : exec (.shoreWake) s = execShoreWake s := rfl
@[simp] theorem exec_srefCheck {edges ppm s} : exec (.srefCheck edges ppm) s = execSrefCheck edges ppm s := rfl
@[simp] theorem exec_pePerstN {asserted s} : exec (.pePerstN asserted) s = execPePerstN asserted s := rfl
@[simp] theorem exec_bootFlashBlock {who b value s} : exec (.bootFlashBlock who b value) s = execBootFlashBlock who b value s := rfl
@[simp] theorem exec_bootFlashVerify {who value s} : exec (.bootFlashVerify who value) s = execBootFlashVerify who value s := rfl
@[simp] theorem exec_mb0TargetWrite {pointer data s} : exec (.mb0TargetWrite pointer data) s = execMb0TargetWrite pointer data s := rfl
@[simp] theorem exec_powerFail {value s} : exec (.powerFail value) s = execPowerFail value s := rfl
@[simp] theorem exec_wake {value s} : exec (.wake value) s = execWake value s := rfl
@[simp] theorem exec_boardControllerWrite {ack s} : exec (.boardControllerWrite ack) s = execBoardControllerWrite ack s := rfl
@[simp] theorem exec_mb1RecordSend {monitor ack s} : exec (.mb1RecordSend monitor ack) s = execMb1RecordSend monitor ack s := rfl
@[simp] theorem exec_mb1RecordReceive {pointer data s} : exec (.mb1RecordReceive pointer data) s = execMb1RecordReceive pointer data s := rfl
@[simp] theorem exec_arbitrationLost {bus monitor asTarget s} : exec (.arbitrationLost bus monitor asTarget) s = execArbitrationLost bus monitor asTarget s := rfl
@[simp] theorem exec_mbRetry {bus ack s} : exec (.mbRetry bus ack) s = execMbRetry bus ack s := rfl
@[simp] theorem exec_mbBusRecovery {bus sclHigh s} : exec (.mbBusRecovery bus sclHigh) s = execMbBusRecovery bus sclHigh s := rfl
@[simp] theorem exec_unitSleepEntry {unit n s} : exec (.unitSleepEntry unit n) s = execUnitSleepEntry unit n s := rfl
@[simp] theorem exec_preFreezeWake {inst s} : exec (.preFreezeWake inst) s = execPreFreezeWake inst s := rfl
@[simp] theorem exec_sgmiiSpeedChange {n speed s} : exec (.sgmiiSpeedChange n speed) s = execSgmiiSpeedChange n speed s := rfl
@[simp] theorem exec_ptpMessageSend {d port kind s} : exec (.ptpMessageSend d port kind) s = execPtpMessageSend d port kind s := rfl
@[simp] theorem exec_dtlsHandshake {addr port assoc cookie client ok s} : exec (.dtlsHandshake addr port assoc cookie client ok) s = execDtlsHandshake addr port assoc cookie client ok s := rfl
@[simp] theorem exec_dtlsAssociationEnd {assoc s} : exec (.dtlsAssociationEnd assoc) s = execDtlsAssociationEnd assoc s := rfl
@[simp] theorem exec_pairedStartTimeout {inst s} : exec (.pairedStartTimeout inst) s = execPairedStartTimeout inst s := rfl
@[simp] theorem exec_ferryProposeTimeout {inst s} : exec (.ferryProposeTimeout inst) s = execFerryProposeTimeout inst s := rfl
@[simp] theorem exec_releaseInstant {s} : exec (.releaseInstant) s = execReleaseInstant s := rfl
@[simp] theorem exec_selfTestRecover {test s} : exec (.selfTestRecover test) s = execSelfTestRecover test s := rfl
@[simp] theorem exec_tamperCauseClear {cause s} : exec (.tamperCauseClear cause) s = execTamperCauseClear cause s := rfl
@[simp] theorem exec_mgmtLinkChange {state s} : exec (.mgmtLinkChange state) s = execMgmtLinkChange state s := rfl
@[simp] theorem exec_pcieLinkChange {width rate s} : exec (.pcieLinkChange width rate) s = execPcieLinkChange width rate s := rfl
@[simp] theorem exec_msixVectorUnmask {fn vector s} : exec (.msixVectorUnmask fn vector) s = execMsixVectorUnmask fn vector s := rfl
@[simp] theorem exec_rippleStuckClear {line s} : exec (.rippleStuckClear line) s = execRippleStuckClear line s := rfl
@[simp] theorem exec_bootFlashBlockDone {ok s} : exec (.bootFlashBlockDone ok) s = execBootFlashBlockDone ok s := rfl
@[simp] theorem exec_bootFlashVerifyDone {s} : exec (.bootFlashVerifyDone) s = execBootFlashVerifyDone s := rfl
@[simp] theorem exec_functionLevelResetDone {fn s} : exec (.functionLevelResetDone fn) s = execFunctionLevelResetDone fn s := rfl
@[simp] theorem exec_octetPllLocked {k s} : exec (.octetPllLocked k) s = execOctetPllLocked k s := rfl
@[simp] theorem exec_keyCommitDone {slot s} : exec (.keyCommitDone slot) s = execKeyCommitDone slot s := rfl

/-- A step takes the front command. -/
@[simp] theorem step_withFront (s : State) (i : Instr) : step (s.withFront i) = exec i s := rfl

/-- A step on an empty queue is a tick. -/
theorem step_empty (s : State) (h : s.pending = []) : step s = .next s.tick := by simp [step, h]

end Sys2Proof.Machine
end

