-- ==== Sys2Proof/Laws/Isa.lean ====
section
/-! SUPPORT. What executing one scan instruction comes to, by the outcome of its effect. -/

namespace Sys2Proof.Machine

theorem readyFor_prog {s : State} {i : Nat} {c : IsaOp} (h : s.readyFor i c = true) :
    ∃ p, (s.scanOf i).prog = some p ∧ s.executing i = true ∧ s.deadlinePassed i = false
      ∧ fetchWord p (s.scanOf i).isa.pc = some (isaWord c)
      ∧ (s.scanOf i).isa.cycles + isaCycles (s.scanOf i).isa c ≤ p.budget := by
  unfold State.readyFor at h
  split at h
  · simp at h
  · rename_i p hp
    simp only [Bool.and_eq_true, Bool.not_eq_true', beq_iff_eq, decide_eq_true_eq] at h
    exact ⟨p, hp, h.1.1.1, h.1.1.2, h.1.2, h.2⟩

/-- An instruction that writes registers only. -/
theorem isaRun_regs {s : State} {i : Nat} {c : IsaOp} {f : Effect} {r : IsaSt} (h : s.readyFor i c = true)
    (hf : ∀ p, (s.scanOf i).prog = some p → f (s.scanOf i) p (s.regs i) (s.stepped i c) = some (r, none)) :
    isaRun i c f s = (s.withRegs i r, true) := by
  obtain ⟨p, hp, he, hd, hw, hb⟩ := readyFor_prog h
  have hf' := hf p hp
  simp only [State.regs, State.stepped] at hf'
  simp [isaRun, hp, he, hd, hw, Nat.not_lt.mpr hb, hf', State.withRegs]

/-- An instruction that stores. -/
theorem isaRun_store {s : State} {i : Nat} {c : IsaOp} {f : Effect} {r : IsaSt} {a : Nat} {b : Bytes}
    (h : s.readyFor i c = true)
    (hf : ∀ p, (s.scanOf i).prog = some p → f (s.scanOf i) p (s.regs i) (s.stepped i c) = some (r, some (a, b))) :
    isaRun i c f s = (s.withStore i r a b, true) := by
  obtain ⟨p, hp, he, hd, hw, hb⟩ := readyFor_prog h
  have hf' := hf p hp
  simp only [State.regs, State.stepped] at hf'
  simp [isaRun, hp, he, hd, hw, Nat.not_lt.mpr hb, hf', State.withStore]

/-- An instruction that faults. -/
theorem isaRun_fault {s : State} {i : Nat} {c : IsaOp} {f : Effect} (h : s.readyFor i c = true)
    (hf : ∀ p, (s.scanOf i).prog = some p → f (s.scanOf i) p (s.regs i) (s.stepped i c) = none) :
    isaRun i c f s = (s.accessFault i c, false) := by
  obtain ⟨p, hp, he, hd, hw, hb⟩ := readyFor_prog h
  have hf' := hf p hp
  simp only [State.regs, State.stepped] at hf'
  simp [isaRun, hp, he, hd, hw, Nat.not_lt.mpr hb, hf', State.accessFault, State.withRegs, State.stepped, State.regs]

/-- What an integer instruction does to the registers. -/
theorem alu_eq (d : Fin 32) (f : (Nat → BitVec 64) → IsaSt → IntOut) (x : ScanSt) (p : Prog) (o r : IsaSt) :
    alu d f x p o r = some (r.deliver d (f r.getG r).v (f r.getG r).c (f r.getG r).ov (f r.getG r).dz, none) := rfl

/-- What a floating-point instruction does to the registers. -/
theorem fpu_eq (d : Nat) (f : (Nat → Nat) → (Nat → BitVec 64) → Nat × Nat) (x : ScanSt) (p : Prog) (o r : IsaSt) :
    fpu d f x p o r = some (r.deliverF d (f r.getF r.getG).1 (f r.getF r.getG).2, none) := rfl

/-- What a floating-point instruction with a G register does to the registers. -/
theorem fpuG_eq (d : Fin 32) (f : (Nat → Nat) → Nat × Nat) (x : ScanSt) (p : Prog) (o r : IsaSt) :
    fpuG d f x p o r = some (r.deliverGF d (f r.getF).1 (f r.getF).2, none) := rfl

@[simp] theorem stepped_getG (s : State) (i : Nat) (c : IsaOp) : (s.stepped i c).getG = (s.regs i).getG := rfl

@[simp] theorem stepped_getF (s : State) (i : Nat) (c : IsaOp) : (s.stepped i c).getF = (s.regs i).getF := rfl

@[simp] theorem stepped_flags (s : State) (i : Nat) (c : IsaOp) : (s.stepped i c).flags = (s.regs i).flags := rfl

end Sys2Proof.Machine
end

