-- ==== Sys2Proof/Laws/Tab.lean ====
section
/-! SUPPORT. The laws of sparse tables: read after write, and the canonical form is kept. -/

namespace Sys2Proof.Machine

section
variable {α : Type}

@[simp] theorem tabGet_nil (d : α) (k : Nat) : tabGet d [] k = d := rfl

theorem tabGet_del_same (d : α) (t : Tab α) (k : Nat) : tabGet d (tabDel t k) k = d := by
  induction t with
  | nil => rfl
  | cons p r ih =>
    obtain ⟨a, w⟩ := p
    by_cases h : a = k <;> simp [tabDel, tabGet, h, ih]

theorem tabGet_del_other (d : α) (t : Tab α) (k j : Nat) (h : j ≠ k) :
    tabGet d (tabDel t k) j = tabGet d t j := by
  induction t with
  | nil => rfl
  | cons p r ih =>
    obtain ⟨a, w⟩ := p
    by_cases h1 : a = k
    · subst h1; simp [tabDel, tabGet, ih, Ne.symm h]
    · simp [tabDel, tabGet, h1, ih]

theorem tabGet_ins_other (d : α) (t : Tab α) (k j : Nat) (v : α) (h : j ≠ k) :
    tabGet d (tabIns t k v) j = tabGet d t j := by
  induction t with
  | nil => simp [tabIns, tabGet, Ne.symm h]
  | cons p r ih =>
    obtain ⟨a, w⟩ := p
    by_cases h1 : k < a
    · simp [tabIns, tabGet, h1, Ne.symm h]
    · simp [tabIns, tabGet, h1, ih]

theorem tabGet_ins_del (d : α) (t : Tab α) (k : Nat) (v : α) :
    tabGet d (tabIns (tabDel t k) k v) k = v := by
  induction t with
  | nil => simp [tabDel, tabIns, tabGet]
  | cons p r ih =>
    obtain ⟨a, w⟩ := p
    by_cases h1 : a = k
    · simp [tabDel, h1, ih]
    · by_cases h2 : k < a <;> simp [tabDel, tabIns, tabGet, h1, h2, ih]

variable [DecidableEq α]

/-- A key reads as what was written to it. -/
@[simp] theorem tabGet_set_same (d : α) (t : Tab α) (k : Nat) (v : α) :
    tabGet d (tabSet d t k v) k = v := by
  unfold tabSet
  by_cases hv : v = d
  · simp [hv, tabGet_del_same]
  · simp [hv, tabGet_ins_del]

/-- A write leaves every other key as it was. -/
theorem tabGet_set_other (d : α) (t : Tab α) (k j : Nat) (v : α) (h : j ≠ k) :
    tabGet d (tabSet d t k v) j = tabGet d t j := by
  unfold tabSet
  by_cases hv : v = d
  · simp [hv, tabGet_del_other d t k j h]
  · simp [hv, tabGet_ins_other d _ k j v h, tabGet_del_other d t k j h]

/-- A read after a write, both cases at once. -/
theorem tabGet_set (d : α) (t : Tab α) (k j : Nat) (v : α) :
    tabGet d (tabSet d t k v) j = if j = k then v else tabGet d t j := by
  by_cases h : j = k
  · subst h; simp
  · simp [h, tabGet_set_other d t k j v h]

theorem tabWfFrom_mono (d : α) (t : Tab α) (b c : Nat) (hc : c ≤ b) (h : tabWfFrom d b t = true) :
    tabWfFrom d c t = true := by
  cases t with
  | nil => rfl
  | cons p r =>
    obtain ⟨a, w⟩ := p
    simp only [tabWfFrom, Bool.and_eq_true, decide_eq_true_eq] at h ⊢
    exact ⟨⟨by omega, h.1.2⟩, h.2⟩

theorem tabDel_wf_from (d : α) (t : Tab α) (b k : Nat) (h : tabWfFrom d b t = true) :
    tabWfFrom d b (tabDel t k) = true := by
  induction t generalizing b with
  | nil => rfl
  | cons p r ih =>
    obtain ⟨a, w⟩ := p
    simp only [tabWfFrom, Bool.and_eq_true, decide_eq_true_eq] at h
    by_cases h1 : a = k
    · simp only [tabDel, h1, if_true]
      exact tabWfFrom_mono d _ (a + 1) b (by omega) (ih _ h.2)
    · simp [tabDel, h1, tabWfFrom, ih _ h.2, h.1.1, h.1.2]

theorem tabIns_del_wf_from (d : α) (t : Tab α) (b k : Nat) (v : α) (h : tabWfFrom d b t = true)
    (hb : b ≤ k) (hv : v ≠ d) : tabWfFrom d b (tabIns (tabDel t k) k v) = true := by
  induction t generalizing b with
  | nil => simp [tabDel, tabIns, tabWfFrom, hb, hv]
  | cons p r ih =>
    obtain ⟨a, w⟩ := p
    simp only [tabWfFrom, Bool.and_eq_true, decide_eq_true_eq] at h
    by_cases h1 : a = k
    · subst h1
      simp only [tabDel, if_true]
      exact ih b (tabWfFrom_mono d r (a + 1) b (by omega) h.2) hb
    · by_cases h2 : k < a
      · simp only [tabDel, h1, h2, if_true, if_false, tabIns]
        have h5 := tabWfFrom_mono d _ (a + 1) (a + 1) le_rfl (tabDel_wf_from d r (a + 1) k h.2)
        simp [tabWfFrom, hb, hv, h.1.2, h5]; omega
      · simp [tabDel, tabIns, tabWfFrom, h1, h2, h.1.1, h.1.2, ih (a + 1) h.2 (by omega)]

/-- Every write keeps a table's canonical form. -/
theorem tabSet_wf (d : α) (t : Tab α) (k : Nat) (v : α) (h : tabWf d t = true) :
    tabWf d (tabSet d t k v) = true := by
  unfold tabSet
  by_cases hv : v = d
  · simp [hv]; exact tabDel_wf_from d t 0 k h
  · simp [hv]; exact tabIns_del_wf_from d t 0 k v h (Nat.zero_le _) hv

end

end Sys2Proof.Machine
end

