-- ==== Sys2Proof/Laws/Ops.lean ====
section
/-! SUPPORT. What each shared operation can do: answers, objects, memory and events. -/

namespace Sys2Proof.Machine

/-! ### Checks and answers -/

@[simp] theorem need_true (c : Code) : need true c = .ok () := rfl

@[simp] theorem need_false (c : Code) : need false c = .error c := rfl

theorem need_ok {b : Bool} {c : Code} (h : b = true) : need b c = .ok () := by simp [h]

theorem need_error {b : Bool} {c : Code} (h : b = false) : need b c = .error c := by simp [h]

theorem lets_ok {s : State} {who : Caller} {id : Nat} {p : Bool} {sel : Nat} {v : OVal}
    (h : s.lets who id p sel v = true) : s.gateRange who id p sel v = .ok () := by
  unfold State.lets at h
  cases e : s.gateRange who id p sel v with
  | error c => rw [e] at h; simp [Except.isOk, Except.toBool] at h
  | ok u => cases u; rfl

theorem letsForm_ok {s : State} {who : Caller} {id : Nat} {p : Bool} {sel : Nat} {v : OVal}
    (h : s.letsForm who id p sel v = true) : ∃ r, s.gate who id p sel v = .ok r := by
  unfold State.letsForm at h
  cases e : s.gate who id p sel v with
  | error c => rw [e] at h; simp [Except.isOk, Except.toBool] at h
  | ok r => exact ⟨r, rfl⟩

@[simp] theorem answer_ok (s t : State) (who : Caller) : s.answer who (.ok t) = t.done who := rfl

@[simp] theorem answer_error (s : State) (who : Caller) (c : Code) : s.answer who (.error c) = s.turned who c := rfl

/-! ### Objects -/

/-- The value in force after a write of it. -/
theorem obj_setObj (s : State) (id sel id' sel' : Nat) (v : OVal) :
    (s.setObj id sel v).obj id' sel' =
      if objKey id' sel' = objKey id sel then (if v = objDefault id then objDefault id' else v) else s.obj id' sel' := by
  unfold State.setObj State.obj
  rw [tabGet_set]
  by_cases h : objKey id' sel' = objKey id sel
  · by_cases hv : v = objDefault id <;> simp [h, hv]
  · simp [h]

@[simp] theorem obj_setObj_same (s : State) (id sel : Nat) (v : OVal) : (s.setObj id sel v).obj id sel = v := by
  rw [obj_setObj]
  by_cases hv : v = objDefault id <;> simp [hv]

@[simp] theorem num_setNum_same (s : State) (id v sel : Nat) : (s.setNum id v sel).num id sel = v := by
  simp [State.setNum, State.num, OVal.nat]

theorem num_setNum_other (s : State) (id v sel id' sel' : Nat) (h : objKey id' sel' ≠ objKey id sel) :
    (s.setNum id v sel).num id' sel' = s.num id' sel' := by
  simp [State.setNum, State.num, obj_setObj, h]

@[simp] theorem blob_setBlob_same (s : State) (id sel : Nat) (b : Bytes) : (s.setBlob id b sel).blob id sel = b := by
  simp [State.setBlob, State.blob, OVal.octets]

/-- A count raises its object by `k` and saturates. -/
theorem count32_num (s : State) (id k sel : Nat) :
    (s.count32 id k sel).num id sel = sat32 (s.num id sel + k) := by simp [State.count32]

/-! ### Memory -/

/-- Read of one byte after a write of some. -/
theorem memByte_memWrite (m : List Host.Cell) (a : Nat) (b : Bytes) (x : Nat) :
    memByte (memWrite m a b) x = if a ≤ x ∧ x < a + b.length then b.getD (x - a) 0 else memByte m x := by
  induction b generalizing a with
  | nil => simp [memWrite]
  | cons y r ih =>
    have e : memByte (memWrite m a (y :: r)) x = if x = a then y else memByte (memWrite m (a + 1) r) x :=
      tabGet_set 0 (memWrite m (a + 1) r) a x y
    rw [e]
    by_cases h : x = a
    · subst h; simp
    · rw [if_neg h, ih (a + 1)]
      by_cases h2 : a + 1 ≤ x ∧ x < a + 1 + r.length
      · have : a ≤ x ∧ x < a + (r.length + 1) := by omega
        rw [if_pos h2, List.length_cons, if_pos this]
        obtain ⟨k, rfl⟩ : ∃ k, x = a + (k + 1) := ⟨x - a - 1, by omega⟩
        have e1 : a + (k + 1) - (a + 1) = k := by omega
        have e2 : a + (k + 1) - a = k + 1 := by omega
        rw [e1, e2]
        simp
      · have : ¬ (a ≤ x ∧ x < a + (r.length + 1)) := by omega
        rw [if_neg h2, List.length_cons, if_neg this]

/-- Every write keeps the canonical form of the memory. -/
theorem memWrite_wf (m : List Host.Cell) (a : Nat) (b : Bytes) (h : Memory.wf m = true) :
    Memory.wf (memWrite m a b) = true := by
  induction b generalizing a with
  | nil => exact h
  | cons y r ih => exact tabSet_wf _ _ _ _ (ih (a + 1))

theorem hbmWrite_wf (s : State) (a : Nat) (b : Bytes) (h : Memory.wf s.mem.hbm = true) :
    Memory.wf (s.hbmWrite a b).mem.hbm = true := memWrite_wf _ _ _ h

theorem reset_wf : Memory.wf State.reset.mem.hbm = true := rfl

/-! ### Events -/

/-- A die's buffer after a push: the event at its end, or dropped into the episode (R582). -/
theorem push_buffer (cap : Nat) (x : EvDie) (e : Event) :
    (x.push cap e).buffer = x.buffer ∨ (x.push cap e).buffer = x.buffer ++ [e] := by
  unfold EvDie.push
  split
  · exact .inl rfl
  · exact .inr rfl

end Sys2Proof.Machine
end

