-- ==== Sys2Proof/WellFormed.lean ====
section
/-! DEFINITION. Well-formed commands: every operand fits the field that carries it. A meaning is defined on every
command; an operand outside its field reaches the block by no route. -/

namespace Sys2Proof

/-- A number of `k` bits. -/
def u (k n : Nat) : Bool := decide (n < 2 ^ k)

/-- A number below `k`. -/
def below (k n : Nat) : Bool := decide (n < k)

/-- An octet string that an object or a frame can hold. -/
def octetsOk (b : Bytes) : Bool := decide (b.length ≤ 65535)

/-- A filter channel (Table 8-1): 16,384 plain and 1,024 derived ones. -/
def channelOk (c : Nat) : Bool := below 17408 c

/-- The session number of a window: 64 local windows, the physical function and 255 virtual functions. -/
def windowOk (k : Nat) : Bool := decide (2 ^ 32 ≤ k) && decide (k < 2 ^ 32 + 320)

/-- An assigned module address, or none. -/
def optionAddress : Option Nat → Bool
  | none => true
  | some a => u 12 a

/-- A store into a line: an offset in the line and its octets; or a target write: a pointer and its octets. -/
def optionStore : Option (Nat × Bytes) → Bool
  | none => true
  | some (a, b) => u 8 a && octetsOk b

def Caller.wf (c : Caller) : Bool := u 64 c.sess && u 8 c.inst

def Header.wf (h : Header) : Bool :=
  u 8 h.version && u 32 h.session && u 32 h.seq && u 16 h.length && u 16 h.body && u 128 h.addr && u 16 h.port && u 32 h.assoc

def Via.wf : Via → Bool
  | .balmuene h => Header.wf h
  | .window w => windowOk w

def Route.wf : Route → Bool
  | .window w => below 64 w
  | .vf n => decide (1 ≤ n) && below 256 n
  | .dtls | .udp | .pf => true

def Item.wf (i : Item) : Bool := u 16 i.index && u 8 i.sub && u 8 i.typ && u 12 i.sel && u 16 i.len && octetsOk i.value

def RegPage.wf : RegPage → Bool
  | .window w => windowOk w
  | .time r => u 16 r
  | .fio i => below 256 i
  | .basketIn i => below 256 i
  | .kinst c => below 16 c
  | .msix f => below 256 f
  | .other p => u 16 p

def PtpMsg.wf : PtpMsg → Bool
  | .sync q _ _ _ => u 16 q
  | .followUp q _ _ => u 16 q
  | .announce p1 k a v p2 i st _ _ _ _ => u 8 p1 && u 8 k && u 8 a && u 16 v && u 8 p2 && u 64 i && u 16 st
  | .pdelayReq q i _ => u 16 q && u 80 i
  | .pdelayResp q _ _ _ => u 16 q
  | .pdelayRespFollowUp q _ _ => u 16 q
  | .delayReq q i => u 16 q && u 80 i
  | .delayResp q _ _ => u 16 q
  | .management q _ d => u 16 q && u 16 d
  | .unsupported => true

def IrigFrame.wf (f : IrigFrame) : Bool := below 8 f.code && below 31622401 f.secondOfYear && u 8 f.quality

def XosynHead.wf (h : XosynHead) : Bool :=
  u 3 h.priority && u 4 h.hopsLeft && u 12 h.destination && u 12 h.source && u 16 h.flow && u 32 h.sequence && u 32 h.pathDelay

def LsaMsgLink.wf (l : LsaMsgLink) : Bool := u 64 l.far && u 16 l.cost && u 8 l.port && u 32 l.delay

def LsaMsg.wf (m : LsaMsg) : Bool :=
  u 64 m.serial && u 32 m.seq && u 16 m.priority && optionAddress m.address && u 16 m.request && u 8 m.offer
    && decide (m.links.length ≤ 64) && m.links.all LsaMsgLink.wf

def FlowMsg.wf (m : FlowMsg) : Bool :=
  u 32 m.rate && u 32 m.burst && decide (m.hops.length ≤ 15) && m.hops.all (u 12) && u 8 m.cause && u 8 m.refusedAt

def TimeMsg.wf (m : TimeMsg) : Bool := u 8 m.st && u 8 m.clockClass && u 8 m.errorLog2 && u 8 m.depth && u 96 m.origin

def ReportMsg.wf (m : ReportMsg) : Bool :=
  u 32 m.seq && u 32 m.health && u 32 m.share && u 32 m.used && decide (m.held.length = 13) && m.held.all (u 32)
    && decide (m.inUse.length = 13) && m.inUse.all (u 32)

def MramPlace.wf : MramPlace → Bool
  | .journal n b => u 8 n && below 2 b
  | .epoch c => below 2 c
  | .ownership c => below 2 c
  | .boot c => below 2 c

def DigestRec.wf (d : DigestRec) : Bool := u 8 d.inst && u 16 d.tag && u 32 d.image && u 32 d.output

def BeatMsg.wf (m : BeatMsg) : Bool := u 96 m.time && u 8 m.paddle && u 8 m.shed && u 96 m.expires

def ResyncMsg.wf (m : ResyncMsg) : Bool := u 8 m.inst && u 16 m.segment && u 16 m.segments && u 32 m.offset

def TriggerMsg.wf (m : TriggerMsg) : Bool :=
  u 8 m.unit && u 8 m.domain && u 8 m.cause && u 32 m.record && u 96 m.crossing && u 32 m.age && u 8 m.st && u 8 m.errorLog2

/-- Every operand of a command lies within the width its field has in the spec. Operands that the type bounds need no check. -/
def Instr.wf : Instr → Bool
  | .linkGroupDegraded _ _ => true
  | .linkGroupFailed _ => true
  | .pondCreateChild who0 pond0 value0 => Caller.wf who0 && u 12 pond0 && u 64 value0
  | .pondDelete who0 pond0 value0 => Caller.wf who0 && u 12 pond0 && u 64 value0
  | .pondMove who0 pond0 value0 => Caller.wf who0 && u 12 pond0 && u 64 value0
  | .pondEnergyShareWrite who0 pond0 value0 => Caller.wf who0 && u 12 pond0 && u 64 value0
  | .openSession h0 route0 role0 reserved0 sel0 => Header.wf h0 && Route.wf route0 && u 8 role0 && u 8 reserved0 && u 12 sel0
  | .close h0 => Header.wf h0
  | .keepalive h0 => Header.wf h0
  | .get via0 _ items0 => Via.wf via0 && items0.all Item.wf
  | .put via0 items0 => Via.wf via0 && items0.all Item.wf
  | .stage via0 items0 => Via.wf via0 && items0.all Item.wf
  | .commit via0 => Via.wf via0
  | .commitAt via0 dom0 time0 => Via.wf via0 && u 8 dom0 && u 96 time0
  | .discard via0 => Via.wf via0
  | .describe via0 item0 => Via.wf via0 && Item.wf item0
  | .readSegment via0 item0 offset0 count0 => Via.wf via0 && Item.wf item0 && u 32 offset0 && u 32 count0
  | .writeSegment via0 item0 offset0 => Via.wf via0 && Item.wf item0 && u 32 offset0
  | .sessionTimeout sess0 => u 64 sess0
  | .quiesceComplete sess0 => u 64 sess0
  | .quiesceTimeout sess0 => u 64 sess0
  | .timedCommitApply sess0 => u 64 sess0
  | .configSave who0 value0 => Caller.wf who0 && u 64 value0
  | .configSaveDone _ => true
  | .configRestoreDefaults who0 value0 => Caller.wf who0 && u 64 value0
  | .localWindowBinding who0 w0 value0 => Caller.wf who0 && below 64 w0 && u 64 value0
  | .winControlCollision w0 value0 => windowOk w0 && u 32 value0
  | .windowCompletion w0 => windowOk w0
  | .registerWrite page0 offset0 value0 => RegPage.wf page0 && u 16 offset0 && u 32 value0
  | .shoreRefLost => true
  | .shoreRefReturn => true
  | .ptpMessageReceive _ _ msg0 => PtpMsg.wf msg0
  | .ptpSourceLost _ => true
  | .sourceSwitch _ => true
  | .holdoverLimitExceeded _ => true
  | .ppsInEdge => true
  | .irigFrame frame0 marker0 => IrigFrame.wf frame0 && u 64 marker0
  | .ppsInTimeout => true
  | .leapSecond _ => true
  | .stepApply _ => true
  | .domainSetTime who0 _ time0 => Caller.wf who0 && u 96 time0
  | .domainStep who0 _ _ => Caller.wf who0
  | .domainStepToReference who0 _ value0 => Caller.wf who0 && u 64 value0
  | .domainStepCancel who0 _ value0 => Caller.wf who0 && u 64 value0
  | .domainEnable who0 _ value0 => Caller.wf who0 && u 64 value0
  | .pairOffsetMeasure _ _ peerState0 _ => u 8 peerState0
  | .gtcLoRead reader0 => u 16 reader0
  | .domSecLoRead reader0 _ => u 16 reader0
  | .snapAllTrigger reader0 => u 16 reader0
  | .pgArm who0 _ => Caller.wf who0
  | .pgDisarm who0 _ => Caller.wf who0
  | .pgEdge _ => true
  | .pgPulseEnd _ => true
  | .ppsOutEdge _ => true
  | .ppsOutPulseEnd _ => true
  | .portEnable who0 _ value0 => Caller.wf who0 && u 64 value0
  | .portMode who0 _ value0 => Caller.wf who0 && u 64 value0
  | .portFec who0 _ value0 => Caller.wf who0 && u 64 value0
  | .linkUp _ since0 => u 64 since0
  | .linkFault _ _ => true
  | .signalLossSleep _ since0 => u 64 since0
  | .signalDetect _ => true
  | .trainingRestart _ => true
  | .fecDegraded _ ratio0 => u 64 ratio0
  | .portReset who0 _ => Caller.wf who0
  | .portResetForced who0 _ => Caller.wf who0
  | .frameReceive _ octets0 => octetsOk octets0
  | .frameTransmit _ => true
  | .lpiEnter _ => true
  | .lpiWake _ => true
  | .downshiftRequest _ _ => true
  | .upshiftRequest _ => true
  | .shiftRequest _ txn0 target0 source0 admitted0 => u 16 txn0 && u 8 target0 && u 8 source0 && u 64 admitted0
  | .shiftAccept _ txn0 => u 16 txn0
  | .shiftDecline _ txn0 cause0 => u 16 txn0 && u 8 cause0
  | .shiftMarker _ txn0 _ => u 16 txn0
  | .shiftTxResume _ => true
  | .shiftAlignFail _ => true
  | .portCounterSnapshot who0 _ value0 => Caller.wf who0 && u 64 value0
  | .allPortSnapshot who0 value0 => Caller.wf who0 && u 64 value0
  | .portCounterClear who0 _ value0 => Caller.wf who0 && u 64 value0
  | .filterEntryWrite who0 _ _ value0 => Caller.wf who0 && u 64 value0
  | .octetPllLockLoss _ => true
  | .octetPllStop _ => true
  | .streamAdmit who0 _ value0 => Caller.wf who0 && octetsOk value0
  | .admissionShiftWait _ => true
  | .streamWithdraw who0 _ value0 => Caller.wf who0 && octetsOk value0
  | .learn _ => true
  | .skimmerSweep => true
  | .staticMacWrite who0 _ value0 => Caller.wf who0 && octetsOk value0
  | .soundingPass => true
  | .dropEvent counter0 => u 16 counter0
  | .shaperRateWrite who0 _ _ value0 => Caller.wf who0 && u 64 value0
  | .redSupervisionSend _ => true
  | .redNodeForget _ address0 => u 48 address0
  | .xosynHelloSend _ => true
  | .xosynHello _ serial0 fabricId0 address0 _ => u 64 serial0 && u 16 fabricId0 && optionAddress address0
  | .neighbourTimeout _ => true
  | .delayReqSend _ => true
  | .delayReq _ source0 seq0 => optionAddress source0 && u 32 seq0
  | .delayResp _ t20 residence0 seq0 => u 64 t20 && u 32 residence0 && u 32 seq0
  | .lsaOriginate => true
  | .lsa _ head0 msg0 => XosynHead.wf head0 && LsaMsg.wf msg0
  | .lsaAgeOut serial0 => u 64 serial0
  | .addressDecide => true
  | .addressAssign serial0 address0 cause0 => u 64 serial0 && optionAddress address0 && u 8 cause0
  | .routeCompute => true
  | .flowEnable who0 _ value0 => Caller.wf who0 && octetsOk value0
  | .flowDisable who0 _ value0 => Caller.wf who0 && octetsOk value0
  | .flowSetup _ head0 msg0 => XosynHead.wf head0 && FlowMsg.wf msg0
  | .flowAck _ head0 msg0 => XosynHead.wf head0 && FlowMsg.wf msg0
  | .flowRefuse _ head0 msg0 => XosynHead.wf head0 && FlowMsg.wf msg0
  | .flowRelease _ head0 msg0 => XosynHead.wf head0 && FlowMsg.wf msg0
  | .flowSetupTimeout _ _ => true
  | .flowData _ head0 carried0 => XosynHead.wf head0 && octetsOk carried0
  | .timeSend _ => true
  | .time source0 _ offer0 pathDelay0 _ => u 12 source0 && TimeMsg.wf offer0 && u 32 pathDelay0
  | .fabricSourceLost _ address0 => u 12 address0
  | .pondReportSend => true
  | .pondReport source0 msg0 => u 12 source0 && ReportMsg.wf msg0
  | .memberStale address0 => u 12 address0
  | .datagram _ head0 payload0 => XosynHead.wf head0 && octetsOk payload0
  | .sinkEntryWrite who0 _ value0 => Caller.wf who0 && octetsOk value0
  | .sinkPathSilent _ _ => true
  | .intakeFrame => true
  | .horizonClose _ => true
  | .intakeEnable who0 _ value0 => Caller.wf who0 && u 64 value0
  | .intakeKeySlots who0 _ value0 => Caller.wf who0 && u 64 value0
  | .streamSilent _ => true
  | .filterOutput c0 => channelOk c0
  | .phasorOutput _ => true
  | .filterInput who0 c0 value0 => Caller.wf who0 && channelOk c0 && u 64 value0
  | .filterEnable who0 c0 value0 => Caller.wf who0 && channelOk c0 && u 64 value0
  | .filterScale who0 c0 value0 => Caller.wf who0 && channelOk c0 && octetsOk value0
  | .firSetWrite who0 _ value0 => Caller.wf who0 && octetsOk value0
  | .phasorEnable who0 _ value0 => Caller.wf who0 && u 64 value0
  | .trackerEnable who0 _ value0 => Caller.wf who0 && u 64 value0
  | .chainEccError _ _ n0 => u 32 n0
  | .chainScrubPass micros0 => u 64 micros0
  | .unitArm who0 _ => Caller.wf who0
  | .unitDisarm who0 _ => Caller.wf who0
  | .unitDisarmAfterFreeze who0 _ => Caller.wf who0
  | .triggerDecide _ => true
  | .unitSoftTrigger who0 _ value0 => Caller.wf who0 && u 64 value0
  | .recordFreeze _ => true
  | .recordLock who0 _ _ => Caller.wf who0
  | .recordUnlock who0 _ _ => Caller.wf who0
  | .recordRelease who0 _ _ => Caller.wf who0
  | .rippleEdge _ _ => true
  | .rippleRelease _ => true
  | .rippleStuck _ => true
  | .trigger _ head0 msg0 => XosynHead.wf head0 && TriggerMsg.wf msg0
  | .exportRequest who0 value0 => Caller.wf who0 && u 64 value0
  | .exportDone _ => true
  | .acqEccError _ _ _ => true
  | .lockstepMismatch _ => true
  | .spRecover who0 _ value0 => Caller.wf who0 && u 64 value0
  | .spSelfTestDone _ _ => true
  | .spEccError _ _ _ _ => true
  | .spScrubPass _ micros0 => u 64 micros0
  | .programLoad who0 _ address0 => Caller.wf who0 && u 64 address0
  | .programLoadDone _ => true
  | .coldStart who0 _ => Caller.wf who0
  | .warmStart who0 _ => Caller.wf who0
  | .stopCmd who0 _ => Caller.wf who0
  | .imageFreeze _ => true
  | .overrun _ => true
  | .scanBoundary _ => true
  | .autoRestart _ => true
  | .ferrySwitch who0 _ scan0 => Caller.wf who0 && u 64 scan0
  | .ferryCancel who0 _ value0 => Caller.wf who0 && u 64 value0
  | .addi _ _ _ _ => true
  | .andi _ _ _ _ => true
  | .ori _ _ _ _ => true
  | .xori _ _ _ _ => true
  | .shiSll _ _ _ _ => true
  | .shiSrl _ _ _ _ => true
  | .shiSra _ _ _ _ => true
  | .cmpi _ _ _ => true
  | .movi _ _ _ => true
  | .cati _ _ _ _ => true
  | .ldb _ _ _ _ => true
  | .ldbu _ _ _ _ => true
  | .ldh _ _ _ _ => true
  | .ldhu _ _ _ _ => true
  | .ldw _ _ _ _ => true
  | .ldwu _ _ _ _ => true
  | .ldd _ _ _ _ => true
  | .fldw _ _ _ _ => true
  | .stb _ _ _ _ => true
  | .sth _ _ _ _ => true
  | .stw _ _ _ _ => true
  | .std _ _ _ _ => true
  | .fstw _ _ _ _ => true
  | .bCmd _ _ _ => true
  | .bl _ _ => true
  | .jr _ _ _ => true
  | .bz _ _ _ => true
  | .bnz _ _ _ => true
  | .add _ _ _ _ => true
  | .sub _ _ _ _ => true
  | .adds _ _ _ _ => true
  | .subs _ _ _ _ => true
  | .neg _ _ _ => true
  | .negs _ _ _ => true
  | .abs _ _ _ => true
  | .abss _ _ _ => true
  | .cmp _ _ _ => true
  | .mul _ _ _ _ => true
  | .muls _ _ _ _ => true
  | .mulh _ _ _ _ => true
  | .mulhu _ _ _ _ => true
  | .div _ _ _ _ => true
  | .divu _ _ _ _ => true
  | .rem _ _ _ _ => true
  | .remu _ _ _ _ => true
  | .andCmd _ _ _ _ => true
  | .orCmd _ _ _ _ => true
  | .xor _ _ _ _ => true
  | .andn _ _ _ _ => true
  | .notCmd _ _ _ => true
  | .sll _ _ _ _ => true
  | .srl _ _ _ _ => true
  | .sra _ _ _ _ => true
  | .minCmd _ _ _ _ => true
  | .maxCmd _ _ _ _ => true
  | .minu _ _ _ _ => true
  | .maxu _ _ _ _ => true
  | .sext8 _ _ _ => true
  | .sext16 _ _ _ => true
  | .sext32 _ _ _ => true
  | .zext8 _ _ _ => true
  | .zext16 _ _ _ => true
  | .zext32 _ _ _ => true
  | .sat16 _ _ _ => true
  | .sat32 _ _ _ => true
  | .clz _ _ _ => true
  | .sel _ _ _ _ _ => true
  | .fadd _ _ _ _ => true
  | .fsub _ _ _ _ => true
  | .fmul _ _ _ _ => true
  | .fdiv _ _ _ _ => true
  | .fsqrt _ _ _ => true
  | .fmin _ _ _ _ => true
  | .fmax _ _ _ _ => true
  | .fabs _ _ _ => true
  | .fneg _ _ _ => true
  | .fmov _ _ _ => true
  | .feq _ _ _ _ => true
  | .flt _ _ _ _ => true
  | .fle _ _ _ _ => true
  | .fclass _ _ _ => true
  | .fcvtfl _ _ _ => true
  | .fcvtflu _ _ _ => true
  | .fcvtlf _ _ _ => true
  | .fcvtlfz _ _ _ => true
  | .fmvgf _ _ _ => true
  | .fmvfg _ _ _ => true
  | .frndn _ _ _ => true
  | .frndz _ _ _ => true
  | .frndm _ _ _ => true
  | .frndp _ _ _ => true
  | .fmadd _ _ _ _ _ => true
  | .fmsub _ _ _ _ _ => true
  | .fnmsub _ _ _ _ _ => true
  | .fnmadd _ _ _ _ _ => true
  | .cadd _ _ _ _ => true
  | .csub _ _ _ _ => true
  | .cmul _ _ _ _ => true
  | .cmulc _ _ _ _ => true
  | .cscl _ _ _ _ => true
  | .cabs _ _ _ => true
  | .carg _ _ _ => true
  | .crot _ _ _ _ => true
  | .cpol _ _ _ _ => true
  | .ient _ _ _ => true
  | .ielt _ _ _ _ => true
  | .iqual _ _ _ _ => true
  | .qcls _ _ _ _ => true
  | .tdiff _ _ _ _ => true
  | .tadd _ _ _ _ => true
  | .nop _ => true
  | .endscan _ => true
  | .rdsr _ _ _ => true
  | .wrsr _ _ _ => true
  | .clrf _ => true
  | .abort _ => true
  | .illegalInstruction _ => true
  | .retainedStoreWait _ => true
  | .pairEnable who0 value0 => Caller.wf who0 && u 64 value0
  | .pairHelloSend => true
  | .pairHello _ seq0 serial0 pairId0 role0 beat0 dom0 => u 32 seq0 && u 64 serial0 && u 16 pairId0 && u 8 role0 && u 64 beat0 && u 8 dom0
  | .pairIsolated => true
  | .beat _ _ => true
  | .beatReceive _ seq0 msg0 => u 32 seq0 && BeatMsg.wf msg0
  | .digestSend => true
  | .digest _ seq0 records0 => u 32 seq0 && records0.all DigestRec.wf
  | .digestCompare _ => true
  | .statusSend => true
  | .status _ seq0 msg0 => u 32 seq0 && ReportMsg.wf msg0
  | .leaseExpiry => true
  | .claim _ => true
  | .claimSample _ => true
  | .claimInAsserted => true
  | .claimLineFault since0 => u 64 since0
  | .releaseCause => true
  | .release _ seq0 instant0 cause0 => u 32 seq0 && u 96 instant0 && u 8 cause0
  | .offer _ seq0 instant0 cause0 => u 32 seq0 && u 96 instant0 && u 8 cause0
  | .accept _ seq0 instant0 cause0 => u 32 seq0 && u 96 instant0 && u 8 cause0
  | .refuse _ seq0 instant0 cause0 => u 32 seq0 && u 96 instant0 && u 8 cause0
  | .takeRequest _ seq0 instant0 cause0 => u 32 seq0 && u 96 instant0 && u 8 cause0
  | .takeBack => true
  | .handoverInstant => true
  | .paddleHandOver who0 => Caller.wf who0
  | .paddleTake who0 => Caller.wf who0
  | .clearSuspect who0 => Caller.wf who0
  | .clearRevertSuspended who0 => Caller.wf who0
  | .pairJoin who0 _ => Caller.wf who0
  | .resyncData _ seq0 msg0 => u 32 seq0 && ResyncMsg.wf msg0
  | .resyncAbandon _ => true
  | .ferryPropose _ seq0 _ scan0 tag0 => u 32 seq0 && u 64 scan0 && u 16 tag0
  | .ferryAccept _ seq0 _ scan0 tag0 => u 32 seq0 && u 64 scan0 && u 16 tag0
  | .ferryCancelMessage _ seq0 _ scan0 tag0 => u 32 seq0 && u 64 scan0 && u 16 tag0
  | .startPropose _ seq0 _ mode0 scan0 tag0 => u 32 seq0 && u 8 mode0 && u 64 scan0 && u 16 tag0
  | .startAccept _ seq0 _ mode0 scan0 tag0 => u 32 seq0 && u 8 mode0 && u 64 scan0 && u 16 tag0
  | .selfTestFail _ => true
  | .fioEntryExecute _ => true
  | .heldEntryDiscard _ => true
  | .fqSubmit _ => true
  | .fqSubmitCollision _ => true
  | .fioInputEdge _ _ sample0 => u 64 sample0
  | .chatterClear _ => true
  | .readbackFault _ _ => true
  | .fioClassWrite who0 _ _ value0 => Caller.wf who0 && u 64 value0
  | .lsConversion samples0 => samples0.all fun x => decide (x.1 < 16) && u 24 x.2
  | .lsCalibrateZero who0 _ => Caller.wf who0
  | .lsCalibrateSpan who0 _ => Caller.wf who0
  | .lsCalibrationDone _ => true
  | .tcsDelayExpiry _ => true
  | .instanceCreate who0 value0 => Caller.wf who0 && u 64 value0
  | .instanceDelete who0 value0 => Caller.wf who0 && u 64 value0
  | .vfInstance who0 _ value0 => Caller.wf who0 && u 64 value0
  | .functionLevelReset _ => true
  | .ringProd _ _ value0 => u 64 value0
  | .ringCons _ _ value0 => u 64 value0
  | .ringCommand _ _ value0 => u 64 value0
  | .ringStatusKnock _ _ value0 => u 64 value0
  | .ringConfig who0 _ _ value0 => Caller.wf who0 && octetsOk value0
  | .txPacketSend _ _ dma0 => octetsOk dma0
  | .resetDrain who0 _ => Caller.wf who0
  | .resetSquash who0 _ => Caller.wf who0
  | .resetComplete _ => true
  | .drainLimitExpiry _ => true
  | .hbmBindHost who0 inst0 count0 first0 => Caller.wf who0 && u 8 inst0 && u 32 count0 && u 32 first0
  | .hbmBindManager who0 count0 first0 => Caller.wf who0 && u 32 count0 && u 32 first0
  | .hbmUnbind who0 count0 first0 => Caller.wf who0 && u 32 count0 && u 32 first0
  | .hbmRetire who0 count0 first0 => Caller.wf who0 && u 32 count0 && u 32 first0
  | .protectionViolation _ _ _ addr0 => u 64 addr0
  | .dmaViolation _ _ addr0 data0 => u 64 addr0 && octetsOk data0
  | .readShared _ line0 => u 64 line0
  | .readUnique _ line0 store0 => u 64 line0 && optionStore store0
  | .upgrade _ line0 store0 => u 64 line0 && optionStore store0
  | .writeback _ line0 _ => u 64 line0
  | .cleanEvict _ line0 _ => u 64 line0
  | .ioRead line0 => u 64 line0
  | .ioWrite line0 offset0 data0 => u 64 line0 && u 32 offset0 && octetsOk data0
  | .snoop _ line0 => u 64 line0
  | .hbmEccError addr0 _ => u 64 addr0
  | .hbmEccCorrected addr0 _ _ => u 64 addr0
  | .directoryEccError line0 => u 64 line0
  | .hbmScrubPass micros0 => u 64 micros0
  | .l3ScrubPass _ micros0 => u 64 micros0
  | .eventRaiseInDie _ _ code0 kind0 num0 detail0 => u 16 code0 && u 8 kind0 && u 24 num0 && u 96 detail0
  | .eventRelease markN0 markC00 markC10 markS0 => u 64 markN0 && u 64 markC00 && u 64 markC10 && u 64 markS0
  | .dieSilent _ mark0 => u 64 mark0
  | .dieReadmit _ mark0 => u 64 mark0
  | .eqCoalesceTimeout _ => true
  | .eqKick _ => true
  | .eqConfig who0 _ value0 => Caller.wf who0 && octetsOk value0
  | .evtPinPulseEnd _ => true
  | .evtPinAck who0 _ value0 => Caller.wf who0 && u 64 value0
  | .eventRaise who0 value0 => Caller.wf who0 && octetsOk value0
  | .recorderWrite => true
  | .recorderCrcPass => true
  | .operatingSecondsSave => true
  | .recorderFreeze who0 => Caller.wf who0
  | .recorderUnfreeze who0 => Caller.wf who0
  | .freezeLimitExpiry => true
  | .recorderClear who0 value0 => Caller.wf who0 && u 64 value0
  | .imageBoot => true
  | .bootConfirm who0 value0 => Caller.wf who0 && u 64 value0
  | .securityVersionAdvance who0 value0 => Caller.wf who0 && u 64 value0
  | .ownerBootKeyProgram who0 value0 => Caller.wf who0 && octetsOk value0
  | .ownerBootKeyRevoke who0 value0 => Caller.wf who0 && u 64 value0
  | .measureExtend who0 value0 => Caller.wf who0 && octetsOk value0
  | .recoveryBlock who0 _ value0 => Caller.wf who0 && octetsOk value0
  | .recoveryRestart who0 value0 => Caller.wf who0 && u 64 value0
  | .ownerClaim who0 value0 => Caller.wf who0 && octetsOk value0
  | .ownerRelease who0 value0 => Caller.wf who0 && u 64 value0
  | .credentialEntry who0 _ value0 => Caller.wf who0 && octetsOk value0
  | .credentialSecret who0 _ value0 => Caller.wf who0 && octetsOk value0
  | .keyLoad who0 _ value0 => Caller.wf who0 && octetsOk value0
  | .keyLoadDone _ _ => true
  | .keyCommit who0 _ _ => Caller.wf who0
  | .keyDiscard who0 _ => Caller.wf who0
  | .keyErase who0 _ value0 => Caller.wf who0 && u 64 value0
  | .journalCheckPass bad0 => bad0.all MramPlace.wf
  | .sluice _ => true
  | .sluiceCommand who0 value0 => Caller.wf who0 && u 64 value0
  | .tamperStatusKnock who0 value0 => Caller.wf who0 && u 64 value0
  | .attestMSecret who0 value0 => Caller.wf who0 && octetsOk value0
  | .attestMChallenge who0 value0 => Caller.wf who0 && octetsOk value0
  | .attestMResponse who0 => Caller.wf who0
  | .attestPGenerate who0 value0 => Caller.wf who0 && u 64 value0
  | .attestPChallenge who0 value0 => Caller.wf who0 && octetsOk value0
  | .attestPQuote who0 => Caller.wf who0
  | .hamperTick rails0 => rails0.all (u 64)
  | .holdupConversion _ => true
  | .shedCoreGate => true
  | .holdupCalibrateZero who0 => Caller.wf who0
  | .holdupCalibrateSpan who0 => Caller.wf who0
  | .holdupCalibrationDone => true
  | .moduleSleepEnter who0 => Caller.wf who0
  | .moduleSleepLeave who0 => Caller.wf who0
  | .thermalSample _ => true
  | .throttleStep => true
  | .thermalDownshiftStep => true
  | .thermalTrip => true
  | .thermalTripShore => true
  | .powerOnReset _ => true
  | .powerOnResetEnd _ bad0 => bad0.all MramPlace.wf
  | .railCheckRetry outside0 => u 16 outside0
  | .fastDiesUp => true
  | .managerStarted => true
  | .configLoad => true
  | .wrstN => true
  | .moduleResetWarm who0 => Caller.wf who0
  | .moduleResetPowerOn who0 => Caller.wf who0
  | .moduleResetForced who0 => Caller.wf who0
  | .warmResetDone => true
  | .shoreWake => true
  | .srefCheck _ _ => true
  | .pePerstN _ => true
  | .bootFlashBlock who0 _ value0 => Caller.wf who0 && octetsOk value0
  | .bootFlashVerify who0 value0 => Caller.wf who0 && u 64 value0
  | .mb0TargetWrite _ data0 => octetsOk data0
  | .powerFail value0 => u 8 value0
  | .wake value0 => u 8 value0
  | .boardControllerWrite _ => true
  | .mb1RecordSend _ _ => true
  | .mb1RecordReceive _ data0 => octetsOk data0
  | .arbitrationLost _ _ asTarget0 => optionStore asTarget0
  | .mbRetry _ _ => true
  | .mbBusRecovery _ _ => true
  | .unitSleepEntry _ n0 => u 32 n0
  | .preFreezeWake _ => true
  | .sgmiiSpeedChange _ speed0 => u 32 speed0
  | .ptpMessageSend _ _ kind0 => u 8 kind0
  | .dtlsHandshake addr0 port0 assoc0 _ _ _ => u 128 addr0 && u 16 port0 && u 32 assoc0
  | .dtlsAssociationEnd assoc0 => u 32 assoc0
  | .pairedStartTimeout _ => true
  | .ferryProposeTimeout _ => true
  | .releaseInstant => true
  | .selfTestRecover _ => true
  | .tamperCauseClear _ => true
  | .mgmtLinkChange _ => true
  | .pcieLinkChange width0 rate0 => u 8 width0 && u 8 rate0
  | .msixVectorUnmask _ _ => true
  | .rippleStuckClear _ => true
  | .bootFlashBlockDone _ => true
  | .bootFlashVerifyDone => true
  | .functionLevelResetDone _ => true
  | .octetPllLocked _ => true
  | .keyCommitDone _ => true

end Sys2Proof
end

section
/-! PROOFS. The order in which the merge releases events (Chapter 16; R11; R580; R583). The heads of the admitted dies
are folded to the one of least key; a head of an excluded die goes before them all. -/

namespace Sys2Proof.Machine

/-! ### The order of R11 -/

theorem Event.before_iff (a b : Event) :
    a.before b = true ↔ a.gtc < b.gtc ∨ a.gtc = b.gtc ∧ a.source < b.source := by
  simp [Event.before]

theorem Event.not_before_self (a : Event) : ¬ a.before a = true := by
  simp [Event.before_iff]

theorem Event.before_trans {a b c : Event} (hab : a.before b = true) (hbc : b.before c = true) :
    a.before c = true := by
  rw [Event.before_iff] at *
  omega

/-! ### The choice among the heads -/

/-- Of two events with their dies the one with the lesser key, the first for equal keys. -/
def sooner (a b : Die × Event) : Die × Event := if b.2.before a.2 then b else a

theorem sooner_eq_or (a b : Die × Event) : sooner a b = a ∨ sooner a b = b := by
  unfold sooner
  split
  · exact .inr rfl
  · exact .inl rfl

/-- What comes before the sooner of two events comes before each of them. -/
theorem before_of_before_sooner {a b : Die × Event} {f : Event} (h : f.before (sooner a b).2 = true) :
    f.before a.2 = true ∧ f.before b.2 = true := by
  unfold sooner at h
  split at h
  case isTrue hba => exact ⟨Event.before_trans h hba, h⟩
  case isFalse hba =>
    refine ⟨h, ?_⟩
    rw [Event.before_iff] at *
    omega

theorem foldl_sooner_mem (r : List (Die × Event)) (x : Die × Event) : r.foldl sooner x ∈ x :: r := by
  induction r generalizing x with
  | nil => exact List.mem_singleton_self x
  | cons y r ih =>
    rw [List.foldl_cons]
    rcases List.mem_cons.mp (ih (sooner x y)) with h | h
    · rw [h]
      rcases sooner_eq_or x y with hxy | hxy <;> simp [hxy]
    · exact .tail _ (.tail _ h)

/-- What comes before the result of the fold comes before every event of the list. -/
theorem before_of_before_foldl_sooner {f : Event} (r : List (Die × Event)) (x : Die × Event)
    (h : f.before (r.foldl sooner x).2 = true) : ∀ y ∈ x :: r, f.before y.2 = true := by
  induction r generalizing x with
  | nil => simpa using h
  | cons z r ih =>
    obtain ⟨hxz, hr⟩ := List.forall_mem_cons.mp (ih (sooner x z) h)
    obtain ⟨hx, hz⟩ := before_of_before_sooner hxz
    exact List.forall_mem_cons.mpr ⟨hx, List.forall_mem_cons.mpr ⟨hz, hr⟩⟩

/-- No event of the list comes before the result of the fold. -/
theorem not_before_foldl_sooner {r : List (Die × Event)} {x y : Die × Event} (hy : y ∈ x :: r) :
    ¬ y.2.before (r.foldl sooner x).2 = true :=
  fun h => Event.not_before_self y.2 (before_of_before_foldl_sooner r x h y hy)

/-! ### The heads of the dies -/

theorem mem_allDies (d : Die) : d ∈ allDies := by
  cases d <;> decide

/-- The oldest event of each admitted die that holds one, with its die. -/
def State.admittedHeads (s : State) : List (Die × Event) :=
  allDies.filterMap fun d => if (s.evDie d).excluded then none else ((s.evDie d).buffer.head?).map fun e => (d, e)

theorem mem_admittedHeads (s : State) (d : Die) (e : Event) :
    (d, e) ∈ s.admittedHeads ↔ (s.evDie d).excluded = false ∧ (s.evDie d).buffer.head? = some e := by
  simp [State.admittedHeads, mem_allDies]

/-- The first die that is excluded and holds an event. -/
def State.excludedHolder (s : State) : Option Die :=
  allDies.find? fun d => (s.evDie d).excluded && !(s.evDie d).buffer.isEmpty

theorem excludedHolder_eq_none_iff (s : State) :
    s.excludedHolder = none ↔ ∀ x : Die, (s.evDie x).excluded = true → (s.evDie x).buffer = [] := by
  simp [State.excludedHolder, mem_allDies]

theorem excludedHolder_eq_some {s : State} {d : Die} (h : s.excludedHolder = some d) :
    (s.evDie d).excluded = true ∧ ∃ f : Event, (s.evDie d).buffer.head? = some f := by
  obtain ⟨hexcl, hbuf⟩ : (s.evDie d).excluded = true ∧ (s.evDie d).buffer ≠ [] := by
    simpa using List.find?_some h
  exact ⟨hexcl, _, List.head?_eq_some_head hbuf⟩

/-! ### The release -/

theorem nextRelease_of_excludedHolder {s : State} {d : Die} {f : Event} (h : s.excludedHolder = some d)
    (hf : (s.evDie d).buffer.head? = some f) : s.nextRelease = some (d, { f with outOfOrder := true }) := by
  unfold State.excludedHolder at h
  simp [State.nextRelease, h, hf]

theorem nextRelease_of_no_heads {s : State} (h : s.excludedHolder = none) (hheads : s.admittedHeads = []) :
    s.nextRelease = none := by
  unfold State.excludedHolder at h
  unfold State.admittedHeads at hheads
  simp [State.nextRelease, h, hheads]

theorem nextRelease_eq_some_iff_of_heads {s : State} {x m : Die × Event} {r : List (Die × Event)}
    (h : s.excludedHolder = none) (hheads : s.admittedHeads = x :: r) :
    s.nextRelease = some m ↔
      (∀ d : Die, (s.evDie d).excluded = false → (r.foldl sooner x).2.gtc ≤ (s.evDie d).watermark) ∧
        r.foldl sooner x = m := by
  have hsooner : sooner = fun a b => if b.2.before a.2 then b else a := rfl
  unfold State.excludedHolder at h
  unfold State.admittedHeads at hheads
  simp [State.nextRelease, h, hheads, hsooner, mem_allDies, or_iff_not_imp_left]

/-- What a release from an admitted die says: it is the least of the heads, and every admitted watermark has reached it. -/
theorem heads_of_nextRelease {s : State} {m : Die × Event} (h : s.excludedHolder = none) (hm : s.nextRelease = some m) :
    ∃ (x : Die × Event) (r : List (Die × Event)), s.admittedHeads = x :: r ∧ r.foldl sooner x = m ∧
      ∀ d : Die, (s.evDie d).excluded = false → m.2.gtc ≤ (s.evDie d).watermark := by
  cases hheads : s.admittedHeads with
  | nil => simp [nextRelease_of_no_heads h hheads] at hm
  | cons x r =>
    obtain ⟨hmarks, rfl⟩ := (nextRelease_eq_some_iff_of_heads h hheads).mp hm
    exact ⟨x, r, rfl, rfl, hmarks⟩

/-- Settles O54: a release from an admitted die is the fold of the heads, whose result no head comes before; a release
while an excluded die holds an event is the head of such a die, marked out of order. -/
theorem releaseFollowsKeyOrder : Obligations.ReleaseFollowsKeyOrder := by
  unfold Obligations.ReleaseFollowsKeyOrder
  constructor
  · intro s d e hnone hrel
    obtain ⟨x, r, hheads, hfold, hmarks⟩ :=
      heads_of_nextRelease ((excludedHolder_eq_none_iff s).mpr hnone) hrel
    have hmem : (d, e) ∈ s.admittedHeads := by
      rw [hheads, ← hfold]
      exact foldl_sooner_mem r x
    obtain ⟨hadmitted, hhead⟩ := (mem_admittedHeads s d e).mp hmem
    refine ⟨hadmitted, hhead, fun y hy => ⟨hmarks y hy, fun f hf => ?_⟩⟩
    have hfmem : (y, f) ∈ x :: r := hheads ▸ (mem_admittedHeads s y f).mpr ⟨hy, hf⟩
    have hleast := not_before_foldl_sooner hfmem
    rwa [hfold, Event.before_iff] at hleast
  · intro s x hx hbuf
    have hholder : s.excludedHolder ≠ none := fun h => hbuf ((excludedHolder_eq_none_iff s).mp h x hx)
    obtain ⟨d, hd⟩ := Option.ne_none_iff_exists'.mp hholder
    obtain ⟨hexcl, f, hf⟩ := excludedHolder_eq_some hd
    exact ⟨d, _, f, nextRelease_of_excludedHolder hd hf, hexcl, hf, rfl⟩

end Sys2Proof.Machine
end

section
/-! PROOFS. A step, and the state that a power-on reset leaves (Chapters 1, 15, 16 and 19; R36, R37, R571, R600, R661, R666). -/

namespace Sys2Proof.Machine

/-- Settles O47, by the two cases of the queue. -/
theorem stepRunsTheFrontCommand : Obligations.StepRunsTheFrontCommand := by
  unfold Obligations.StepRunsTheFrontCommand
  refine ⟨fun c s => step_withFront s c, fun c q s h => ?_, step_empty⟩
  rw [step, h]

/-! ### The event queues' configuration (R587) -/

theorem objectRow_eqConfig (q : Fin 256) : ∃ r, objectRow (Od.eqConfig + q) = some r ∧ r.factory = false
    ∧ r.dflt = .bytes (List.replicate 32 0) := by
  have hindex : (0xC20000 + q.val) / 256 = 0xC200 := by omega
  have hsub : (0xC20000 + q.val) % 256 = q.val := by omega
  have hq : q.val ≤ 255 := by omega
  simp [objectRow, Od.eqConfig, hindex, hsub, objectRowsOf, objectRowsC, objectRowsC_0, hq]

/-- An event queue's configuration is none of the objects that `objDefault` names: its Default stands in its row. -/
theorem objDefault_eqConfig (q : Fin 256) : objDefault (Od.eqConfig + q) = .bytes (List.replicate 32 0) := by
  obtain ⟨r, hrow, hfactory, hdflt⟩ := objectRow_eqConfig q
  have hsource : ¬ Od.eqConfig + q.val ≤ 0xC10FFF := by unfold Od.eqConfig; omega
  have hport : ¬ Od.eqConfig + q.val < 0x310000 := by unfold Od.eqConfig; omega
  have hfilter : ¬ Od.eqConfig + q.val < 0x624400 := by unfold Od.eqConfig; omega
  have hmac : Od.eqConfig + q.val ≠ Od.baseMacAddress := by unfold Od.eqConfig Od.baseMacAddress; omega
  have hkey : Od.eqConfig + q.val ≠ Od.factoryIdentityKey := by unfold Od.eqConfig Od.factoryIdentityKey; omega
  have hroute : Od.eqConfig + q.val ≠ 0xC01001 := by unfold Od.eqConfig; omega
  simp only [objDefault, hsource, hport, hfilter, hmac, hkey, hroute, hrow, hfactory, hdflt, and_false, false_and,
    if_false, Bool.false_eq_true]

/-! ### After reset -/

theorem reset_obj (id sel : Nat) : State.reset.obj id sel = objDefault id := rfl

theorem reset_pageBinding {p : Nat} (hp : p < 1024) : State.reset.pageBinding p = if p < 256 then 1 else 2 := by
  have hunlisted : tabGet none State.reset.mem.bindings p = none := rfl
  simp [State.pageBinding, hunlisted, hp]

theorem reset_kinstOf (core : Nat) : State.reset.kinstOf core = none := by
  have hzero : tabGet 0 State.reset.mem.kinst core = 0 := rfl
  simp [State.kinstOf, hzero]

theorem reset_eqEnabled (q : Fin 256) : eqEnabled (State.reset.eqConfig q) = false := by
  rw [State.eqConfig, State.blob, reset_obj, objDefault_eqConfig]
  rfl

theorem reset_bootState : State.reset.num Od.bootState = 0 := rfl

/-- Settles O48: every table is empty after reset, so that each reads as its default. -/
theorem stateAfterReset : Obligations.StateAfterReset := by
  unfold Obligations.StateAfterReset
  exact ⟨rfl, rfl, rfl, reset_obj, fun _ => rfl, fun _ => reset_pageBinding, reset_kinstOf, reset_eqEnabled, fun _ => rfl,
    fun _ => ⟨rfl, rfl⟩, reset_bootState, rfl⟩

end Sys2Proof.Machine
end

section
/-! PROOFS. Ponds and in-package links (Chapter 1; R24, R25, R41 to R54, R104): what each command does once its checks let
it through. -/

namespace Sys2Proof.Machine

/-! ### Chains of checks -/

theorem ok_bind {α β : Type} {a : α} {f : α → Except Code β} : (Except.ok a >>= f) = f a := by
  simp only [bind, Except.bind]

theorem error_bind {α β : Type} {c : Code} {f : α → Except Code β} : (Except.error c >>= f) = .error c := by
  simp only [bind, Except.bind]

theorem lets_gate {s : State} {who : Caller} {id : Nat} {present : Bool} {sel : Nat} {v : OVal}
    (h : s.lets who id present sel v = true) : ∃ r, s.gate who id present sel v = .ok r ∧ r.checkRange v = .ok () := by
  have hrange := lets_ok h
  unfold State.gateRange at hrange
  cases hgate : s.gate who id present sel v with
  | error c => simp [hgate, error_bind] at hrange
  | ok r => exact ⟨r, rfl, by simpa [hgate, ok_bind] using hrange⟩

/-! ### In-package links (R24, R25) -/

theorem linkGroupDegraded_of_up {s : State} {g l : Nat} (hg : 1 < groupLinks g) (hl : l < groupLinks g)
    (hup : tabGet false s.pond.linkDown (g * 8 + l) = false) :
    linkGroupDegraded g l s = (s.withPond fun x =>
      { x with linkDown := tabSet false x.linkDown (g * 8 + l) true }).raiseOcc 0xC12 0x80 0 1 g := by
  have hone : ¬ groupLinks g ≤ 1 := by omega
  have hin : ¬ groupLinks g ≤ l := by omega
  simp only [linkGroupDegraded, hone, hin, hup, false_or, Bool.false_eq_true, if_false]
  rfl

/-- The state with link `l` of group `g` marked down. -/
def State.markDown (g : Nat) (s : State) (l : Nat) : State :=
  { s with pond := { s.pond with linkDown := tabSet false s.pond.linkDown (g * 8 + l) true } }

theorem linkDown_markDown {s : State} {g l m : Nat} : tabGet false (s.markDown g l).pond.linkDown (g * 8 + m)
    = (decide (m = l) || tabGet false s.pond.linkDown (g * 8 + m)) := by
  simp only [State.markDown, tabGet_set]
  by_cases h : m = l <;> simp [h]

/-- Marking the links of a list leaves each of them down, and no link that was down up. -/
theorem linkDown_foldl_markDown {l : List Nat} {s : State} {g m : Nat}
    (h : m ∈ l ∨ tabGet false s.pond.linkDown (g * 8 + m) = true) :
    tabGet false (l.foldl (State.markDown g) s).pond.linkDown (g * 8 + m) = true := by
  induction l generalizing s with
  | nil => simpa using h
  | cons a r ih =>
    apply ih
    simp only [linkDown_markDown, Bool.or_eq_true, decide_eq_true_eq]
    rcases h with h | h
    · rcases List.mem_cons.mp h with h | h
      · exact .inr (.inl h)
      · exact .inl h
    · exact .inr (.inr h)

theorem mem_numbersFrom {a n m : Nat} : m ∈ numbersFrom a n ↔ a ≤ m ∧ m < a + n := by
  induction n generalizing a with
  | zero => simp [numbersFrom]
  | succ n ih => simp [numbersFrom, ih]; omega

theorem linkGroupFailed_eq {g d : Nat} (s : State) (hd : cutDie g = some d) : linkGroupFailed g s
    = (numbersFrom (16 * d) 16).foldl State.stopProcessor
      (((numbersFrom 0 (groupLinks g)).foldl (State.markDown g) s).raiseOcc 0xC12 0x80 0 2 g) := by
  simp only [linkGroupFailed, hd]
  rfl

/-! ### Creating and deleting (R44, R51) -/

theorem pondCreate_of_checked {s : State} {who : Caller} {p v : Nat} {r : PondRec}
    (hlets : s.lets who Od.pondCreateChild true p (.num v) = true) (hfree : s.pondAt v = none) (hp : s.pondAt p = some r)
    (hkind : r.kind = 1 ∨ r.kind = 5) (hdepth : r.depth < 8) :
    pondCreate who p v s = .ok ((s.forgetSelector v).withPondRec v (some ⟨5, p, r.depth + 1⟩)) := by
  have huser : s.userSpace p = true := by simp [State.userSpace, hp, hkind]
  simp [pondCreate, lets_ok hlets, hfree, huser, hp, hdepth, ok_bind, State.withPondRec]

theorem pondDelete_of_empty {s : State} {who : Caller} {p : Nat} {r : PondRec}
    (hlets : s.lets who Od.pondDelete true p (.num 1) = true) (hp : s.pondAt p = some r) (hkind : r.kind = 5)
    (hitems : s.holdsItems p = false) (hchildren : s.pondChildren p = []) :
    ∃ t, pondDelete who p 1 s = .ok t ∧ t.pondAt p = none := by
  obtain ⟨row, hgate, hrange⟩ := lets_gate hlets
  simp only [pondDelete, hgate, hrange, hp, hkind, hitems, hchildren, ok_bind, Option.map_some, beq_self_eq_true,
    Bool.not_false, List.isEmpty_nil, Bool.and_self, need_true, Except.ok.injEq, exists_eq_left']
  simp only [State.pondAt, tabGet_set_same]

/-! ### Moving one item (R45, R46) -/

/-- The PondMove value that moves item `n` of `kind`, and it alone, to `dest`. -/
def moveOf (dest kind n : Nat) : Nat := dest * 2 ^ 48 + kind * 2 ^ 40 + 2 ^ 24 + n

theorem itemCount_le (k : Nat) : itemCount k ≤ 2 ^ 15 := by
  unfold itemCount
  split <;> omega

theorem moveOf_fields {dest kind n : Nat} (hdest : dest < 2 ^ 12) (hkind : kind < 2 ^ 8) (hn : n < itemCount kind) :
    field (moveOf dest kind n) 48 12 = dest ∧ field (moveOf dest kind n) 40 8 = kind
      ∧ field (moveOf dest kind n) 24 16 = 1 ∧ field (moveOf dest kind n) 0 24 = n
      ∧ field (moveOf dest kind n) 60 4 = 0 := by
  have hcount := itemCount_le kind
  unfold field moveOf
  omega

section
variable {s : State} {who : Caller} {src dest kind n : Nat} (hdest : dest < 2 ^ 12) (hkind : kind < 2 ^ 8)
  (hn : n < itemCount kind) (hlets : s.letsForm who Od.pondMove true src (.num (moveOf dest kind n)) = true)
  (hpond : (s.pondAt dest).isSome = true) (hrole : who.role ≠ .tenant)
include hdest hkind hn hlets hpond hrole

/-- The checks of a move of one item up to the one for its holder. -/
theorem pondMove_one : pondMove who src (moveOf dest kind n) s = (do
    need (s.holderOf kind n == src) .notOwner
    need (!s.moveBusy src dest && !s.itemInUse kind n) .busy
    need (decide (src ≤ 0xF00) && decide (dest ≤ 0xF00)) .precondition
    need (kind != 0x0B || !s.userSpace dest || !fracLt ((s.moveItem kind dest n).pondShare dest, 1)
      ((s.moveItem kind dest n).committed dest)) .noResource
    .ok (s.moveItem kind dest n).watchHealth) := by
  obtain ⟨row, hgate⟩ := letsForm_ok hlets
  obtain ⟨h48, h40, h24, h0, h60⟩ := moveOf_fields hdest hkind hn
  have hend : n + 1 ≤ itemCount kind := hn
  have hrole : (who.role != .tenant) = true := bne_iff_ne.mpr hrole
  simp only [pondMove, hgate, h48, h40, h24, h0, h60, numbersFrom, hpond, hrole, hend, ok_bind, need_true, Bool.true_or,
    decide_true, List.all_cons, List.all_nil, beq_self_eq_true, Bool.and_self, Bool.and_true, Nat.le_refl,
    List.foldl_cons, List.foldl_nil]

theorem pondMove_of_held (hheld : s.holderOf kind n = src) (hbusy : s.moveBusy src dest = false)
    (huse : s.itemInUse kind n = false) (hsrc : src ≤ 0xF00) (hdst : dest ≤ 0xF00) (hcore : kind ≠ 0x0B) :
    pondMove who src (moveOf dest kind n) s = .ok (s.moveItem kind dest n).watchHealth := by
  have hcore : (kind != 0x0B) = true := bne_iff_ne.mpr hcore
  simp only [pondMove_one hdest hkind hn hlets hpond hrole, hheld, hbusy, huse, hsrc, hdst, hcore, ok_bind, need_true,
    Bool.true_or, decide_true, beq_self_eq_true, Bool.not_false, Bool.and_self]

theorem pondMove_of_not_held (hheld : s.holderOf kind n ≠ src) :
    pondMove who src (moveOf dest kind n) s = .error .notOwner := by
  have hheld : (s.holderOf kind n == src) = false := beq_eq_false_iff_ne.mpr hheld
  simp only [pondMove_one hdest hkind hn hlets hpond hrole, hheld, need_false, error_bind]

end

/-! ### Energy shares (R49) -/

theorem shareWrite_of_checked {s : State} {who : Caller} {p v : Nat}
    (hlets : s.letsForm who Od.pondEnergyShare true p (.num v) = true) (hshare : s.checkShare who p v = .ok ()) :
    shareWrite who p v s = .ok ((s.withEnergyShare p v).bumpVersion Od.pondEnergyShare p) := by
  obtain ⟨row, hgate⟩ := letsForm_ok hlets
  simp only [shareWrite, hgate, hshare, ok_bind, State.applyShare, State.withEnergyShare]

/-- Settles O1: each clause is the lemma about its command, answered. -/
theorem pondsAndLinks : Obligations.PondsAndLinks := by
  unfold Obligations.PondsAndLinks
  refine ⟨?degraded, ?failed, ?create, ?delete, ?move, ?notOwner, ?share⟩
  case degraded =>
    intro s g l hg hl hup
    rw [exec_linkGroupDegraded, execLinkGroupDegraded, linkGroupDegraded_of_up hg hl hup]
  case failed =>
    intro s g d hd
    refine ⟨(numbersFrom 0 (groupLinks g)).foldl (State.markDown g) s, ?_, fun l hl => ?_⟩
    · rw [exec_linkGroupFailed, execLinkGroupFailed, linkGroupFailed_eq s hd]
    · exact linkDown_foldl_markDown (.inl (mem_numbersFrom.mpr ⟨l.zero_le, by omega⟩))
  case create =>
    intro s who p v r hlets hfree hp hkind hdepth
    rw [exec_pondCreateChild, execPondCreateChild, pondCreate_of_checked hlets hfree hp hkind hdepth, answer_ok]
  case delete =>
    intro s who p r hlets hp hkind hitems hchildren
    obtain ⟨t, hdelete, hgone⟩ := pondDelete_of_empty hlets hp hkind hitems hchildren
    exact ⟨t, by rw [exec_pondDelete, execPondDelete, hdelete, answer_ok], hgone⟩
  case move =>
    intro s who src dest kind n hdest hkind hn hlets hpond hrole hheld hbusy huse hsrc hdst hcore
    have hmove := pondMove_of_held hdest hkind hn hlets hpond hrole hheld hbusy huse hsrc hdst hcore
    rw [moveOf] at hmove
    rw [exec_pondMove, execPondMove, hmove, answer_ok]
  case notOwner =>
    intro s who src dest kind n hdest hkind hn hlets hpond hrole hheld
    have hmove := pondMove_of_not_held hdest hkind hn hlets hpond hrole hheld
    rw [moveOf] at hmove
    rw [exec_pondMove, execPondMove, hmove, answer_error]
  case share =>
    intro s who p v hlets hshare
    rw [exec_pondEnergyShareWrite, execPondEnergyShareWrite, shareWrite_of_checked hlets hshare, answer_ok]

end Sys2Proof.Machine
end

section
/-! PROOFS. The clock of a state: its queue and its Global Tick Counter (R36, R37, R661). Every function of the model
keeps it, but for the power-on reset; one lemma for each function says so, and `exec_keeps` gathers them. -/

namespace Sys2Proof.Machine

/-- The waiting commands and the Global Tick Counter, which only a step and a reset change (R36, R37, R661). -/
def State.clock (s : State) : List Instr × Nat := (s.pending, s.gtc)

/-- An update of any field but the queue and the counter keeps the clock. -/
@[simp] theorem clock_mk {pending gtc freeCtr out pond dict time port sw fab intake chain acq scan pair fio inst mem ev sec
    energy start board} :
    State.clock ⟨pending, gtc, freeCtr, out, pond, dict, time, port, sw, fab, intake, chain, acq, scan, pair, fio, inst,
      mem, ev, sec, energy, start, board⟩ = (pending, gtc) := by simp only [State.clock]

@[simp] theorem pending_gtc {s : State} : (s.pending, s.gtc) = s.clock := by simp only [State.clock]

@[simp] theorem clock_ite {c : Prop} [Decidable c] {s t : State} :
    (if c then s else t).clock = if c then s.clock else t.clock := apply_ite ..

@[simp] theorem clock_foldl {α : Type} {l : List α} {f : State → α → State} {s : State}
    (h : ∀ t x, (f t x).clock = t.clock) : (l.foldl f s).clock = s.clock := by
  induction l generalizing s with
  | nil => rfl
  | cons x r ih => rw [List.foldl_cons, ih, h]

/-- From a lemma about the state that a function gives with a value, to the state that its result was taken apart into. -/
theorem clock_of_fst {α : Type} {s t : State} {p : State × α} {a : α} (hp : p.1.clock = s.clock) (h : p = (t, a)) :
    t.clock = s.clock := by
  rw [← hp, h]

/-- The queue stays, and the counter stays or restarts from 0. -/
def ClockKept (a b : List Instr × Nat) : Prop := b.1 = a.1 ∧ (b.2 = a.2 ∨ b.2 = 0)

@[simp] theorem ClockKept.refl {a : List Instr × Nat} : ClockKept a a := ⟨rfl, .inl rfl⟩

theorem ClockKept.trans {a b c : List Instr × Nat} (hab : ClockKept a b) (hbc : ClockKept b c) : ClockKept a c := by
  obtain ⟨hq, hg⟩ := hab
  obtain ⟨hq', hg'⟩ := hbc
  refine ⟨hq'.trans hq, ?_⟩
  rcases hg' with hg' | hg'
  · rwa [hg']
  · exact .inr hg'

@[simp] theorem clockKept_ite {c : Prop} [Decidable c] {k a b : List Instr × Nat} :
    ClockKept k (if c then a else b) ↔ if c then ClockKept k a else ClockKept k b := by split <;> rfl

/-- An action that is done leaves the queue and the counter of `s`. -/
def Act.Keeps (s : State) (a : Act) : Prop := ∀ t, a = .ok t → t.clock = s.clock

/-- An action that is done leaves the queue of `s`, and its counter but for a restart from 0. -/
def Act.KeepsOrResets (s : State) (a : Act) : Prop := ∀ t, a = .ok t → ClockKept s.clock t.clock

@[simp] theorem keeps_ok {s t : State} : Act.Keeps s (.ok t) ↔ t.clock = s.clock := by simp [Act.Keeps]

@[simp] theorem keeps_error {s : State} {c : Code} : Act.Keeps s (.error c) := by simp [Act.Keeps]

@[simp] theorem keeps_bind {α : Type} {s : State} {m : Except Code α} {f : α → Act} :
    Act.Keeps s (m >>= f) ↔ ∀ x, m = .ok x → Act.Keeps s (f x) := by
  cases m <;> simp [Act.Keeps, bind, Except.bind]

@[simp] theorem keeps_ite {c : Prop} [Decidable c] {s : State} {a b : Act} :
    Act.Keeps s (if c then a else b) ↔ if c then Act.Keeps s a else Act.Keeps s b := by split <;> rfl

@[simp] theorem keeps_andThen {s : State} {a : Act} {f : State → State} (ha : a.Keeps s)
    (hf : ∀ t, (f t).clock = t.clock) : (a.andThen f).Keeps s := by
  cases a with
  | error c => exact keeps_error
  | ok t => exact keeps_ok.mpr ((hf t).trans (ha t rfl))

@[simp] theorem clock_answer {s : State} {who : Caller} {a : Act} (h : a.Keeps s) :
    (s.answer who a).clock = s.clock := by
  cases a with
  | error c => rfl
  | ok t => exact h t rfl

@[simp] theorem keepsOrResets_of_keeps {s : State} {a : Act} (h : a.Keeps s) : a.KeepsOrResets s :=
  fun t ht => h t ht ▸ ClockKept.refl

@[simp] theorem keepsOrResets_ok {s t : State} : Act.KeepsOrResets s (.ok t) ↔ ClockKept s.clock t.clock := by
  simp [Act.KeepsOrResets]

@[simp] theorem keepsOrResets_bind {α : Type} {s : State} {m : Except Code α} {f : α → Act} :
    Act.KeepsOrResets s (m >>= f) ↔ ∀ x, m = .ok x → Act.KeepsOrResets s (f x) := by
  cases m <;> simp [Act.KeepsOrResets, bind, Except.bind]

theorem clockKept_answer {s : State} {who : Caller} {a : Act} (h : a.KeepsOrResets s) :
    ClockKept s.clock (s.answer who a).clock := by
  cases a with
  | error c => exact ClockKept.refl
  | ok t => exact h t rfl

/-- A command that leads to a next state keeps the clock of `s`. -/
def Res.Keeps (s : State) (r : Res) : Prop := ∀ t, r = .next t → ClockKept s.clock t.clock

@[simp] theorem keeps_next {s t : State} : Res.Keeps s (.next t) ↔ ClockKept s.clock t.clock := by simp [Res.Keeps]

@[simp] theorem keeps_fault {s : State} {r : Fault} : Res.Keeps s (.fault r) := by simp [Res.Keeps]

@[simp] theorem keeps_refused {s : State} {r : Refusal} : Res.Keeps s (.refused r) := by simp [Res.Keeps]

@[simp] theorem res_keeps_ite {c : Prop} [Decidable c] {s : State} {a b : Res} :
    Res.Keeps s (if c then a else b) ↔ if c then Res.Keeps s a else Res.Keeps s b := by split <;> rfl

@[simp] theorem clock_eachDom {s : State} {f : Nat → State → State} (h : ∀ d t, (f d t).clock = t.clock) :
    (s.eachDom f).clock = s.clock := by
  simp [State.eachDom, h]

end Sys2Proof.Machine
end

section
/-! PROOFS. The clock under the shared operations. -/

namespace Sys2Proof.Machine

@[simp] theorem clock_setObj {s : State} {id sel v} : (s.setObj id sel v).clock = s.clock := by
  simp [State.setObj]

@[simp] theorem clock_setNum {s : State} {id v sel} : (s.setNum id v sel).clock = s.clock := by
  simp [State.setNum]

@[simp] theorem clock_setBlob {s : State} {id b sel} : (s.setBlob id b sel).clock = s.clock := by
  simp [State.setBlob]

@[simp] theorem clock_count32 {s : State} {id k sel} : (s.count32 id k sel).clock = s.clock := by
  simp [State.count32]

@[simp] theorem clock_count48 {s : State} {id k sel} : (s.count48 id k sel).clock = s.clock := by
  simp [State.count48]

@[simp] theorem clock_setPending {s : State} {id sel v} : (s.setPending id sel v).clock = s.clock := by
  simp [State.setPending]

@[simp] theorem clock_bumpVersion {s : State} {id sel} : (s.bumpVersion id sel).clock = s.clock := by
  simp [State.bumpVersion]

@[simp] theorem clock_tookFree {s : State} : s.tookFree.clock = s.clock := by simp [State.tookFree]

@[simp] theorem clock_emit {s : State} {o} : (s.emit o).clock = s.clock := by simp [State.emit]

@[simp] theorem clock_setSession {s : State} {k x} : (s.setSession k x).clock = s.clock := by
  simp [State.setSession]

@[simp] theorem clock_setDom {s : State} {d x} : (s.setDom d x).clock = s.clock := by simp [State.setDom]

@[simp] theorem clock_setEvDie {s : State} {d x} : (s.setEvDie d x).clock = s.clock := by
  unfold State.setEvDie
  split <;> simp

@[simp] theorem clock_raiseIn {s : State} {d src code kind num detail} :
    (s.raiseIn d src code kind num detail).clock = s.clock := by
  simp [State.raiseIn]

@[simp] theorem clock_raise {s : State} {src code kind num detail} :
    (s.raise src code kind num detail).clock = s.clock := by
  simp [State.raise]

@[simp] theorem clock_raiseState {s : State} {src kind num old new cause value} :
    (s.raiseState src kind num old new cause value).clock = s.clock := by
  simp [State.raiseState]

@[simp] theorem clock_raiseFlag {s : State} {src kind num set bit word} :
    (s.raiseFlag src kind num set bit word).clock = s.clock := by
  simp [State.raiseFlag]

@[simp] theorem clock_raiseOcc {s : State} {src kind num pos value} :
    (s.raiseOcc src kind num pos value).clock = s.clock := by
  simp [State.raiseOcc]

@[simp] theorem clock_raiseAdmission {s : State} {src kind num what code} :
    (s.raiseAdmission src kind num what code).clock = s.clock := by
  simp [State.raiseAdmission]

@[simp] theorem clock_raiseDone {s : State} {src kind num id code} :
    (s.raiseDone src kind num id code).clock = s.clock := by
  simp [State.raiseDone]

@[simp] theorem clock_setAsleep {s : State} {u n v} : (s.setAsleep u n v).clock = s.clock := by
  simp [State.setAsleep]

@[simp] theorem clock_hbmWrite {s : State} {a b} : (s.hbmWrite a b).clock = s.clock := by simp [State.hbmWrite]

@[simp] theorem clock_setBinding {s : State} {p b} : (s.setBinding p b).clock = s.clock := by
  simp [State.setBinding]

end Sys2Proof.Machine
end

section
/-! PROOFS. The clock under the time base: references, domains, steps and the time page (Chapter 3). -/

namespace Sys2Proof.Machine

@[simp] theorem clock_setGen {s : State} {n x} : (s.setGen n x).clock = s.clock := by simp [State.setGen]

@[simp] theorem clock_setPps {s : State} {k x} : (s.setPps k x).clock = s.clock := by simp [State.setPps]

@[simp] theorem clock_issueDom {s : State} {d x step} : (s.issueDom d x step).clock = s.clock := by
  simp [State.issueDom]

@[simp] theorem clock_domEnter {s : State} {d new x} : (s.domEnter d new x).clock = s.clock := by
  simp [State.domEnter]

@[simp] theorem clock_announceStep {s : State} {d kind amount} : (s.announceStep d kind amount).clock = s.clock := by
  unfold State.announceStep
  split <;> simp

@[simp] theorem clock_stepNow {s : State} {d amount} : (s.stepNow d amount).clock = s.clock := by
  simp [State.stepNow]

@[simp] theorem clock_cancelStep {s : State} {d} : (s.cancelStep d).clock = s.clock := by simp [State.cancelStep]

@[simp] theorem clock_servo {s : State} {d} : (s.servo d).clock = s.clock := by simp [State.servo]

@[simp] theorem clock_beginReturn {s : State} {d offset} : (s.beginReturn d offset).clock = s.clock := by
  simp [State.beginReturn]

@[simp] theorem clock_activate {s : State} {d n} : (s.activate d n).clock = s.clock := by simp [State.activate]

@[simp] theorem clock_track {s : State} {d off extra} : (s.track d off extra).clock = s.clock := by
  simp [State.track]

@[simp] theorem clock_measure {s : State} {d n off cls extra} : (s.measure d n off cls extra).clock = s.clock := by
  simp [State.measure]

@[simp] theorem clock_loseActive {s : State} {d} : (s.loseActive d).clock = s.clock := by simp [State.loseActive]

@[simp] theorem clock_loseSource {s : State} {d n} : (s.loseSource d n).clock = s.clock := by
  fun_cases State.loseSource s d n <;> simp +zetaDelta

@[simp] theorem clock_shoreRefLost {s} : (shoreRefLost s).clock = s.clock := by simp [shoreRefLost]

@[simp] theorem execShoreRefReturn_keeps {s} : (execShoreRefReturn s).Keeps s := by
  simp [execShoreRefReturn, shoreRefReturn]

@[simp] theorem clock_setPtp {s : State} {d p} : (s.setPtp d p).clock = s.clock := by simp [State.setPtp]

@[simp] theorem clock_ptpPortState {s : State} {d port st} : (s.ptpPortState d port st).clock = s.clock := by
  simp [State.ptpPortState]

@[simp] theorem clock_ptpMeasure {s : State} {d rx origin corr} : (s.ptpMeasure d rx origin corr).clock = s.clock := by
  fun_cases State.ptpMeasure s d rx origin corr <;> simp

@[simp] theorem clock_noteLeap {s : State} {d positive negative} :
    (s.noteLeap d positive negative).clock = s.clock := by
  simp [State.noteLeap]

@[simp] theorem execPtpMessageReceive_keeps {d port msg s} : (execPtpMessageReceive d port msg s).Keeps s := by
  unfold execPtpMessageReceive ptpMessage
  dsimp only
  (repeat' split) <;> simp

@[simp] theorem execPtpSourceLost_keeps {d s} : (execPtpSourceLost d s).Keeps s := by
  simp [execPtpSourceLost, ptpSourceLost]

@[simp] theorem execPtpMessageSend_keeps {d port kind s} : (execPtpMessageSend d port kind s).Keeps s := by
  simp [execPtpMessageSend, ptpSend]

@[simp] theorem execSourceSwitch_keeps {d s} : (execSourceSwitch d s).Keeps s := by
  unfold execSourceSwitch sourceSwitch
  dsimp only
  (repeat' split) <;> simp

@[simp] theorem execHoldoverLimitExceeded_keeps {d s} : (execHoldoverLimitExceeded d s).Keeps s := by
  simp [execHoldoverLimitExceeded, holdoverLimitExceeded]

@[simp] theorem clock_irigMeasure {s : State} {f m g extra} : (s.irigMeasure f m g extra).clock = s.clock := by
  unfold State.irigMeasure
  exact clock_eachDom fun _ _ => by split <;> simp

@[simp] theorem clock_ppsState {s : State} {st} : (s.ppsState st).clock = s.clock := by simp [State.ppsState]

@[simp] theorem clock_irigSt {s : State} {st} : (s.irigSt st).clock = s.clock := by simp [State.irigSt]

@[simp] theorem execPpsInEdge_keeps {s} : (execPpsInEdge s).Keeps s := by
  unfold execPpsInEdge ppsInEdge
  (repeat' split) <;> simp

@[simp] theorem execIrigFrame_keeps {frame marker s} : (execIrigFrame frame marker s).Keeps s := by
  unfold execIrigFrame irigFrame
  split <;> simp

@[simp] theorem execPpsInTimeout_keeps {s} : (execPpsInTimeout s).Keeps s := by
  unfold execPpsInTimeout ppsInTimeout
  split <;> simp

@[simp] theorem execLeapSecond_keeps {d s} : (execLeapSecond d s).Keeps s := by
  unfold execLeapSecond leapSecond
  split <;> simp

@[simp] theorem clock_stepApply {d s} : (stepApply d s).clock = s.clock := by fun_cases stepApply d s <;> simp

@[simp] theorem setTime_keeps {who d time s} : (setTime who d time s).Keeps s := by simp [setTime]

@[simp] theorem execDomainSetTime_keeps {who d time s} : (execDomainSetTime who d time s).Keeps s := by
  simp [execDomainSetTime]

@[simp] theorem domainStep_keeps {who d amount s} : (domainStep who d amount s).Keeps s := by
  simp [domainStep]

@[simp] theorem execDomainStep_keeps {who d amount s} : (execDomainStep who d amount s).Keeps s := by
  simp [execDomainStep]

@[simp] theorem stepToReference_keeps {who d value s} : (stepToReference who d value s).Keeps s := by
  unfold stepToReference
  split <;> simp

@[simp] theorem execDomainStepToReference_keeps {who d value s} : (execDomainStepToReference who d value s).Keeps s := by
  simp [execDomainStepToReference]

@[simp] theorem stepCancel_keeps {who d value s} : (stepCancel who d value s).Keeps s := by
  unfold stepCancel
  split <;> simp

@[simp] theorem execDomainStepCancel_keeps {who d value s} : (execDomainStepCancel who d value s).Keeps s := by
  simp [execDomainStepCancel]

@[simp] theorem clock_dropTimed {s : State} {d} : (s.dropTimed d).clock = s.clock := by simp [State.dropTimed]

@[simp] theorem clock_applyDomainEnable {s : State} {d value} : (s.applyDomainEnable d value).clock = s.clock := by
  simp [State.applyDomainEnable]

@[simp] theorem execPairOffsetMeasure_keeps {d offset peerState peerTrim s} :
    (execPairOffsetMeasure d offset peerState peerTrim s).Keeps s := by
  simp [execPairOffsetMeasure, pairOffsetMeasure]

@[simp] theorem execGtcLoRead_keeps {reader s} : (execGtcLoRead reader s).Keeps s := by
  simp [execGtcLoRead, gtcLoRead]

@[simp] theorem execDomSecLoRead_keeps {reader d s} : (execDomSecLoRead reader d s).Keeps s := by
  simp [execDomSecLoRead, domSecLoRead]

@[simp] theorem execSnapAllTrigger_keeps {reader s} : (execSnapAllTrigger reader s).Keeps s := by
  simp [execSnapAllTrigger, snapAllTrigger]

@[simp] theorem execPpsOutEdge_keeps {k s} : (execPpsOutEdge k s).Keeps s := by
  simp [execPpsOutEdge, ppsOutEdge]

@[simp] theorem execPpsOutPulseEnd_keeps {k s} : (execPpsOutPulseEnd k s).Keeps s := by
  simp [execPpsOutPulseEnd, ppsOutPulseEnd]

end Sys2Proof.Machine
end

section
/-! PROOFS. The clock under the event controller and the event recorder (Chapter 16). -/

namespace Sys2Proof.Machine

@[simp] theorem clock_raiseLimited {s : State} {src code kind num value} :
    (s.raiseLimited src code kind num value).clock = s.clock := by
  simp [State.raiseLimited]

@[simp] theorem execEventRaiseInDie_keeps {die source code kind num detail s} :
    (execEventRaiseInDie die source code kind num detail s).Keeps s := by
  simp [execEventRaiseInDie]

@[simp] theorem eventRaise_keeps {who value s} : (eventRaise who value s).Keeps s := by simp [eventRaise]

@[simp] theorem execEventRaise_keeps {who value s} : (execEventRaise who value s).Keeps s := by
  simp [execEventRaise]

@[simp] theorem clock_setEvQueue {s : State} {q x} : (s.setEvQueue q x).clock = s.clock := by
  simp [State.setEvQueue]

@[simp] theorem clock_sendMsix {s : State} {fn vec} : (s.sendMsix fn vec).clock = s.clock := by
  simp [State.sendMsix]

@[simp] theorem clock_eqSignal {s : State} {q} : (s.eqSignal q).clock = s.clock := by
  fun_cases State.eqSignal s q <;> simp +zetaDelta

@[simp] theorem clock_eqWrite {s : State} {e q} : (s.eqWrite e q).clock = s.clock := by simp [State.eqWrite]

@[simp] theorem clock_pinDrive {s : State} {e k} : (s.pinDrive e k).clock = s.clock := by
  fun_cases State.pinDrive s e k <;> simp

@[simp] theorem clock_deliver {s : State} {e} : (s.deliver e).clock = s.clock := by simp [State.deliver]

@[simp] theorem clock_setRecorder {s : State} {r} : (s.setRecorder r).clock = s.clock := by
  simp [State.setRecorder]

@[simp] theorem clock_recorderTake {s : State} {e} : (s.recorderTake e).clock = s.clock := by
  simp [State.recorderTake]

@[simp] theorem clock_record {s : State} {e} : (s.record e).clock = s.clock := by
  fun_cases State.record s e <;> simp

@[simp] theorem execRecorderWrite_keeps {s} : (execRecorderWrite s).Keeps s := by
  unfold execRecorderWrite recorderWrite
  dsimp only
  (repeat' split) <;> simp

@[simp] theorem execRecorderCrcPass_keeps {s} : (execRecorderCrcPass s).Keeps s := by
  simp [execRecorderCrcPass, recorderCrcPass]

@[simp] theorem clock_operatingSecondsSave {s} : (operatingSecondsSave s).clock = s.clock := by
  simp [operatingSecondsSave]

@[simp] theorem execOperatingSecondsSave_keeps {s} : (execOperatingSecondsSave s).Keeps s := by
  simp [execOperatingSecondsSave]

@[simp] theorem clock_raiseFreeze {s : State} {what role} : (s.raiseFreeze what role).clock = s.clock := by
  simp [State.raiseFreeze]

@[simp] theorem clock_endFreeze {s : State} {what} : (s.endFreeze what).clock = s.clock := by
  fun_cases State.endFreeze s what <;> simp +zetaDelta

@[simp] theorem recorderFreeze_keeps {who s} : (recorderFreeze who s).Keeps s := by
  unfold recorderFreeze
  split <;> simp

@[simp] theorem execRecorderFreeze_keeps {who s} : (execRecorderFreeze who s).Keeps s := by
  simp [execRecorderFreeze]

@[simp] theorem recorderUnfreeze_keeps {who s} : (recorderUnfreeze who s).Keeps s := by
  unfold recorderUnfreeze
  split <;> simp

@[simp] theorem execRecorderUnfreeze_keeps {who s} : (execRecorderUnfreeze who s).Keeps s := by
  simp [execRecorderUnfreeze]

@[simp] theorem execFreezeLimitExpiry_keeps {s} : (execFreezeLimitExpiry s).Keeps s := by
  unfold execFreezeLimitExpiry freezeLimitExpiry
  split <;> simp

@[simp] theorem recorderClear_keeps {who value s} : (recorderClear who value s).Keeps s := by
  simp [recorderClear]

@[simp] theorem execRecorderClear_keeps {who value s} : (execRecorderClear who value s).Keeps s := by
  simp [execRecorderClear]

@[simp] theorem clock_reportMark {s : State} {d w} : (s.reportMark d w).clock = s.clock := by
  simp [State.reportMark]

@[simp] theorem clock_endEpisode {s : State} {d} : (s.endEpisode d).clock = s.clock := by
  fun_cases State.endEpisode s d <;> simp

@[simp] theorem execEventRelease_keeps {markN markC0 markC1 markS s} :
    (execEventRelease markN markC0 markC1 markS s).Keeps s := by
  unfold execEventRelease eventRelease
  dsimp only
  (repeat' split) <;> simp

@[simp] theorem execDieSilent_keeps {die mark s} : (execDieSilent die mark s).Keeps s := by
  simp [execDieSilent, dieSilent]

@[simp] theorem execDieReadmit_keeps {die mark s} : (execDieReadmit die mark s).Keeps s := by
  simp [execDieReadmit, dieReadmit]

@[simp] theorem execEqCoalesceTimeout_keeps {q s} : (execEqCoalesceTimeout q s).Keeps s := by
  simp [execEqCoalesceTimeout, eqCoalesceTimeout]

@[simp] theorem execEqKick_keeps {q s} : (execEqKick q s).Keeps s := by simp [execEqKick, eqKick]

@[simp] theorem eqConfigWrite_keeps {who q b s} : (eqConfigWrite who q b s).Keeps s := by simp [eqConfigWrite]

@[simp] theorem execEqConfig_keeps {who q value s} : (execEqConfig who q value s).Keeps s := by
  simp [execEqConfig]

@[simp] theorem execEvtPinPulseEnd_keeps {k s} : (execEvtPinPulseEnd k s).Keeps s := by
  simp [execEvtPinPulseEnd, evtPinPulseEnd]

@[simp] theorem evtPinAck_keeps {who k value s} : (evtPinAck who k value s).Keeps s := by simp [evtPinAck]

@[simp] theorem execEvtPinAck_keeps {who k value s} : (execEvtPinAck who k value s).Keeps s := by
  simp [execEvtPinAck]

@[simp] theorem clock_msixUnmask {fn vec s} : (msixUnmask fn vec s).clock = s.clock := by simp [msixUnmask]

@[simp] theorem execMsixVectorUnmask_keeps {fn vector s} : (execMsixVectorUnmask fn vector s).Keeps s := by
  simp [execMsixVectorUnmask]

end Sys2Proof.Machine
end

section
/-! PROOFS. The clock under host cores, HBM pages, coherence and memory errors (Chapter 15). -/

namespace Sys2Proof.Machine

@[simp] theorem hbmBind_keeps {who op inst count first s} : (hbmBind who op inst count first s).Keeps s := by
  simp [hbmBind]

@[simp] theorem execHbmBindHost_keeps {who inst count first s} : (execHbmBindHost who inst count first s).Keeps s := by
  simp [execHbmBindHost]

@[simp] theorem execHbmBindManager_keeps {who count first s} : (execHbmBindManager who count first s).Keeps s := by
  simp [execHbmBindManager]

@[simp] theorem execHbmUnbind_keeps {who count first s} : (execHbmUnbind who count first s).Keeps s := by
  simp [execHbmUnbind]

@[simp] theorem execHbmRetire_keeps {who count first s} : (execHbmRetire who count first s).Keeps s := by
  simp [execHbmRetire]

@[simp] theorem execProtectionViolation_keeps {core virt write addr s} :
    (execProtectionViolation core virt write addr s).Keeps s := by
  simp [execProtectionViolation, protectionViolation]

@[simp] theorem execDmaViolation_keeps {inst ring addr data s} : (execDmaViolation inst ring addr data s).Keeps s := by
  simp [execDmaViolation, dmaViolation]

@[simp] theorem clock_setCacheLine {s : State} {core line x} : (s.setCacheLine core line x).clock = s.clock := by
  simp [State.setCacheLine]

@[simp] theorem clock_setWriteback {s : State} {core line x} : (s.setWriteback core line x).clock = s.clock := by
  simp [State.setWriteback]

@[simp] theorem clock_setDirEntry {s : State} {line x} : (s.setDirEntry line x).clock = s.clock := by
  simp [State.setDirEntry]

@[simp] theorem clock_setWaiting {s : State} {l} : (s.setWaiting l).clock = s.clock := by simp [State.setWaiting]

@[simp] theorem clock_consumePoison {s : State} {core line} : (s.consumePoison core line).clock = s.clock := by
  simp [State.consumePoison]

@[simp] theorem clock_flushLine {s : State} {line x} : (s.flushLine line x).clock = s.clock := by
  simp [State.flushLine]

@[simp] theorem clock_invalidate {s : State} {line cores} : (s.invalidate line cores).clock = s.clock := by
  unfold State.invalidate
  exact clock_foldl fun _ _ => by (repeat' split) <;> simp

@[simp] theorem clock_makeRoom {s : State} {line} : (s.makeRoom line).clock = s.clock := by
  fun_cases State.makeRoom s line <;> simp

@[simp] theorem clock_grant {s : State} {core line st data holders} :
    (s.grant core line st data holders).clock = s.clock := by
  simp [State.grant]

@[simp] theorem clock_serve {s : State} {r} : (s.serve r).clock = s.clock := by
  fun_cases State.serve s r <;> simp +zetaDelta

@[simp] theorem clock_coreStore {s : State} {core line st} : (s.coreStore core line st).clock = s.clock := by
  unfold State.coreStore
  split <;> simp

@[simp] theorem clock_request {s : State} {r} : (s.request r).clock = s.clock := by simp [State.request]

@[simp] theorem clock_serveQueued {n line s} : (State.serveQueued n line s).clock = s.clock := by
  induction n generalizing s with
  | zero => rfl
  | succ n ih =>
    unfold State.serveQueued
    split
    · rfl
    · split
      · rfl
      · simp [ih]

@[simp] theorem execReadShared_keeps {core line s} : (execReadShared core line s).Keeps s := by
  simp [execReadShared]

@[simp] theorem execReadUnique_keeps {core line store s} : (execReadUnique core line store s).Keeps s := by
  simp [execReadUnique]

@[simp] theorem execUpgrade_keeps {core line store s} : (execUpgrade core line store s).Keeps s := by
  simp [execUpgrade, upgrade]

@[simp] theorem clock_dropHolder {s : State} {core line} : (s.dropHolder core line).clock = s.clock := by
  unfold State.dropHolder
  split <;> simp

@[simp] theorem execWriteback_keeps {core line arrived s} : (execWriteback core line arrived s).Keeps s := by
  unfold execWriteback writebackMsg
  (repeat' split) <;> simp

@[simp] theorem execCleanEvict_keeps {core line arrived s} : (execCleanEvict core line arrived s).Keeps s := by
  unfold execCleanEvict cleanEvict
  (repeat' split) <;> simp

@[simp] theorem execIoRead_keeps {line s} : (execIoRead line s).Keeps s := by simp [execIoRead]

@[simp] theorem execIoWrite_keeps {line offset data s} : (execIoWrite line offset data s).Keeps s := by
  simp [execIoWrite, ioWrite]

@[simp] theorem clock_finish {s : State} {r kept} : (s.finish r kept).clock = s.clock := by
  unfold State.finish
  split <;> simp

@[simp] theorem execSnoop_keeps {core line s} : (execSnoop core line s).Keeps s := by
  unfold execSnoop snoop
  (repeat' split) <;> simp

@[simp] theorem execHbmEccError_keeps {addr l3 s} : (execHbmEccError addr l3 s).Keeps s := by
  simp [execHbmEccError, eccError]

@[simp] theorem execHbmEccCorrected_keeps {addr l3 checkBit s} : (execHbmEccCorrected addr l3 checkBit s).Keeps s := by
  simp [execHbmEccCorrected, eccCorrected]

@[simp] theorem execDirectoryEccError_keeps {line s} : (execDirectoryEccError line s).Keeps s := by
  simp [execDirectoryEccError, directoryEccError]

@[simp] theorem execHbmScrubPass_keeps {micros s} : (execHbmScrubPass micros s).Keeps s := by
  simp [execHbmScrubPass, hbmScrubPass]

@[simp] theorem execL3ScrubPass_keeps {die micros s} : (execL3ScrubPass die micros s).Keeps s := by
  simp [execL3ScrubPass, l3ScrubPass]

end Sys2Proof.Machine
end

section
/-! PROOFS. The clock under what ports, switch and fabric share. -/

namespace Sys2Proof.Machine

@[simp] theorem clock_setCharge {s : State} {k n c} : (s.setCharge k n c).clock = s.clock := by
  simp [State.setCharge]

@[simp] theorem admitCharge_keeps {s : State} {k n c} : (s.admitCharge k n c).Keeps s := by
  simp [State.admitCharge]

@[simp] theorem clock_count48ev {s : State} {id src kind num k} : (s.count48ev id src kind num k).clock = s.clock := by
  simp [State.count48ev]

@[simp] theorem clock_portCount {s : State} {id n k} : (s.portCount id n k).clock = s.clock := by
  simp [State.portCount]

@[simp] theorem clock_blobCount {s : State} {id i src kind num k} :
    (s.blobCount id i src kind num k).clock = s.clock := by
  simp [State.blobCount]

@[simp] theorem clock_setPnum {s : State} {id n v} : (s.setPnum id n v).clock = s.clock := by simp [State.setPnum]

@[simp] theorem clock_setPort {s : State} {n p} : (s.setPort n p).clock = s.clock := by simp [State.setPort]

@[simp] theorem clock_setPllOff {s : State} {k t} : (s.setPllOff k t).clock = s.clock := by simp [State.setPllOff]

@[simp] theorem clock_pllUpdate {s : State} {k} : (s.pllUpdate k).clock = s.clock := by simp [State.pllUpdate]

@[simp] theorem clock_setBufEnt {s : State} {id b} : (s.setBufEnt id b).clock = s.clock := by
  simp [State.setBufEnt]

@[simp] theorem clock_releaseFrame {s : State} {id} : (s.releaseFrame id).clock = s.clock := by
  simp [State.releaseFrame]

@[simp] theorem clock_enqueue {s : State} {n q f} : (s.enqueue n q f).clock = s.clock := by simp [State.enqueue]

@[simp] theorem clock_discardQueues {s : State} {n} : (s.discardQueues n).clock = s.clock := by
  simp [State.discardQueues]

@[simp] theorem clock_setNb {s : State} {n x} : (s.setNb n x).clock = s.clock := by simp [State.setNb]

@[simp] theorem clock_setFlowState {s : State} {f st} : (s.setFlowState f st).clock = s.clock := by
  simp [State.setFlowState]

@[simp] theorem clock_setFlow {s : State} {f x} : (s.setFlow f x).clock = s.clock := by simp [State.setFlow]

@[simp] theorem clock_setFabricState {s : State} {st} : (s.setFabricState st).clock = s.clock := by
  simp [State.setFabricState]

@[simp] theorem clock_fabricUpdate {s : State} : s.fabricUpdate.clock = s.clock := by
  simp [State.fabricUpdate]

@[simp] theorem clock_restartDelay {s : State} {n} : (s.restartDelay n).clock = s.clock := by
  simp [State.restartDelay]

@[simp] theorem clock_setNeighbour {s : State} {n st} : (s.setNeighbour n st).clock = s.clock := by
  simp [State.setNeighbour]

@[simp] theorem clock_redUpdate {s : State} {g} : (s.redUpdate g).clock = s.clock := by simp [State.redUpdate]

@[simp] theorem clock_redUpdatePort {s : State} {n} : (s.redUpdatePort n).clock = s.clock := by
  unfold State.redUpdatePort
  split <;> simp

@[simp] theorem clock_enterPortState {s : State} {n st} : (s.enterPortState n st).clock = s.clock := by
  simp [State.enterPortState]

@[simp] theorem clock_startTraining {s : State} {n} : (s.startTraining n).clock = s.clock := by
  simp [State.startTraining]

@[simp] theorem clock_flushLearned {s : State} {n} : (s.flushLearned n).clock = s.clock := by
  simp [State.flushLearned]

@[simp] theorem clock_leaveUp {s : State} {n st} : (s.leaveUp n st).clock = s.clock := by simp [State.leaveUp]

@[simp] theorem clock_bringUp {s : State} {n} : (s.bringUp n).clock = s.clock := by simp [State.bringUp]

end Sys2Proof.Machine
end

section
/-! PROOFS. The clock under frames on the wire. -/

namespace Sys2Proof.Machine

@[simp] theorem clock_bumpSeq {s : State} {kind flow} : (s.bumpSeq kind flow).clock = s.clock := by
  simp [State.bumpSeq]

@[simp] theorem clock_sendXosyn {s : State} {n kind h body fix prio} :
    (s.sendXosyn n kind h body fix prio).clock = s.clock := by
  simp [State.sendXosyn]

@[simp] theorem clock_sendLink {s : State} {n kind flow body fix} :
    (s.sendLink n kind flow body fix).clock = s.clock := by
  simp [State.sendLink]

@[simp] theorem clock_sendBroadcast {s : State} {kind flow body fix} :
    (s.sendBroadcast kind flow body fix).clock = s.clock := by
  simp [State.sendBroadcast]

end Sys2Proof.Machine
end

section
/-! PROOFS. The clock under lanes, ports and MACs (Chapter 4). -/

namespace Sys2Proof.Machine

@[simp] theorem clock_applyPortEnable {s : State} {n value} : (s.applyPortEnable n value).clock = s.clock := by
  simp [State.applyPortEnable]

@[simp] theorem execPortEnable_keeps {who n value s} : (execPortEnable who n value s).Keeps s := by
  simp [execPortEnable, portEnableWrite]

@[simp] theorem clock_applyPortMode {s : State} {n value} : (s.applyPortMode n value).clock = s.clock := by
  simp [State.applyPortMode]

@[simp] theorem execPortMode_keeps {who n value s} : (execPortMode who n value s).Keeps s := by
  simp [execPortMode, portModeWrite]

@[simp] theorem clock_applyPortFec {s : State} {n value} : (s.applyPortFec n value).clock = s.clock := by
  simp [State.applyPortFec]

@[simp] theorem execPortFec_keeps {who n value s} : (execPortFec who n value s).Keeps s := by
  simp [execPortFec, portFecWrite]

@[simp] theorem execLinkUp_keeps {n since s} : (execLinkUp n since s).Keeps s := by simp [execLinkUp, linkUp]

@[simp] theorem execLinkFault_keeps {n remote s} : (execLinkFault n remote s).Keeps s := by
  simp [execLinkFault, linkFault]

@[simp] theorem execSignalLossSleep_keeps {n since s} : (execSignalLossSleep n since s).Keeps s := by
  simp [execSignalLossSleep, signalLossSleep]

@[simp] theorem execSignalDetect_keeps {n s} : (execSignalDetect n s).Keeps s := by
  simp [execSignalDetect, signalDetect]

@[simp] theorem execTrainingRestart_keeps {n s} : (execTrainingRestart n s).Keeps s := by
  simp [execTrainingRestart, trainingRestart]

@[simp] theorem execFecDegraded_keeps {n ratio s} : (execFecDegraded n ratio s).Keeps s := by
  simp [execFecDegraded, fecDegraded]

@[simp] theorem clock_resetPort {s : State} {n} : (s.resetPort n).clock = s.clock := by simp [State.resetPort]

@[simp] theorem portReset_keeps {who n value s} : (portReset who n value s).Keeps s := by simp [portReset]

@[simp] theorem execPortReset_keeps {who n s} : (execPortReset who n s).Keeps s := by simp [execPortReset]

@[simp] theorem execPortResetForced_keeps {who n s} : (execPortResetForced who n s).Keeps s := by
  simp [execPortResetForced]

@[simp] theorem clock_setBucket {s : State} {k b} : (s.setBucket k b).clock = s.clock := by simp [State.setBucket]

@[simp] theorem clock_shaperSettle {s : State} {n q} : (s.shaperSettle n q).clock = s.clock := by
  simp [State.shaperSettle]

@[simp] theorem clock_noteTraffic {s : State} {n rx len} : (s.noteTraffic n rx len).clock = s.clock := by
  simp [State.noteTraffic]

@[simp] theorem clock_countCast {s : State} {id n dst} : (s.countCast id n dst).clock = s.clock := by
  simp [State.countCast]

@[simp] theorem clock_noteDelayReq {s : State} {n o} : (s.noteDelayReq n o).clock = s.clock := by
  simp [State.noteDelayReq]

@[simp] theorem clock_frameTransmit {n s} : (frameTransmit n s).clock = s.clock := by
  fun_cases frameTransmit n s <;> simp +zetaDelta

@[simp] theorem execFrameTransmit_keeps {n s} : (execFrameTransmit n s).Keeps s := by simp [execFrameTransmit]

@[simp] theorem execLpiEnter_keeps {n s} : (execLpiEnter n s).Keeps s := by simp [execLpiEnter, lpiEnter]

@[simp] theorem clock_wakeLpi {s : State} {n} : (s.wakeLpi n).clock = s.clock := by simp [State.wakeLpi]

@[simp] theorem execLpiWake_keeps {n s} : (execLpiWake n s).Keeps s := by simp [execLpiWake, lpiWake]

@[simp] theorem clock_setShift {s : State} {n x} : (s.setShift n x).clock = s.clock := by simp [State.setShift]

@[simp] theorem clock_linkControl {s : State} {n txn op target cause} :
    (s.linkControl n txn op target cause).clock = s.clock := by
  simp [State.linkControl]

@[simp] theorem clock_askShift {s : State} {n target} : (s.askShift n target).clock = s.clock := by
  simp [State.askShift]

@[simp] theorem clock_downshiftRequest {n thermal s} : (downshiftRequest n thermal s).clock = s.clock := by
  simp [downshiftRequest]

@[simp] theorem execDownshiftRequest_keeps {n thermal s} : (execDownshiftRequest n thermal s).Keeps s := by
  simp [execDownshiftRequest]

@[simp] theorem execUpshiftRequest_keeps {n s} : (execUpshiftRequest n s).Keeps s := by
  simp [execUpshiftRequest, upshiftRequest]

@[simp] theorem clock_beginShift {s : State} {n txn target} : (s.beginShift n txn target).clock = s.clock := by
  simp [State.beginShift]

@[simp] theorem clock_shiftDone {s : State} {n} : (s.shiftDone n).clock = s.clock := by
  fun_cases State.shiftDone s n <;> simp +zetaDelta

@[simp] theorem clock_shiftRequest {n txn target source admitted s} :
    (shiftRequest n txn target source admitted s).clock = s.clock := by
  simp [shiftRequest]

@[simp] theorem execShiftRequest_keeps {n txn target source admitted s} :
    (execShiftRequest n txn target source admitted s).Keeps s := by
  simp [execShiftRequest]

@[simp] theorem clock_shiftAccept {n txn s} : (shiftAccept n txn s).clock = s.clock := by
  unfold shiftAccept
  split <;> simp

@[simp] theorem execShiftAccept_keeps {n txn s} : (execShiftAccept n txn s).Keeps s := by
  simp [execShiftAccept]

@[simp] theorem clock_shiftDecline {n txn cause s} : (shiftDecline n txn cause s).clock = s.clock := by
  fun_cases shiftDecline n txn cause s <;> simp

@[simp] theorem execShiftDecline_keeps {n txn cause s} : (execShiftDecline n txn cause s).Keeps s := by
  simp [execShiftDecline]

@[simp] theorem clock_shiftMarker {n txn aligned s} : (shiftMarker n txn aligned s).clock = s.clock := by
  fun_cases shiftMarker n txn aligned s <;> simp +zetaDelta

@[simp] theorem execShiftMarker_keeps {n txn aligned s} : (execShiftMarker n txn aligned s).Keeps s := by
  simp [execShiftMarker]

@[simp] theorem execShiftTxResume_keeps {n s} : (execShiftTxResume n s).Keeps s := by
  unfold execShiftTxResume shiftTxResume
  dsimp only
  (repeat' split) <;> simp

@[simp] theorem execShiftAlignFail_keeps {n s} : (execShiftAlignFail n s).Keeps s := by
  unfold execShiftAlignFail shiftAlignFail
  dsimp only
  (repeat' split) <;> simp

@[simp] theorem clock_snapshotPort {s : State} {n} : (s.snapshotPort n).clock = s.clock := by
  simp [State.snapshotPort]

@[simp] theorem portSnapshot_keeps {who n value s} : (portSnapshot who n value s).Keeps s := by
  simp [portSnapshot]

@[simp] theorem execPortCounterSnapshot_keeps {who n value s} : (execPortCounterSnapshot who n value s).Keeps s := by
  simp [execPortCounterSnapshot]

@[simp] theorem allPortSnapshot_keeps {who value s} : (allPortSnapshot who value s).Keeps s := by
  simp [allPortSnapshot]

@[simp] theorem execAllPortSnapshot_keeps {who value s} : (execAllPortSnapshot who value s).Keeps s := by
  simp [execAllPortSnapshot]

@[simp] theorem clock_clearPort {s : State} {n} : (s.clearPort n).clock = s.clock := by simp [State.clearPort]

@[simp] theorem portClear_keeps {who n value s} : (portClear who n value s).Keeps s := by simp [portClear]

@[simp] theorem execPortCounterClear_keeps {who n value s} : (execPortCounterClear who n value s).Keeps s := by
  simp [execPortCounterClear]

@[simp] theorem execFilterEntryWrite_keeps {who n slot value s} : (execFilterEntryWrite who n slot value s).Keeps s := by
  simp [execFilterEntryWrite, filterWrite]

@[simp] theorem clock_octetPllLockLoss {k s} : (octetPllLockLoss k s).clock = s.clock := by
  simp [octetPllLockLoss]

@[simp] theorem execOctetPllLockLoss_keeps {k s} : (execOctetPllLockLoss k s).Keeps s := by
  simp [execOctetPllLockLoss]

@[simp] theorem execOctetPllLocked_keeps {k s} : (execOctetPllLocked k s).Keeps s := by
  simp [execOctetPllLocked, octetPllLocked]

@[simp] theorem execOctetPllStop_keeps {k s} : (execOctetPllStop k s).Keeps s := by
  unfold execOctetPllStop octetPllStop
  split <;> simp

@[simp] theorem execSgmiiSpeedChange_keeps {n speed s} : (execSgmiiSpeedChange n speed s).Keeps s := by
  simp [execSgmiiSpeedChange, sgmiiSpeed]

end Sys2Proof.Machine
end

section
/-! PROOFS. The clock under rings, the basket and receive packets (Chapter 14). -/

namespace Sys2Proof.Machine

@[simp] theorem clock_setRing {s : State} {i r x} : (s.setRing i r x).clock = s.clock := by simp [State.setRing]

@[simp] theorem clock_writeSlot {s : State} {i r j b} : (s.writeSlot i r j b).clock = s.clock := by
  fun_cases State.writeSlot s i r j b <;> simp

@[simp] theorem clock_writeSlots {s : State} {i r j k b} : (s.writeSlots i r j k b).clock = s.clock := by
  induction k generalizing s j b with
  | zero => rfl
  | succ k ih => simp [State.writeSlots, ih]

@[simp] theorem clock_basketOcc {s : State} {i pos value} : (s.basketOcc i pos value).clock = s.clock := by
  simp [State.basketOcc]

@[simp] theorem clock_setOverrun {s : State} {i r} : (s.setOverrun i r).clock = s.clock := by
  simp [State.setOverrun]

@[simp] theorem clock_ringCount {s : State} {i r off k} : (s.ringCount i r off k).clock = s.clock := by
  simp [State.ringCount]

@[simp] theorem clock_ringFull {s : State} {i r} : (s.ringFull i r).clock = s.clock := by simp [State.ringFull]

@[simp] theorem clock_ringAppend {s : State} {i r b} : (s.ringAppend i r b).1.clock = s.clock := by
  fun_cases State.ringAppend s i r b <;> simp +zetaDelta

@[simp] theorem clock_receiveInto {s : State} {i r b} : (s.receiveInto i r b).1.clock = s.clock := by
  unfold State.receiveInto
  split
  · split
    next h => simp [clock_of_fst clock_ringAppend h]
  · rfl

@[simp] theorem clock_localCopy {s : State} {n b truncated fcsOk} :
    (s.localCopy n b truncated fcsOk).clock = s.clock := by
  simp [State.localCopy]

@[simp] theorem clock_gooseCopy {s : State} {e b tagOk stamp} : (s.gooseCopy e b tagOk stamp).clock = s.clock := by
  unfold State.gooseCopy
  split <;> simp

@[simp] theorem execRingProd_keeps {inst ring value s} : (execRingProd inst ring value s).Keeps s := by
  simp [execRingProd, ringProd]

@[simp] theorem execRingCons_keeps {inst ring value s} : (execRingCons inst ring value s).Keeps s := by
  simp [execRingCons, ringCons]

@[simp] theorem execRingCommand_keeps {inst ring value s} : (execRingCommand inst ring value s).Keeps s := by
  unfold execRingCommand ringCommand
  dsimp only
  (repeat' split) <;> simp

@[simp] theorem execRingStatusKnock_keeps {inst ring value s} : (execRingStatusKnock inst ring value s).Keeps s := by
  simp [execRingStatusKnock, ringKnock]

@[simp] theorem clock_applyRing {s : State} {i r b} : (s.applyRing i r b).clock = s.clock := by
  simp [State.applyRing]

@[simp] theorem execRingConfig_keeps {who inst ring value s} : (execRingConfig who inst ring value s).Keeps s := by
  simp [execRingConfig, ringConfigWrite]

end Sys2Proof.Machine
end

section
/-! PROOFS. The clock under the keys of the key slots (R272, R276 to R278). -/

namespace Sys2Proof.Machine

@[simp] theorem clock_setKeyRec {s : State} {n bank r} : (s.setKeyRec n bank r).clock = s.clock := by
  simp [State.setKeyRec]

@[simp] theorem clock_eraseSlot {s : State} {n} : (s.eraseSlot n).clock = s.clock := by simp [State.eraseSlot]

@[simp] theorem clock_noteAmbiguous {s : State} {e cls o} : (s.noteAmbiguous e cls o).clock = s.clock := by
  simp [State.noteAmbiguous]

end Sys2Proof.Machine
end

section
/-! PROOFS. The clock under forwarding, learning and traffic classes (Chapter 5). -/

namespace Sys2Proof.Machine

@[simp] theorem clock_policeBucket {s : State} {k rate burst len} :
    (s.policeBucket k rate burst len).1.clock = s.clock := by
  fun_cases State.policeBucket s k rate burst len <;> simp

@[simp] theorem clock_policePort {s : State} {k rate burst len} :
    (s.policePort k rate burst len).1.clock = s.clock := by
  unfold State.policePort
  split <;> simp

@[simp] theorem clock_fillBucket {s : State} {k burst} : (s.fillBucket k burst).clock = s.clock := by
  simp [State.fillBucket]

@[simp] theorem clock_bufferFrame {s : State} {cells copies reserve} :
    (s.bufferFrame cells copies reserve).1.clock = s.clock := by
  simp [State.bufferFrame]

@[simp] theorem clock_admitProtection {s : State} {cells copies} :
    (s.admitProtection cells copies).1.clock = s.clock := by
  unfold State.admitProtection
  dsimp only
  (repeat' split) <;> simp

@[simp] theorem clock_setMac {s : State} {key e} : (s.setMac key e).clock = s.clock := by simp [State.setMac]

@[simp] theorem clock_queueLearn {s : State} {n key} : (s.queueLearn n key).clock = s.clock := by
  simp [State.queueLearn]

@[simp] theorem clock_learnOne {s : State} {key n} : (s.learnOne key n).clock = s.clock := by
  unfold State.learnOne
  split <;> simp

@[simp] theorem execLearn_keeps {pipeline s} : (execLearn pipeline s).Keeps s := by
  unfold execLearn learn
  split <;> simp

@[simp] theorem execSkimmerSweep_keeps {s} : (execSkimmerSweep s).Keeps s := by
  simp [execSkimmerSweep, skimmerSweep]

@[simp] theorem clock_applyStatic {s : State} {k b} : (s.applyStatic k b).clock = s.clock := by
  simp [State.applyStatic]

@[simp] theorem execStaticMacWrite_keeps {who slot value s} : (execStaticMacWrite who slot value s).Keeps s := by
  simp [execStaticMacWrite, staticMacWrite]

@[simp] theorem clock_setNode {s : State} {g addr x} : (s.setNode g addr x).clock = s.clock := by
  simp [State.setNode]

@[simp] theorem clock_evictNode {s : State} : s.evictNode.clock = s.clock := by
  fun_cases State.evictNode s <;> simp +zetaDelta

@[simp] theorem clock_redundancy {s : State} {g n o} : (s.redundancy g n o).1.clock = s.clock := by
  fun_cases State.redundancy s g n o <;> simp +zetaDelta

@[simp] theorem clock_sendDoubled {s : State} {g q id o} : (s.sendDoubled g q id o).clock = s.clock := by
  simp [State.sendDoubled]

@[simp] theorem clock_sendCopy {s : State} {src n q id o stomp} : (s.sendCopy src n q id o stomp).clock = s.clock := by
  unfold State.sendCopy
  split <;> simp

@[simp] theorem execRedSupervisionSend_keeps {g s} : (execRedSupervisionSend g s).Keeps s := by
  simp [execRedSupervisionSend, redSupervisionSend]

@[simp] theorem execRedNodeForget_keeps {g address s} : (execRedNodeForget g address s).Keeps s := by
  unfold execRedNodeForget redNodeForget
  split <;> simp

@[simp] theorem clock_takeStreamSeq {s : State} {e src m seq} : (s.takeStreamSeq e src m seq).1.clock = s.clock := by
  fun_cases State.takeStreamSeq s e src m seq <;> simp

@[simp] theorem clock_sendFlow {s : State} {f o} : (s.sendFlow f o).clock = s.clock := by simp [State.sendFlow]

@[simp] theorem clock_admittedFrame {s : State} {n e o bad stamp} :
    (s.admittedFrame n e o bad stamp).clock = s.clock := by
  fun_cases State.admittedFrame s n e o bad stamp
  all_goals
    have hpolice := clock_of_fst clock_policeBucket ‹State.policeBucket _ _ _ _ _ = _›
    simp +zetaDelta at hpolice
  case case5 =>
    simp +zetaDelta
    (repeat' split) <;> simp [hpolice]
  case case6 h | case7 h =>
    have hadmit := clock_of_fst clock_admitProtection h
    simp +zetaDelta at hadmit
    simp +zetaDelta [hadmit]
    (repeat' split) <;> simp [hpolice]
  all_goals simp +zetaDelta [hpolice]

@[simp] theorem clock_streamFrame {s : State} {n e o bad stamp m seq} :
    (s.streamFrame n e o bad stamp m seq).clock = s.clock := by
  simp [State.streamFrame]

/-- A policer that may be off only takes from its bucket (R222). -/
theorem clock_of_policed {s t : State} {c : Prop} [Decidable c] {k rate burst len : Nat} {ok : Bool}
    (h : (if c then s.policePort k rate burst len else (s, true)) = (t, ok)) : t.clock = s.clock :=
  clock_of_fst (by split <;> simp) h

@[simp] theorem clock_bestEffort {s : State} {n o bad} : (s.bestEffort n o bad).clock = s.clock := by
  fun_cases State.bestEffort s n o bad
  case case1 | case2 => simp +zetaDelta
  case case3 h _ => simp +zetaDelta [clock_of_policed h]
  case case4 h _ _ _ _ _ =>
    have hin := clock_of_policed h
    simp +zetaDelta at hin
    simp +zetaDelta [hin]
  case case10 =>
    have hin := clock_of_policed ‹(if State.pnum _ Od.policerEnable _ = 1 then _ else _) = _›
    have hflood := clock_of_policed ‹(if _ = true then _ else _) = _›
    have hcell := clock_of_fst clock_bufferFrame ‹State.bufferFrame _ _ _ _ = _›
    simp +zetaDelta at hin hflood hcell
    simp +zetaDelta [hin, hflood, hcell]
  all_goals
    have hin := clock_of_policed ‹(if State.pnum _ Od.policerEnable _ = 1 then _ else _) = _›
    have hflood := clock_of_policed ‹(if _ = true then _ else _) = _›
    simp +zetaDelta at hin hflood
    simp +zetaDelta [hin, hflood]

@[simp] theorem clock_switchFrame {s : State} {n o bad} : (s.switchFrame n o bad).clock = s.clock := by
  unfold State.switchFrame
  dsimp only
  (repeat' split) <;> simp

@[simp] theorem clock_hsrForward {s : State} {n o fresh} : (s.hsrForward n o fresh).clock = s.clock := by
  unfold State.hsrForward
  split <;> simp

@[simp] theorem clock_admitStream {s : State} {e b} : (s.admitStream e b).clock = s.clock := by
  simp [State.admitStream]

@[simp] theorem clock_refuseStream {s : State} {e c} : (s.refuseStream e c).clock = s.clock := by
  simp [State.refuseStream]

@[simp] theorem clock_tryAdmit {s : State} {who e b} : (s.tryAdmit who e b).1.clock = s.clock := by
  unfold State.tryAdmit
  split <;> simp

@[simp] theorem execAdmissionShiftWait_keeps {e s} : (execAdmissionShiftWait e s).Keeps s := by
  unfold execAdmissionShiftWait admissionShiftWait
  dsimp only
  (repeat' split) <;> simp

@[simp] theorem execDropEvent_keeps {counter s} : (execDropEvent counter s).Keeps s := by
  unfold execDropEvent dropEvent
  split <;> simp

@[simp] theorem clock_applyShaperRate {s : State} {n q value} : (s.applyShaperRate n q value).clock = s.clock := by
  simp [State.applyShaperRate]

@[simp] theorem clock_applyShaperBurst {s : State} {n q value} : (s.applyShaperBurst n q value).clock = s.clock := by
  simp [State.applyShaperBurst]

@[simp] theorem clock_applyShaperEnable {s : State} {n value} : (s.applyShaperEnable n value).clock = s.clock := by
  simp [State.applyShaperEnable]

@[simp] theorem execShaperRateWrite_keeps {who n q value s} : (execShaperRateWrite who n q value s).Keeps s := by
  simp [execShaperRateWrite, shaperRateWrite]

@[simp] theorem execSoundingPass_keeps {s} : (execSoundingPass s).Keeps s := by
  simp [execSoundingPass, soundingPass]

end Sys2Proof.Machine
end

section
/-! PROOFS. The clock under the sampled-value intake (Chapter 7). -/

namespace Sys2Proof.Machine

@[simp] theorem clock_setStream {s : State} {e x} : (s.setStream e x).clock = s.clock := by simp [State.setStream]

@[simp] theorem clock_setGridSlot {s : State} {k x} : (s.setGridSlot k x).clock = s.clock := by
  simp [State.setGridSlot]

@[simp] theorem clock_streamState {s : State} {e st} : (s.streamState e st).clock = s.clock := by
  simp [State.streamState]

@[simp] theorem clock_streamField {s : State} {e lo w v} : (s.streamField e lo w v).clock = s.clock := by
  simp [State.streamField]

@[simp] theorem clock_streamCount {s : State} {e i k} : (s.streamCount e i k).clock = s.clock := by
  simp [State.streamCount]

@[simp] theorem clock_intakeDiscard {s : State} {e cause} : (s.intakeDiscard e cause).clock = s.clock := by
  simp [State.intakeDiscard]

@[simp] theorem clock_closeMissing {s : State} {e ranges} : (s.closeMissing e ranges).clock = s.clock := by
  unfold State.closeMissing
  split <;> simp

@[simp] theorem clock_horizonClose {e s} : (horizonClose e s).clock = s.clock := by
  unfold horizonClose
  split <;> simp

@[simp] theorem clock_placeSample {s : State} {e k a} : (s.placeSample e k a).clock = s.clock := by
  unfold State.placeSample
  split <;> simp

@[simp] theorem clock_takeSample {s : State} {e v a} : (s.takeSample e v a).clock = s.clock := by
  unfold State.takeSample
  split <;> simp

@[simp] theorem execStreamSilent_keeps {e s} : (execStreamSilent e s).Keeps s := by
  unfold execStreamSilent streamSilent
  split <;> simp

@[simp] theorem clock_setSources {s : State} {e on} : (s.setSources e on).clock = s.clock := by
  simp [State.setSources]

@[simp] theorem clock_startGrid {s : State} {e v} : (s.startGrid e v).clock = s.clock := by simp [State.startGrid]

@[simp] theorem clock_bindStream {s : State} {e} : (s.bindStream e).clock = s.clock := by simp [State.bindStream]

@[simp] theorem clock_unbindStream {s : State} {e} : (s.unbindStream e).clock = s.clock := by
  simp [State.unbindStream]

@[simp] theorem clock_applyIntakeEnable {s : State} {e value} : (s.applyIntakeEnable e value).clock = s.clock := by
  simp [State.applyIntakeEnable]

@[simp] theorem clock_rebindStream {s : State} {t e} : (s.rebindStream t e).clock = t.clock := by
  unfold State.rebindStream
  dsimp only
  split
  · simp
  · split <;> simp

@[simp] theorem clock_freezeStreams {s : State} {d} : (s.freezeStreams d).clock = s.clock := by
  unfold State.freezeStreams
  exact clock_foldl fun _ _ => by (repeat' split) <;> simp

@[simp] theorem clock_thawStreams {s : State} {d} : (s.thawStreams d).clock = s.clock := by
  unfold State.thawStreams
  exact clock_foldl fun _ _ => by (repeat' split) <;> simp

@[simp] theorem clock_applyKeySlots {s : State} {e value} : (s.applyKeySlots e value).clock = s.clock := by
  simp [State.applyKeySlots]

@[simp] theorem execIntakeKeySlots_keeps {who e value s} : (execIntakeKeySlots who e value s).Keeps s := by
  simp [execIntakeKeySlots, intakeKeySlots]

@[simp] theorem clock_withdrawStream {s : State} {e b} : (s.withdrawStream e b).clock = s.clock := by
  simp [State.withdrawStream]

@[simp] theorem clock_streamPut {s : State} {who e b} : (s.streamPut who e b).1.clock = s.clock := by
  fun_cases State.streamPut s who e b <;> simp

@[simp] theorem clock_streamWrite {who e b s} : (streamWrite who e b s).clock = s.clock := by
  unfold streamWrite
  split <;> simp

end Sys2Proof.Machine
end

section
/-! PROOFS. The clock under the Xosyn fabric (Chapter 6). -/

namespace Sys2Proof.Machine

@[simp] theorem execXosynHelloSend_keeps {n s} : (execXosynHelloSend n s).Keeps s := by
  simp [execXosynHelloSend, xosynHelloSend]

@[simp] theorem clock_xosynHello {n serial fabric address seen s} :
    (xosynHello n serial fabric address seen s).clock = s.clock := by
  simp [xosynHello]

@[simp] theorem execXosynHello_keeps {n serial fabricId address seen s} :
    (execXosynHello n serial fabricId address seen s).Keeps s := by
  simp [execXosynHello]

@[simp] theorem execNeighbourTimeout_keeps {n s} : (execNeighbourTimeout n s).Keeps s := by
  simp [execNeighbourTimeout, neighbourTimeout]

@[simp] theorem execDelayReqSend_keeps {n s} : (execDelayReqSend n s).Keeps s := by
  simp [execDelayReqSend, delayReqSend]

@[simp] theorem clock_delayReq {n seq s} : (delayReq n seq s).clock = s.clock := by simp [delayReq]

@[simp] theorem execDelayReq_keeps {n source seq s} : (execDelayReq n source seq s).Keeps s := by
  simp [execDelayReq]

@[simp] theorem clock_publishDelay {s : State} {n} : (s.publishDelay n).clock = s.clock := by
  simp [State.publishDelay]

@[simp] theorem clock_delayResp {n residence seq s} : (delayResp n residence seq s).clock = s.clock := by
  fun_cases delayResp n residence seq s <;> simp +zetaDelta

@[simp] theorem execDelayResp_keeps {n t2 residence seq s} : (execDelayResp n t2 residence seq s).Keeps s := by
  simp [execDelayResp]

@[simp] theorem clock_originateLsa {s : State} : s.originateLsa.clock = s.clock := by
  simp [State.originateLsa]

@[simp] theorem clock_dbChanged {s : State} : s.dbChanged.clock = s.clock := by simp [State.dbChanged]

@[simp] theorem execLsaOriginate_keeps {s} : (execLsaOriginate s).Keeps s := by
  simp [execLsaOriginate, lsaOriginate]

@[simp] theorem clock_fabricDrop {s : State} {id} : (s.fabricDrop id).clock = s.clock := by
  simp [State.fabricDrop]

@[simp] theorem clock_relay {s : State} {n kind h body prio} : (s.relay n kind h body prio).clock = s.clock := by
  simp [State.relay]

@[simp] theorem clock_lsa {n head m s} : (lsa n head m s).clock = s.clock := by simp [lsa]

@[simp] theorem execLsa_keeps {n head msg s} : (execLsa n head msg s).Keeps s := by simp [execLsa]

@[simp] theorem execLsaAgeOut_keeps {serial s} : (execLsaAgeOut serial s).Keeps s := by
  unfold execLsaAgeOut lsaAgeOut
  split <;> simp

@[simp] theorem clock_updateRoot {s : State} : s.updateRoot.clock = s.clock := by simp [State.updateRoot]

@[simp] theorem clock_setPath {s : State} {f pathB p} : (s.setPath f pathB p).clock = s.clock := by
  simp [State.setPath]

@[simp] theorem clock_sendSetup {s : State} {f pathB op port hops} :
    (s.sendSetup f pathB op port hops).clock = s.clock := by
  simp [State.sendSetup]

@[simp] theorem clock_releasePath {s : State} {f pathB} : (s.releasePath f pathB).clock = s.clock := by
  simp [State.releasePath]

@[simp] theorem clock_releaseFlows {s : State} : s.releaseFlows.clock = s.clock := by
  simp [State.releaseFlows]

@[simp] theorem clock_addressAssign {serial address cause s} :
    (addressAssign serial address cause s).clock = s.clock := by
  fun_cases addressAssign serial address cause s <;> simp +zetaDelta

@[simp] theorem execAddressAssign_keeps {serial address cause s} :
    (execAddressAssign serial address cause s).Keeps s := by
  simp [execAddressAssign]

@[simp] theorem clock_announceAddress {s : State} {x} : (s.announceAddress x).clock = s.clock := by
  simp [State.announceAddress]

@[simp] theorem execAddressDecide_keeps {s} : (execAddressDecide s).Keeps s := by
  simp [execAddressDecide, addressDecide]

@[simp] theorem clock_flowSync {s : State} {f} : (s.flowSync f).clock = s.clock := by simp [State.flowSync]

@[simp] theorem clock_startPath {s : State} {f pathB p tries avoid} :
    (s.startPath f pathB p tries avoid).clock = s.clock := by
  unfold State.startPath
  split <;> simp

@[simp] theorem clock_setupFlow {s : State} {f} : (s.setupFlow f).clock = s.clock := by
  unfold State.setupFlow
  dsimp only
  (repeat' split) <;> simp

@[simp] theorem clock_replacePath {s : State} {f pathB tries avoid} :
    (s.replacePath f pathB tries avoid).clock = s.clock := by
  fun_cases State.replacePath s f pathB tries avoid <;> simp

@[simp] theorem clock_repairFlow {s : State} {f} : (s.repairFlow f).clock = s.clock := by simp [State.repairFlow]

@[simp] theorem execRouteCompute_keeps {s} : (execRouteCompute s).Keeps s := by
  simp [execRouteCompute, routeCompute]

@[simp] theorem clock_applyFlow {s : State} {f b} : (s.applyFlow f b).clock = s.clock := by simp [State.applyFlow]

@[simp] theorem flowWrite_keeps {who f b s} : (flowWrite who f b s).Keeps s := by simp [flowWrite]

@[simp] theorem execFlowEnable_keeps {who f value s} : (execFlowEnable who f value s).Keeps s := by
  simp [execFlowEnable]

@[simp] theorem execFlowDisable_keeps {who f value s} : (execFlowDisable who f value s).Keeps s := by
  simp [execFlowDisable]

@[simp] theorem clock_answerSetup {s : State} {h m i op cause} : (s.answerSetup h m i op cause).clock = s.clock := by
  fun_cases State.answerSetup s h m i op cause <;> simp

@[simp] theorem clock_passFlow {s : State} {h m op next} : (s.passFlow h m op next).clock = s.clock := by
  fun_cases State.passFlow s h m op next <;> simp

@[simp] theorem clock_flowSetup {n head m s} : (flowSetup n head m s).clock = s.clock := by
  fun_cases flowSetup n head m s <;> simp +zetaDelta

@[simp] theorem execFlowSetup_keeps {n head msg s} : (execFlowSetup n head msg s).Keeps s := by
  simp [execFlowSetup]

@[simp] theorem clock_passBack {s : State} {h m op} : (s.passBack h m op).clock = s.clock := by
  unfold State.passBack
  split <;> simp

@[simp] theorem clock_flowAck {n head m s} : (flowAck n head m s).clock = s.clock := by simp [flowAck]

@[simp] theorem execFlowAck_keeps {n head msg s} : (execFlowAck n head msg s).Keeps s := by simp [execFlowAck]

@[simp] theorem clock_refusePath {s : State} {f pathB cause at_} :
    (s.refusePath f pathB cause at_).clock = s.clock := by
  simp [State.refusePath]

@[simp] theorem clock_flowRefuse {n head m s} : (flowRefuse n head m s).clock = s.clock := by
  simp [flowRefuse]

@[simp] theorem execFlowRefuse_keeps {n head msg s} : (execFlowRefuse n head msg s).Keeps s := by
  simp [execFlowRefuse]

@[simp] theorem clock_flowRelease {n head m s} : (flowRelease n head m s).clock = s.clock := by
  unfold flowRelease
  split <;> simp

@[simp] theorem execFlowRelease_keeps {n head msg s} : (execFlowRelease n head msg s).Keeps s := by
  simp [execFlowRelease]

@[simp] theorem execFlowSetupTimeout_keeps {f pathB s} : (execFlowSetupTimeout f pathB s).Keeps s := by
  simp [execFlowSetupTimeout, flowSetupTimeout]

@[simp] theorem clock_forwardXosyn {s : State} {n kind h body} : (s.forwardXosyn n kind h body).1.clock = s.clock := by
  fun_cases State.forwardXosyn s n kind h body <;> simp

@[simp] theorem clock_setSink {s : State} {k x} : (s.setSink k x).clock = s.clock := by simp [State.setSink]

@[simp] theorem clock_takeSink {s : State} {k h} : (s.takeSink k h).1.clock = s.clock := by
  fun_cases State.takeSink s k h <;> simp +zetaDelta

@[simp] theorem clock_presentFrame {s : State} {n o} : (s.presentFrame n o).clock = s.clock := by
  unfold State.presentFrame
  split <;> simp

@[simp] theorem clock_flowData {n head carried s} : (flowData n head carried s).clock = s.clock := by
  unfold flowData
  dsimp only
  (repeat' split) <;> simp

@[simp] theorem execFlowData_keeps {n head carried s} : (execFlowData n head carried s).Keeps s := by
  simp [execFlowData]

@[simp] theorem clock_applySink {s : State} {k b} : (s.applySink k b).clock = s.clock := by simp [State.applySink]

@[simp] theorem execSinkEntryWrite_keeps {who k value s} : (execSinkEntryWrite who k value s).Keeps s := by
  simp [execSinkEntryWrite, sinkWrite]

@[simp] theorem execSinkPathSilent_keeps {k pathB s} : (execSinkPathSilent k pathB s).Keeps s := by
  simp [execSinkPathSilent, sinkPathSilent]

@[simp] theorem clock_datagram {n head payload s} : (datagram n head payload s).clock = s.clock := by
  simp [datagram]

@[simp] theorem execDatagram_keeps {n head payload s} : (execDatagram n head payload s).Keeps s := by
  simp [execDatagram]

@[simp] theorem execTimeSend_keeps {d s} : (execTimeSend d s).Keeps s := by simp [execTimeSend, timeSend]

@[simp] theorem clock_timeMessage {source d m pathDelay valid s} :
    (timeMessage source d m pathDelay valid s).clock = s.clock := by
  simp [timeMessage]

@[simp] theorem execTime_keeps {source d offer pathDelay valid s} :
    (execTime source d offer pathDelay valid s).Keeps s := by
  simp [execTime]

@[simp] theorem execFabricSourceLost_keeps {d address s} : (execFabricSourceLost d address s).Keeps s := by
  unfold execFabricSourceLost fabricSourceLost
  split <;> simp

@[simp] theorem clock_pondReport {source m s} : (pondReport source m s).clock = s.clock := by
  fun_cases pondReport source m s <;> simp +zetaDelta

@[simp] theorem execPondReport_keeps {source msg s} : (execPondReport source msg s).Keeps s := by
  simp [execPondReport]

@[simp] theorem execMemberStale_keeps {address s} : (execMemberStale address s).Keeps s := by
  unfold execMemberStale memberStale
  split <;> simp

@[simp] theorem clock_applyFabricEnable {s : State} {value} : (s.applyFabricEnable value).clock = s.clock := by
  simp [State.applyFabricEnable]

end Sys2Proof.Machine
end

section
/-! PROOFS. The clock under the filter and decimation chain (Chapter 8). -/

namespace Sys2Proof.Machine

@[simp] theorem clock_setFilter {s : State} {c x} : (s.setFilter c x).clock = s.clock := by simp [State.setFilter]

@[simp] theorem clock_setTracker {s : State} {t x} : (s.setTracker t x).clock = s.clock := by
  simp [State.setTracker]

@[simp] theorem clock_setPhasor {s : State} {p x} : (s.setPhasor p x).clock = s.clock := by simp [State.setPhasor]

@[simp] theorem clock_chainRun {s : State} {c k} : (s.chainRun c k).clock = s.clock := by
  fun_induction State.chainRun s c k
  case case6 ih => simp +zetaDelta [ih]
  all_goals simp +zetaDelta

@[simp] theorem clock_filterEvent {s : State} {c old} : (s.filterEvent c old).clock = s.clock := by
  simp [State.filterEvent]

@[simp] theorem clock_startFilter {s : State} {c} : (s.startFilter c).clock = s.clock := by
  simp [State.startFilter]

@[simp] theorem clock_idleFilter {s : State} {c} : (s.idleFilter c).clock = s.clock := by
  unfold State.idleFilter
  split <;> simp

@[simp] theorem clock_reconcileFilters {s : State} : s.reconcileFilters.clock = s.clock := by
  unfold State.reconcileFilters
  exact clock_foldl fun _ _ => by (repeat' split) <;> simp

@[simp] theorem clock_restartSettling {s : State} {d v w} : (s.restartSettling d v w).clock = s.clock := by
  unfold State.restartSettling
  exact clock_foldl fun _ _ => by (repeat' split) <;> simp

@[simp] theorem clock_regridFilters {s : State} {d} : (s.regridFilters d).clock = s.clock := by
  unfold State.regridFilters
  exact clock_foldl fun _ _ => by (repeat' split) <;> simp

@[simp] theorem clock_applyFilterEnable {s : State} {c value} : (s.applyFilterEnable c value).clock = s.clock := by
  simp [State.applyFilterEnable]

@[simp] theorem clock_applyFilterInput {s : State} {c value} : (s.applyFilterInput c value).clock = s.clock := by
  unfold State.applyFilterInput
  split <;> simp

@[simp] theorem clock_applyFilterScale {s : State} {c b} : (s.applyFilterScale c b).clock = s.clock := by
  unfold State.applyFilterScale
  split <;> simp

@[simp] theorem execFilterScale_keeps {who c value s} : (execFilterScale who c value s).Keeps s := by
  simp [execFilterScale, filterScale]

@[simp] theorem clock_applyFir {s : State} {k b} : (s.applyFir k b).clock = s.clock := by simp [State.applyFir]

@[simp] theorem execFirSetWrite_keeps {who k value s} : (execFirSetWrite who k value s).Keeps s := by
  simp [execFirSetWrite, firSetWrite]

@[simp] theorem clock_applyDetector {s : State} {c b} : (s.applyDetector c b).clock = s.clock := by
  unfold State.applyDetector
  split <;> simp

@[simp] theorem clock_applyFilterConfig {s : State} {c b} : (s.applyFilterConfig c b).clock = s.clock := by
  simp [State.applyFilterConfig]

@[simp] theorem clock_trackerFlags {s : State} {t old new} : (s.trackerFlags t old new).clock = s.clock := by
  simp [State.trackerFlags]

@[simp] theorem clock_trackerRecord {s : State} {t n} : (s.trackerRecord t n).clock = s.clock := by
  unfold State.trackerRecord
  split <;> simp

@[simp] theorem clock_phasorOutput {p s} : (phasorOutput p s).clock = s.clock := by
  fun_cases phasorOutput p s <;> simp +zetaDelta

@[simp] theorem clock_applyPhasorEnable {s : State} {p value} : (s.applyPhasorEnable p value).clock = s.clock := by
  simp [State.applyPhasorEnable]

@[simp] theorem clock_applyTrackerEnable {s : State} {t value} : (s.applyTrackerEnable t value).clock = s.clock := by
  simp [State.applyTrackerEnable]

@[simp] theorem execChainScrubPass_keeps {micros s} : (execChainScrubPass micros s).Keeps s := by
  simp [execChainScrubPass, chainScrubPass]

end Sys2Proof.Machine
end

section
/-! PROOFS. The clock under trigger units, records and ripple lines (Chapter 9). -/

namespace Sys2Proof.Machine

@[simp] theorem clock_setUnit {s : State} {u x} : (s.setUnit u x).clock = s.clock := by simp [State.setUnit]

@[simp] theorem clock_enterUnit {s : State} {u st} : (s.enterUnit u st).clock = s.clock := by
  simp [State.enterUnit]

@[simp] theorem clock_fillSlot {s : State} {u k} : (s.fillSlot u k).clock = s.clock := by
  unfold State.fillSlot
  split <;> simp

@[simp] theorem clock_resumeUnit {s : State} {u from_} : (s.resumeUnit u from_).clock = s.clock := by
  fun_cases State.resumeUnit s u from_ <;> simp

@[simp] theorem clock_arm {s : State} {u} : (s.arm u).clock = s.clock := by
  simp [State.arm]
  split <;> simp

@[simp] theorem clock_writeRing {s : State} {c r data quality} : (s.writeRing c r data quality).clock = s.clock := by
  simp [State.writeRing]

@[simp] theorem clock_writeRecord {s : State} {u x r postShort} : (s.writeRecord u x r postShort).clock = s.clock := by
  simp [State.writeRecord]

@[simp] theorem clock_settleUnit {s : State} {u} : (s.settleUnit u).clock = s.clock := by
  unfold State.settleUnit
  split <;> simp

@[simp] theorem clock_releasePages {s : State} {u} : (s.releasePages u).clock = s.clock := by
  unfold State.releasePages
  split <;> simp

@[simp] theorem clock_freezeRecord {s : State} {u postShort} : (s.freezeRecord u postShort).clock = s.clock := by
  fun_cases State.freezeRecord s u postShort <;> simp +zetaDelta

@[simp] theorem clock_disarm {s : State} {u} : (s.disarm u).clock = s.clock := by
  fun_cases State.disarm s u <;> simp +zetaDelta

@[simp] theorem clock_afterFreeze {s : State} {u} : (s.afterFreeze u).clock = s.clock := by
  fun_cases State.afterFreeze s u <;> simp

@[simp] theorem execRecordFreeze_keeps {u s} : (execRecordFreeze u s).Keeps s := by
  unfold execRecordFreeze recordFreeze
  (repeat' split) <;> simp

@[simp] theorem clock_captureUnit {s : State} {u} : (s.captureUnit u).clock = s.clock := by
  unfold State.captureUnit
  split <;> simp

@[simp] theorem clock_captureAll {s : State} : s.captureAll.clock = s.clock := by simp [State.captureAll]

@[simp] theorem clock_missTrigger {s : State} {u} : (s.missTrigger u).clock = s.clock := by
  fun_cases State.missTrigger s u <;> simp +zetaDelta

@[simp] theorem clock_openRecord {s : State} {u x e filling} : (s.openRecord u x e filling).clock = s.clock := by
  simp [State.openRecord]

@[simp] theorem clock_retrigger {s : State} {u x r e} : (s.retrigger u x r e).clock = s.clock := by
  simp [State.retrigger]

@[simp] theorem clock_captureTrigger {s : State} {u e} : (s.captureTrigger u e).clock = s.clock := by
  fun_cases State.captureTrigger s u e <;> simp

@[simp] theorem clock_setRipple {s : State} {k x} : (s.setRipple k x).clock = s.clock := by simp [State.setRipple]

@[simp] theorem clock_driveRipple {s : State} {k} : (s.driveRipple k).clock = s.clock := by
  simp [State.driveRipple]

@[simp] theorem clock_sendTrigger {s : State} {u e} : (s.sendTrigger u e).clock = s.clock := by
  simp [State.sendTrigger]

@[simp] theorem clock_decideOn {s : State} {u e} : (s.decideOn u e).clock = s.clock := by
  unfold State.decideOn
  dsimp only
  (repeat' split) <;> simp

@[simp] theorem clock_decideTrigger {s : State} {u e} : (s.decideTrigger u e).clock = s.clock := by
  simp [State.decideTrigger]

@[simp] theorem clock_evaluateAll {s : State} {u rate l} : (s.evaluateAll u rate l).clock = s.clock := by
  induction l generalizing s with
  | nil => rfl
  | cons e r ih =>
    unfold State.evaluateAll
    (repeat' split) <;> simp [ih]

@[simp] theorem execTriggerDecide_keeps {u s} : (execTriggerDecide u s).Keeps s := by
  unfold execTriggerDecide triggerDecide
  dsimp only
  (repeat' split) <;> simp

@[simp] theorem unitArm_keeps {who u value s} : (unitArm who u value s).Keeps s := by
  unfold unitArm
  (repeat' split) <;> simp

@[simp] theorem execUnitArm_keeps {who u s} : (execUnitArm who u s).Keeps s := by simp [execUnitArm]

@[simp] theorem execUnitDisarm_keeps {who u s} : (execUnitDisarm who u s).Keeps s := by simp [execUnitDisarm]

@[simp] theorem execUnitDisarmAfterFreeze_keeps {who u s} : (execUnitDisarmAfterFreeze who u s).Keeps s := by
  simp [execUnitDisarmAfterFreeze]

@[simp] theorem unitSoftTrigger_keeps {who u value s} : (unitSoftTrigger who u value s).Keeps s := by
  simp [unitSoftTrigger]

@[simp] theorem execUnitSoftTrigger_keeps {who u value s} : (execUnitSoftTrigger who u value s).Keeps s := by
  simp [execUnitSoftTrigger]

@[simp] theorem clock_applyUnitWrite {s : State} {u id b} : (s.applyUnitWrite u id b).clock = s.clock := by
  fun_cases State.applyUnitWrite s u id b <;> simp +zetaDelta

@[simp] theorem recordControl_keeps {who u k value s} : (recordControl who u k value s).Keeps s := by
  unfold recordControl
  split <;> simp

@[simp] theorem execRecordLock_keeps {who u slot s} : (execRecordLock who u slot s).Keeps s := by
  simp [execRecordLock]

@[simp] theorem execRecordUnlock_keeps {who u slot s} : (execRecordUnlock who u slot s).Keeps s := by
  simp [execRecordUnlock]

@[simp] theorem execRecordRelease_keeps {who u slot s} : (execRecordRelease who u slot s).Keeps s := by
  simp [execRecordRelease]

@[simp] theorem execRippleEdge_keeps {line asserted s} : (execRippleEdge line asserted s).Keeps s := by
  simp [execRippleEdge, rippleEdge]

@[simp] theorem execRippleRelease_keeps {line s} : (execRippleRelease line s).Keeps s := by
  unfold execRippleRelease rippleRelease
  dsimp only
  (repeat' split) <;> simp

@[simp] theorem execRippleStuck_keeps {line s} : (execRippleStuck line s).Keeps s := by
  simp [execRippleStuck, rippleStuck]

@[simp] theorem execRippleStuckClear_keeps {line s} : (execRippleStuckClear line s).Keeps s := by
  simp [execRippleStuckClear, rippleStuckClear]

@[simp] theorem clock_raiseDrops {s : State} {src code kind num} :
    (s.raiseDrops src code kind num).clock = s.clock := by
  simp [State.raiseDrops]

@[simp] theorem clock_discardTrigger {s : State} : s.discardTrigger.clock = s.clock := by
  simp [State.discardTrigger]

@[simp] theorem clock_offerTrigger {s : State} {u source valid pathDelay m} :
    (s.offerTrigger u source valid pathDelay m).clock = s.clock := by
  simp [State.offerTrigger]

@[simp] theorem clock_takeTrigger {s : State} {sink source valid pathDelay m} :
    (s.takeTrigger sink source valid pathDelay m).clock = s.clock := by
  simp [State.takeTrigger]

@[simp] theorem clock_trigger {n head m s} : (trigger n head m s).clock = s.clock := by
  unfold trigger
  dsimp only
  (repeat' split) <;> simp

@[simp] theorem execTrigger_keeps {n head msg s} : (execTrigger n head msg s).Keeps s := by simp [execTrigger]

@[simp] theorem execAcqEccError_keeps {corrected u slot s} : (execAcqEccError corrected u slot s).Keeps s := by
  unfold execAcqEccError acqEccError
  dsimp only
  (repeat' split) <;> simp

@[simp] theorem clock_stopLostUnits {s : State} : s.stopLostUnits.clock = s.clock := by
  simp [State.stopLostUnits]

@[simp] theorem clock_stopUnits {s : State} : s.stopUnits.clock = s.clock := by
  unfold State.stopUnits
  refine clock_foldl fun t u => ?_
  dsimp only
  (repeat' split) <;> simp

@[simp] theorem clock_resumeUnits {s : State} : s.resumeUnits.clock = s.clock := by
  unfold State.resumeUnits
  exact clock_foldl fun _ _ => by (repeat' split) <;> simp

@[simp] theorem clock_disarmInstance {s : State} {i} : (s.disarmInstance i).clock = s.clock := by
  simp [State.disarmInstance]

end Sys2Proof.Machine
end

section
/-! PROOFS. The clock under what an exported record leaves (R365 to R367). -/

namespace Sys2Proof.Machine

@[simp] theorem exportRequest_keeps {who value s} : (exportRequest who value s).Keeps s := by
  simp [exportRequest]

@[simp] theorem execExportRequest_keeps {who value s} : (execExportRequest who value s).Keeps s := by
  simp [execExportRequest]

@[simp] theorem clock_exportDone {failed s} : (exportDone failed s).clock = s.clock := by
  unfold exportDone
  split <;> simp

@[simp] theorem execExportDone_keeps {failed s} : (execExportDone failed s).Keeps s := by
  simp [execExportDone]

end Sys2Proof.Machine
end

section
/-! PROOFS. The clock under scan processors, programs and admission (Chapter 10). -/

namespace Sys2Proof.Machine

@[simp] theorem clock_setScan {s : State} {i x} : (s.setScan i x).clock = s.clock := by simp [State.setScan]

@[simp] theorem clock_instRaise {s : State} {i code detail} : (s.instRaise i code detail).clock = s.clock := by
  simp [State.instRaise]

@[simp] theorem clock_enterInst {s : State} {i st cause} : (s.enterInst i st cause).clock = s.clock := by
  simp [State.enterInst]

@[simp] theorem clock_instOcc {s : State} {i pos value} : (s.instOcc i pos value).clock = s.clock := by
  simp [State.instOcc]

@[simp] theorem clock_instLimited {s : State} {i code k} : (s.instLimited i code k).clock = s.clock := by
  simp [State.instLimited]

@[simp] theorem clock_instDone {s : State} {i id code} : (s.instDone i id code).clock = s.clock := by
  simp [State.instDone]

@[simp] theorem clock_spRaise {s : State} {p code detail} : (s.spRaise p code detail).clock = s.clock := by
  simp [State.spRaise]

@[simp] theorem clock_enterSp {s : State} {p st} : (s.enterSp p st).clock = s.clock := by simp [State.enterSp]

@[simp] theorem clock_releaseInst {s : State} {i} : (s.releaseInst i).clock = s.clock := by
  simp [State.releaseInst]

@[simp] theorem clock_setInstPair {s : State} {i st} : (s.setInstPair i st).clock = s.clock := by
  simp [State.setInstPair]

@[simp] theorem clock_faultInstance {s : State} {i cause} : (s.faultInstance i cause).clock = s.clock := by
  simp [State.faultInstance]

@[simp] theorem clock_overrunInst {s : State} {i cause} : (s.overrunInst i cause).clock = s.clock := by
  simp [State.overrunInst]

@[simp] theorem execLockstepMismatch_keeps {p s} : (execLockstepMismatch p s).Keeps s := by
  simp [execLockstepMismatch, lockstepMismatch]

@[simp] theorem spRecover_keeps {who p value s} : (spRecover who p value s).Keeps s := by simp [spRecover]

@[simp] theorem execSpRecover_keeps {who p value s} : (execSpRecover who p value s).Keeps s := by
  simp [execSpRecover]

@[simp] theorem execSpSelfTestDone_keeps {p pass s} : (execSpSelfTestDone p pass s).Keeps s := by
  simp [execSpSelfTestDone, spSelfTestDone]

@[simp] theorem execSpEccError_keeps {p corrected code inst s} : (execSpEccError p corrected code inst s).Keeps s := by
  simp [execSpEccError, spEccError]

@[simp] theorem execSpScrubPass_keeps {p micros s} : (execSpScrubPass p micros s).Keeps s := by
  simp [execSpScrubPass, spScrubPass]

end Sys2Proof.Machine
end

section
/-! PROOFS. The clock under fast I/O, pulse generators and local sense (Chapters 3 and 13). -/

namespace Sys2Proof.Machine

@[simp] theorem clock_setPin {s : State} {n x} : (s.setPin n x).clock = s.clock := by simp [State.setPin]

@[simp] theorem clock_setQueue {s : State} {q} : (s.setQueue q).clock = s.clock := by simp [State.setQueue]

@[simp] theorem clock_notePins {s : State} : s.notePins.clock = s.clock := by simp [State.notePins]

@[simp] theorem clock_setLevel {s : State} {n half l} : (s.setLevel n half l).clock = s.clock := by
  simp [State.setLevel]

@[simp] theorem clock_pinSafe {s : State} {n} : (s.pinSafe n).clock = s.clock := by
  unfold State.pinSafe
  split <;> simp

@[simp] theorem clock_safeOutputs {s : State} {i} : (s.safeOutputs i).clock = s.clock := by
  simp [State.safeOutputs]

@[simp] theorem clock_dropCommit {s : State} {i} : (s.dropCommit i).clock = s.clock := by simp [State.dropCommit]

@[simp] theorem clock_enqueueFio {s : State} {e} : (s.enqueueFio e).clock = s.clock := by simp [State.enqueueFio]

@[simp] theorem clock_withdraw {s : State} {f} : (s.withdraw f).clock = s.clock := by simp [State.withdraw]

@[simp] theorem clock_withdrawAfter {s : State} {i limit} : (s.withdrawAfter i limit).clock = s.clock := by
  simp [State.withdrawAfter]

@[simp] theorem clock_takeRecord {s : State} {i n g v used l} : (s.takeRecord i n g v used l).clock = s.clock := by
  simp [State.takeRecord]

@[simp] theorem clock_actEntry {s : State} {e half} : (s.actEntry e half).clock = s.clock := by
  simp [State.actEntry]

@[simp] theorem execFioEntryExecute_keeps {pin s} : (execFioEntryExecute pin s).Keeps s := by
  unfold execFioEntryExecute fioEntryExecute
  split <;> simp

@[simp] theorem execHeldEntryDiscard_keeps {pin s} : (execHeldEntryDiscard pin s).Keeps s := by
  simp [execHeldEntryDiscard, heldEntryDiscard]

@[simp] theorem clock_gainPins {s : State} {sel} : (s.gainPins sel).clock = s.clock := by simp [State.gainPins]

@[simp] theorem clock_setFqPage {s : State} {i x} : (s.setFqPage i x).clock = s.clock := by simp [State.setFqPage]

@[simp] theorem submitFio_keeps {s : State} {i x} : (s.submitFio i x).Keeps s := by simp [State.submitFio]

@[simp] theorem clock_fqSubmit {i s} : (fqSubmit i s).clock = s.clock := by
  unfold fqSubmit
  dsimp only
  split
  · rfl
  · split
    · simp
    · have hsubmit : Act.Keeps s (if s.inReset i then .error .busy else s.submitFio i (s.fqPage i)) := by simp
      generalize (if s.inReset i then Except.error Code.busy else s.submitFio i (s.fqPage i) : Act) = a at hsubmit ⊢
      cases a with
      | error c => simp
      | ok t => simp [keeps_ok.mp hsubmit]

@[simp] theorem execFqSubmit_keeps {inst s} : (execFqSubmit inst s).Keeps s := by simp [execFqSubmit]

@[simp] theorem execFqSubmitCollision_keeps {inst s} : (execFqSubmitCollision inst s).Keeps s := by
  simp [execFqSubmitCollision, fqSubmitCollision]

@[simp] theorem clock_pinFlagEvent {s : State} {n set bit word} : (s.pinFlagEvent n set bit word).clock = s.clock := by
  simp [State.pinFlagEvent]

@[simp] theorem execFioInputEdge_keeps {pin high sample s} : (execFioInputEdge pin high sample s).Keeps s := by
  simp [execFioInputEdge, fioInputEdge]

@[simp] theorem execChatterClear_keeps {pin s} : (execChatterClear pin s).Keeps s := by
  simp [execChatterClear, chatterClear]

@[simp] theorem execReadbackFault_keeps {pin differs s} : (execReadbackFault pin differs s).Keeps s := by
  simp [execReadbackFault, readbackFault]

@[simp] theorem clock_applyPinClass {s : State} {n polarity value} :
    (s.applyPinClass n polarity value).clock = s.clock := by
  simp [State.applyPinClass]

@[simp] theorem execFioClassWrite_keeps {who pin polarity value s} :
    (execFioClassWrite who pin polarity value s).Keeps s := by
  simp [execFioClassWrite, fioClassWrite]

@[simp] theorem clock_pgLevel {s : State} {n active} : (s.pgLevel n active).clock = s.clock := by
  unfold State.pgLevel
  split <;> simp

@[simp] theorem pgArm_keeps {who n s} : (pgArm who n s).Keeps s := by
  unfold pgArm
  split <;> simp

@[simp] theorem execPgArm_keeps {who n s} : (execPgArm who n s).Keeps s := by simp [execPgArm]

@[simp] theorem pgDisarm_keeps {who n s} : (pgDisarm who n s).Keeps s := by simp [pgDisarm]

@[simp] theorem execPgDisarm_keeps {who n s} : (execPgDisarm who n s).Keeps s := by simp [execPgDisarm]

@[simp] theorem execPgEdge_keeps {n s} : (execPgEdge n s).Keeps s := by
  unfold execPgEdge pgEdge
  dsimp only
  (repeat' split) <;> simp

@[simp] theorem execPgPulseEnd_keeps {n s} : (execPgPulseEnd n s).Keeps s := by
  unfold execPgPulseEnd pgPulseEnd
  dsimp only
  (repeat' split) <;> simp

@[simp] theorem clock_holdGens {s : State} {d} : (s.holdGens d).clock = s.clock := by simp [State.holdGens]

@[simp] theorem clock_disarmGens {s : State} {f} : (s.disarmGens f).clock = s.clock := by simp [State.disarmGens]

@[simp] theorem clock_resetPins {s : State} {i} : (s.resetPins i).clock = s.clock := by simp [State.resetPins]

@[simp] theorem clock_setLs {s : State} {m x} : (s.setLs m x).clock = s.clock := by simp [State.setLs]

@[simp] theorem clock_setTcs {s : State} {m x} : (s.setTcs m x).clock = s.clock := by simp [State.setTcs]

@[simp] theorem clock_setAlarm {s : State} {m a} : (s.setAlarm m a).clock = s.clock := by simp [State.setAlarm]

@[simp] theorem clock_tcsEval {s : State} {m} : (s.tcsEval m).clock = s.clock := by simp [State.tcsEval]

@[simp] theorem execTcsDelayExpiry_keeps {m s} : (execTcsDelayExpiry m s).Keeps s := by
  simp [execTcsDelayExpiry, tcsDelayExpiry]

@[simp] theorem clock_restartTcs {s : State} {m} : (s.restartTcs m).clock = s.clock := by simp [State.restartTcs]

@[simp] theorem clock_applyLsEnable {s : State} {m value} : (s.applyLsEnable m value).clock = s.clock := by
  simp [State.applyLsEnable]

@[simp] theorem clock_lsConvert {s : State} {m a b} : (s.lsConvert m a b).clock = s.clock := by
  simp [State.lsConvert]

@[simp] theorem clock_lsConversion {samples s} : (lsConversion samples s).clock = s.clock := by
  unfold lsConversion
  dsimp only
  split
  · rfl
  · rw [clock_foldl]
    · simp
    · intros
      split <;> simp

@[simp] theorem execLsConversion_keeps {samples s} : (execLsConversion samples s).Keeps s := by
  simp [execLsConversion]

@[simp] theorem lsCalibrate_keeps {who m kind s} : (lsCalibrate who m kind s).Keeps s := by simp [lsCalibrate]

@[simp] theorem execLsCalibrateZero_keeps {who m s} : (execLsCalibrateZero who m s).Keeps s := by
  simp [execLsCalibrateZero]

@[simp] theorem execLsCalibrateSpan_keeps {who m s} : (execLsCalibrateSpan who m s).Keeps s := by
  simp [execLsCalibrateSpan]

@[simp] theorem execLsCalibrationDone_keeps {m s} : (execLsCalibrationDone m s).Keeps s := by
  unfold execLsCalibrationDone lsCalibrationDone
  dsimp only
  (repeat' split) <;> simp

end Sys2Proof.Machine
end

section
/-! PROOFS. The clock under items and the health words of ponds (R45 to R53). -/

namespace Sys2Proof.Machine

@[simp] theorem clock_watchHealth {s : State} : s.watchHealth.clock = s.clock := by simp [State.watchHealth]

end Sys2Proof.Machine
end

section
/-! PROOFS. The clock under the redundant pair (Chapter 12). -/

namespace Sys2Proof.Machine

@[simp] theorem clock_setPair {s : State} {x} : (s.setPair x).clock = s.clock := by simp [State.setPair]

@[simp] theorem clock_sendPair {s : State} {op count body} : (s.sendPair op count body).clock = s.clock := by
  simp [State.sendPair]

/-- Taking a pair message only notes its Sequence. -/
theorem clock_of_takePair {s t : State} {port seq : Nat} (h : s.takePair port seq = some t) : t.clock = s.clock := by
  unfold State.takePair at h
  split at h
  · cases h
    simp
  · cases h

@[simp] theorem clock_setPairState {s : State} {st cause} : (s.setPairState st cause).clock = s.clock := by
  simp [State.setPairState]

@[simp] theorem clock_setPaddle {s : State} {st} : (s.setPaddle st).clock = s.clock := by simp [State.setPaddle]

@[simp] theorem clock_setPairInst {s : State} {i x} : (s.setPairInst i x).clock = s.clock := by
  simp [State.setPairInst]

@[simp] theorem clock_setSuspect {s : State} {v} : (s.setSuspect v).clock = s.clock := by simp [State.setSuspect]

@[simp] theorem clock_setRevert {s : State} {v} : (s.setRevert v).clock = s.clock := by simp [State.setRevert]

@[simp] theorem clock_setLineFault {s : State} {v} : (s.setLineFault v).clock = s.clock := by
  simp [State.setLineFault]

@[simp] theorem clock_applyPairEnable {s : State} {value} : (s.applyPairEnable value).clock = s.clock := by
  simp [State.applyPairEnable]

@[simp] theorem execPairEnable_keeps {who value s} : (execPairEnable who value s).Keeps s := by
  simp [execPairEnable, pairEnable]

@[simp] theorem execPairHelloSend_keeps {s} : (execPairHelloSend s).Keeps s := by
  simp [execPairHelloSend, pairHelloSend]

@[simp] theorem clock_pairHello {port seq serial pairId role beat dom s} :
    (pairHello port seq serial pairId role beat dom s).clock = s.clock := by
  unfold pairHello
  split
  · rfl
  · next h => simp [clock_of_takePair h]

@[simp] theorem execPairHello_keeps {port seq serial pairId role beat dom s} :
    (execPairHello port seq serial pairId role beat dom s).Keeps s := by
  simp [execPairHello]

@[simp] theorem execPairIsolated_keeps {s} : (execPairIsolated s).Keeps s := by
  simp [execPairIsolated, pairIsolated]

@[simp] theorem clock_pairWatch {s : State} : s.pairWatch.clock = s.clock := by
  unfold State.pairWatch
  dsimp only
  (repeat' split) <;> simp

@[simp] theorem execBeat_keeps {c0 c1 s} : (execBeat c0 c1 s).Keeps s := by simp [execBeat, beat]

@[simp] theorem clock_beatReceive {port seq m s} : (beatReceive port seq m s).clock = s.clock := by
  unfold beatReceive
  split
  · rfl
  · next h => simp [clock_of_takePair h]

@[simp] theorem execBeatReceive_keeps {port seq msg s} : (execBeatReceive port seq msg s).Keeps s := by
  simp [execBeatReceive]

@[simp] theorem clock_endAuthority {s : State} {x} : (s.endAuthority x).clock = s.clock := by
  simp [State.endAuthority]

@[simp] theorem execLeaseExpiry_keeps {s} : (execLeaseExpiry s).Keeps s := by
  unfold execLeaseExpiry leaseExpiry
  split <;> simp

@[simp] theorem execClaim_keeps {claimIn s} : (execClaim claimIn s).Keeps s := by simp [execClaim, claim]

@[simp] theorem clock_gainClaim {s : State} : s.gainClaim.clock = s.clock := by
  fun_cases State.gainClaim s <;> simp +zetaDelta

@[simp] theorem execClaimSample_keeps {claimIn s} : (execClaimSample claimIn s).Keeps s := by
  simp [execClaimSample, claimSample]

@[simp] theorem execClaimInAsserted_keeps {s} : (execClaimInAsserted s).Keeps s := by
  simp [execClaimInAsserted, claimInAsserted]

@[simp] theorem execClaimLineFault_keeps {since s} : (execClaimLineFault since s).Keeps s := by
  simp [execClaimLineFault, claimLineFault]

@[simp] theorem execReleaseCause_keeps {s} : (execReleaseCause s).Keeps s := by
  simp [execReleaseCause, releaseCauseCmd]

@[simp] theorem execReleaseInstant_keeps {s} : (execReleaseInstant s).Keeps s := by
  unfold execReleaseInstant releaseInstant
  split <;> simp

@[simp] theorem clock_release {port seq instant cause s} : (release port seq instant cause s).clock = s.clock := by
  unfold release
  split
  · rfl
  · next h => (repeat' split) <;> simp [clock_of_takePair h]

@[simp] theorem execRelease_keeps {port seq instant cause s} : (execRelease port seq instant cause s).Keeps s := by
  simp [execRelease]

@[simp] theorem clock_makeOffer {s : State} {cause} : (s.makeOffer cause).clock = s.clock := by
  simp [State.makeOffer]

@[simp] theorem clock_offerCmd {port seq instant cause s} : (offerCmd port seq instant cause s).clock = s.clock := by
  unfold offerCmd
  split
  · rfl
  · next h => simp [clock_of_takePair h]

@[simp] theorem execOffer_keeps {port seq instant cause s} : (execOffer port seq instant cause s).Keeps s := by
  simp [execOffer]

@[simp] theorem clock_accept {port seq instant cause s} : (accept port seq instant cause s).clock = s.clock := by
  unfold accept
  split
  · rfl
  · next h => (repeat' split) <;> simp [clock_of_takePair h]

@[simp] theorem execAccept_keeps {port seq instant cause s} : (execAccept port seq instant cause s).Keeps s := by
  simp [execAccept]

@[simp] theorem clock_refuse {port seq instant cause s} : (refuse port seq instant cause s).clock = s.clock := by
  unfold refuse
  split
  · rfl
  · next h => (repeat' split) <;> simp [clock_of_takePair h]

@[simp] theorem execRefuse_keeps {port seq instant cause s} : (execRefuse port seq instant cause s).Keeps s := by
  simp [execRefuse]

@[simp] theorem clock_takeRequest {port seq instant cause s} : (takeRequest port seq instant cause s).clock = s.clock := by
  unfold takeRequest
  split
  · rfl
  · next h => (repeat' split) <;> simp [clock_of_takePair h]

@[simp] theorem execTakeRequest_keeps {port seq instant cause s} :
    (execTakeRequest port seq instant cause s).Keeps s := by
  simp [execTakeRequest]

@[simp] theorem execHandoverInstant_keeps {s} : (execHandoverInstant s).Keeps s := by
  unfold execHandoverInstant handoverInstant
  split <;> simp

@[simp] theorem execTakeBack_keeps {s} : (execTakeBack s).Keeps s := by simp [execTakeBack, takeBack]

@[simp] theorem paddleHandOver_keeps {who s} : (paddleHandOver who s).Keeps s := by simp [paddleHandOver]

@[simp] theorem execPaddleHandOver_keeps {who s} : (execPaddleHandOver who s).Keeps s := by
  simp [execPaddleHandOver]

@[simp] theorem paddleTake_keeps {who s} : (paddleTake who s).Keeps s := by simp [paddleTake]

@[simp] theorem execPaddleTake_keeps {who s} : (execPaddleTake who s).Keeps s := by simp [execPaddleTake]

@[simp] theorem clearSuspect_keeps {who s} : (clearSuspect who s).Keeps s := by simp [clearSuspect]

@[simp] theorem execClearSuspect_keeps {who s} : (execClearSuspect who s).Keeps s := by
  simp [execClearSuspect]

@[simp] theorem clearRevert_keeps {who s} : (clearRevert who s).Keeps s := by simp [clearRevert]

@[simp] theorem execClearRevertSuspended_keeps {who s} : (execClearRevertSuspended who s).Keeps s := by
  simp [execClearRevertSuspended]

@[simp] theorem execSelfTestFail_keeps {test s} : (execSelfTestFail test s).Keeps s := by
  simp [execSelfTestFail, selfTestFail]

@[simp] theorem execSelfTestRecover_keeps {test s} : (execSelfTestRecover test s).Keeps s := by
  simp [execSelfTestRecover, selfTestRecover]

@[simp] theorem execStatusSend_keeps {s} : (execStatusSend s).Keeps s := by simp [execStatusSend, statusSend]

@[simp] theorem clock_statusReceive {port seq m s} : (statusReceive port seq m s).clock = s.clock := by
  unfold statusReceive
  split
  · rfl
  · next h => simp [clock_of_takePair h]

@[simp] theorem execStatus_keeps {port seq msg s} : (execStatus port seq msg s).Keeps s := by
  simp [execStatus]

@[simp] theorem execDigestSend_keeps {s} : (execDigestSend s).Keeps s := by simp [execDigestSend, digestSend]

@[simp] theorem clock_takeDigest {s : State} {r} : (s.takeDigest r).clock = s.clock := by simp [State.takeDigest]

@[simp] theorem clock_digest {port seq l s} : (digest port seq l s).clock = s.clock := by
  unfold digest
  split
  · rfl
  · next h => simp [clock_of_takePair h]

@[simp] theorem execDigest_keeps {port seq records s} : (execDigest port seq records s).Keeps s := by
  simp [execDigest]

@[simp] theorem clock_mismatchEvent {s : State} {i scan} : (s.mismatchEvent i scan).clock = s.clock := by
  simp [State.mismatchEvent]

@[simp] theorem clock_reviewSuspect {s : State} : s.reviewSuspect.clock = s.clock := by
  simp [State.reviewSuspect]

@[simp] theorem clock_pairAdvance {s : State} {i outcome} : (s.pairAdvance i outcome).clock = s.clock := by
  simp [State.pairAdvance]

@[simp] theorem execDigestCompare_keeps {inst s} : (execDigestCompare inst s).Keeps s := by
  unfold execDigestCompare digestCompare
  split <;> simp

@[simp] theorem pairJoin_keeps {who i s} : (pairJoin who i s).Keeps s := by simp [pairJoin]

@[simp] theorem execPairJoin_keeps {who inst s} : (execPairJoin who inst s).Keeps s := by simp [execPairJoin]

end Sys2Proof.Machine
end

section
/-! PROOFS. The clock under the run of a scan (Chapter 10). -/

namespace Sys2Proof.Machine

@[simp] theorem clock_programObjects {s : State} {i p} : (s.programObjects i p).clock = s.clock := by
  simp [State.programObjects]

@[simp] theorem clock_setFerry {s : State} {i off n v} : (s.setFerry i off n v).clock = s.clock := by
  simp [State.setFerry]

@[simp] theorem clock_writeRetained {s : State} {i n} : (s.writeRetained i n).clock = s.clock := by
  fun_cases State.writeRetained s i n <;> simp +zetaDelta

/-- The state that a checked start gives has only admitted a charge (R386). -/
theorem clock_of_checkStart {s t : State} {i : Nat} {warm : Bool} {p : Prog} (h : s.checkStart i warm = .ok (p, t)) :
    t.clock = s.clock := by
  unfold State.checkStart at h
  split at h
  · cases h
  · simp only [bind, Except.bind] at h
    (repeat' split at h) <;> cases h
    exact admitCharge_keeps _ ‹State.admitCharge _ _ _ _ = _›

@[simp] theorem clock_launch {s : State} {i p warm b} : (s.launch i p warm b).clock = s.clock := by
  unfold State.launch
  extract_lets x s'
  have hs' : s'.clock = s.clock := by simp [s']
  clear_value s'
  split
  next t page hpage =>
  have ht : t.clock = s'.clock := by
    cases hret : x.retPage with
    | some q =>
      rw [hret] at hpage
      cases hpage
      rfl
    | none =>
      rw [hret] at hpage
      cases hrun : s'.pageRun i 1 <;> rw [hrun] at hpage <;> cases hpage <;> simp
  extract_lets copy data last y u v w z
  have hz : z.clock = s.clock := by simp [z, w, v, u, ht, hs']
  clear_value z
  simp [hz]

@[simp] theorem startInstance_keeps {s : State} {i warm g} : (s.startInstance i warm g).Keeps s := by
  simp only [State.startInstance, keeps_bind, Prod.forall, keeps_ok, clock_launch]
  exact fun _ _ h => clock_of_checkStart h

@[simp] theorem coldStart_keeps {who i s} : (coldStart who i s).Keeps s := by
  simp only [coldStart, keeps_bind, keeps_ite]
  intro _ _
  split
  · simp only [Prod.forall, keeps_ok]
    intro _ _ h
    simp [clock_of_checkStart h]
  · exact startInstance_keeps

@[simp] theorem execColdStart_keeps {who inst s} : (execColdStart who inst s).Keeps s := by
  simp [execColdStart]

@[simp] theorem warmStart_keeps {who i s} : (warmStart who i s).Keeps s := by simp [warmStart]

@[simp] theorem execWarmStart_keeps {who inst s} : (execWarmStart who inst s).Keeps s := by
  simp [execWarmStart]

@[simp] theorem clock_requestStop {s : State} {i} : (s.requestStop i).clock = s.clock := by
  simp [State.requestStop]

@[simp] theorem stopCmd_keeps {who i s} : (stopCmd who i s).Keeps s := by simp [stopCmd]

@[simp] theorem execStopCmd_keeps {who inst s} : (execStopCmd who inst s).Keeps s := by simp [execStopCmd]

@[simp] theorem checkCandidate_keeps {s : State} {i p q} : (s.checkCandidate i p q).Keeps s := by
  simp only [State.checkCandidate, keeps_bind, keeps_ite, keeps_ok]
  intros
  split
  · intro t hcharge _ _ _ _
    exact admitCharge_keeps t hcharge
  · simp

@[simp] theorem programLoad_keeps {who i addr s} : (programLoad who i addr s).Keeps s := by simp [programLoad]

@[simp] theorem execProgramLoad_keeps {who inst address s} : (execProgramLoad who inst address s).Keeps s := by
  simp [execProgramLoad]

@[simp] theorem clock_takeCandidate {s : State} {i q} : (s.takeCandidate i q).1.clock = s.clock := by
  unfold State.takeCandidate
  dsimp only
  split
  · rfl
  · split
    · next h => simp [checkCandidate_keeps _ h]
    · simp

@[simp] theorem execProgramLoadDone_keeps {inst s} : (execProgramLoadDone inst s).Keeps s := by
  unfold execProgramLoadDone programLoadDone
  dsimp only
  (repeat' split) <;> simp

@[simp] theorem clock_basketCount {s : State} {i off n k} : (s.basketCount i off n k).clock = s.clock := by
  simp [State.basketCount]

/-- The area that `inboundArea` builds from what it took out of the basket. -/
def State.areaOf (s : State) (i : Nat) (p : Nat × Nat × Bytes × Nat × Nat × Nat) : State × Bytes :=
  let r := s.ring i 8
  let (cons, left, area, got, late, bad) := p
  let flags := boolNat r.overrun + 2 * boolNat (left != 0)
  let b := toLE 2 got ++ toLE 2 (area.length / 64) ++ toLE 4 flags ++ List.replicate 56 0 ++ area
  let t := s.setRing i 8 ({ r with cons := cons % 2 ^ 32, full := r.full && cons == r.cons } : Ring).trim
  let t := ((t.basketCount i 0 8 got).basketCount i 28 4 late).basketCount i 16 4 bad
  (if bad = 0 then t else t.basketOcc i 3 bad, b ++ List.replicate (4096 - b.length) 0)

theorem inboundArea_eq {s : State} {i k : Nat} : s.inboundArea i k
    = s.areaOf i (s.takeInbound i k 64 (s.ring i 8).cons (s.ring i 8).held 1 [] (0, 0, 0)) := rfl

theorem clock_areaOf {s : State} {i : Nat} {p} : (s.areaOf i p).1.clock = s.clock := by
  simp only [State.areaOf]
  split <;> simp

@[simp] theorem clock_inboundArea {s : State} {i k} : (s.inboundArea i k).1.clock = s.clock := by
  rw [inboundArea_eq, clock_areaOf]

@[simp] theorem clock_appendOutbound {k i used area n at_ fits c s} :
    (State.appendOutbound k i used area n at_ fits c s).1.clock = s.clock := by
  fun_induction State.appendOutbound k i used area n at_ fits c s
  case case4 h ih => exact ih.trans (clock_of_fst (by split <;> simp) h)
  case case5 h _ ih => exact ih.trans (clock_of_fst (by split <;> simp) h)
  all_goals rfl

@[simp] theorem clock_outbound {s : State} {i k} : (s.outbound i k).clock = s.clock := by
  unfold State.outbound
  dsimp only
  (repeat' split) <;> simp

@[simp] theorem clock_imageFreeze {i s} : (imageFreeze i s).clock = s.clock := by
  unfold imageFreeze
  extract_lets x
  have hin : (s.inboundArea i x.scan).1.clock = s.clock := clock_inboundArea
  generalize s.inboundArea i x.scan = q at hin ⊢
  obtain ⟨u, b⟩ := q
  split
  · rfl
  split
  · rfl
  split
  extract_lets gap elapsed clock ents pend flags header digest data
  clear_value data pend clock digest
  clear elapsed flags header
  split
  next t data h =>
  have ht : t.clock = s.clock := by
    by_cases hb : s.basketBytes i = 0
    · rw [if_pos hb, Prod.mk.injEq] at h
      rw [h.1]
    · rw [if_neg hb, Prod.mk.injEq] at h
      rw [← h.1]
      exact hin
  clear h
  simp [ht]

@[simp] theorem execImageFreeze_keeps {inst s} : (execImageFreeze inst s).Keeps s := by simp [execImageFreeze]

@[simp] theorem clock_useProgram {s : State} {i q data} : (s.useProgram i q data).clock = s.clock := by
  simp [State.useProgram]

@[simp] theorem clock_ferrySwitch {s : State} {i n} : (s.ferrySwitch i n).clock = s.clock := by
  fun_cases State.ferrySwitch s i n <;> simp +zetaDelta

@[simp] theorem clock_setSwitch {s : State} {i n} : (s.setSwitch i n).clock = s.clock := by simp [State.setSwitch]

@[simp] theorem ferrySwitchCmd_keeps {who i n s} : (ferrySwitchCmd who i n s).Keeps s := by
  unfold ferrySwitchCmd
  dsimp only
  (repeat' split) <;> simp

@[simp] theorem execFerrySwitch_keeps {who inst scan s} : (execFerrySwitch who inst scan s).Keeps s := by
  simp [execFerrySwitch]

@[simp] theorem clock_withdrawFerry {s : State} {i st tell} : (s.withdrawFerry i st tell).clock = s.clock := by
  fun_cases State.withdrawFerry s i st tell <;> simp +zetaDelta

@[simp] theorem clock_dropCandidate {s : State} {i} : (s.dropCandidate i).clock = s.clock := by
  simp [State.dropCandidate]

@[simp] theorem ferryCancel_keeps {who i value s} : (ferryCancel who i value s).Keeps s := by
  simp [ferryCancel]

@[simp] theorem execFerryCancel_keeps {who inst value s} : (execFerryCancel who inst value s).Keeps s := by
  simp [execFerryCancel]

@[simp] theorem clock_sendResync {s : State} {i m} : (s.sendResync i m).clock = s.clock := by
  fun_cases State.sendResync s i m <;> simp

@[simp] theorem clock_applyResync {s : State} {i} : (s.applyResync i).clock = s.clock := by
  fun_cases State.applyResync s i <;> simp +zetaDelta

@[simp] theorem clock_leaveProcessor {s : State} {i st} : (s.leaveProcessor i st).clock = s.clock := by
  simp [State.leaveProcessor]

@[simp] theorem clock_finishStop {s : State} {i v written} : (s.finishStop i v written).clock = s.clock := by
  simp [State.finishStop]

@[simp] theorem clock_nextBoundary {s : State} {i g v} : (s.nextBoundary i g v).clock = s.clock := by
  simp [State.nextBoundary]

@[simp] theorem clock_faultedBoundary {s : State} {i g v} : (s.faultedBoundary i g v).clock = s.clock := by
  simp [State.faultedBoundary]

@[simp] theorem clock_commitScan {s : State} {i g v} : (s.commitScan i g v).clock = s.clock := by
  simp [State.commitScan]

@[simp] theorem clock_pairBoundary {s : State} {i k was} : (s.pairBoundary i k was).clock = s.clock := by
  unfold State.pairBoundary
  dsimp only
  (repeat' split) <;> simp

@[simp] theorem clock_runningBoundary {s : State} {i g v} : (s.runningBoundary i g v).clock = s.clock := by
  simp [State.runningBoundary]

@[simp] theorem execScanBoundary_keeps {inst s} : (execScanBoundary inst s).Keeps s := by
  unfold execScanBoundary scanBoundary
  split <;> simp

@[simp] theorem clock_autoRestart {i s} : (autoRestart i s).clock = s.clock := by
  unfold autoRestart
  dsimp only
  split
  · rfl
  · split
    · next h => simp [startInstance_keeps _ h]
    · simp

@[simp] theorem execAutoRestart_keeps {inst s} : (execAutoRestart inst s).Keeps s := by simp [execAutoRestart]

@[simp] theorem clock_shedInstances {s : State} : s.shedInstances.clock = s.clock := by
  simp [State.shedInstances]

@[simp] theorem clock_unshedInstances {s : State} : s.unshedInstances.clock = s.clock := by
  unfold State.unshedInstances
  refine clock_foldl fun t i => ?_
  split
  · split
    · next h => exact startInstance_keeps _ h
    · simp
  · rfl

@[simp] theorem clock_scanStep {s : State} {d pre post} : (s.scanStep d pre post).clock = s.clock := by
  simp [State.scanStep]

@[simp] theorem clock_rescan {s : State} {i} : (s.rescan i).clock = s.clock := by simp [State.rescan]

@[simp] theorem clock_rejoinDomain {s : State} {d} : (s.rejoinDomain d).clock = s.clock := by
  simp [State.rejoinDomain]

end Sys2Proof.Machine
end

section
/-! PROOFS. The clock under resynchronisation, ferry and start by message (Chapter 12). -/

namespace Sys2Proof.Machine

@[simp] theorem clock_resyncData {port seq m s} : (resyncData port seq m s).clock = s.clock := by
  unfold resyncData
  split
  · rfl
  · next h => simp [clock_of_takePair h]

@[simp] theorem execResyncData_keeps {port seq msg s} : (execResyncData port seq msg s).Keeps s := by
  simp [execResyncData]

@[simp] theorem execResyncAbandon_keeps {inst s} : (execResyncAbandon inst s).Keeps s := by
  simp [execResyncAbandon, resyncAbandon]

@[simp] theorem clock_ferryPropose {port seq i n tag s} : (ferryPropose port seq i n tag s).clock = s.clock := by
  unfold ferryPropose
  split
  · rfl
  · next h => simp [clock_of_takePair h]

@[simp] theorem execFerryPropose_keeps {port seq inst scan tag s} :
    (execFerryPropose port seq inst scan tag s).Keeps s := by
  simp [execFerryPropose]

@[simp] theorem clock_ferryAccept {port seq i n tag s} : (ferryAccept port seq i n tag s).clock = s.clock := by
  unfold ferryAccept
  split
  · rfl
  · next h => (repeat' split) <;> simp [clock_of_takePair h]

@[simp] theorem execFerryAccept_keeps {port seq inst scan tag s} :
    (execFerryAccept port seq inst scan tag s).Keeps s := by
  simp [execFerryAccept]

@[simp] theorem execFerryProposeTimeout_keeps {inst s} : (execFerryProposeTimeout inst s).Keeps s := by
  unfold execFerryProposeTimeout ferryTimeout
  split <;> simp

@[simp] theorem clock_ferryCancelMessage {port seq i n tag s} :
    (ferryCancelMessage port seq i n tag s).clock = s.clock := by
  unfold ferryCancelMessage
  split
  · rfl
  · next h => simp [clock_of_takePair h]

@[simp] theorem execFerryCancelMessage_keeps {port seq inst scan tag s} :
    (execFerryCancelMessage port seq inst scan tag s).Keeps s := by
  simp [execFerryCancelMessage]

@[simp] theorem clock_startPropose {port seq i mode n tag s} :
    (startPropose port seq i mode n tag s).clock = s.clock := by
  unfold startPropose
  split
  · rfl
  · next h =>
    have ht := clock_of_takePair h
    split
    · split
      · next hstart => split <;> simp [clock_of_checkStart hstart, ht]
      · exact ht
    · exact ht

@[simp] theorem execStartPropose_keeps {port seq inst mode scan tag s} :
    (execStartPropose port seq inst mode scan tag s).Keeps s := by
  simp [execStartPropose]

@[simp] theorem clock_startAlone {s : State} {i} : (s.startAlone i).clock = s.clock := by simp [State.startAlone]

@[simp] theorem clock_startAccept {port seq i mode n tag s} : (startAccept port seq i mode n tag s).clock = s.clock := by
  unfold startAccept
  split
  · rfl
  · next h => simp [clock_of_takePair h]

@[simp] theorem execStartAccept_keeps {port seq inst mode scan tag s} :
    (execStartAccept port seq inst mode scan tag s).Keeps s := by
  simp [execStartAccept]

@[simp] theorem execPairedStartTimeout_keeps {inst s} : (execPairedStartTimeout inst s).Keeps s := by
  simp [execPairedStartTimeout, pairedStartTimeout]

end Sys2Proof.Machine
end

section
/-! PROOFS. The clock under sessions and what ends them (R89, R96 to R100). -/

namespace Sys2Proof.Machine

@[simp] theorem clock_endSession {s : State} {k} : (s.endSession k).clock = s.clock := by
  unfold State.endSession
  dsimp only
  (repeat' split) <;> simp

@[simp] theorem clock_bindWindow {s : State} {w v} : (s.bindWindow w v).clock = s.clock := by
  simp [State.bindWindow]

@[simp] theorem clock_endTenants {s : State} {i} : (s.endTenants i).clock = s.clock := by simp [State.endTenants]

end Sys2Proof.Machine
end

section
/-! PROOFS. The clock under functions, transmit rings and their resets (Chapter 14). -/

namespace Sys2Proof.Machine

@[simp] theorem clock_forgetSelector {s : State} {i} : (s.forgetSelector i).clock = s.clock := by
  simp [State.forgetSelector]

@[simp] theorem clock_emptyRings {s : State} {i} : (s.emptyRings i).clock = s.clock := by simp [State.emptyRings]

@[simp] theorem instanceCreate_keeps {who i s} : (instanceCreate who i s).Keeps s := by simp [instanceCreate]

@[simp] theorem execInstanceCreate_keeps {who value s} : (execInstanceCreate who value s).Keeps s := by
  simp [execInstanceCreate]

@[simp] theorem clock_bindVf {s : State} {n v} : (s.bindVf n v).clock = s.clock := by simp [State.bindVf]

@[simp] theorem clock_deleteInstance {s : State} {i} : (s.deleteInstance i).clock = s.clock := by
  simp [State.deleteInstance]

@[simp] theorem instanceDelete_keeps {who i s} : (instanceDelete who i s).Keeps s := by simp [instanceDelete]

@[simp] theorem execInstanceDelete_keeps {who value s} : (execInstanceDelete who value s).Keeps s := by
  simp [execInstanceDelete]

@[simp] theorem execVfInstance_keeps {who n value s} : (execVfInstance who n value s).Keeps s := by
  simp [execVfInstance, vfInstance]

@[simp] theorem clock_emptyBasket {s : State} {i} : (s.emptyBasket i).clock = s.clock := by
  simp [State.emptyBasket]

@[simp] theorem clock_resetFunction {s : State} {fn} : (s.resetFunction fn).clock = s.clock := by
  unfold State.resetFunction
  dsimp only
  (repeat' split) <;> simp

@[simp] theorem clock_functionLevelReset {fn s} : (functionLevelReset fn s).clock = s.clock := by
  simp [functionLevelReset]

@[simp] theorem execFunctionLevelReset_keeps {fn s} : (execFunctionLevelReset fn s).Keeps s := by
  simp [execFunctionLevelReset]

@[simp] theorem execFunctionLevelResetDone_keeps {fn s} : (execFunctionLevelResetDone fn s).Keeps s := by
  simp [execFunctionLevelResetDone, functionResetDone]

theorem clock_of_sendPacket {s t : State} {i : Nat} {d body : Bytes} (h : s.sendPacket i d body = some t) :
    t.clock = s.clock := by
  unfold State.sendPacket at h
  dsimp only at h
  (repeat' split at h) <;> cases h <;> simp

@[simp] theorem clock_txPacketSend {i ring dma s} : (txPacketSend i ring dma s).clock = s.clock := by
  unfold txPacketSend
  dsimp only
  split
  · rfl
  · split
    · rfl
    · split
      · next h => simp [clock_of_sendPacket h]
      · simp

@[simp] theorem execTxPacketSend_keeps {inst ring dma s} : (execTxPacketSend inst ring dma s).Keeps s := by
  simp [execTxPacketSend]

@[simp] theorem clock_setResetJob {s : State} {i x} : (s.setResetJob i x).clock = s.clock := by
  simp [State.setResetJob]

@[simp] theorem clock_setResetStatus {s : State} {i st mode time} :
    (s.setResetStatus i st mode time).clock = s.clock := by
  simp [State.setResetStatus]

@[simp] theorem clock_squashWork {s : State} {i} : (s.squashWork i).clock = s.clock := by simp [State.squashWork]

@[simp] theorem clock_beginReset {s : State} {i mode} : (s.beginReset i mode).clock = s.clock := by
  simp [State.beginReset]

@[simp] theorem resetDrain_keeps {who i s} : (resetDrain who i s).Keeps s := by simp [resetDrain]

@[simp] theorem execResetDrain_keeps {who inst s} : (execResetDrain who inst s).Keeps s := by
  simp [execResetDrain]

@[simp] theorem clock_becomeSquash {s : State} {i j} : (s.becomeSquash i j).clock = s.clock := by
  simp [State.becomeSquash]

@[simp] theorem clock_squashDrains {s : State} : s.squashDrains.clock = s.clock := by
  unfold State.squashDrains
  exact clock_foldl fun _ _ => by (repeat' split) <;> simp

@[simp] theorem resetSquash_keeps {who i s} : (resetSquash who i s).Keeps s := by
  unfold resetSquash
  split <;> simp

@[simp] theorem execResetSquash_keeps {who inst s} : (execResetSquash who inst s).Keeps s := by
  simp [execResetSquash]

@[simp] theorem clock_finishReset {s : State} {i st j} : (s.finishReset i st j).clock = s.clock := by
  simp [State.finishReset]

@[simp] theorem execResetComplete_keeps {inst s} : (execResetComplete inst s).Keeps s := by
  unfold execResetComplete resetComplete
  split <;> simp

@[simp] theorem execDrainLimitExpiry_keeps {inst s} : (execDrainLimitExpiry inst s).Keeps s := by
  unfold execDrainLimitExpiry drainLimit
  split <;> simp

end Sys2Proof.Machine
end

section
/-! PROOFS. The clock under keys, ownership, boot images and attestation (Chapter 17). -/

namespace Sys2Proof.Machine

@[simp] theorem clock_setSec {s : State} {x} : (s.setSec x).clock = s.clock := by simp [State.setSec]

@[simp] theorem clock_setOwnership {s : State} {x} : (s.setOwnership x).clock = s.clock := by
  simp [State.setOwnership]

@[simp] theorem clock_setBootRec {s : State} {x} : (s.setBootRec x).clock = s.clock := by simp [State.setBootRec]

@[simp] theorem clock_setKeyPend {s : State} {n p} : (s.setKeyPend n p).clock = s.clock := by
  simp [State.setKeyPend]

@[simp] theorem clock_copyBank {s : State} {n b} : (s.copyBank n b).clock = s.clock := by simp [State.copyBank]

@[simp] theorem clock_repairKey {s : State} {n} : (s.repairKey n).clock = s.clock := by simp [State.repairKey]

@[simp] theorem clock_noteKeys {s : State} {t} : (s.noteKeys t).clock = t.clock := by simp [State.noteKeys]

@[simp] theorem clock_damage {s : State} {a1} : (s.damage a1).clock = s.clock := by
  fun_cases State.damage s a1 <;> simp

@[simp] theorem execJournalCheckPass_keeps {bad s} : (execJournalCheckPass bad s).Keeps s := by
  simp [execJournalCheckPass, journalCheck]

@[simp] theorem keyLoad_keeps {who n b s} : (keyLoad who n b s).Keeps s := by simp [keyLoad]

@[simp] theorem execKeyLoad_keeps {who slot value s} : (execKeyLoad who slot value s).Keeps s := by
  simp [execKeyLoad]

@[simp] theorem clock_dropStaged {s : State} {n} : (s.dropStaged n).clock = s.clock := by
  unfold State.dropStaged
  split <;> simp

@[simp] theorem execKeyLoadDone_keeps {slot readBack s} : (execKeyLoadDone slot readBack s).Keeps s := by
  unfold execKeyLoadDone keyLoadDone
  (repeat' split) <;> simp

@[simp] theorem keyCommit_keeps {who n after s} : (keyCommit who n after s).Keeps s := by
  unfold keyCommit
  split <;> simp

@[simp] theorem execKeyCommit_keeps {who slot after s} : (execKeyCommit who slot after s).Keeps s := by
  simp [execKeyCommit]

@[simp] theorem execKeyCommitDone_keeps {slot s} : (execKeyCommitDone slot s).Keeps s := by
  unfold execKeyCommitDone keyCommitDone
  split <;> simp

@[simp] theorem keyDiscard_keeps {who n s} : (keyDiscard who n s).Keeps s := by simp [keyDiscard]

@[simp] theorem execKeyDiscard_keeps {who slot s} : (execKeyDiscard who slot s).Keeps s := by
  simp [execKeyDiscard]

@[simp] theorem keyErase_keeps {who n value s} : (keyErase who n value s).Keeps s := by simp [keyErase]

@[simp] theorem execKeyErase_keeps {who slot value s} : (execKeyErase who slot value s).Keeps s := by
  simp [execKeyErase]

@[simp] theorem clock_storeVault {s : State} {n key} : (s.storeVault n key).clock = s.clock := by
  simp [State.storeVault]

@[simp] theorem clock_setCredential {s : State} {n b} : (s.setCredential n b).clock = s.clock := by
  simp [State.setCredential]

@[simp] theorem credentialEntry_keeps {who n b s} : (credentialEntry who n b s).Keeps s := by
  simp [credentialEntry]

@[simp] theorem execCredentialEntry_keeps {who n value s} : (execCredentialEntry who n value s).Keeps s := by
  simp [execCredentialEntry]

@[simp] theorem credentialSecret_keeps {who n b s} : (credentialSecret who n b s).Keeps s := by
  simp [credentialSecret]

@[simp] theorem execCredentialSecret_keeps {who n value s} : (execCredentialSecret who n value s).Keeps s := by
  simp [execCredentialSecret]

@[simp] theorem clock_drawClaim {s : State} : s.drawClaim.clock = s.clock := by simp [State.drawClaim]

@[simp] theorem clock_ownerClaim {who b s} : (ownerClaim who b s).1.clock = s.clock := by
  fun_cases ownerClaim who b s <;> simp +zetaDelta

@[simp] theorem execOwnerClaim_keeps {who value s} : (execOwnerClaim who value s).Keeps s := by
  simp [execOwnerClaim]

@[simp] theorem clock_writeFlash {s : State} {d b v} : (s.writeFlash d b v).clock = s.clock := by
  simp [State.writeFlash]

@[simp] theorem clock_setImageStatus {s : State} {d v} : (s.setImageStatus d v).clock = s.clock := by
  simp [State.setImageStatus]

@[simp] theorem bootConfirm_keeps {who value s} : (bootConfirm who value s).Keeps s := by simp [bootConfirm]

@[simp] theorem execBootConfirm_keeps {who value s} : (execBootConfirm who value s).Keeps s := by
  simp [execBootConfirm]

@[simp] theorem securityVersionAdvance_keeps {who v s} : (securityVersionAdvance who v s).Keeps s := by
  simp [securityVersionAdvance]

@[simp] theorem execSecurityVersionAdvance_keeps {who value s} : (execSecurityVersionAdvance who value s).Keeps s := by
  simp [execSecurityVersionAdvance]

@[simp] theorem ownerBootKeyProgram_keeps {who b s} : (ownerBootKeyProgram who b s).Keeps s := by
  unfold ownerBootKeyProgram
  split <;> simp

@[simp] theorem execOwnerBootKeyProgram_keeps {who value s} : (execOwnerBootKeyProgram who value s).Keeps s := by
  simp [execOwnerBootKeyProgram]

@[simp] theorem ownerBootKeyRevoke_keeps {who k s} : (ownerBootKeyRevoke who k s).Keeps s := by
  simp [ownerBootKeyRevoke]

@[simp] theorem execOwnerBootKeyRevoke_keeps {who value s} : (execOwnerBootKeyRevoke who value s).Keeps s := by
  simp [execOwnerBootKeyRevoke]

@[simp] theorem clock_extendChain {s : State} {j d} : (s.extendChain j d).clock = s.clock := by
  simp [State.extendChain]

@[simp] theorem clock_zeroChains {s : State} {l} : (s.zeroChains l).clock = s.clock := by simp [State.zeroChains]

@[simp] theorem clock_measureStages {s : State} {j f} : (s.measureStages j f).clock = s.clock := by
  simp [State.measureStages]

@[simp] theorem measureExtend_keeps {who b s} : (measureExtend who b s).Keeps s := by simp [measureExtend]

@[simp] theorem execMeasureExtend_keeps {who value s} : (execMeasureExtend who value s).Keeps s := by
  simp [execMeasureExtend]

@[simp] theorem recoveryBlock_keeps {who b v s} : (recoveryBlock who b v s).Keeps s := by simp [recoveryBlock]

@[simp] theorem execRecoveryBlock_keeps {who b value s} : (execRecoveryBlock who b value s).Keeps s := by
  simp [execRecoveryBlock]

@[simp] theorem execTamperCauseClear_keeps {cause s} : (execTamperCauseClear cause s).Keeps s := by
  simp [execTamperCauseClear, tamperCauseClear]

@[simp] theorem tamperKnock_keeps {who v s} : (tamperKnock who v s).Keeps s := by simp [tamperKnock]

@[simp] theorem execTamperStatusKnock_keeps {who value s} : (execTamperStatusKnock who value s).Keeps s := by
  simp [execTamperStatusKnock]

@[simp] theorem attestMSecret_keeps {who b s} : (attestMSecret who b s).Keeps s := by simp [attestMSecret]

@[simp] theorem execAttestMSecret_keeps {who value s} : (execAttestMSecret who value s).Keeps s := by
  simp [execAttestMSecret]

@[simp] theorem clock_setNonce {s : State} {k cls b} : (s.setNonce k cls b).clock = s.clock := by
  simp [State.setNonce]

@[simp] theorem attestChallenge_keeps {id cls who b s} : (attestChallenge id cls who b s).Keeps s := by
  simp [attestChallenge]

@[simp] theorem execAttestMChallenge_keeps {who value s} : (execAttestMChallenge who value s).Keeps s := by
  simp [execAttestMChallenge]

@[simp] theorem execAttestPChallenge_keeps {who value s} : (execAttestPChallenge who value s).Keeps s := by
  simp [execAttestPChallenge]

@[simp] theorem clock_evidence {s : State} {k cls} : (s.evidence k cls).1.clock = s.clock := by
  fun_cases State.evidence s k cls <;> simp +zetaDelta

@[simp] theorem clock_attestRead {id cls who s} : (attestRead id cls who s).clock = s.clock := by
  unfold attestRead
  split
  · simp
  · split
    · next h => simp [clock_of_fst clock_evidence h]
    · next h => simp [clock_of_fst clock_evidence h]

@[simp] theorem execAttestMResponse_keeps {who s} : (execAttestMResponse who s).Keeps s := by
  simp [execAttestMResponse]

@[simp] theorem execAttestPQuote_keeps {who s} : (execAttestPQuote who s).Keeps s := by
  simp [execAttestPQuote]

@[simp] theorem attestPGenerate_keeps {who value s} : (attestPGenerate who value s).Keeps s := by
  simp [attestPGenerate]

@[simp] theorem execAttestPGenerate_keeps {who value s} : (execAttestPGenerate who value s).Keeps s := by
  simp [execAttestPGenerate]

end Sys2Proof.Machine
end

section
/-! PROOFS. The clock under module resets, the sluice and the power-on flow (R606, R660 to R674). -/

namespace Sys2Proof.Machine

@[simp] theorem clock_setStart {s : State} {x} : (s.setStart x).clock = s.clock := by simp [State.setStart]

@[simp] theorem clock_setEnergy {s : State} {x} : (s.setEnergy x).clock = s.clock := by simp [State.setEnergy]

@[simp] theorem clock_endSessions {s : State} : s.endSessions.clock = s.clock := by simp [State.endSessions]

@[simp] theorem clock_applyPending {s : State} : s.applyPending.clock = s.clock := by
  unfold State.applyPending
  extract_lets t
  have ht : t.clock = s.clock := clock_foldl fun _ _ => by
    dsimp only
    (repeat' split) <;> simp
  split <;> simp [ht]

@[simp] theorem clock_raisePowerOn {s : State} {kind} : (s.raisePowerOn kind).clock = s.clock := by
  simp [State.raisePowerOn]

@[simp] theorem clock_noteReset {s : State} {kind cause} : (s.noteReset kind cause).clock = s.clock := by
  simp [State.noteReset]

@[simp] theorem clock_reach {s : State} {l} : (s.reach l).clock = s.clock := by simp [State.reach]

@[simp] theorem clock_resetCores {s : State} : s.resetCores.clock = s.clock := by
  unfold State.resetCores
  extract_lets t u
  have ht : t.clock = s.clock := clock_foldl fun _ _ => by split <;> simp
  have hu : u.clock = t.clock := clock_foldl fun _ _ => by split <;> simp
  simp [hu, ht]

@[simp] theorem clock_restartPtp {s : State} : s.restartPtp.clock = s.clock := by simp [State.restartPtp]

@[simp] theorem clock_beginWarm {s : State} {kind cause} : (s.beginWarm kind cause).clock = s.clock := by
  simp [State.beginWarm]

@[simp] theorem execWarmResetDone_keeps {s} : (execWarmResetDone s).Keeps s := by
  unfold execWarmResetDone warmResetDone
  split <;> simp

@[simp] theorem execWrstN_keeps {s} : (execWrstN s).Keeps s := by simp [execWrstN, wrst]

@[simp] theorem moduleResetWarm_keeps {who s} : (moduleResetWarm who s).Keeps s := by simp [moduleResetWarm]

@[simp] theorem execModuleResetWarm_keeps {who s} : (execModuleResetWarm who s).Keeps s := by
  simp [execModuleResetWarm]

/-- A power-on reset restarts the counter and leaves the queue (R661; log entry 1). -/
theorem clock_powerOnReset {s : State} {cause} : (s.powerOnReset cause).clock = (s.pending, 0) := by
  simp [State.powerOnReset, State.reset]

@[simp] theorem clockKept_powerOnReset {s : State} {cause} : ClockKept s.clock (s.powerOnReset cause).clock := by
  rw [clock_powerOnReset]
  exact ⟨rfl, .inr rfl⟩

@[simp] theorem execPowerOnReset_keeps {supply s} : (execPowerOnReset supply s).Keeps s := by
  simp [execPowerOnReset]

@[simp] theorem recoveryRestart_keeps {who value s} : (recoveryRestart who value s).KeepsOrResets s := by
  simp [recoveryRestart]

@[simp] theorem execRecoveryRestart_keeps {who value s} : (execRecoveryRestart who value s).Keeps s := by
  simp [execRecoveryRestart, clockKept_answer]

@[simp] theorem moduleResetPowerOn_keeps {who s} : (moduleResetPowerOn who s).KeepsOrResets s := by
  simp [moduleResetPowerOn]

@[simp] theorem execModuleResetPowerOn_keeps {who s} : (execModuleResetPowerOn who s).Keeps s := by
  simp [execModuleResetPowerOn, clockKept_answer]

@[simp] theorem moduleResetForced_keeps {who s} : (moduleResetForced who s).KeepsOrResets s := by
  simp [moduleResetForced]

@[simp] theorem execModuleResetForced_keeps {who s} : (execModuleResetForced who s).Keeps s := by
  simp [execModuleResetForced, clockKept_answer]

@[simp] theorem clock_repairEpoch {s : State} : s.repairEpoch.clock = s.clock := by simp [State.repairEpoch]

@[simp] theorem clock_shoreUp {s : State} : s.shoreUp.clock = s.clock := by simp [State.shoreUp]

@[simp] theorem clockKept_powerOnResetEnd {roleB bad s} : ClockKept s.clock (powerOnResetEnd roleB bad s).clock := by
  unfold powerOnResetEnd
  split
  · exact ClockKept.refl
  · have hzero : ClockKept s.clock (s.pending, 0) := ⟨rfl, .inr rfl⟩
    simpa using hzero

@[simp] theorem execPowerOnResetEnd_keeps {roleB bad s} : (execPowerOnResetEnd roleB bad s).Keeps s := by
  simp [execPowerOnResetEnd]

@[simp] theorem clock_startImage {s : State} {d} : (s.startImage d).clock = s.clock := by simp [State.startImage]

@[simp] theorem clock_tryImage {s : State} {d} : (s.tryImage d).1.clock = s.clock := by
  fun_cases State.tryImage s d <;> simp +zetaDelta

@[simp] theorem clock_noteFlash {s : State} : s.noteFlash.clock = s.clock := by simp [State.noteFlash]

@[simp] theorem clock_imageBoot {s} : (imageBoot s).clock = s.clock := by
  unfold imageBoot
  split
  · rfl
  · extract_lets t u
    have hu : u.clock = s.clock := by simp [u, t]
    split
    · split
      · next h => rw [clock_of_fst clock_tryImage h, hu]
      · next ha =>
        have hs := (clock_of_fst clock_tryImage ha).trans hu
        split
        · next hb => rw [clock_of_fst clock_tryImage hb, hs]
        · next hb => simp [clock_of_fst clock_tryImage hb, hs]
    · exact hu

@[simp] theorem execImageBoot_keeps {s} : (execImageBoot s).Keeps s := by simp [execImageBoot]

@[simp] theorem execRailCheckRetry_keeps {outside s} : (execRailCheckRetry outside s).Keeps s := by
  simp [execRailCheckRetry, railCheck]

@[simp] theorem execFastDiesUp_keeps {s} : (execFastDiesUp s).Keeps s := by simp [execFastDiesUp, fastDiesUp]

@[simp] theorem execManagerStarted_keeps {s} : (execManagerStarted s).Keeps s := by
  simp [execManagerStarted, managerStarted]

@[simp] theorem clock_fastDiesOff {s : State} : s.fastDiesOff.clock = s.clock := by simp [State.fastDiesOff]

@[simp] theorem execShoreWake_keeps {s} : (execShoreWake s).Keeps s := by
  unfold execShoreWake shoreWake
  split <;> simp

@[simp] theorem clock_sluice {s : State} {cause} : (s.sluice cause).clock = s.clock := by simp [State.sluice]

@[simp] theorem execSluice_keeps {cause s} : (execSluice cause s).Keeps s := by simp [execSluice, sluiceCause]

@[simp] theorem sluiceCommand_keeps {who value s} : (sluiceCommand who value s).Keeps s := by
  simp [sluiceCommand]

@[simp] theorem execSluiceCommand_keeps {who value s} : (execSluiceCommand who value s).Keeps s := by
  simp [execSluiceCommand]

@[simp] theorem ownerRelease_keeps {who value s} : (ownerRelease who value s).Keeps s := by
  simp [ownerRelease]

@[simp] theorem execOwnerRelease_keeps {who value s} : (execOwnerRelease who value s).Keeps s := by
  simp [execOwnerRelease]

end Sys2Proof.Machine
end

section
/-! PROOFS. The clock under the hamper: hold-up bank, shed levels, sleep and heat (Chapter 18). -/

namespace Sys2Proof.Machine

@[simp] theorem clock_setHamper {s : State} {src bit v} : (s.setHamper src bit v).clock = s.clock := by
  simp [State.setHamper]

@[simp] theorem clock_judgeBudget {s : State} {balance} : (s.judgeBudget balance).clock = s.clock := by
  simp [State.judgeBudget]

@[simp] theorem clock_ledgerTick {s : State} {rails} : (s.ledgerTick rails).clock = s.clock := by
  simp [State.ledgerTick]

@[simp] theorem clock_declareLoss {s : State} : s.declareLoss.clock = s.clock := by simp [State.declareLoss]

@[simp] theorem clock_reportCapacitance {s : State} : s.reportCapacitance.clock = s.clock := by
  unfold State.reportCapacitance
  split <;> simp

@[simp] theorem execHoldupConversion_keeps {code s} : (execHoldupConversion code s).Keeps s := by
  simp [execHoldupConversion, holdupConversion]

@[simp] theorem clock_flushRecorder {s : State} : s.flushRecorder.clock = s.clock := by
  unfold State.flushRecorder
  dsimp only
  (repeat' split) <;> simp

@[simp] theorem clock_holdPorts {s : State} : s.holdPorts.clock = s.clock := by simp [State.holdPorts]

@[simp] theorem clock_releasePorts {s : State} : s.releasePorts.clock = s.clock := by
  simp [State.releasePorts]

@[simp] theorem clock_shedActions {s : State} {l} : (s.shedActions l).clock = s.clock := by
  unfold State.shedActions
  split <;> simp

@[simp] theorem clock_enterShed {s : State} {l cause} : (s.enterShed l cause).clock = s.clock := by
  simp [State.enterShed]

@[simp] theorem clock_endShed {s : State} : s.endShed.clock = s.clock := by simp [State.endShed]

@[simp] theorem clock_shedTick {s : State} : s.shedTick.clock = s.clock := by
  fun_cases State.shedTick s <;> simp

@[simp] theorem clock_judgeReturn {s : State} : s.judgeReturn.clock = s.clock := by
  unfold State.judgeReturn
  split <;> simp

@[simp] theorem clock_judgeMargin {s : State} : s.judgeMargin.clock = s.clock := by simp [State.judgeMargin]

@[simp] theorem clock_drainTick {s : State} : s.drainTick.clock = s.clock := by
  unfold State.drainTick
  split <;> simp

@[simp] theorem execHamperTick_keeps {rails s} : (execHamperTick rails s).Keeps s := by
  simp [execHamperTick, hamperTick]

@[simp] theorem clock_emptyCore {s : State} {core} : (s.emptyCore core).clock = s.clock := by
  unfold State.emptyCore
  exact clock_foldl fun _ _ => by (repeat' split) <;> simp

@[simp] theorem execShedCoreGate_keeps {s} : (execShedCoreGate s).Keeps s := by
  unfold execShedCoreGate shedCoreGate
  split <;> simp

@[simp] theorem clock_powerFail {v s} : (powerFail v s).clock = s.clock := by simp [powerFail]

@[simp] theorem execPowerFail_keeps {value s} : (execPowerFail value s).Keeps s := by simp [execPowerFail]

@[simp] theorem holdupCalibrate_keeps {who kind s} : (holdupCalibrate who kind s).Keeps s := by
  simp [holdupCalibrate]

@[simp] theorem execHoldupCalibrateZero_keeps {who s} : (execHoldupCalibrateZero who s).Keeps s := by
  simp [execHoldupCalibrateZero]

@[simp] theorem execHoldupCalibrateSpan_keeps {who s} : (execHoldupCalibrateSpan who s).Keeps s := by
  simp [execHoldupCalibrateSpan]

@[simp] theorem execHoldupCalibrationDone_keeps {s} : (execHoldupCalibrationDone s).Keeps s := by
  unfold execHoldupCalibrationDone holdupCalibrationDone
  dsimp only
  (repeat' split) <;> simp

@[simp] theorem moduleSleepEnter_keeps {who s} : (moduleSleepEnter who s).Keeps s := by
  simp [moduleSleepEnter]

@[simp] theorem execModuleSleepEnter_keeps {who s} : (execModuleSleepEnter who s).Keeps s := by
  simp [execModuleSleepEnter]

@[simp] theorem clock_wantWake {s : State} : s.wantWake.clock = s.clock := by simp [State.wantWake]

@[simp] theorem moduleSleepLeave_keeps {who s} : (moduleSleepLeave who s).Keeps s := by
  simp [moduleSleepLeave]

@[simp] theorem execModuleSleepLeave_keeps {who s} : (execModuleSleepLeave who s).Keeps s := by
  simp [execModuleSleepLeave]

@[simp] theorem clock_wake {v s} : (wake v s).clock = s.clock := by simp [wake]

@[simp] theorem execWake_keeps {value s} : (execWake value s).Keeps s := by simp [execWake]

@[simp] theorem execUnitSleepEntry_keeps {unit n s} : (execUnitSleepEntry unit n s).Keeps s := by
  unfold execUnitSleepEntry unitSleepEntry
  split <;> simp

@[simp] theorem execPreFreezeWake_keeps {inst s} : (execPreFreezeWake inst s).Keeps s := by
  simp [execPreFreezeWake, preFreezeWake]

@[simp] theorem clock_setThermal {s : State} {st} : (s.setThermal st).clock = s.clock := by
  simp [State.setThermal]

@[simp] theorem clock_judgeHeat {s : State} : s.judgeHeat.clock = s.clock := by
  unfold State.judgeHeat
  split <;> simp

@[simp] theorem clock_thermalSample {temps s} : (thermalSample temps s).clock = s.clock := by
  unfold thermalSample
  extract_lets t u v
  have ht : t.clock = s.clock := clock_foldl fun _ _ => by split <;> simp
  simp [v, u, ht]

@[simp] theorem execThermalSample_keeps {temps s} : (execThermalSample temps s).Keeps s := by
  simp [execThermalSample]

@[simp] theorem execThrottleStep_keeps {s} : (execThrottleStep s).Keeps s := by
  simp [execThrottleStep, throttleStep]

@[simp] theorem execThermalDownshiftStep_keeps {s} : (execThermalDownshiftStep s).Keeps s := by
  unfold execThermalDownshiftStep thermalDownshift
  dsimp only
  (repeat' split) <;> simp

@[simp] theorem execThermalTrip_keeps {s} : (execThermalTrip s).Keeps s := by
  simp [execThermalTrip, thermalTrip]

@[simp] theorem execThermalTripShore_keeps {s} : (execThermalTripShore s).Keeps s := by
  unfold execThermalTripShore thermalTripShore
  split <;> simp

end Sys2Proof.Machine
end

section
/-! PROOFS. The clock under the board interfaces (Chapter 20). -/

namespace Sys2Proof.Machine

@[simp] theorem clock_setBoard {s : State} {x} : (s.setBoard x).clock = s.clock := by simp [State.setBoard]

@[simp] theorem clock_setMgmtLink {s : State} {st} : (s.setMgmtLink st).clock = s.clock := by
  simp [State.setMgmtLink]

@[simp] theorem execMgmtLinkChange_keeps {state s} : (execMgmtLinkChange state s).Keeps s := by
  simp [execMgmtLinkChange, mgmtLinkChange]

@[simp] theorem clock_setPcie {s : State} {width rate} : (s.setPcie width rate).clock = s.clock := by
  simp [State.setPcie]

@[simp] theorem execPcieLinkChange_keeps {width rate s} : (execPcieLinkChange width rate s).Keeps s := by
  simp [execPcieLinkChange, pcieLinkChange]

@[simp] theorem execSrefCheck_keeps {edges ppm s} : (execSrefCheck edges ppm s).Keeps s := by
  simp [execSrefCheck, srefCheck]

@[simp] theorem execPePerstN_keeps {asserted s} : (execPePerstN asserted s).Keeps s := by
  simp [execPePerstN, pePerst]

@[simp] theorem bootFlashBlock_keeps {who b v s} : (bootFlashBlock who b v s).Keeps s := by
  simp only [bootFlashBlock, keeps_bind, keeps_ok]
  intros
  rw [clock_setBoard, clock_setImageStatus, clock_writeFlash]

@[simp] theorem execBootFlashBlock_keeps {who b value s} : (execBootFlashBlock who b value s).Keeps s := by
  simp [execBootFlashBlock]

@[simp] theorem clock_setLastCode {s : State} {d c} : (s.setLastCode d c).clock = s.clock := by
  simp [State.setLastCode]

@[simp] theorem execBootFlashBlockDone_keeps {ok s} : (execBootFlashBlockDone ok s).Keeps s := by
  unfold execBootFlashBlockDone bootFlashBlockDone
  split <;> simp

@[simp] theorem bootFlashVerify_keeps {who value s} : (bootFlashVerify who value s).Keeps s := by
  simp [bootFlashVerify]

@[simp] theorem execBootFlashVerify_keeps {who value s} : (execBootFlashVerify who value s).Keeps s := by
  simp [execBootFlashVerify]

@[simp] theorem execBootFlashVerifyDone_keeps {s} : (execBootFlashVerifyDone s).Keeps s := by
  unfold execBootFlashVerifyDone bootFlashVerifyDone
  split <;> simp

@[simp] theorem clock_mb0Write {s : State} {p v} : (s.mb0Write p v).clock = s.clock := by simp [State.mb0Write]

theorem clock_mb0Fold {data : Bytes} {s : State} {p : Nat} :
    (data.foldl (fun (x : State × Nat) o => (x.1.mb0Write x.2 o.toNat, (x.2 + 1) % 256)) (s, p)).1.clock = s.clock := by
  induction data generalizing s p with
  | nil => rfl
  | cons o r ih => rw [List.foldl_cons, ih, clock_mb0Write]

@[simp] theorem clock_mb0TargetWrite {p data s} : (mb0TargetWrite p data s).clock = s.clock := by
  unfold mb0TargetWrite
  split
  · rfl
  · simp [clock_mb0Fold]

@[simp] theorem execMb0TargetWrite_keeps {pointer data s} : (execMb0TargetWrite pointer data s).Keeps s := by
  simp [execMb0TargetWrite]

@[simp] theorem clock_mb1RecordReceive {p data s} : (mb1RecordReceive p data s).clock = s.clock := by
  simp [mb1RecordReceive]

@[simp] theorem execMb1RecordReceive_keeps {pointer data s} : (execMb1RecordReceive pointer data s).Keeps s := by
  simp [execMb1RecordReceive]

@[simp] theorem clock_setBusWaiting {s : State} {bus l} : (s.setBusWaiting bus l).clock = s.clock := by
  simp [State.setBusWaiting]

@[simp] theorem clock_setBusLost {s : State} {bus v} : (s.setBusLost bus v).clock = s.clock := by
  simp [State.setBusLost]

@[simp] theorem clock_mbFail {s : State} {bus m} : (s.mbFail bus m).clock = s.clock := by simp [State.mbFail]

@[simp] theorem clock_mbAttempt {s : State} {bus m ack} : (s.mbAttempt bus m ack).clock = s.clock := by
  simp [State.mbAttempt]

@[simp] theorem clock_boardStarted {s : State} : s.boardStarted.clock = s.clock := by
  simp [State.boardStarted]

@[simp] theorem execBoardControllerWrite_keeps {ack s} : (execBoardControllerWrite ack s).Keeps s := by
  unfold execBoardControllerWrite boardControllerWrite
  split <;> simp

@[simp] theorem clock_recordStarted {s : State} {monitor} : (s.recordStarted monitor).clock = s.clock := by
  simp [State.recordStarted]

@[simp] theorem execMb1RecordSend_keeps {monitor ack s} : (execMb1RecordSend monitor ack s).Keeps s := by
  unfold execMb1RecordSend mb1RecordSend
  split <;> simp

@[simp] theorem execMbRetry_keeps {bus ack s} : (execMbRetry bus ack s).Keeps s := by
  unfold execMbRetry mbRetry
  split <;> simp

@[simp] theorem clock_arbitrationLost {bus monitor asTarget s} :
    (arbitrationLost bus monitor asTarget s).clock = s.clock := by
  unfold arbitrationLost
  extract_lets attempt
  have hattempt : ∀ m t, attempt = some (m, t) → t.clock = s.clock := by
    intro m t h
    unfold attempt at h
    split at h
    · cases h
      rfl
    · split at h <;>
      · obtain ⟨_, _, h⟩ := Option.map_eq_some_iff.mp h
        cases h
        simp
  clear_value attempt
  split
  · rfl
  · dsimp only
    (repeat' split) <;> simp [hattempt _ _ rfl]

@[simp] theorem execArbitrationLost_keeps {bus monitor asTarget s} :
    (execArbitrationLost bus monitor asTarget s).Keeps s := by
  simp [execArbitrationLost]

@[simp] theorem execMbBusRecovery_keeps {bus a1 s} : (execMbBusRecovery bus a1 s).Keeps s := by
  simp [execMbBusRecovery, busRecovery]

end Sys2Proof.Machine
end

section
/-! PROOFS. The clock under the receive path of a port (R169 to R172, R195). -/

namespace Sys2Proof.Machine

@[simp] theorem clock_takeLinkControl {s : State} {n h o} : (s.takeLinkControl n h o).clock = s.clock := by
  unfold State.takeLinkControl
  split <;> simp

@[simp] theorem clock_takePairFrame {s : State} {n h o} : (s.takePairFrame n h o).clock = s.clock := by
  unfold State.takePairFrame
  split <;> simp

@[simp] theorem clock_takeFlowSetup {s : State} {n h o} : (s.takeFlowSetup n h o).clock = s.clock := by
  unfold State.takeFlowSetup
  split <;> simp

@[simp] theorem clock_takeBroadcast {s : State} {n kind head o} : (s.takeBroadcast n kind head o).clock = s.clock := by
  simp [State.takeBroadcast]

@[simp] theorem clock_takeXosyn {s : State} {n o} : (s.takeXosyn n o).clock = s.clock := by
  fun_cases State.takeXosyn s n o <;> simp

@[simp] theorem clock_countGood {s : State} {n o f} : (s.countGood n o f).clock = s.clock := by
  simp [State.countGood]

@[simp] theorem clock_switched {s : State} {n o bad} : (s.switched n o bad).clock = s.clock := by
  simp [State.switched]

@[simp] theorem clock_receiveGood {s : State} {n o} : (s.receiveGood n o).clock = s.clock := by
  simp [State.receiveGood]

@[simp] theorem clock_receiveOversize {s : State} {n o} : (s.receiveOversize n o).clock = s.clock := by
  simp [State.receiveOversize]

@[simp] theorem execFrameReceive_keeps {n octets s} : (execFrameReceive n octets s).Keeps s := by
  simp [execFrameReceive, frameReceive]

end Sys2Proof.Machine
end

section
/-! PROOFS. The clock under ponds and in-package links (Chapter 1). -/

namespace Sys2Proof.Machine

@[simp] theorem execLinkGroupDegraded_keeps {group link s} : (execLinkGroupDegraded group link s).Keeps s := by
  simp [execLinkGroupDegraded, linkGroupDegraded]

@[simp] theorem clock_stopProcessor {s : State} {p} : (s.stopProcessor p).clock = s.clock := by
  simp [State.stopProcessor]

@[simp] theorem execLinkGroupFailed_keeps {group s} : (execLinkGroupFailed group s).Keeps s := by
  unfold execLinkGroupFailed linkGroupFailed
  split <;> simp

@[simp] theorem pondCreate_keeps {who pond v s} : (pondCreate who pond v s).Keeps s := by simp [pondCreate]

@[simp] theorem execPondCreateChild_keeps {who pond value s} : (execPondCreateChild who pond value s).Keeps s := by
  simp [execPondCreateChild]

@[simp] theorem pondDelete_keeps {who pond v s} : (pondDelete who pond v s).Keeps s := by simp [pondDelete]

@[simp] theorem execPondDelete_keeps {who pond value s} : (execPondDelete who pond value s).Keeps s := by
  simp [execPondDelete]

@[simp] theorem clock_moveItem {s : State} {kind dest n} : (s.moveItem kind dest n).clock = s.clock := by
  simp [State.moveItem]

@[simp] theorem pondMove_keeps {who src v s} : (pondMove who src v s).Keeps s := by simp [pondMove]

@[simp] theorem execPondMove_keeps {who pond value s} : (execPondMove who pond value s).Keeps s := by
  simp [execPondMove]

@[simp] theorem clock_applyShare {s : State} {p v} : (s.applyShare p v).clock = s.clock := by
  simp [State.applyShare]

@[simp] theorem execPondEnergyShareWrite_keeps {who pond value s} :
    (execPondEnergyShareWrite who pond value s).Keeps s := by
  simp [execPondEnergyShareWrite, shareWrite]

@[simp] theorem execPondReportSend_keeps {s} : (execPondReportSend s).Keeps s := by
  simp [execPondReportSend, pondReportSend]

end Sys2Proof.Machine
end

section
/-! PROOFS. The clock under commands that run through several chapters. -/

namespace Sys2Proof.Machine

@[simp] theorem execHorizonClose_keeps {e s} : (execHorizonClose e s).Keeps s := by simp [execHorizonClose]

@[simp] theorem execIntakeFrame_keeps {s} : (execIntakeFrame s).Keeps s := by
  unfold execIntakeFrame intakeFrame
  dsimp only
  (repeat' split) <;> simp

@[simp] theorem execFilterOutput_keeps {c s} : (execFilterOutput c s).Keeps s := by
  simp [execFilterOutput, filterOutput]

@[simp] theorem execPhasorOutput_keeps {p s} : (execPhasorOutput p s).Keeps s := by simp [execPhasorOutput]

@[simp] theorem clock_bindingsChanged {s : State} : s.bindingsChanged.clock = s.clock := by
  simp [State.bindingsChanged]

@[simp] theorem execIntakeEnable_keeps {who e value s} : (execIntakeEnable who e value s).Keeps s := by
  simp [execIntakeEnable, intakeEnable]

@[simp] theorem execStreamAdmit_keeps {who e value s} : (execStreamAdmit who e value s).Keeps s := by
  simp [execStreamAdmit]

@[simp] theorem execStreamWithdraw_keeps {who e value s} : (execStreamWithdraw who e value s).Keeps s := by
  simp [execStreamWithdraw]

@[simp] theorem execFilterInput_keeps {who c value s} : (execFilterInput who c value s).Keeps s := by
  simp [execFilterInput, filterInput]

@[simp] theorem execFilterEnable_keeps {who c value s} : (execFilterEnable who c value s).Keeps s := by
  simp [execFilterEnable, filterEnable]

@[simp] theorem execPhasorEnable_keeps {who p value s} : (execPhasorEnable who p value s).Keeps s := by
  simp [execPhasorEnable, phasorEnable]

@[simp] theorem execTrackerEnable_keeps {who t value s} : (execTrackerEnable who t value s).Keeps s := by
  simp [execTrackerEnable, trackerEnable]

@[simp] theorem execChainEccError_keeps {corrected fir n s} : (execChainEccError corrected fir n s).Keeps s := by
  simp [execChainEccError, chainEccError]

@[simp] theorem clock_enableDomain {s : State} {d value} : (s.enableDomain d value).clock = s.clock := by
  simp [State.enableDomain]

@[simp] theorem execDomainEnable_keeps {who d value s} : (execDomainEnable who d value s).Keeps s := by
  simp [execDomainEnable, domainEnable]

@[simp] theorem execStepApply_keeps {d s} : (execStepApply d s).Keeps s := by
  unfold execStepApply stepAll
  split <;> simp

@[simp] theorem execShoreRefLost_keeps {s} : (execShoreRefLost s).Keeps s := by
  simp [execShoreRefLost, refLost]

end Sys2Proof.Machine
end

section
/-! PROOFS. The clock under reads of objects. -/

namespace Sys2Proof.Machine

@[simp] theorem clock_readRecord {s : State} {k} : (s.readRecord k).1.clock = s.clock := by
  fun_cases State.readRecord s k <;> simp +zetaDelta

@[simp] theorem clock_serveRead {s : State} {who id sel active} :
    (s.serveRead who id sel active).1.clock = s.clock := by
  unfold State.serveRead
  split
  · split
    · next h => exact clock_of_fst clock_evidence h
    · next h => exact clock_of_fst clock_evidence h
  · split
    · split
      · next h => exact clock_of_fst clock_evidence h
      · next h => exact clock_of_fst clock_evidence h
    · split
      · split
        next h => exact clock_of_fst clock_readRecord h
      · split
        · simp
        · split <;> simp

@[simp] theorem clock_readObject {s : State} {who id present sel typ active} :
    (s.readObject who id present sel typ active).1.clock = s.clock := by
  unfold State.readObject
  split
  · rfl
  · split
    · next h => exact clock_of_fst clock_serveRead h
    · next h => exact clock_of_fst clock_serveRead h

end Sys2Proof.Machine
end

section
/-! PROOFS. The clock under the saved configuration (R83, R84, R670). -/

namespace Sys2Proof.Machine

@[simp] theorem clock_setDict {s : State} {x} : (s.setDict x).clock = s.clock := by simp [State.setDict]

@[simp] theorem clock_setCopy {s : State} {d c} : (s.setCopy d c).clock = s.clock := by simp [State.setCopy]

@[simp] theorem configSave_keeps {who value s} : (configSave who value s).Keeps s := by simp [configSave]

@[simp] theorem execConfigSave_keeps {who value s} : (execConfigSave who value s).Keeps s := by
  simp [execConfigSave]

@[simp] theorem execConfigSaveDone_keeps {ok s} : (execConfigSaveDone ok s).Keeps s := by
  unfold execConfigSaveDone configSaveDone
  split <;> simp

@[simp] theorem configRestoreDefaults_keeps {who value s} : (configRestoreDefaults who value s).Keeps s := by
  simp [configRestoreDefaults]

@[simp] theorem execConfigRestoreDefaults_keeps {who value s} : (execConfigRestoreDefaults who value s).Keeps s := by
  simp [execConfigRestoreDefaults]

end Sys2Proof.Machine
end

section
/-! PROOFS. The clock under the checks of a written value and the block it controls (R77, R78). -/

namespace Sys2Proof.Machine

@[simp] theorem clock_applyLow {s : State} {id v} : (s.applyLow id v).clock = s.clock := by simp [State.applyLow]

@[simp] theorem clock_applyStreamConfig {s : State} {id e v} : (s.applyStreamConfig id e v).clock = s.clock := by
  simp [State.applyStreamConfig]

@[simp] theorem clock_applyMid {s : State} {id v} : (s.applyMid id v).clock = s.clock := by simp [State.applyMid]

@[simp] theorem clock_applyHigh {s : State} {id sel v} : (s.applyHigh id sel v).clock = s.clock := by
  simp [State.applyHigh]

@[simp] theorem clock_applyChapter {s : State} {id sel v} : (s.applyChapter id sel v).clock = s.clock := by
  unfold State.applyChapter
  split <;> simp

end Sys2Proof.Machine
end

section
/-! PROOFS. The clock under writes of objects and the actions that they start (R67 to R72, R104). -/

namespace Sys2Proof.Machine

theorem clockKept_after {s : State} {a : Act} (h : a.KeepsOrResets s) : ClockKept s.clock (s.after a).1.clock := by
  cases a with
  | error c => exact ClockKept.refl
  | ok t => exact h t rfl

@[simp] theorem refuseAction_keeps {s : State} {who id sel present v} :
    (s.refuseAction who id sel present v).Keeps s := by
  simp [State.refuseAction]

/-- The action that an object's write starts, if it starts one, keeps the clock of `s`. -/
def StartedKeeps (s : State) (o : Option Act) : Prop := ∀ a, o = some a → a.KeepsOrResets s

@[simp] theorem started_none {s : State} : StartedKeeps s none := by simp [StartedKeeps]

@[simp] theorem started_some {s : State} {a : Act} : StartedKeeps s (some a) ↔ a.KeepsOrResets s := by
  simp [StartedKeeps]

theorem startedKeeps_ite {c : Prop} [Decidable c] {s : State} {o p : Option Act} (ho : StartedKeeps s o)
    (hp : StartedKeeps s p) : StartedKeeps s (if c then o else p) := by
  split <;> assumption

theorem actionLow_keeps {s : State} {who : Caller} {id : Nat} {v : OVal} : StartedKeeps s (s.actionLow who id v) := by
  unfold State.actionLow
  dsimp only
  repeat' apply startedKeeps_ite
  all_goals (repeat' split) <;> simp

theorem actionMid_keeps {s : State} {who : Caller} {id sel : Nat} {v : OVal} :
    StartedKeeps s (s.actionMid who id sel v) := by
  unfold State.actionMid
  dsimp only
  repeat' apply startedKeeps_ite
  all_goals (repeat' split) <;> simp

theorem actionHigh_keeps {s : State} {who : Caller} {id : Nat} {v : OVal} : StartedKeeps s (s.actionHigh who id v) := by
  unfold State.actionHigh
  dsimp only
  repeat' apply startedKeeps_ite
  all_goals (repeat' split) <;> simp

theorem clockKept_of_action {s : State} {who : Caller} {id sel : Nat} {v : OVal} {p : State × Nat}
    (h : s.action who id sel v = some p) : ClockKept s.clock p.1.clock := by
  unfold State.action at h
  split at h
  · cases h
    simp
  · obtain ⟨a, ha, rfl⟩ := Option.map_eq_some_iff.mp h
    apply clockKept_after
    split at ha
    case h_6 | h_7 | h_8 => exact actionHigh_keeps a ha
    case h_9 => exact actionLow_keeps a ha
    all_goals exact actionMid_keeps a ha

@[simp] theorem clockKept_putValue {s : State} {who r id sel v} :
    ClockKept s.clock (s.putValue who r id sel v).1.clock := by
  unfold State.putValue
  split
  · next h => exact clockKept_of_action h
  · split
    · dsimp only
      split <;> simp
    · exact clockKept_after (by simp)

@[simp] theorem clockKept_writeObject {s : State} {who id present sel typ b} :
    ClockKept s.clock (s.writeObject who id present sel typ b).1.clock := by
  unfold State.writeObject
  (repeat' split) <;> simp

@[simp] theorem stageObject_keeps {s : State} {who k id present sel typ b} :
    (s.stageObject who k id present sel typ b).Keeps s := by
  simp only [State.stageObject, keeps_bind]
  intros
  split <;> simp

@[simp] theorem clockKept_putObject {s : State} {who k id present sel typ b} :
    ClockKept s.clock (s.putObject who k id present sel typ b).1.clock := by
  unfold State.putObject
  split
  · split
    · exact clockKept_after (by simp)
    · simp
  · simp

@[simp] theorem clockKept_commitEntry {s : State} {who e base} :
    ClockKept s.clock (s.commitEntry who e base).1.clock := by
  unfold State.commitEntry
  dsimp only
  (repeat' split) <;> simp

/-- A set that is applied keeps the clock of the state that it starts from. -/
theorem clockKept_of_commitRun_ok {s t base : State} {who : Caller} {n : Nat} {l : List StageEnt}
    {bs cs : List (Nat × Block)} (h : s.commitRun who base n l bs = .ok (t, cs)) : ClockKept s.clock t.clock := by
  induction l generalizing s n bs with
  | nil =>
    cases h
    exact ClockKept.refl
  | cons e l ih =>
    unfold State.commitRun at h
    split at h
    · next hentry =>
      have hfirst := clockKept_commitEntry (s := s) (who := who) (e := e) (base := base)
      rw [hentry] at hfirst
      exact hfirst.trans (ih h)
    · cases h

/-- A set that is refused leaves the state that it was to be applied to, but for an event. -/
theorem clock_of_commitRun_error {s t base : State} {who : Caller} {n m c : Nat} {l : List StageEnt}
    {bs : List (Nat × Block)} (h : s.commitRun who base n l bs = .error (m, c, t)) : t.clock = base.clock := by
  induction l generalizing s n bs with
  | nil => cases h
  | cons e l ih =>
    unfold State.commitRun at h
    split at h
    · exact ih h
    · cases h
      simp

theorem clockKept_of_commitSet_done {s t : State} {who : Caller} {l : List StageEnt}
    (h : s.commitSet who l = .done t) : ClockKept s.clock t.clock := by
  unfold State.commitSet at h
  split at h
  · cases h
  · next hrun =>
    dsimp only at h
    (repeat' split at h) <;> cases h
    exact clockKept_of_commitRun_ok hrun

theorem clock_of_commitSet_failed {s t : State} {who : Caller} {l : List StageEnt} {n c : Nat}
    (h : s.commitSet who l = .failed n c t) : t.clock = s.clock := by
  unfold State.commitSet at h
  split at h
  · next hrun =>
    cases h
    exact clock_of_commitRun_error hrun
  · dsimp only at h
    (repeat' split at h) <;> cases h
    rfl

@[simp] theorem clock_startQuiesce {s : State} {l} : (s.startQuiesce l).clock = s.clock := by
  simp [State.startQuiesce]

@[simp] theorem clock_resumeBlocks {s : State} {l} : (s.resumeBlocks l).clock = s.clock := by
  simp [State.resumeBlocks]

end Sys2Proof.Machine
end

section
/-! PROOFS. The clock under Balmuene and the object windows (R65 to R80, R90 to R102, R712). -/

namespace Sys2Proof.Machine

@[simp] theorem clock_setWindow {s : State} {k x} : (s.setWindow k x).clock = s.clock := by simp [State.setWindow]

@[simp] theorem clock_openWindow {s : State} {k} : (s.openWindow k).clock = s.clock := by
  fun_cases State.openWindow s k <;> simp

@[simp] theorem clock_sendReply {s : State} {addr port k r} : (s.sendReply addr port k r).clock = s.clock := by
  simp [State.sendReply]

@[simp] theorem clock_conclude {s : State} {k r dests} : (s.conclude k r dests).clock = s.clock := by
  unfold State.conclude
  (repeat' split) <;> simp

@[simp] theorem clock_dropDatagram {s : State} : s.dropDatagram.clock = s.clock := by
  simp [State.dropDatagram]

@[simp] theorem clock_duplicate {s : State} {h x} : (s.duplicate h x).clock = s.clock := by
  fun_cases State.duplicate s h x <;> simp +zetaDelta

/-- An operation of a session keeps the clock of the state it starts from. -/
def Run.Keeps (run : Run) : Prop := ∀ s who, ClockKept s.clock (run s who).1.clock

theorem clockKept_of_run {run : Run} (h : run.Keeps) {s t : State} {who : Caller} {r : Option (Nat × ReplyBody)}
    (hrun : run s who = (t, r)) : ClockKept s.clock t.clock := by
  have hkeeps := h s who
  rwa [hrun] at hkeeps

theorem clockKept_balmuene {s : State} {h : Header} {op : Nat} {whole : Bool} {run : Run} (hrun : run.Keeps) :
    ClockKept s.clock (s.balmuene h op whole run).clock := by
  fun_cases State.balmuene s h op whole run
  case case6 hr | case7 hr => simpa +zetaDelta using clockKept_of_run hrun hr
  all_goals simp +zetaDelta

theorem clockKept_windowOp {s : State} {k op : Nat} {run : Run} (hrun : run.Keeps) :
    ClockKept s.clock (s.windowOp k op run).clock := by
  fun_cases State.windowOp s k op run
  case case5 hr | case6 hr => simpa +zetaDelta using clockKept_of_run hrun hr
  all_goals simp +zetaDelta

theorem clockKept_runOn {via : Via} {op : Nat} {whole : Bool} {run : Run} {s : State} (hrun : run.Keeps) :
    ClockKept s.clock (runOn via op whole run s).clock := by
  unfold runOn
  split
  · exact clockKept_balmuene hrun
  · exact clockKept_windowOp hrun

@[simp] theorem clock_getItems {s : State} {who window active room l acc} :
    (s.getItems who window active room l acc).1.clock = s.clock := by
  induction l generalizing s room acc with
  | nil => rfl
  | cons i l ih =>
    unfold State.getItems
    split
    · next h => rw [ih, clock_of_fst clock_readObject h]
    · next h =>
      dsimp only
      split <;> rw [ih, clock_of_fst clock_readObject h]

theorem clockKept_writeItems {s : State} {f : State → Item → State × Nat}
    (hf : ∀ t i, ClockKept t.clock (f t i).1.clock) {l : List Item} {acc : List ReplyItem} :
    ClockKept s.clock (s.writeItems f l acc).1.clock := by
  induction l generalizing s acc with
  | nil => exact ClockKept.refl
  | cons i l ih => exact (hf s i).trans ih

theorem itemsRun_keeps {via : Via} {l : List Item} {f : State → Caller → State × List ReplyItem}
    (hf : ∀ s who, ClockKept s.clock (f s who).1.clock) : (itemsRun via l f).Keeps := by
  intro s who
  unfold itemsRun
  split
  · exact hf s who
  · exact ClockKept.refl

@[simp] theorem execGet_keeps {via active items s} : (execGet via active items s).Keeps s :=
  keeps_next.mpr (clockKept_runOn (itemsRun_keeps fun _ _ => by simp))

@[simp] theorem execPut_keeps {via items s} : (execPut via items s).Keeps s :=
  keeps_next.mpr (clockKept_runOn (itemsRun_keeps fun _ _ => clockKept_writeItems fun _ _ => by simp))

@[simp] theorem execStage_keeps {via items s} : (execStage via items s).Keeps s :=
  keeps_next.mpr (clockKept_runOn (itemsRun_keeps fun _ _ => clockKept_writeItems fun _ _ => clockKept_after (by simp)))

@[simp] theorem clock_clearStage {s : State} {k} : (s.clearStage k).clock = s.clock := by
  unfold State.clearStage
  split <;> simp

@[simp] theorem clock_waitCommit {s : State} {k timed l blocks} : (s.waitCommit k timed l blocks).clock = s.clock := by
  simp [State.waitCommit]

theorem commitRunNow_keeps : Run.Keeps commitRunNow := by
  intro s who
  unfold commitRunNow
  split
  · exact ClockKept.refl
  · split
    · next h => simpa using clockKept_of_commitSet_done h
    · next h => simp [clock_of_commitSet_failed h]
    · simp

@[simp] theorem execCommit_keeps {via s} : (execCommit via s).Keeps s :=
  keeps_next.mpr (clockKept_runOn commitRunNow_keeps)

theorem commitRunAt_keeps {d time : Nat} : Run.Keeps (commitRunAt d time) := by
  intro s who
  unfold commitRunAt
  split
  · exact ClockKept.refl
  · split
    · exact ClockKept.refl
    · split
      · next h => simp [clock_of_commitRun_error h]
      · simp

@[simp] theorem execCommitAt_keeps {via dom time s} : (execCommitAt via dom time s).Keeps s :=
  keeps_next.mpr (clockKept_runOn commitRunAt_keeps)

@[simp] theorem execDiscard_keeps {via s} : (execDiscard via s).Keeps s := by
  refine keeps_next.mpr (clockKept_runOn fun s who => ?_)
  dsimp only
  split <;> simp

@[simp] theorem clock_failTimed {s : State} {k entry code} : (s.failTimed k entry code).clock = s.clock := by
  simp [State.failTimed]

@[simp] theorem clock_commitEnds {s : State} {j entry code} : (s.commitEnds j entry code).clock = s.clock := by
  simp [State.commitEnds]

@[simp] theorem clock_dropJob {s : State} {j} : (s.dropJob j).clock = s.clock := by simp [State.dropJob]

@[simp] theorem clockKept_quiesceComplete {k s} : ClockKept s.clock (quiesceComplete k s).clock := by
  unfold quiesceComplete
  split
  · dsimp only
    split
    · next h => simp [clock_of_commitRun_error h]
    · next h =>
      have hdone := clockKept_of_commitRun_ok h
      split
      · simp
      · simpa using hdone
  · exact ClockKept.refl

@[simp] theorem execQuiesceComplete_keeps {sess s} : (execQuiesceComplete sess s).Keeps s := by
  simp [execQuiesceComplete]

@[simp] theorem execQuiesceTimeout_keeps {sess s} : (execQuiesceTimeout sess s).Keeps s := by
  unfold execQuiesceTimeout quiesceTimeout
  split <;> simp

@[simp] theorem clockKept_timedApply {k s} : ClockKept s.clock (timedApply k s).clock := by
  unfold timedApply
  split
  · exact ClockKept.refl
  · split
    · exact ClockKept.refl
    · split
      · exact ClockKept.refl
      · dsimp only
        split
        · next h => simpa using clockKept_of_commitSet_done h
        · next h => simp [clock_of_commitSet_failed h]
        · simp

@[simp] theorem execTimedCommitApply_keeps {sess s} : (execTimedCommitApply sess s).Keeps s := by
  simp [execTimedCommitApply]

theorem describeRun_keeps {window : Bool} {i : Item} : Run.Keeps (describeRun window i) := by
  intro s who
  unfold describeRun
  split <;> exact ClockKept.refl

@[simp] theorem execDescribe_keeps {via item s} : (execDescribe via item s).Keeps s :=
  keeps_next.mpr (clockKept_runOn describeRun_keeps)

theorem readSegmentRun_keeps {window : Bool} {i : Item} {offset count : Nat} :
    Run.Keeps (readSegmentRun window i offset count) := by
  intro s who
  unfold readSegmentRun
  split
  · next h => simp [clock_of_fst clock_readObject h]
  · next h => simp [clock_of_fst clock_readObject h]

@[simp] theorem execReadSegment_keeps {via item offset count s} : (execReadSegment via item offset count s).Keeps s :=
  keeps_next.mpr (clockKept_runOn readSegmentRun_keeps)

@[simp] theorem clockKept_writeSegment {s : State} {who i offset} :
    ClockKept s.clock (s.writeSegment who i offset).1.clock := by
  fun_cases State.writeSegment s who i offset
  case case5 =>
    refine ClockKept.trans ?_ clockKept_putObject
    simp +zetaDelta
  all_goals simp +zetaDelta

@[simp] theorem execWriteSegment_keeps {via item offset s} : (execWriteSegment via item offset s).Keeps s :=
  keeps_next.mpr (clockKept_runOn fun _ _ => clockKept_writeSegment)

@[simp] theorem clock_openBalmuene {s : State} {h role reserved sel} :
    (s.openBalmuene h role reserved sel).clock = s.clock := by
  fun_cases State.openBalmuene s h role reserved sel <;> simp

@[simp] theorem execOpenSession_keeps {h route role reserved sel s} :
    (execOpenSession h route role reserved sel s).Keeps s := by
  have hrefused : Run.Keeps fun t _ => (t, some (Code.malformed.value, .empty)) := fun _ _ => ClockKept.refl
  simp only [execOpenSession, keeps_next]
  cases route with
  | dtls => simp
  | udp => simp
  | window w => exact clockKept_windowOp hrefused
  | pf => exact clockKept_windowOp hrefused
  | vf n => exact clockKept_windowOp hrefused

@[simp] theorem execClose_keeps {h s} : (execClose h s).Keeps s :=
  keeps_next.mpr (clockKept_balmuene fun _ _ => by simp)

@[simp] theorem execKeepalive_keeps {h s} : (execKeepalive h s).Keeps s :=
  keeps_next.mpr (clockKept_balmuene fun _ _ => ClockKept.refl)

@[simp] theorem execSessionTimeout_keeps {sess s} : (execSessionTimeout sess s).Keeps s := by
  unfold execSessionTimeout sessionTimeout
  split <;> simp

@[simp] theorem execDtlsHandshake_keeps {addr port assoc cookie client ok s} :
    (execDtlsHandshake addr port assoc cookie client ok s).Keeps s := by
  simp [execDtlsHandshake, dtlsHandshake]

@[simp] theorem execDtlsAssociationEnd_keeps {assoc s} : (execDtlsAssociationEnd assoc s).Keeps s := by
  simp [execDtlsAssociationEnd, dtlsEnd]

@[simp] theorem execLocalWindowBinding_keeps {who w value s} : (execLocalWindowBinding who w value s).Keeps s := by
  simp [execLocalWindowBinding, localWindowBinding]

@[simp] theorem execWinControlCollision_keeps {w value s} : (execWinControlCollision w value s).Keeps s := by
  simp [execWinControlCollision, winControlCollision]

@[simp] theorem clock_windowCompletion {k s} : (windowCompletion k s).clock = s.clock := by
  fun_cases windowCompletion k s <;> simp +zetaDelta

@[simp] theorem execWindowCompletion_keeps {w s} : (execWindowCompletion w s).Keeps s := by
  simp [execWindowCompletion]

end Sys2Proof.Machine
end

section
/-! PROOFS. The clock under the scan instruction set (Chapter 11). -/

namespace Sys2Proof.Machine

@[simp] theorem clock_isaRun {i c f s} : (isaRun i c f s).1.clock = s.clock := by
  fun_cases isaRun i c f s <;> simp

@[simp] theorem execEndscan_keeps {inst s} : (execEndscan inst s).Keeps s := by
  unfold execEndscan State.endScan
  dsimp only
  (repeat' split) <;> simp

@[simp] theorem execIllegalInstruction_keeps {inst s} : (execIllegalInstruction inst s).Keeps s := by
  unfold execIllegalInstruction illegalInstruction
  (repeat' split) <;> simp

@[simp] theorem execRetainedStoreWait_keeps {a0 s} : (execRetainedStoreWait a0 s).Keeps s := by
  simp [execRetainedStoreWait]

@[simp] theorem execOverrun_keeps {inst s} : (execOverrun inst s).Keeps s := by simp [execOverrun, overrun]

end Sys2Proof.Machine
end

section
/-! PROOFS. The clock under the configuration load at start-up (R669, R670, R674). -/

namespace Sys2Proof.Machine

@[simp] theorem clockKept_loadEntry {s : State} {id v} : ClockKept s.clock (s.loadEntry id v).1.clock := by
  unfold State.loadEntry
  split
  · exact ClockKept.refl
  · dsimp only
    split
    · exact ClockKept.refl
    · split
      · exact clockKept_after (by simp)
      · simp

@[simp] theorem clockKept_loadOne {s : State} {id v} : ClockKept s.clock (s.loadOne id v).clock := by
  have hentry := clockKept_loadEntry (s := s) (id := id) (v := v)
  unfold State.loadOne
  split
  · next h => rwa [h] at hentry
  · next h =>
    rw [h] at hentry
    dsimp only
    split <;> simpa using hentry

@[simp] theorem clock_forgetReloaded {s : State} : s.forgetReloaded.clock = s.clock := by
  simp [State.forgetReloaded]

theorem clockKept_foldl {α : Type} {l : List α} {f : State → α → State} {s : State}
    (h : ∀ t x, ClockKept t.clock (f t x).clock) : ClockKept s.clock (l.foldl f s).clock := by
  induction l generalizing s with
  | nil => exact ClockKept.refl
  | cons x r ih => exact (h s x).trans ih

@[simp] theorem clockKept_configLoad {s} : ClockKept s.clock (configLoad s).clock := by
  unfold configLoad
  split
  · exact ClockKept.refl
  extract_lets wake t start u v w x steps y dict
  have hw : w.clock = v.clock := clock_foldl fun _ _ => by split <;> simp
  have hx : x.clock = s.clock := by simp [x, hw, v, u, t]
  clear_value x
  have hy : ClockKept s.clock y.clock := by
    rw [← hx]
    unfold y
    split
    · simp
    · extract_lets z z'
      have hz : z.clock = x.clock := by simp [z]
      have hz' : ClockKept z.clock z'.clock := clockKept_foldl fun _ _ => clockKept_foldl fun _ _ => by
        (repeat' split) <;> simp
      rw [hz] at hz'
      simpa using hz'
  clear_value y
  split <;> simpa using hy

@[simp] theorem execConfigLoad_keeps {s} : (execConfigLoad s).Keeps s := by simp [execConfigLoad]

end Sys2Proof.Machine
end

section
/-! PROOFS. The clock under direct registers (R18). -/

namespace Sys2Proof.Machine

@[simp] theorem clock_writeWindow {s : State} {k offset v} : (s.writeWindow k offset v).clock = s.clock := by
  simp [State.writeWindow]

@[simp] theorem clock_writeFio {s : State} {i offset v} : (s.writeFio i offset v).clock = s.clock := by
  simp [State.writeFio]

@[simp] theorem clock_writeBasket {s : State} {i offset v} : (s.writeBasket i offset v).clock = s.clock := by
  simp [State.writeBasket]

@[simp] theorem clock_writeKinst {s : State} {core v} : (s.writeKinst core v).clock = s.clock := by
  simp [State.writeKinst]

@[simp] theorem clock_writeMsix {s : State} {fn offset v} : (s.writeMsix fn offset v).clock = s.clock := by
  simp [State.writeMsix]

@[simp] theorem execRegisterWrite_keeps {page offset value s} : (execRegisterWrite page offset value s).Keeps s := by
  unfold execRegisterWrite registerWrite
  split <;> simp

end Sys2Proof.Machine
end

section
/-! PROOFS. The clock under every command. -/

namespace Sys2Proof.Machine

theorem isaRun_keeps {i : Nat} {c : IsaOp} {f : Effect} {s : State} : Res.Keeps s (.next (isaRun i c f s).1) := by
  simp

/-- Every command keeps the clock: an instruction through `isaRun`, any other by the lemma about its meaning. -/
theorem exec_keeps (c : Instr) (s : State) : Res.Keeps s (exec c s) := by
  cases c
  all_goals simp
  all_goals exact isaRun_keeps -- what `simp` leaves are the scan instructions

/-- Settles O59: every command keeps the clock, the queue with the counter, but for a power-on reset. -/
theorem commandsKeepQueueAndCounter : Obligations.CommandsKeepQueueAndCounter := by
  unfold Obligations.CommandsKeepQueueAndCounter
  exact exec_keeps

end Sys2Proof.Machine
end

section
/-! PROOFS. Actions that the checks of R104 refuse (Chapter 2; R103, R104). -/

namespace Sys2Proof.Machine

/-- An action that starts with a check which refuses ends in the refusal alone, whatever it would go on to do (R103). -/
theorem next_answer_of_refused {α : Type} {s : State} {who : Caller} {m : Except Code α} {f : α → Act} {e : Code}
    (h : m = .error e) : (.next (s.answer who (m >>= f)) : Res) = .next (s.turned who e) := by
  rw [h, error_bind, answer_error]

/-- Settles O49: the meaning of each of the named actions is an answer whose act starts with the gate of its object. -/
theorem refusedActionsHaveNoEffect : Obligations.RefusedActionsHaveNoEffect := by
  unfold Obligations.RefusedActionsHaveNoEffect
  intro s who v e
  refine ⟨?bootConfirm, ?sluice, ?release, ?revoke, ?generate, ?restart, ?clear, ?verify, ?freeze, ?unfreeze, ?warm,
    ?powerOn, ?forced, ?sleep, ?zero, ?span, fun slot => ?erase, fun pin => ?ack, fun q b => ?queue, fun b => ?raise⟩
  all_goals exact next_answer_of_refused

end Sys2Proof.Machine
end

section
/-! PROOFS. Requests that Balmuene accepts (Chapter 2; R92, R96, R98): executed on the state that has counted them, and
replied to. -/

namespace Sys2Proof.Machine

@[simp] theorem session_setSession {s : State} {k : Nat} {x : Option Session} : (s.setSession k x).session k = x := by
  simp only [State.session, State.setSession, tabGet_set_same]

/-- The checks that an accepted request has passed. -/
theorem takes_iff {s : State} {h : Header} {x : Session} : s.takes h x = true ↔
    s.balmueneServed = true ∧ headerFits h = true ∧ s.named h = some x ∧ h.seq = (x.lastSeq + 1) % 2 ^ 32
      ∧ x.executing = false ∧ tokenUnit ≤ s.tokensNow x := by
  simp only [State.takes, Bool.and_eq_true, beq_iff_eq, Bool.not_eq_true', decide_eq_true_eq, and_assoc]

/-- An accepted request keeps what its session has staged and holds. -/
theorem session_taken (s : State) (h : Header) (x : Session) :
    ∃ y, (s.taken h x).session h.session = some y ∧ y.stage = x.stage ∧ y.timed = x.timed :=
  ⟨_, session_setSession, rfl, rfl⟩

@[simp] theorem dom_taken {s : State} {h : Header} {x : Session} {d : Nat} : (s.taken h x).dom d = s.dom d := rfl

@[simp] theorem gtc_taken {s : State} {h : Header} {x : Session} : (s.taken h x).gtc = s.gtc := rfl

@[simp] theorem caller_sess {x : Session} {k : Nat} : (x.caller k).sess = k := rfl

/-- What Balmuene makes of an accepted request whose operation ends in a code and a body. -/
theorem balmuene_of_takes {s u : State} {h : Header} {x : Session} {op c : Nat} {whole : Bool} {b : ReplyBody} {run : Run}
    (htakes : s.takes h x = true) (hwhole : whole = true)
    (hrun : run (s.taken h x) (x.caller h.session) = (u, some (c, b))) :
    s.balmuene h op whole run = u.replied h op c b := by
  obtain ⟨hserved, hfits, hnamed, hseq, hidle, htoken⟩ := takes_iff.mp htakes
  unfold State.taken at hrun
  simp only [State.balmuene, hserved, hfits, hwhole, hnamed, ← hseq, hidle, Nat.not_lt.mpr htoken, hrun, State.replied,
    Bool.not_true, Bool.and_true, Bool.false_eq_true, if_false, if_true]

/-- The same for an operation that Balmuene carries. -/
theorem runOn_balmuene_of_takes {s u : State} {h : Header} {x : Session} {op c : Nat} {whole : Bool} {b : ReplyBody}
    {run : Run} (htakes : s.takes h x = true) (hwhole : whole = true)
    (hrun : run (s.taken h x) (x.caller h.session) = (u, some (c, b))) :
    runOn (.balmuene h) op whole run s = u.replied h op c b :=
  balmuene_of_takes htakes hwhole hrun

end Sys2Proof.Machine
end

section
/-! PROOFS. The life of a session (Chapter 2; R91, R97, R98, R99, R712). -/

namespace Sys2Proof.Machine

/-! ### Opening (R712) -/

/-- The session that an accepted Open of header `h` over DTLS or UDP opens, with the reply `r` cached (R98, R99). -/
def State.openedSession (s : State) (h : Header) (role sel : Nat) (r : Reply) : Session :=
  ⟨roleOf role, sel, if h.assoc = 0 then .udp else .dtls, h.addr, h.port, h.assoc, h.seq, role, sel, false, h.seq, some r,
    false, s.num Od.balmueneRequestRate * tokenUnit, s.gtc, s.gtc, [], none, none, []⟩

/-- The reply to an accepted Open. -/
def State.openedReply (s : State) (h : Header) : Reply :=
  ⟨0x81, 0, h.seq, .opened s.freshSession 1400 (s.num Od.balmueneSessionTimeout / 1000)⟩

/-- An Open that names no association, or one that stands, is not dropped for its association. -/
theorem association_stands {s : State} {h : Header}
    (hassoc : h.assoc = 0 ∨ (tabGet none s.dict.assocs h.assoc).isSome = true) :
    (h.assoc != 0 && (tabGet none s.dict.assocs h.assoc).isNone) = false := by
  rcases hassoc with h0 | hsome
  · simp [h0]
  · simp [Option.isNone_eq_false_iff.mpr hsome]

section
variable {s : State} {h : Header} {role res sel : Nat} (hserved : s.balmueneServed = true)
  (hassoc : h.assoc = 0 ∨ (tabGet none s.dict.assocs h.assoc).isSome = true) (hfits : headerFits h = true)
  (hbody : h.body = 4) (hnew : s.openedBy h = none)
include hserved hassoc hfits hbody hnew

theorem openBalmuene_of_checked (hcheck : s.checkOpen h role res sel = .ok ()) :
    s.openBalmuene h role res sel = ((s.tookFree.count48 Od.balmueneRequests).setSession s.freshSession
      (some (s.openedSession h role sel (s.openedReply h)))).sendReply h.addr h.port s.freshSession (s.openedReply h) := by
  simp only [State.openBalmuene, hserved, association_stands hassoc, hfits, hbody, hnew, hcheck, Bool.not_true,
    Bool.false_or, Bool.true_and, beq_self_eq_true, Bool.false_eq_true, if_false, State.openedSession, State.openedReply]

theorem openBalmuene_of_refused {c : Code} (hcheck : s.checkOpen h role res sel = .error c) :
    s.openBalmuene h role res sel = s.sendReply h.addr h.port 0 ⟨0x81, c.value, h.seq, .empty⟩ := by
  simp only [State.openBalmuene, hserved, association_stands hassoc, hfits, hbody, hnew, hcheck, Bool.not_true,
    Bool.false_or, Bool.true_and, beq_self_eq_true, Bool.false_eq_true, if_false]

end

/-! ### Idle time and associations (R91, R97) -/

theorem sessionTimeout_of_idle {s : State} {k : Nat} {x : Session} (hx : s.session k = some x) (hk : k < 2 ^ 32)
    (hidle : x.lastRequest + s.num Od.balmueneSessionTimeout * 1000000 ≤ s.gtc) : sessionTimeout k s = s.endSession k := by
  simp only [sessionTimeout, hx, hk, hidle, and_self, if_true]

theorem dtlsHandshake_of_completed {s : State} {addr port assoc : Nat} {client : DtlsClient}
    (hserved : s.balmueneServed = true) (hassoc : assoc ≠ 0) (hfree : tabGet none s.dict.assocs assoc = none)
    (hroom : s.dict.assocs.length < 32) :
    dtlsHandshake addr port assoc false client true s = (s.withDict fun x => { x with
      assocs := tabSet none x.assocs assoc (some ⟨false, client, addr, port⟩) }).emit (.dtls addr port false true) := by
  have hassoc : (assoc != 0) = true := bne_iff_ne.mpr hassoc
  simp [dtlsHandshake, hserved, hassoc, hfree, hroom, State.setDict, State.withDict]

theorem dtlsHandshake_of_failed {s : State} {addr port assoc : Nat} {client : DtlsClient}
    (hserved : s.balmueneServed = true) :
    dtlsHandshake addr port assoc false client false s =
      (s.count32 Od.balmueneHandshakeFailures).emit (.dtls addr port false false) := by
  simp [dtlsHandshake, hserved]

theorem dtlsEnd_eq {s : State} {a : Nat} (ha : a ≠ 0) :
    dtlsEnd a s = ((s.sessionsWith fun _ x => x.assoc == a).foldl State.endSession s).withDict fun x =>
      { x with assocs := tabSet none x.assocs a none } := by
  simp only [dtlsEnd, ha, if_false, State.setDict, State.withDict]

/-- Settles O2: an Open is judged by the checks of R712, Close and Keepalive are accepted requests, and each event of an
association or of idle time is its lemma. -/
theorem sessionLifecycle : Obligations.SessionLifecycle := by
  unfold Obligations.SessionLifecycle
  refine ⟨?opened, ?refused, ?close, ?keepalive, ?timeout, ?completed, ?failed, ?ended⟩
  case opened =>
    intro s h role sel hserved hassoc hfits hbody hnew hcheck
    refine ⟨(s.tookFree.count48 Od.balmueneRequests).setSession s.freshSession
      (some (s.openedSession h role sel (s.openedReply h))), s.freshSession, ?_, _, session_setSession, rfl, rfl, rfl, rfl,
      rfl, rfl, rfl, rfl⟩
    rw [exec_openSession, execOpenSession, openBalmuene_of_checked hserved hassoc hfits hbody hnew hcheck]
    rfl
  case refused =>
    intro s h role res sel c hserved hassoc hfits hbody hnew hcheck
    rw [exec_openSession, execOpenSession, openBalmuene_of_refused hserved (.inl hassoc) hfits hbody hnew hcheck]
  case close =>
    intro s h x htakes
    rw [exec_close, execClose, balmuene_of_takes htakes rfl rfl, caller_sess]
  case keepalive =>
    intro s h x htakes
    rw [exec_keepalive, execKeepalive, balmuene_of_takes htakes rfl rfl]
  case timeout =>
    intro s k x hx hk hidle
    rw [exec_sessionTimeout, execSessionTimeout, sessionTimeout_of_idle hx hk hidle]
  case completed =>
    intro s addr port assoc client hserved hassoc hfree hroom
    rw [exec_dtlsHandshake, execDtlsHandshake, dtlsHandshake_of_completed hserved hassoc hfree hroom]
  case failed =>
    intro s addr port assoc client hserved
    rw [exec_dtlsHandshake, execDtlsHandshake, dtlsHandshake_of_failed hserved]
  case ended =>
    intro s a ha
    exact ⟨_, rfl, by rw [exec_dtlsAssociationEnd, execDtlsAssociationEnd, dtlsEnd_eq ha]⟩

end Sys2Proof.Machine
end

section
/-! PROOFS. What each request of a session does once Balmuene accepts it (Chapter 2; R70 to R75, R94 to R96, R98). -/

namespace Sys2Proof.Machine

/-! ### Items (R94, R95) -/

@[simp] theorem viaWindow_balmuene {h : Header} : viaWindow (.balmuene h) = false := rfl

theorem itemsOk_balmuene {h : Header} {l : List Item} (hsome : 1 ≤ l.length) (hfew : l.length ≤ 64) :
    itemsOk (.balmuene h) l = true := by
  simp [itemsOk, hsome, hfew]

/-- A Get, Put or Stage of an admitted number of items ends with the first refusal and every item's code. -/
theorem itemsRun_of_ok {via : Via} {l : List Item} {f : State → Caller → State × List ReplyItem} {s u : State}
    {who : Caller} {r : List ReplyItem} (hok : itemsOk via l = true) (hf : f s who = (u, r)) :
    itemsRun via l f s who = (u, some (firstCode r, .items r)) := by
  simp only [itemsRun, hok, hf, if_true]

theorem writeItems_singleton {s u : State} {f : State → Item → State × Nat} {i : Item} {c : Nat} (hf : f s i = (u, c)) :
    s.writeItems f [i] [] = (u, [⟨c, i.typ, []⟩]) := by
  simp only [State.writeItems, hf, List.nil_append]

theorem all_itemWhole_singleton {i : Item} (h : itemWhole i = true) : [i].all itemWhole = true := by
  simpa using h

/-! ### Commits (R72 to R75) -/

theorem commitRunNow_of_done {s u : State} {who : Caller} {y : Session} (hy : s.session who.sess = some y)
    (hset : s.commitSet who y.stage = .done u) :
    commitRunNow s who = (u.clearStage who.sess, some (0, .commit 0xFFFF 0 s.gtc)) := by
  simp only [commitRunNow, hy, hset]

theorem commitRunNow_of_failed {s u : State} {who : Caller} {y : Session} {n c : Nat} (hy : s.session who.sess = some y)
    (hset : s.commitSet who y.stage = .failed n c u) :
    commitRunNow s who = (u, some (c, .commit n c 0)) := by
  simp only [commitRunNow, hy, hset]

theorem checkTimed_ok {s : State} {y : Session} {d time : Nat} (hnone : y.timed = none) (hd : d ≤ 7)
    (hns : time / 2 ^ 16 % 2 ^ 32 ≤ 999999999) (hrun : (s.dom d).state ≠ 0)
    (hahead : (s.dom d).valueAt s.gtc ≤ valueOfTime time) : s.checkTimed y d time = .ok () := by
  have hrun : ((s.dom d).state != 0) = true := bne_iff_ne.mpr hrun
  simp only [State.checkTimed, hns, hd, hnone, hrun, hahead, decide_true, Bool.and_self, Option.isNone_none, need_true,
    ok_bind]

/-- The commit that a CommitAt of session `y` holds, the set with its domain and time (R74). -/
def State.heldCommit (s : State) (y : Session) (d time : Nat) : TimedCommit :=
  ⟨d, (valueOfTime time / 2 ^ 32).toNat, y.stage, s.timedOrder⟩

theorem commitRunAt_of_checked {s u : State} {who : Caller} {y : Session} {d time : Nat} {bs : List (Nat × Block)}
    (hy : s.session who.sess = some y) (htimed : s.checkTimed y d time = .ok ())
    (hrun : s.commitRun who s 0 y.stage [] = .ok (u, bs)) :
    commitRunAt d time s who = (s.setSession who.sess (some { y with stage := [], timed := some (s.heldCommit y d time) }),
      some (0, .commit 0xFFFF 0 0)) := by
  simp only [commitRunAt, hy, htimed, hrun, State.heldCommit]

/-! ### Descriptions and segments (R95) -/

theorem describeRun_of_addressed {s : State} {who : Caller} {window : Bool} {i : Item} {r : ObjectRow}
    (hr : s.checkAddress (itemId i) i.present i.sel = .ok r) :
    describeRun window i s who = (s, some (0, .describe r.typ.code r.apply.ascii (s.attributesOf r (itemId i))
      [r.owner, r.manager, r.tenant, r.observer] r.maxLength (octetsOf window r.typ (objDefault (itemId i)))
      (r.bounds window).1 (r.bounds window).2 r.name)) := by
  simp only [describeRun, hr]

/-- A segment that begins in the value and whose octets the reply has room for is read. -/
theorem readSegmentRun_of_fits {s u : State} {who : Caller} {i : Item} {r : ObjectRow} {v : OVal} {off n : Nat}
    (hread : s.readObject who (itemId i) i.present i.sel i.typ false = (u, .ok (r, v)))
    (hoff : off ≤ (octetsOf false r.typ v).length) (hn : n ≤ 1372) :
    readSegmentRun false i off n s who
      = (u, some (0, .items [⟨0, r.typ.code, ((octetsOf false r.typ v).drop off).take n⟩])) := by
  have hroom : ¬ replyRoom false < 12 + (n + 3) / 4 * 4 := by
    simp only [replyRoom, Bool.false_eq_true, if_false]
    omega
  simp only [readSegmentRun, hread, Nat.not_lt.mpr hoff, hroom, or_self, if_false, if_true]

/-- Settles O3: each request is what its operation makes of the state that has counted it, replied to. -/
theorem requestsOfASession : Obligations.RequestsOfASession := by
  unfold Obligations.RequestsOfASession
  refine ⟨?get, ?put, ?stage, ?commit, ?commitFails, ?commitAt, ?discard, ?describe, ?readSegment, ?writeSegment⟩
  case get =>
    intro s u h x active l r htakes hsome hfew hitems
    rw [exec_get, execGet,
      runOn_balmuene_of_takes htakes rfl (itemsRun_of_ok (itemsOk_balmuene hsome hfew) hitems)]
  case put =>
    intro s h x i c u htakes hwhole hput
    rw [exec_put, execPut, runOn_balmuene_of_takes htakes (all_itemWhole_singleton hwhole)
      (itemsRun_of_ok rfl (writeItems_singleton hput))]
  case stage =>
    intro s u h x i htakes hwhole hstage
    rw [exec_stage, execStage, runOn_balmuene_of_takes htakes (all_itemWhole_singleton hwhole)
      (itemsRun_of_ok rfl (writeItems_singleton (congrArg _ hstage)))]
    rfl
  case commit =>
    intro s u h x htakes hset
    obtain ⟨y, hy, hstage, -⟩ := session_taken s h x
    rw [← hstage] at hset
    rw [exec_commit, execCommit, runOn_balmuene_of_takes htakes rfl (commitRunNow_of_done hy hset), caller_sess,
      gtc_taken]
  case commitFails =>
    intro s u h x n c htakes hset
    obtain ⟨y, hy, hstage, -⟩ := session_taken s h x
    rw [← hstage] at hset
    rw [exec_commit, execCommit, runOn_balmuene_of_takes htakes rfl (commitRunNow_of_failed hy hset)]
  case commitAt =>
    intro s u h x d time bs htakes hnone hd hns hdom hahead hrun
    obtain ⟨y, hy, hstage, htimed⟩ := session_taken s h x
    rw [← hstage] at hrun ⊢
    have hchecked : (s.taken h x).checkTimed y d time = .ok () :=
      checkTimed_ok (htimed.trans hnone) hd hns (by rwa [dom_taken]) (by rwa [dom_taken, gtc_taken])
    refine ⟨(s.taken h x).setSession h.session
      (some { y with stage := [], timed := some ((s.taken h x).heldCommit y d time) }), _, ?_, session_setSession, rfl, _, rfl,
      rfl, rfl, rfl⟩
    rw [exec_commitAt, execCommitAt, runOn_balmuene_of_takes htakes rfl (commitRunAt_of_checked hy hchecked hrun), caller_sess]
  case discard =>
    intro s h x htakes
    obtain ⟨y, hy, -, -⟩ := session_taken s h x
    refine ⟨(s.taken h x).setSession h.session (some { y with stage := [], timed := none }), _, ?_, session_setSession,
      rfl, rfl⟩
    rw [exec_discard, execDiscard, runOn_balmuene_of_takes htakes rfl rfl]
    simp only [Session.caller, hy]
  case describe =>
    intro s h x i r htakes hr
    rw [exec_describe, execDescribe, runOn_balmuene_of_takes htakes rfl (describeRun_of_addressed hr), viaWindow_balmuene]
  case readSegment =>
    intro s u h x i r v off n htakes hread hoff hn
    rw [exec_readSegment, execReadSegment, viaWindow_balmuene,
      runOn_balmuene_of_takes htakes rfl (readSegmentRun_of_fits hread hoff hn)]
  case writeSegment =>
    intro s u h x i off c htakes hwhole hwrite
    rw [exec_writeSegment, execWriteSegment]
    exact congrArg _ (runOn_balmuene_of_takes htakes hwhole (by simp only [hwrite]))

end Sys2Proof.Machine
end

section
/-! PROOFS. Waiting and timed commits, saving the configuration, and object windows (Chapter 2; R75, R76, R79, R84, R89, R101,
R102, R670). -/

namespace Sys2Proof.Machine

/-! ### Commits that wait for a quiesce (R79) -/

/-- The job of session `k` whose blocks have finished, and whose set checks out once more, is applied. -/
theorem quiesceComplete_of_checked {s u : State} {k : Nat} {x : Session} {j : QuiesceJob} {bs : List (Nat × Block)}
    (hj : s.jobOf k = some j) (hx : s.session k = some x)
    (hrun : (s.dropJob j).commitRun (x.caller k) (s.dropJob j) 0 j.ents [] = .ok (u, bs))
    (hfree : bs.all (fun y => !blockForbidden y.2) = true) :
    quiesceComplete k s = (if j.timed then u else u.clearStage k).commitEnds j 0xFFFF 0 := by
  have hnone : bs.find? (fun y => blockForbidden y.2) = none := by simpa using hfree
  simp only [quiesceComplete, hj, hx, hrun, hnone]

theorem quiesceTimeout_of_late {s : State} {k : Nat} {j : QuiesceJob} (hj : s.jobOf k = some j)
    (hlate : j.start + 10000000 ≤ s.gtc) :
    quiesceTimeout k s = ((s.dropJob j).resumeBlocks j.waiting).commitEnds j ((j.waiting.head?.map (·.1)).getD 0)
      Code.quiesceTimeout.value := by
  simp only [quiesceTimeout, hj, Nat.not_lt.mpr hlate, if_false]

/-! ### Timed commits (R75, R76) -/

section
variable {s u : State} {k n e : Nat} {x : Session} {c : TimedCommit}

/-- No due commit was accepted before one that is the first of the due ones. -/
theorem none_due_before (hfirst : s.timedHeld.all (fun o => !s.timedDue o || decide (c.order ≤ o.order)) = true) :
    s.timedHeld.any (fun o => s.timedDue o && decide (o.order < c.order)) = false := by
  rw [List.any_eq_false]
  intro o ho
  have hbefore := List.all_eq_true.mp hfirst o ho
  cases hdueo : s.timedDue o with
  | false => simp
  | true => simpa [hdueo] using hbefore

variable (hx : s.session k = some x) (hc : x.timed = some c) (hdue : s.timedDue c = true)
  (hfirst : s.timedHeld.all (fun o => !s.timedDue o || decide (c.order ≤ o.order)) = true)
include hx hc hdue hfirst

theorem timedApply_of_done
    (hset : (s.setSession k (some { x with timed := none })).commitSet (x.caller k) c.ents = .done u) :
    timedApply k s = u := by
  simp only [timedApply, hx, hc, hdue, none_due_before hfirst, hset, not_true_eq_false, Bool.false_eq_true, or_self, if_false]

theorem timedApply_of_failed
    (hset : (s.setSession k (some { x with timed := none })).commitSet (x.caller k) c.ents = .failed n e u) :
    timedApply k s = u.failTimed k n e := by
  simp only [timedApply, hx, hc, hdue, none_due_before hfirst, hset, not_true_eq_false, Bool.false_eq_true, or_self, if_false]

end

/-! ### Saving the configuration (R84, R670) -/

/-- The older copy while a save into its device runs. -/
def State.invalidated (s : State) : State :=
  s.setCopy s.olderCopy { (if s.olderCopy = 0 then s.dict.copy0 else s.dict.copy1) with valid := false }

/-- The copy that a save writes. -/
def State.nextCopy (s : State) : ConfigCopy := ⟨true, (s.lastSequence + 1) % 2 ^ 32, s.persistentValues⟩

/-- The state in which a save runs. -/
def State.savingConfig (s : State) : State :=
  (s.invalidated.setDict { s.invalidated.dict with saving := some (s.olderCopy, s.nextCopy) }).setNum Od.configSaveStatus 1

theorem configSave_of_checked {s : State} {who : Caller} (hlets : s.lets who Od.configSave false 0 (.num 1) = true)
    (hidle : s.dict.saving = none) (hshed : s.shedLevel < 2) : configSave who 1 s = .ok s.savingConfig := by
  simp only [configSave, lets_ok hlets, hidle, hshed, Option.isNone_none, decide_true, need_true, ok_bind]
  rfl

theorem savingConfig_saving (s : State) : s.savingConfig.dict.saving = some (s.olderCopy, s.nextCopy) := rfl

/-- The device of the older copy loses it. -/
theorem savingConfig_copy (s : State) : if s.olderCopy = 0 then s.savingConfig.dict.copy0.valid = false
    else s.savingConfig.dict.copy1.valid = false := by
  by_cases h : s.olderCopy = 0 <;>
    simp [h, State.savingConfig, State.invalidated, State.setNum, State.setObj, State.setDict, State.setCopy]

theorem configSaveDone_of_saving {s : State} {d : Nat} {c : ConfigCopy} (hsaving : s.dict.saving = some (d, c)) :
    configSaveDone true s = (((s.setDict { s.dict with saving := none }).setCopy d c).setNum Od.configSequence
      c.sequence).setNum Od.configSaveStatus 2 := by
  simp only [configSaveDone, hsaving, if_true]

theorem configRestoreDefaults_of_checked {s : State} {who : Caller}
    (hlets : s.lets who Od.configRestoreDefaults false 0 (.num 1) = true) :
    configRestoreDefaults who 1 s = .ok (s.withDict fun x => { x with restoreDefaults := true }) := by
  simp only [configRestoreDefaults, lets_ok hlets, ok_bind, State.setDict, State.withDict]

/-! ### Writes of window bindings (R89) -/

/-- The three parts of a write that every check of R104 lets through. -/
theorem letsWrite_ok {s : State} {who : Caller} {id : Nat} {present : Bool} {sel : Nat} {v : OVal}
    (h : s.letsWrite who id present sel v = true) : ∃ r, s.gate who id present sel v = .ok r
      ∧ checkValue r id v = .ok () ∧ s.checkChapter who id sel v = .ok () := by
  unfold State.letsWrite at h
  cases hgate : s.gate who id present sel v with
  | error c => simp [hgate, error_bind, Except.isOk, Except.toBool] at h
  | ok r =>
    rw [hgate, ok_bind] at h
    cases hvalue : checkValue r id v with
    | error c => simp [hvalue, error_bind, Except.isOk, Except.toBool] at h
    | ok _ =>
      rw [hvalue, ok_bind] at h
      cases hchapter : s.checkChapter who id sel v with
      | error c => simp [hchapter, Except.isOk, Except.toBool] at h
      | ok _ => exact ⟨r, rfl, hvalue, rfl⟩

/-- A window binding is an object of Chapter 1, whose effect is to bind its window. -/
theorem applyChapter_localWindowBinding {s : State} {w v : Nat} (hw : w < 64) :
    s.applyChapter (Od.localWindowBinding + w) 0 (.num v) = s.bindWindow w v := by
  have hchapter : (0x106000 + w) / 2 ^ 20 = 1 := by omega
  have hindex : (0x106000 + w) / 256 = 0x1060 := by omega
  have hsub : (0x106000 + w) % 256 = w := by omega
  simp only [State.applyChapter, State.applyHigh, Od.localWindowBinding, hchapter, hindex, hsub, if_true, OVal.nat]

theorem localWindowBinding_of_checked {s : State} {who : Caller} {w v : Nat} (hw : w < 64)
    (hlets : s.letsWrite who (Od.localWindowBinding + w) false 0 (.num v) = true) :
    localWindowBinding who w v s = .ok ((s.bindWindow w v).bumpVersion (Od.localWindowBinding + w) 0) := by
  obtain ⟨r, hgate, hvalue, hchapter⟩ := letsWrite_ok hlets
  simp only [localWindowBinding, hgate, hvalue, hchapter, ok_bind, applyChapter_localWindowBinding hw]

/-! ### Object windows (R101, R102) -/

@[simp] theorem window_setWindow {s : State} {k : Nat} {w : Window} : (s.setWindow k w).window k = w := by
  simp only [State.window, State.setWindow, State.setDict, tabGet_set_same]

@[simp] theorem runOn_window {k op : Nat} {whole : Bool} {run : Run} {s : State} :
    runOn (.window k) op whole run s = s.windowOp k op run := rfl

/-- An operation on a busy window sets Collision alone. -/
theorem windowOp_of_busy {s : State} {k op : Nat} {run : Run} (hk : isWindow k = true) (hbusy : (s.window k).busy = true) :
    s.windowOp k op run = s.setWindow k { s.window k with collision := true } := by
  have hk : ¬ (!isWindow k) = true := by rw [hk]; decide
  exact (if_neg hk).trans (if_pos hbusy)

theorem winControlCollision_of_busy {s : State} {k : Nat} (hbusy : (s.window k).busy = true) :
    winControlCollision k s = s.setWindow k { s.window k with collision := true } := by
  simp only [winControlCollision, hbusy, if_true]

/-- The window of a finished operation with its reply in it (R102). -/
def Window.completed (w : Window) (r : Reply) : Window :=
  { w with
    busy := false, done := true, code := r.status, result := none
    length := if (windowData r.body).2 = 0 then w.length else (windowData r.body).2
    data := if (windowData r.body).2 = 0 then w.data
      else splice (slice w.data 0 3840) 0 ((windowData r.body).1.take 3840) }

/-- Without InterruptOnDone a completion changes the window alone. -/
theorem windowCompletion_of_silent {s : State} {k : Nat} {r : Reply} (hbusy : (s.window k).busy = true)
    (hresult : (s.window k).result = some r) (hsilent : (s.window k).control = 0) :
    windowCompletion k s = s.setWindow k ((s.window k).completed r) := by
  fun_cases windowCompletion k s
  case case1 hasks _ _ _ _ =>
    change (s.window k).control.testBit 10 = true at hasks
    rw [hsilent, Nat.zero_testBit] at hasks
    exact absurd hasks Bool.false_ne_true
  case case2 r' hr' _ b n hdata _ _ =>
    obtain rfl : r = r' := Option.some.inj (hresult.symm.trans hr')
    simp only [Window.completed, hdata]
    rfl
  case case3 hnone => exact (hnone r hbusy hresult).elim

theorem registerWrite_other {s : State} {p off v : Nat} (hv : v < 2 ^ 32) :
    registerWrite (.other p) off v s = s.withDict fun x => { x with
      registers := tabSet 0 x.registers (p * 2 ^ 16 + off) v } := by
  simp only [registerWrite, Nat.mod_eq_of_lt hv, State.setDict, State.withDict]

/-- Settles O4: each clause is the lemma about its command, answered where it is a write. -/
theorem commitsWindowsAndSaving : Obligations.CommitsWindowsAndSaving := by
  unfold Obligations.CommitsWindowsAndSaving
  refine ⟨?complete, ?late, ?applied, ?failed, ?save, ?saved, ?restore, ?bind, ?collision, ?busy, ?done, ?register⟩
  case complete =>
    intro s u k x j bs hj hx hrun hfree
    rw [exec_quiesceComplete, execQuiesceComplete, quiesceComplete_of_checked hj hx hrun hfree]
  case late =>
    intro s k j hj hlate
    rw [exec_quiesceTimeout, execQuiesceTimeout, quiesceTimeout_of_late hj hlate]
  case applied =>
    intro s u k x c hx hc hdue hfirst hset
    rw [exec_timedCommitApply, execTimedCommitApply, timedApply_of_done hx hc hdue hfirst hset]
  case failed =>
    intro s u k n e x c hx hc hdue hfirst hset
    rw [exec_timedCommitApply, execTimedCommitApply, timedApply_of_failed hx hc hdue hfirst hset]
  case save =>
    intro s who hlets hidle hshed
    refine ⟨s.savingConfig, ?_, num_setNum_same .., savingConfig_saving s, savingConfig_copy s⟩
    rw [exec_configSave, execConfigSave, configSave_of_checked hlets hidle hshed, answer_ok]
  case saved =>
    intro s d c hsaving
    rw [exec_configSaveDone, execConfigSaveDone, configSaveDone_of_saving hsaving]
  case restore =>
    intro s who hlets
    rw [exec_configRestoreDefaults, execConfigRestoreDefaults, configRestoreDefaults_of_checked hlets, answer_ok]
  case bind =>
    intro s who w v hlets
    rw [exec_localWindowBinding, execLocalWindowBinding, localWindowBinding_of_checked w.isLt hlets, answer_ok]
  case collision =>
    intro s k v hv hbusy
    rw [exec_winControlCollision, execWinControlCollision, if_pos hv, winControlCollision_of_busy hbusy]
  case busy =>
    intro s k l active hk hbusy
    rw [exec_get, execGet, exec_put, execPut, exec_commit, execCommit]
    simp only [runOn_window, windowOp_of_busy hk hbusy, and_self]
  case done =>
    intro s k r hbusy hresult hsilent
    refine ⟨s.setWindow k ((s.window k).completed r), ?_, ?_⟩
    · rw [exec_windowCompletion, execWindowCompletion, windowCompletion_of_silent hbusy hresult hsilent]
    · rw [window_setWindow]
      exact ⟨rfl, rfl, rfl, rfl⟩
  case register =>
    intro s p off v hv
    rw [exec_registerWrite, execRegisterWrite, registerWrite_other hv]

end Sys2Proof.Machine
end

section
/-! PROOFS. Domain values and TIME numbers (Chapter 3; R710): a TIME counts units of 2^−16 ns, and a domain value is rounded
to the nearest of them. -/

namespace Sys2Proof.Machine

/-! ### Rounding (R710) -/

theorem roundDiv_eq_or (a : Int) (b : Nat) : roundDiv a b = a / b ∨ roundDiv a b = a / b + 1 := by
  unfold roundDiv
  dsimp only
  split_ifs <;> simp only [true_or, or_true]

theorem roundDiv_nonneg {a : Int} (ha : 0 ≤ a) (b : Nat) : 0 ≤ roundDiv a b := by
  have hq : 0 ≤ a / (b : Int) := Int.ediv_nonneg ha (Int.natCast_nonneg b)
  rcases roundDiv_eq_or a b with h | h <;> omega

/-- The multiple of `b` that `roundDiv` names lies within half of `b`. -/
theorem roundDiv_near (a : Int) {b : Nat} (hb : 0 < b) : 2 * (roundDiv a b * b - a).natAbs ≤ b := by
  have hdiv : a / (b : Int) * b + a % (b : Int) = a := Int.ediv_mul_add_emod a b
  have hnonneg : 0 ≤ a % (b : Int) := Int.emod_nonneg a (by omega)
  have hlt : a % (b : Int) < b := Int.emod_lt_of_pos a (by omega)
  have hnext : (a / (b : Int) + 1) * b = a / (b : Int) * b + b := by ring
  unfold roundDiv
  dsimp only
  split_ifs <;> omega

/-- Half way between two multiples the even one is named. -/
theorem roundDiv_even_of_half {a : Int} {b : Nat} (hhalf : 2 * (a % (b : Int)) = b) : roundDiv a b % 2 = 0 := by
  unfold roundDiv
  dsimp only
  split_ifs <;> omega

theorem roundDiv_mul_self (a : Int) {b : Nat} (hb : 0 < b) : roundDiv (a * b) b = a := by
  have hb : (0 : Int) < b := by omega
  simp only [roundDiv, Int.mul_ediv_cancel a hb.ne', Int.mul_emod_left, mul_zero, hb, if_true]

/-! ### TIME numbers as counts of 2^−16 ns -/

/-- The count of 2^−16 ns that a TIME number names. -/
def ticksOfTime (t : Nat) : Nat := (t / 2 ^ 48 * 1000000000 + t / 2 ^ 16 % 2 ^ 32) * 2 ^ 16 + t % 2 ^ 16

/-- The TIME number of a count of 2^−16 ns. -/
def timeOfTicks (u : Nat) : Nat :=
  u / 2 ^ 16 / 1000000000 * 2 ^ 48 + u / 2 ^ 16 % 1000000000 * 2 ^ 16 + u % 2 ^ 16

theorem valueOfTime_eq (t : Nat) : valueOfTime t = ticksOfTime t * ((2 ^ 32 : Nat) : Int) := rfl

theorem timeOfValue_eq (v : Int) : timeOfValue v = timeOfTicks (roundDiv v (2 ^ 32)).toNat := rfl

theorem timeOfTicks_seconds (u : Nat) : timeOfTicks u / 2 ^ 48 = u / 2 ^ 16 / 1000000000 := by
  unfold timeOfTicks
  omega

theorem timeOfTicks_nanoseconds (u : Nat) : timeOfTicks u / 2 ^ 16 % 2 ^ 32 = u / 2 ^ 16 % 1000000000 := by
  unfold timeOfTicks
  omega

theorem timeOfTicks_fraction (u : Nat) : timeOfTicks u % 2 ^ 16 = u % 2 ^ 16 := by
  unfold timeOfTicks
  omega

theorem timeOfTicks_mod_two (u : Nat) : timeOfTicks u % 2 = u % 2 := by
  have hfraction := timeOfTicks_fraction u
  omega

theorem ticksOfTime_timeOfTicks (u : Nat) : ticksOfTime (timeOfTicks u) = u := by
  rw [ticksOfTime, timeOfTicks_seconds, timeOfTicks_nanoseconds, timeOfTicks_fraction]
  omega

theorem timeOfTicks_ticksOfTime {t : Nat} (hns : t / 2 ^ 16 % 2 ^ 32 < 1000000000) : timeOfTicks (ticksOfTime t) = t := by
  unfold timeOfTicks ticksOfTime
  omega

/-- The TIME of a value that is not negative names the multiple of 2^−16 ns that the value rounds to. -/
theorem valueOfTime_timeOfValue {v : Int} (hv : 0 ≤ v) :
    valueOfTime (timeOfValue v) = roundDiv v (2 ^ 32) * ((2 ^ 32 : Nat) : Int) := by
  rw [valueOfTime_eq, timeOfValue_eq, ticksOfTime_timeOfTicks, Int.toNat_of_nonneg (roundDiv_nonneg hv _)]

/-- Settles O56: a value rounds to a count of 2^−16 ns, which its TIME names exactly. -/
theorem timeValuesRoundToNearest : Obligations.TimeValuesRoundToNearest := by
  unfold Obligations.TimeValuesRoundToNearest
  refine ⟨fun v hv => ⟨?near, ?nanoseconds, fun hhalf => ?even⟩, fun t hns => ?exact⟩
  case near =>
    rw [valueOfTime_timeOfValue hv]
    exact roundDiv_near v (by decide)
  case nanoseconds =>
    rw [timeOfValue_eq, timeOfTicks_nanoseconds]
    exact Nat.mod_lt _ (by decide)
  case even =>
    have hround : roundDiv v (2 ^ 32) % 2 = 0 := roundDiv_even_of_half hhalf
    rw [timeOfValue_eq, timeOfTicks_mod_two]
    omega
  case exact =>
    rw [timeOfValue_eq, valueOfTime_eq, roundDiv_mul_self _ (by decide), Int.toNat_natCast, timeOfTicks_ticksOfTime hns]

end Sys2Proof.Machine
end

section
/-! PROOFS. What objects and events leave of the domains, and what a domain holds after a write of it (Chapter 3). -/

namespace Sys2Proof.Machine

@[simp] theorem time_setNum {s : State} {id v sel : Nat} : (s.setNum id v sel).time = s.time := rfl

@[simp] theorem time_count32 {s : State} {id k sel : Nat} : (s.count32 id k sel).time = s.time := rfl

@[simp] theorem time_setEvDie {s : State} {d : Die} {x : EvDie} : (s.setEvDie d x).time = s.time := by
  cases d <;> rfl

/-- An event goes to the buffer of its die, or is counted as dropped. -/
@[simp] theorem time_raiseIn {s : State} {d : Die} {src code kind num detail : Nat} :
    (s.raiseIn d src code kind num detail).time = s.time := by
  dsimp only [State.raiseIn]
  split_ifs
  · rfl
  · rw [time_count32, time_setEvDie]
  · rw [time_setEvDie]

@[simp] theorem time_raiseState {s : State} {src kind num old new cause value : Nat} :
    (s.raiseState src kind num old new cause value).time = s.time := time_raiseIn

@[simp] theorem time_raiseOcc {s : State} {src kind num pos value : Nat} :
    (s.raiseOcc src kind num pos value).time = s.time := time_raiseIn

theorem dom_of_time {s t : State} (h : t.time = s.time) (d : Nat) : t.dom d = s.dom d := by
  rw [State.dom, h, State.dom]

@[simp] theorem dom_setDom_same {s : State} {d : Nat} {x : Dom} : (s.setDom d x).dom d = x := by
  rw [State.dom, State.setDom, tabGet_set_same]

@[simp] theorem dom_setNum {s : State} {id v sel d : Nat} : (s.setNum id v sel).dom d = s.dom d := dom_of_time time_setNum d

@[simp] theorem dom_raiseState {s : State} {src kind num old new cause value d : Nat} :
    (s.raiseState src kind num old new cause value).dom d = s.dom d := dom_of_time time_raiseState d

@[simp] theorem dom_raiseOcc {s : State} {src kind num pos value d : Nat} :
    (s.raiseOcc src kind num pos value).dom d = s.dom d := dom_of_time time_raiseOcc d

@[simp] theorem ptp_setPtp {s : State} {d : Nat} {p : PtpSt} : ((s.setPtp d p).dom d).ptp = p := by
  simp only [State.setPtp, dom_setDom_same]

end Sys2Proof.Machine
end

section
/-! PROOFS. What each event of a time source does (Chapter 3; R106, R107, R114 to R120, R128, R129). -/

namespace Sys2Proof.Machine

/-! ### The shore reference (R106, R107) -/

theorem refLost_of_served {s : State} (h : s.time.backup = false) :
    refLost s = (numbersFrom 0 8).foldl State.holdGens
      (((((s.withTime fun x => { x with backup := true }).setNum Od.shoreRefState 1).count32 Od.shoreRefLossCount).raiseState
        0x1C0 0x80 0 0 1 0 0).eachDom fun d u => if (u.dom d).state = 0 then u else u.domEnter d 6 (u.dom d)) := by
  simp only [refLost, shoreRefLost, h, Bool.false_eq_true, if_false]
  rfl

theorem shoreRefReturn_of_backup {s : State} (h : s.time.backup = true) :
    shoreRefReturn s = (((s.withTime fun x => { x with backup := false }).setNum Od.shoreRefState 0).raiseState
      0x1C0 0x80 0 1 0 0 0).eachDom fun d u =>
        if (u.dom d).state = 6 then u.domEnter d (if (u.dom d).lockedSinceEnable then 2 else 1) (u.dom d) else u := by
  simp only [shoreRefReturn, h, Bool.not_true, Bool.false_eq_true, if_false]
  rfl

/-! ### IEEE 1588 (R115 to R117) -/

section
variable {s : State} {d port : Nat} (hon : s.ptpOn d port = true)

/-- The port's PTP state is no part of what is known of the master. -/
theorem ptpPortState_keeps_master {st : Nat} : ((s.ptpPortState d port st).dom d).ptp.master = (s.dom d).ptp.master
    ∧ ((s.ptpPortState d port st).dom d).ptp.lastAnnounce = (s.dom d).ptp.lastAnnounce := by
  simp only [State.ptpPortState]
  split <;> simp only [dom_raiseState, ptp_setPtp, and_self]

@[simp] theorem ptp_noteLeap {positive negative : Bool} :
    ((s.noteLeap d positive negative).dom d).ptp = (s.dom d).ptp := by
  have hdom : (s.noteLeap d positive negative).dom d
      = (s.setDom d { s.dom d with leap61 := positive, leap59 := negative }).dom d := rfl
  rw [hdom, dom_setDom_same]

/-- The state in which domain `d` has taken `a` on `port` as its first master (R115). -/
def State.firstMaster (s : State) (d port : Nat) (a : Announce) : State :=
  ((s.setPtp d { (s.dom d).ptp with
    master := some (a, port), lastAnnounce := s.gtc, lastSync := s.gtc, syncWait := none }).setNum
      (Od.grandmasterIdentity + 256 * d) a.identity).raiseOcc (0x198 + d) 0x88 d 1 a.identity

theorem ptp_firstMaster {a : Announce} : ((s.firstMaster d port a).dom d).ptp = { (s.dom d).ptp with
    master := some (a, port), lastAnnounce := s.gtc, lastSync := s.gtc, syncWait := none } := by
  simp only [State.firstMaster, dom_raiseOcc, dom_setNum, ptp_setPtp]

/-- What follows the choice of a master whose Announce carries neither UTC nor a leap second. -/
def State.slaveWithoutUtc (s : State) (d port : Nat) : State :=
  ((s.ptpPortState d port 2).setDom d { (s.ptpPortState d port 2).dom d with utcValid := false }).noteLeap d false false

theorem slaveWithoutUtc_keeps_master : ((s.slaveWithoutUtc d port).dom d).ptp.master = (s.dom d).ptp.master
    ∧ ((s.slaveWithoutUtc d port).dom d).ptp.lastAnnounce = (s.dom d).ptp.lastAnnounce := by
  simpa only [State.slaveWithoutUtc, ptp_noteLeap, dom_setDom_same] using ptpPortState_keeps_master

include hon

/-- A slave-only domain without a master takes the sender of any Announce. -/
theorem ptpMessage_of_first_announce {p1 cc ac va p2 idt st : Nat} {utc : Int} (hnone : (s.dom d).ptp.master = none)
    (hslave : s.num (Od.ptpSlaveOnly + 256 * d) = 1) :
    ptpMessage d port (.announce p1 cc ac va p2 idt st utc false false false) s
      = (s.firstMaster d port ⟨p1, cc, ac, va, p2, idt, st⟩).slaveWithoutUtc d port := by
  simp [ptpMessage, hon, hnone, hslave, State.firstMaster, State.slaveWithoutUtc]

theorem ptpMessage_of_two_step_sync {a : Announce} {sq : Nat} {origin corr : Int}
    (hmaster : (s.dom d).ptp.master = some (a, port)) :
    ptpMessage d port (.sync sq true origin corr) s = s.setPtp d
      { (s.dom d).ptp with lastSync := s.gtc, syncWait := some (sq, s.gtc, corr) } := by
  simp [ptpMessage, hon, hmaster]

theorem ptpMessage_of_pdelayReq {sq t1 : Nat} {corr : Int} (hpeer : s.ptpPeer d = true) :
    ptpMessage d port (.pdelayReq sq t1 corr) s = s.emit (.ptp d port 3 sq 0) := by
  simp [ptpMessage, hon, hpeer]

theorem ptpSend_announce_of_first (hstate : tabGet 0 (s.dom d).ptp.portStates port = 3)
    (hfirst : tabGet 0 (s.dom d).ptp.sent (port * 8 + 1) = 0) :
    ptpSend d port 1 s = (s.setPtp d { (s.dom d).ptp with
      seq := ((s.dom d).ptp.seq + 1) % 65536, sent := tabSet 0 (s.dom d).ptp.sent (port * 8 + 1) s.gtc }).emit
        (.ptp d port 1 (s.dom d).ptp.seq 0) := by
  simp [ptpSend, hon, hstate, hfirst]

end

theorem ptpSourceLost_of_late {s : State} {d : Nat} (hrun : (s.dom d).state ≠ 0)
    (hmaster : (s.dom d).ptp.master.isSome = true)
    (hlate : (s.dom d).ptp.lastAnnounce + (s.ptpIntervals d).2.2.2 * (s.ptpIntervals d).2.1 ≤ s.gtc
      ∨ (s.dom d).ptp.lastSync + 3 * (s.ptpIntervals d).1 ≤ s.gtc) :
    ptpSourceLost d s = (s.setPtp d { (s.dom d).ptp with master := none, syncWait := none }).loseSource d 1 :=
  if_pos ⟨hrun, hmaster, hlate⟩

/-! ### Source selection and holdover (R114, R129) -/

/-- The first source of SourcePriority is not the active one and has stayed qualified for 10 s. -/
theorem sourceSwitch_of_qualified {s : State} {d n g : Nat} (hrun : (s.dom d).state ≠ 0) (hactive : (s.dom d).source ≠ 0)
    (hfirst : (s.sourceList d).head? = some n) (hother : n ≠ (s.dom d).source)
    (hsince : ((s.dom d).src n).since = some g) (hstayed : g + 10000000000 ≤ s.gtc) :
    sourceSwitch d s = s.activate d n := by
  obtain ⟨l, hlist⟩ := List.head?_eq_some_iff.mp hfirst
  simp [sourceSwitch, hlist, hother, hsince, hstayed, hrun, hactive]

theorem holdoverLimitExceeded_of_beyond {s : State} {d : Nat} (hhold : (s.dom d).state = 4)
    (hbeyond : s.num (Od.holdoverLimit + 256 * d) < s.domErrorAt d s.gtc) :
    holdoverLimitExceeded d s = (s.domEnter d 5 (s.dom d)).raiseState (0x190 + d) 0x88 d 4 5 0 0 :=
  if_pos ⟨hhold, hbeyond⟩

/-! ### PPS and IRIG-B (R118 to R120) -/

theorem ppsInEdge_of_first {s : State} (hlast : s.time.ppsLast = none) (hlabel : s.time.irigLabel = none) :
    ppsInEdge s = (s.withTime fun x => { x with ppsLast := some s.gtc, ppsOutliers := 0 }).ppsState 1 := by
  simp only [ppsInEdge, hlast, hlabel, Bool.false_eq_true, if_false, State.withTime]

theorem ppsInTimeout_of_late {s : State} {p : Nat} (hlast : s.time.ppsLast = some p) (hlate : p + 1500000000 ≤ s.gtc) :
    ppsInTimeout s = ((s.withTime fun x => { x with ppsLast := none, ppsOutliers := 0 }).ppsState 0).eachDom
      fun d u => u.loseSource d 2 := by
  simp only [ppsInTimeout, hlast, Nat.not_lt.mpr hlate, if_false, State.withTime]

/-- A decoded frame labels the second, and without PPS_IN its marker measures the domains. -/
theorem irigFrame_of_decoded {s : State} {f : IrigFrame} {m : Nat} (hmod : f.modulated = false)
    (hframing : f.framingError = false) (hparity : f.parityError = false) (hcode : f.code < 8)
    (hany : s.num Od.irigFormat = 0) (hplain : s.num Od.irig1344 ≠ 1) (hlast : s.time.ppsLast = none) :
    irigFrame f m s = ((s.withTime fun x => { x with irigBad := 0, irigLabel := some (f, m) }).irigSt 1).irigMeasure
      f m m 1000 := by
  simp [irigFrame, hmod, hframing, hparity, hany, hplain, hlast, hcode, State.withTime]

/-- The third bad frame in a row withdraws source 2. -/
theorem irigFrame_of_third_bad {s : State} {f : IrigFrame} {m : Nat} (hmod : f.modulated = true)
    (hbad : s.time.irigBad = 2) :
    irigFrame f m s = (((s.count32 Od.irigFramesDiscarded).irigSt 2).withTime fun x =>
      { x with irigBad := 0, irigLabel := none }).eachDom fun d u => u.loseSource d 2 := by
  simp [irigFrame, hmod, hbad, State.withTime]

/-! ### Leap seconds (R119) -/

/-- The domain `d` after its leap second: TaiUtcOffset moved by one, and the announcement taken back. -/
def State.leapt (s : State) (d : Nat) (neg : Bool) : State :=
  ((s.setNum (Od.taiUtcOffset + 256 * d)
    (ofInt 32 (toInt 32 (s.num (Od.taiUtcOffset + 256 * d)) + (if neg then -1 else 1)))).setDom d
      { s.dom d with leap61 := false, leap59 := false }).withTime fun x => { x with leap := tabSet none x.leap d none }

theorem leapSecond_of_reached {s : State} {d sec : Nat} {neg : Bool} (hleap : tabGet none s.time.leap d = some (neg, sec))
    (hreached : sec ≤ s.domTime d s.gtc / 2 ^ 48) : leapSecond d s = s.leapt d neg := by
  simp only [leapSecond, hleap, Nat.not_lt.mpr hreached, if_false]
  rfl

theorem leapt_offset {s : State} {d : Nat} {neg : Bool} : (s.leapt d neg).num (Od.taiUtcOffset + 256 * d)
    = ofInt 32 (toInt 32 (s.num (Od.taiUtcOffset + 256 * d)) + (if neg then -1 else 1)) :=
  num_setNum_same ..

theorem dom_leapt {s : State} {d : Nat} {neg : Bool} :
    (s.leapt d neg).dom d = { s.dom d with leap61 := false, leap59 := false } :=
  dom_setDom_same

theorem leapt_leap {s : State} {d : Nat} {neg : Bool} : tabGet none (s.leapt d neg).time.leap d = none := by
  have hleap : (s.leapt d neg).time.leap = tabSet none s.time.leap d none := rfl
  rw [hleap, tabGet_set_same]

/-- Settles O5: each clause is the lemma about its event. -/
theorem timeReferencesAndSources : Obligations.TimeReferencesAndSources := by
  unfold Obligations.TimeReferencesAndSources
  refine ⟨?lost, ?back, ?announce, ?sync, ?pdelay, ?silent, ?send, ?switch, ?holdover, ?pps, ?irig, ?badFrame, ?noPps, ?leap⟩
  case lost =>
    intro s h
    rw [exec_shoreRefLost, execShoreRefLost, refLost_of_served h]
  case back =>
    intro s h
    rw [exec_shoreRefReturn, execShoreRefReturn, shoreRefReturn_of_backup h]
  case announce =>
    intro s d port p1 cc ac va p2 idt st hon hnone hslave
    refine ⟨(s.firstMaster d port ⟨p1, cc, ac, va, p2, idt, st⟩).slaveWithoutUtc d port, ?_, ?_⟩
    · rw [exec_ptpMessageReceive, execPtpMessageReceive, ptpMessage_of_first_announce hon hnone hslave]
    · rw [slaveWithoutUtc_keeps_master.1, slaveWithoutUtc_keeps_master.2, ptp_firstMaster]
      exact ⟨rfl, rfl⟩
  case sync =>
    intro s d port sq origin corr a hon hmaster
    rw [exec_ptpMessageReceive, execPtpMessageReceive, ptpMessage_of_two_step_sync hon hmaster]
  case pdelay =>
    intro s d port sq t1 corr hon hpeer
    rw [exec_ptpMessageReceive, execPtpMessageReceive, ptpMessage_of_pdelayReq hon hpeer]
  case silent =>
    intro s d hrun hmaster hlate
    rw [exec_ptpSourceLost, execPtpSourceLost, ptpSourceLost_of_late hrun hmaster hlate]
  case send =>
    rintro s d port _ hon rfl hstate hfirst
    rw [exec_ptpMessageSend, execPtpMessageSend, ptpSend_announce_of_first hon hstate hfirst]
  case switch =>
    intro s d n g hrun hactive hfirst hother hsince hstayed
    rw [exec_sourceSwitch, execSourceSwitch, sourceSwitch_of_qualified hrun hactive hfirst hother hsince hstayed]
  case holdover =>
    intro s d hhold hbeyond
    rw [exec_holdoverLimitExceeded, execHoldoverLimitExceeded, holdoverLimitExceeded_of_beyond hhold hbeyond]
  case pps =>
    intro s hlast hlabel
    rw [exec_ppsInEdge, execPpsInEdge, ppsInEdge_of_first hlast hlabel]
  case irig =>
    intro s f m hmod hframing hparity hcode hany hplain hlast
    rw [exec_irigFrame, execIrigFrame, irigFrame_of_decoded hmod hframing hparity hcode hany hplain hlast]
  case badFrame =>
    intro s f m hmod hbad
    rw [exec_irigFrame, execIrigFrame, irigFrame_of_third_bad hmod hbad]
  case noPps =>
    intro s p hlast hlate
    rw [exec_ppsInTimeout, execPpsInTimeout, ppsInTimeout_of_late hlast hlate]
  case leap =>
    intro s d neg sec hleap hreached
    refine ⟨s.leapt d neg, ?_, leapt_offset, ?_, ?_, leapt_leap⟩
    · rw [exec_leapSecond, execLeapSecond, leapSecond_of_reached hleap hreached]
    · rw [dom_leapt]
    · rw [dom_leapt]

end Sys2Proof.Machine
end

section
/-! PROOFS. Steps of a domain, its enable, and pair trim (Chapter 3; R114, R122, R123, R133, R136, R148). -/

namespace Sys2Proof.Machine

/-! ### Announcing and cancelling a step (R133, R136) -/

section
variable {s : State} {who : Caller} {d : Nat}

theorem setTime_of_checked {time : Nat} (hlets : s.lets who (Od.domainSetTime + 256 * d) false 0 (.num time) = true)
    (hidle : (s.dom d).step = none) (hrun : (s.dom d).state ≠ 0) (hsource : (s.dom d).source = 0)
    (hplain : s.protectionDom d = false) :
    setTime who d time s = .ok (s.announceStep d 1 (valueOfTime time / 2 ^ 32)) := by
  have hrun : ((s.dom d).state != 0) = true := bne_iff_ne.mpr hrun
  simp only [setTime, lets_ok hlets, hidle, hrun, hsource, hplain, Option.isNone_none, beq_self_eq_true, Bool.false_and,
    Bool.not_false, Bool.and_self, need_true, ok_bind]

theorem domainStep_of_checked {amount : Int}
    (hlets : s.lets who (Od.domainStep + 256 * d) false 0 (.num (ofInt 64 amount)) = true) (hamount : amount ≠ 0)
    (hidle : (s.dom d).step = none) (hrun : (s.dom d).state ≠ 0) (hsource : (s.dom d).source = 0) :
    domainStep who d amount s = .ok (s.announceStep d 0 amount) := by
  have hamount : (amount != 0) = true := bne_iff_ne.mpr hamount
  have hrun : ((s.dom d).state != 0) = true := bne_iff_ne.mpr hrun
  simp only [domainStep, lets_ok hlets, hamount, hidle, hrun, hsource, Option.isNone_none, beq_self_eq_true,
    Bool.and_self, need_true, ok_bind]

theorem stepToReference_of_qualified {v n : Nat}
    (hlets : s.lets who (Od.domainStepToReference + 256 * d) false 0 (.num v) = true) (hidle : (s.dom d).step = none)
    (hbest : s.bestSource d = some n) :
    stepToReference who d v s = .ok (s.announceStep d 2 (-((s.dom d).src n).offset)) := by
  simp only [stepToReference, lets_ok hlets, hidle, hbest, Option.isNone_none, need_true, ok_bind]

section
variable {v : Nat} {p : StepPending} (hlets : s.lets who (Od.domainStepCancel + 256 * d) false 0 (.num v) = true)
  (hstep : (s.dom d).step = some p)
include hlets hstep

theorem stepCancel_of_early (hearly : s.gtc + 2000 ≤ p.g) : stepCancel who d v s = .ok (s.cancelStep d) := by
  simp only [stepCancel, lets_ok hlets, hstep, Nat.not_lt.mpr hearly, if_false, ok_bind]

theorem stepCancel_of_late (hlate : p.g < s.gtc + 2000) : stepCancel who d v s = .error .precondition := by
  simp only [stepCancel, lets_ok hlets, hstep, hlate, if_true, ok_bind]

end

end

/-! ### The step takes effect (R133, R136) -/

@[simp] theorem dom_cancelStep {s : State} {d : Nat} : (s.cancelStep d).dom d = { s.dom d with step := none } := by
  simp only [State.cancelStep, dom_raiseOcc, dom_setDom_same]

section
variable {s : State} {d : Nat} {p : StepPending} (hstep : (s.dom d).step = some p) (hdue : p.g ≤ s.gtc)
include hstep hdue

theorem dom_stepApply_of_due (hkind : p.kind ≠ 2) :
    (stepApply d s).dom d = ({ s.dom d with
      step := none, stepCount := ((s.dom d).stepCount + 1) % 2 ^ 32 } : Dom).issue p.g (p.amount * 2 ^ 32) := by
  simp only [stepApply, hstep, Nat.not_lt.mpr hdue, hkind, false_and, if_false, dom_raiseOcc, dom_setDom_same]

theorem stepApply_of_no_source (hkind : p.kind = 2) (hbest : s.bestSource d = none) : stepApply d s = s.cancelStep d := by
  simp only [stepApply, hstep, Nat.not_lt.mpr hdue, hkind, hbest, Option.isNone_none, and_self, if_true, if_false]

end

theorem stepAll_of_counted {s : State} {d : Nat} {p : StepPending} (hstep : (s.dom d).step = some p)
    (hcount : ((stepApply d s).dom d).stepCount ≠ (s.dom d).stepCount) :
    stepAll d s = ((stepApply d s).restartSettling d ((s.dom d).valueAt p.g) (((stepApply d s).dom d).valueAt p.g)).scanStep d
      ((s.dom d).valueAt p.g) (((stepApply d s).dom d).valueAt p.g) := by
  simp only [stepAll, hstep, hcount, if_false]

theorem stepAll_of_not_counted {s : State} {d : Nat} {p : StepPending} (hstep : (s.dom d).step = some p)
    (hcount : ((stepApply d s).dom d).stepCount = (s.dom d).stepCount) : stepAll d s = stepApply d s := by
  simp only [stepAll, hstep, hcount, if_true]

/-! ### Putting a domain into force (R116, R148) -/

section
variable {s : State} {who : Caller} {d : Nat}

theorem domainEnable_of_free (hlets : s.lets who (Od.domainEnable + 256 * d) false 0 (.num 1) = true)
    (hfree : s.ptpPairFree d (s.num (Od.ptpProfile + 256 * d)) (s.num (Od.ptpDomainNumber + 256 * d)) = true)
    (hoff : (s.dom d).state = 0) :
    domainEnable who d 1 s = .ok ((((((s.applyDomainEnable d 1).thawStreams d).regridFilters d).rejoinDomain
      d).captureAll).bumpVersion (Od.domainEnable + 256 * d) 0) := by
  simp only [domainEnable, State.checkDomainEnable, State.enableDomain, lets_ok hlets, hfree, hoff, Bool.or_true,
    beq_self_eq_true, Bool.true_or, need_true, ok_bind, and_self, if_true]

theorem domainEnable_of_unused (hlets : s.lets who (Od.domainEnable + 256 * d) false 0 (.num 0) = true)
    (hunused : s.domUsers d = []) (hrun : (s.dom d).state ≠ 0) :
    domainEnable who d 0 s = .ok (((s.freezeStreams d).applyDomainEnable d 0).bumpVersion (Od.domainEnable + 256 * d) 0) := by
  simp only [domainEnable, State.checkDomainEnable, State.enableDomain, lets_ok hlets, hunused, hrun, List.isEmpty_nil,
    Bool.or_true, beq_self_eq_true, Bool.true_or, need_true, ok_bind, and_false, true_and, ne_eq, not_false_eq_true,
    if_false, if_true]

end

/-! ### Pair trim (R122, R123) -/

/-- A Locked domain does not steer to a peer in FreeRun, and the offset from it raises no flag. -/
theorem pairOffsetMeasure_of_locked {s : State} {d : Nat} {off : Int} {peerTrim : Bool} (hother : d ≠ s.num Od.pairDomain)
    (hlocked : (s.dom d).state = 3) (htrim : s.num (Od.pairTrim + 256 * d) = 1) :
    pairOffsetMeasure d off 1 peerTrim s = s.setDom d { s.dom d with pairOffset := off } := by
  simp [pairOffsetMeasure, hother, hlocked, htrim, trimRank]

/-- Settles O6: each write is answered with what its lemma gives, and a due step is applied or withdrawn. -/
theorem domainStepsAndEnable : Obligations.DomainStepsAndEnable := by
  unfold Obligations.DomainStepsAndEnable
  refine ⟨?setTime, ?step, ?toReference, ?cancel, ?tooLate, ?apply, ?withdraw, ?enable, ?disable, ?trim⟩
  case setTime =>
    intro s who d time hlets hidle hrun hsource hplain
    rw [exec_domainSetTime, execDomainSetTime, setTime_of_checked hlets hidle hrun hsource hplain, answer_ok]
  case step =>
    intro s who d amount hlets hamount hidle hrun hsource
    rw [exec_domainStep, execDomainStep, domainStep_of_checked hlets hamount hidle hrun hsource, answer_ok]
  case toReference =>
    intro s who d n hlets hidle hbest
    rw [exec_domainStepToReference, execDomainStepToReference, stepToReference_of_qualified hlets hidle hbest, answer_ok]
  case cancel =>
    intro s who d p hlets hstep hearly
    rw [exec_domainStepCancel, execDomainStepCancel, stepCancel_of_early hlets hstep hearly, answer_ok]
  case tooLate =>
    intro s who d p hlets hstep hlate
    rw [exec_domainStepCancel, execDomainStepCancel, stepCancel_of_late hlets hstep hlate, answer_error]
  case apply =>
    intro s d p hstep hdue hkind hroom
    have hdom := dom_stepApply_of_due hstep hdue hkind
    have hcount : ((stepApply d s).dom d).stepCount = (s.dom d).stepCount + 1 := by
      rw [hdom]
      exact Nat.mod_eq_of_lt (by omega)
    refine ⟨stepApply d s, rfl, by rw [hdom, Dom.issue], hcount, ?_⟩
    rw [exec_stepApply, execStepApply, stepAll_of_counted hstep (by omega)]
  case withdraw =>
    intro s d p hstep hdue hkind hbest
    have hcancel := stepApply_of_no_source hstep hdue hkind hbest
    rw [exec_stepApply, execStepApply, stepAll_of_not_counted hstep (by rw [hcancel, dom_cancelStep]), hcancel]
  case enable =>
    intro s who d hlets hfree hoff
    rw [exec_domainEnable, execDomainEnable, domainEnable_of_free hlets hfree hoff, answer_ok]
  case disable =>
    intro s who d hlets hunused hrun
    rw [exec_domainEnable, execDomainEnable, domainEnable_of_unused hlets hunused hrun, answer_ok]
  case trim =>
    rintro s d off _ hother hlocked rfl htrim
    rw [exec_pairOffsetMeasure, execPairOffsetMeasure, pairOffsetMeasure_of_locked hother hlocked htrim]

end Sys2Proof.Machine
end

section
/-! PROOFS. The time page, pulse generators and PPS outputs (Chapter 3; R137 to R144). -/

namespace Sys2Proof.Machine

/-! ### The time page (R137 to R139) -/

theorem gtcLoRead_eq (r : Nat) (s : State) :
    gtcLoRead r s = (s.latched r { tabGet TimeLatch.init s.time.latches r with
      gtcHi := s.stamp (readerDie r) / 2 ^ 32 % 2 ^ 32, gtcFlags := s.gtcFlags (readerDie r) }).emit
      (.readData (s.stamp (readerDie r) % 2 ^ 32)) := rfl

/-- What reader `r` has latched once its read of DomSecLo of domain `d` has latched the domain's block. -/
def State.blockLatch (s : State) (r d : Nat) : TimeLatch :=
  { tabGet TimeLatch.init s.time.latches r with
    blocks := tabSet .init (tabGet TimeLatch.init s.time.latches r).blocks d (s.timeBlock d (s.stamp (readerDie r))) }

theorem domSecLoRead_eq (r d : Nat) (s : State) :
    domSecLoRead r d s = (s.latched r (s.blockLatch r d)).emit
      (.readData (s.domTime d (s.stamp (readerDie r)) / 2 ^ 48 % 2 ^ 32)) := rfl

theorem latch_latched {s : State} {r : Nat} {l : TimeLatch} : tabGet .init (s.latched r l).time.latches r = l := by
  rw [State.latched, tabGet_set_same]

theorem block_blockLatch {s : State} {r d : Nat} :
    tabGet .init (s.blockLatch r d).blocks d = s.timeBlock d (s.stamp (readerDie r)) := by
  rw [State.blockLatch, tabGet_set_same]

theorem snapAllTrigger_eq (r : Nat) (s : State) :
    snapAllTrigger r s = s.snapped r ⟨true, s.stamp (readerDie r), s.gtcFlags (readerDie r),
      (numbersFrom 0 8).map fun d => timeParts (s.domTime d (s.stamp (readerDie r)))⟩ := rfl

/-! ### Pulse generators (R140 to R143) -/

section
variable {s : State} {who : Caller} {n : Nat}

theorem pgPin_of_events_only (h : s.pgNum Od.pgTarget n = 0xFF) : s.pgPin n = none := by
  simp [State.pgPin, h]

theorem pgArm_of_checked (hlets : s.lets who (Od.pgArm + 256 * n) false 0 (.num 1) = true)
    (hheld : s.tenantHolds who 0x08 n = true) (hpin : s.pgPin n = none)
    (hahead : (s.dom (s.pgNum Od.pgDomain n)).valueAt s.gtc + 20000 * 2 ^ 48 ≤ valueOfTime (s.pgNum Od.pgStart n))
    (hlock : s.pgNum Od.pgRequireLock n = 0)
    (hwidth : s.pgNum Od.pgPeriod n = 0 ∨ s.pgNum Od.pgWidth n * 32768 < s.pgNum Od.pgPeriod n) :
    pgArm who n s = .ok (s.setGen n { s.gen n with state := 1, next := 0, since := s.gtc }) := by
  have hwidth : (s.pgNum Od.pgPeriod n == 0 || decide (s.pgNum Od.pgWidth n * 32768 < s.pgNum Od.pgPeriod n)) = true := by
    simpa using hwidth
  simp only [pgArm, lets_ok hlets, hheld, hpin, hahead, hlock, hwidth, decide_true, beq_self_eq_true, Bool.true_or,
    need_true, ok_bind]

theorem pgArm_of_late (hlets : s.lets who (Od.pgArm + 256 * n) false 0 (.num 1) = true)
    (hheld : s.tenantHolds who 0x08 n = true)
    (hlate : valueOfTime (s.pgNum Od.pgStart n) < (s.dom (s.pgNum Od.pgDomain n)).valueAt s.gtc + 20000 * 2 ^ 48) :
    pgArm who n s = .error .timeInPast := by
  simp only [pgArm, lets_ok hlets, hheld, Int.not_le.mpr hlate, decide_false, need_true, need_false, ok_bind, error_bind]

theorem pgDisarm_of_checked (hlets : s.lets who (Od.pgArm + 256 * n) false 0 (.num 2) = true)
    (hheld : s.tenantHolds who 0x08 n = true) : pgDisarm who n s = .ok (s.setGen n { s.gen n with state := 0 }) := by
  simp only [pgDisarm, lets_ok hlets, hheld, need_true, ok_bind]

/-- An edge of a generator without end and without events, at its half-nanosecond instant. -/
theorem pgEdge_of_due {h : Nat} (harmed : (s.gen n).state = 1 ∨ (s.gen n).state = 2)
    (hplace : (s.dom (s.pgNum Od.pgDomain n)).place (s.gen n).since (s.pgEdgeValue n (s.gen n).next) = some (h, false))
    (hdue : h ≤ 2 * s.gtc) (hsilent : s.pgNum Od.pgEvents n = 0) (hendless : s.pgTotal n = none) :
    pgEdge n s = ((s.setGen n { s.gen n with
      next := (s.gen n).next + 1, edges := ((s.gen n).edges + 1) % 2 ^ 48, state := 2,
      pulseEnd := some (h + s.pgNum Od.pgWidth n), since := h / 2 }).pgLevel n true).notePins := by
  simp [pgEdge, harmed, hplace, Nat.not_lt.mpr hdue, hsilent, hendless]

theorem pgPulseEnd_of_due {h : Nat} (hend : (s.gen n).pulseEnd = some h) (hdue : h ≤ 2 * s.gtc) :
    pgPulseEnd n s = ((s.setGen n { s.gen n with pulseEnd := none }).pgLevel n false).notePins := by
  simp only [pgPulseEnd, hend, Nat.not_lt.mpr hdue, if_false]

end

/-! ### PPS outputs (R144) -/

theorem ppsOutEdge_of_locked {s : State} {k : Nat} (hdom : s.num (Od.ppsOutDomain + 256 * k) < 8)
    (hlocked : (s.dom (s.num (Od.ppsOutDomain + 256 * k))).state = 3)
    (hsecond : s.secondNow (s.num (Od.ppsOutDomain + 256 * k)) = true) :
    ppsOutEdge k s = s.setPps k ⟨true, s.gtc + s.num (Od.ppsOutWidth + 256 * k)⟩ := by
  simp only [ppsOutEdge, hdom, hlocked, hsecond, beq_self_eq_true, Bool.true_or, and_self, if_true]

theorem ppsOutPulseEnd_of_due {s : State} {k : Nat} (hactive : (tabGet PpsOut.init s.time.pps k).active = true)
    (hdue : (tabGet PpsOut.init s.time.pps k).until_ ≤ s.gtc) :
    ppsOutPulseEnd k s = s.setPps k ⟨false, (tabGet PpsOut.init s.time.pps k).until_⟩ :=
  if_pos ⟨hactive, hdue⟩

/-- Settles O7: reads latch what their equations say, writes of PgArm are answered, and each edge is its lemma. -/
theorem timePageAndPulses : Obligations.TimePageAndPulses := by
  unfold Obligations.TimePageAndPulses
  refine ⟨?gtcLo, ?domSecLo, ?trigger, ?arm, ?late, ?disarm, ?edge, ?pulseEnd, ?pps, ?ppsEnd⟩
  case gtcLo =>
    intro s r
    rw [exec_gtcLoRead, execGtcLoRead, gtcLoRead_eq]
  case domSecLo =>
    intro s r d
    refine ⟨domSecLoRead r d s, by rw [exec_domSecLoRead, execDomSecLoRead], ?_, rfl⟩
    rw [domSecLoRead_eq, State.emit, latch_latched, block_blockLatch]
  case trigger =>
    intro s r
    rw [exec_snapAllTrigger, execSnapAllTrigger, snapAllTrigger_eq]
  case arm =>
    intro s who n hlets hheld htarget hahead hlock hwidth
    rw [exec_pgArm, execPgArm, pgArm_of_checked hlets hheld (pgPin_of_events_only htarget) hahead hlock hwidth, answer_ok]
  case late =>
    intro s who n hlets hheld hlate
    rw [exec_pgArm, execPgArm, pgArm_of_late hlets hheld hlate, answer_error]
  case disarm =>
    intro s who n hlets hheld
    rw [exec_pgDisarm, execPgDisarm, pgDisarm_of_checked hlets hheld, answer_ok]
  case edge =>
    intro s n h harmed hplace hdue hsilent hendless
    rw [exec_pgEdge, execPgEdge, pgEdge_of_due harmed hplace hdue hsilent hendless]
  case pulseEnd =>
    intro s n h hend hdue
    rw [exec_pgPulseEnd, execPgPulseEnd, pgPulseEnd_of_due hend hdue]
  case pps =>
    intro s k hdom hlocked hsecond
    rw [exec_ppsOutEdge, execPpsOutEdge, ppsOutEdge_of_locked hdom hlocked hsecond]
  case ppsEnd =>
    intro s k hactive hdue
    rw [exec_ppsOutPulseEnd, execPpsOutPulseEnd, ppsOutPulseEnd_of_due hactive hdue]

end Sys2Proof.Machine
end

section
/-! PROOFS. Enable, mode, FEC, reset, counters and filters of a port (Chapter 4; R149, R151, R152, R155, R156, R166, R168, R171,
R185 to R188): what each write or action does once its checks let it through. -/

namespace Sys2Proof.Machine

/-! ### The objects of a port -/

@[simp] theorem pnum_setPnum_same {s : State} {id n v : Nat} : (s.setPnum id n v).pnum id n = v :=
  num_setNum_same s _ v 0

theorem pnum_setPnum_other {s : State} {id id' n v : Nat} (h : id' ≠ id) : (s.setPnum id n v).pnum id' n = s.pnum id' n :=
  num_setNum_other s _ v 0 _ 0 (by unfold objKey; omega)

@[simp] theorem pnum_setBucket {s : State} {k id n : Nat} {b : Bucket} : (s.setBucket k b).pnum id n = s.pnum id n := rfl

/-- The objects of a port are no part of the switch. -/
theorem pnum_withSw {s : State} {x : SwitchSt} {id n : Nat} : ({ s with sw := x } : State).pnum id n = s.pnum id n := rfl

@[simp] theorem pnum_setCharge {s : State} {k m id n : Nat} {c : Nat × Nat} : (s.setCharge k m c).pnum id n = s.pnum id n := rfl

theorem bucket_setBucket {s : State} {j k : Nat} {b : Bucket} :
    (s.setBucket k b).bucket j = if j = k then b else s.bucket j := tabGet_set _ _ _ _ _

theorem setBucket_setBucket {s : State} {j k : Nat} {b c : Bucket} : (s.setBucket j b).setBucket k c
    = { s with sw := { s.sw with buckets := tabSet .init (tabSet .init s.sw.buckets j b) k c } } := rfl

/-- A bucket that holds a burst of `b` bytes now. -/
def State.fullBucket (s : State) (b : Nat) : Bucket := ⟨(b * 8000000000 : Nat), s.gtc⟩

/-! ### Enable, mode and FEC (R149, R151, R152, R156) -/

section
variable {s : State} {who : Caller} {n v : Nat}

theorem portEnableWrite_of_checked (hlets : s.letsForm who (Od.portEnable + 256 * n) false 0 (.num v) = true)
    (hcheck : s.checkPortEnable who n v = .ok ()) :
    portEnableWrite who n v s = .ok ((s.applyPortEnable n v).bumpVersion (Od.portEnable + 256 * n) 0) := by
  obtain ⟨row, hgate⟩ := letsForm_ok hlets
  simp only [portEnableWrite, hgate, hcheck, ok_bind]

/-- A port without a mode is enabled, charged and its policer buckets filled (R222); there is nothing to bring up. -/
theorem applyPortEnable_of_no_mode (hoff : s.pnum Od.portEnable n = 0) (hmode : s.pnum Od.portMode n = 0) :
    s.applyPortEnable n 1 = (((s.setPnum Od.portEnable n 1).setCharge 0x01 n (portCharge 0)).setBucket (0x1000 + n)
      (s.fullBucket (s.pnum Od.policerBurst n))).setBucket (0x2000 + n) (s.fullBucket (s.pnum Od.floodBurst n)) := by
  have hkept {id : Nat} (h : id ≠ Od.portEnable) : (s.setPnum Od.portEnable n 1).pnum id n = s.pnum id n :=
    pnum_setPnum_other h
  simp only [State.applyPortEnable, hoff, hmode, pnum_withSw, pnum_setCharge, hkept (id := Od.portMode) (by decide),
    hkept (id := Od.policerBurst) (by decide), hkept (id := Od.floodBurst) (by decide), zero_ne_one, if_false, if_true,
    State.fullBucket]
  exact setBucket_setBucket.symm

theorem portModeWrite_of_disabled (hlets : s.letsForm who (Od.portMode + 256 * n) false 0 (.num v) = true)
    (hoff : s.portEnabled n = false) (hcheck : s.checkPortMode who n v = .ok ()) :
    portModeWrite who n v s = .ok ((s.applyPortMode n v).bumpVersion (Od.portMode + 256 * n) 0) := by
  obtain ⟨row, hgate⟩ := letsForm_ok hlets
  simp only [portModeWrite, hgate, hoff, hcheck, ok_bind, Bool.not_false, need_true]

theorem portModeWrite_of_enabled (hlets : s.letsForm who (Od.portMode + 256 * n) false 0 (.num v) = true)
    (hon : s.portEnabled n = true) : portModeWrite who n v s = .error .busy := by
  obtain ⟨row, hgate⟩ := letsForm_ok hlets
  simp only [portModeWrite, hgate, hon, ok_bind, Bool.not_true, need_false, error_bind]

theorem checkPort_ok (hheld : s.tenantPort who n = true) (hown : s.absorbed n = false) : s.checkPort who n = .ok () := by
  simp only [State.checkPort, hheld, hown, ok_bind, Bool.not_false, need_true]

theorem portEnabled_setPnum_portFec : (s.setPnum Od.portFec n v).portEnabled n = s.portEnabled n := by
  rw [State.portEnabled, pnum_setPnum_other (by decide), State.portEnabled]

theorem portFecWrite_of_disabled (hlets : s.letsForm who (Od.portFec + 256 * n) false 0 (.num v) = true)
    (hoff : s.portEnabled n = false) (hv : v ≤ 3) (hlisted : (modeFecs (s.pnum Od.portMode n)).contains v = true)
    (hheld : s.tenantPort who n = true) (hown : s.absorbed n = false) :
    portFecWrite who n v s = .ok ((s.setPnum Od.portFec n v).bumpVersion (Od.portFec + 256 * n) 0) := by
  obtain ⟨row, hgate⟩ := letsForm_ok hlets
  have hcheck : s.checkPortFec who n (s.pnum Od.portMode n) v = .ok () := by
    simp only [State.checkPortFec, hv, hlisted, checkPort_ok hheld hown, decide_true, Bool.and_self, need_true, ok_bind]
  have happly : s.applyPortFec n v = s.setPnum Od.portFec n v := by
    simp only [State.applyPortFec, portEnabled_setPnum_portFec, hoff, Bool.false_and, Bool.false_eq_true, if_false]
  simp only [portFecWrite, hgate, hoff, hcheck, happly, ok_bind, Bool.not_false, need_true]

end

/-! ### Reset (R166 to R168) -/

section
variable {s : State} {who : Caller} {n v : Nat} (hlets : s.lets who (Od.portReset + 256 * n) false 0 (.num v) = true)
  (hheld : s.tenantPort who n = true) (hidle : (s.portAt n).resetting = false) (hown : s.absorbed n = false)
include hlets hheld hidle hown

/-- The checks of a reset up to the one that only force passes. -/
theorem portReset_of_held : portReset who n v s = (do
    need (v == 2 || !s.portInUse n) .precondition
    .ok (if s.portEnabled n ∧ s.pnum Od.portMode n ≠ 0 ∧ s.portState n ≠ 1 then s.resetPort n else s)) := by
  simp only [portReset, lets_ok hlets, hheld, hidle, hown, ok_bind, Bool.not_false, need_true]

theorem portReset_of_free_or_forced (hmay : (v == 2 || !s.portInUse n) = true) (hon : s.portEnabled n = true)
    (hmode : s.pnum Od.portMode n ≠ 0) (hstate : s.portState n ≠ 1) : portReset who n v s = .ok (s.resetPort n) := by
  rw [portReset_of_held hlets hheld hidle hown, hmay, need_true, ok_bind, if_pos ⟨hon, hmode, hstate⟩]

theorem portReset_of_in_use (hforce : v ≠ 2) (huse : s.portInUse n = true) :
    portReset who n v s = .error .precondition := by
  rw [portReset_of_held hlets hheld hidle hown, beq_eq_false_iff_ne.mpr hforce, huse, Bool.not_true, Bool.or_self,
    need_false, error_bind]

end

/-! ### Counters and filters (R171, R185 to R188) -/

section
variable {s : State} {who : Caller} {n v : Nat}

theorem portSnapshot_of_held (hlets : s.lets who (Od.portCounterSnapshot + 256 * n) false 0 (.num v) = true)
    (hheld : s.tenantPort who n = true) : portSnapshot who n v s = .ok (s.snapshotPort n) := by
  simp only [portSnapshot, lets_ok hlets, hheld, ok_bind, need_true]

theorem allPortSnapshot_of_lets (hlets : s.lets who Od.allPortSnapshot false 0 (.num v) = true) :
    allPortSnapshot who v s = .ok ((numbersFrom 0 256).foldl (fun u n => u.snapshotPort n) s) := by
  simp only [allPortSnapshot, lets_ok hlets, ok_bind]

theorem portClear_of_lets (hlets : s.lets who (Od.portCounterClear + 256 * n) false 0 (.num v) = true) :
    portClear who n v s = .ok (s.clearPort n) := by
  simp only [portClear, lets_ok hlets, ok_bind]

/-- An entry with bit 48 clear is disabled, so that it repeats no other one's address. -/
theorem checkFilter_of_disabled {slot : Nat} (hv : v < 2 ^ 48) (hheld : s.tenantPort who n = true)
    (hown : s.absorbed n = false) : s.checkFilter who n slot v = .ok () := by
  have hfits : v < 2 ^ 50 := by omega
  have hdisabled : filterEnabled v = false := Nat.testBit_lt_two_pow hv
  simp only [State.checkFilter, hfits, hdisabled, hheld, hown, ok_bind, decide_true, Bool.false_and, Bool.not_false, need_true]

theorem filterWrite_of_checked {slot : Nat} (hlets : s.letsForm who (Od.filterEntry + 256 * n + slot) false 0 (.num v) = true)
    (hcheck : s.checkFilter who n slot v = .ok ()) :
    filterWrite who n slot v s = .ok ((s.setNum (Od.filterEntry + 256 * n + slot) v).bumpVersion
      (Od.filterEntry + 256 * n + slot) 0) := by
  obtain ⟨row, hgate⟩ := letsForm_ok hlets
  simp only [filterWrite, hgate, hcheck, ok_bind]

end

/-- Settles O8: each write or action is answered with what its lemma gives; an enabled port without a mode reads as its
equation says. -/
theorem portConfiguration : Obligations.PortConfiguration := by
  unfold Obligations.PortConfiguration
  refine ⟨?enable, ?enabled, ?mode, ?modeBusy, ?fec, ?reset, ?inUse, ?forced, ?snapshot, ?snapshots, ?clear, ?filter⟩
  case enable =>
    intro s who n v hlets hcheck
    rw [exec_portEnable, execPortEnable, portEnableWrite_of_checked hlets hcheck, answer_ok]
  case enabled =>
    intro s n hoff hmode
    have hkeys : 0x1000 + n.val ≠ 0x2000 + n.val := by omega
    refine ⟨_, applyPortEnable_of_no_mode hoff hmode, ?_, ?_, ?_⟩
    · simp only [pnum_setBucket, pnum_setCharge, pnum_setPnum_same]
    · simp only [bucket_setBucket, hkeys, if_false, if_true, State.fullBucket]
    · simp only [bucket_setBucket, if_true, State.fullBucket]
  case mode =>
    intro s who n v hlets hoff hcheck
    rw [exec_portMode, execPortMode, portModeWrite_of_disabled hlets hoff hcheck, answer_ok]
  case modeBusy =>
    intro s who n v hlets hon
    rw [exec_portMode, execPortMode, portModeWrite_of_enabled hlets hon, answer_error]
  case fec =>
    intro s who n v hlets hoff hv hlisted hheld hown
    rw [exec_portFec, execPortFec, portFecWrite_of_disabled hlets hoff hv hlisted hheld hown, answer_ok]
  case reset =>
    intro s who n hlets hheld hidle hown hfree hon hmode hstate
    rw [exec_portReset, execPortReset,
      portReset_of_free_or_forced hlets hheld hidle hown (by rw [hfree]; rfl) hon hmode hstate, answer_ok]
  case inUse =>
    intro s who n hlets hheld hidle hown huse
    rw [exec_portReset, execPortReset, portReset_of_in_use hlets hheld hidle hown (by decide) huse, answer_error]
  case forced =>
    intro s who n hlets hheld hidle hown hon hmode hstate
    rw [exec_portResetForced, execPortResetForced,
      portReset_of_free_or_forced hlets hheld hidle hown rfl hon hmode hstate, answer_ok]
  case snapshot =>
    intro s who n hlets hheld
    rw [exec_portCounterSnapshot, execPortCounterSnapshot, portSnapshot_of_held hlets hheld, answer_ok]
  case snapshots =>
    intro s who hlets
    rw [exec_allPortSnapshot, execAllPortSnapshot, allPortSnapshot_of_lets hlets, answer_ok]
  case clear =>
    intro s who n hlets
    rw [exec_portCounterClear, execPortCounterClear, portClear_of_lets hlets, answer_ok]
  case filter =>
    intro s who n k v hlets hv hheld hown
    rw [exec_filterEntryWrite, execFilterEntryWrite, filterWrite_of_checked hlets (checkFilter_of_disabled hv hheld hown),
      answer_ok]

end Sys2Proof.Machine
end

section
/-! PROOFS. What each event of a port, its PLL and its frames does (Chapter 4; R150, R151, R160 to R164, R174, R176, R177,
R190). -/

namespace Sys2Proof.Machine

@[simp] theorem portAt_setPort_same {s : State} {n : Nat} {p : PortSt} : (s.setPort n p).portAt n = p :=
  tabGet_set_same _ _ _ _

@[simp] theorem port_setEvDie {s : State} {d : Die} {x : EvDie} : (s.setEvDie d x).port = s.port := by
  cases d <;> rfl

/-- An event is no part of the ports. -/
theorem port_raiseIn {s : State} {d : Die} {src code kind num detail : Nat} :
    (s.raiseIn d src code kind num detail).port = s.port := by
  have hcount (t : State) : (t.count32 Od.eventsDropped).port = t.port := rfl
  dsimp only [State.raiseIn]
  split_ifs
  · rfl
  · rw [hcount, port_setEvDie]
  · rw [port_setEvDie]

@[simp] theorem portAt_raiseOcc {s : State} {src kind num pos value n : Nat} :
    (s.raiseOcc src kind num pos value).portAt n = s.portAt n := by
  rw [State.portAt, State.raiseOcc, State.raise, port_raiseIn, State.portAt]

/-! ### Link states (R160 to R164) -/

section
variable {s : State} {n : Nat}

/-- A port in RemoteFault whose link has been aligned for LinkUpHold. -/
theorem linkUp_of_held {g : Nat} (hstate : s.portState n = 6) (hpll : s.pllState (n / 8) = 2)
    (hsince : (s.portAt n).since ≤ g) (hheld : g + s.linkUpHold n ≤ s.gtc) {t : State}
    (ht : t = ((s.enterPortState n 4).setPnum Od.linkUpGtc n s.gtc).setPnum Od.portRate n (s.pnum Od.portMode n)) :
    linkUp n g s = (t.setPort n { t.portAt n with
      resetting := false, emptyAt := s.gtc, busyUntil := s.gtc }).fabricUpdate := by
  subst ht
  exact if_pos ⟨.inr hstate, hpll, hsince, fun h => absurd (hstate.symm.trans h) (by decide), hheld⟩

theorem linkFault_of_up {remote : Bool} (hstate : s.portState n = 4) :
    linkFault n remote s = s.leaveUp n (if remote then 6 else 5) :=
  if_pos (.inl hstate)

theorem signalLossSleep_of_up {g : Nat} (hstate : s.portState n = 4) (hlong : g + 1000000000 ≤ s.gtc) :
    signalLossSleep n g s = s.leaveUp n 2 :=
  if_pos ⟨.inr (.inl hstate), hlong⟩

theorem signalDetect_of_sleep (hstate : s.portState n = 2) : signalDetect n s = s.startTraining n :=
  if_pos (.inl hstate)

theorem trainingRestart_of_late (hstate : s.portState n = 3)
    (hlate : (s.portAt n).trainAt + 2 * (s.portAt n).bound ≤ s.gtc) :
    trainingRestart n s = ((s.count32 (Od.trainingRestarts + 256 * n)).raiseOcc n 0x01 n 8 0).startTraining n :=
  if_pos ⟨hstate, hlate⟩

theorem portUp_of_up (hstate : s.portState n = 4) : s.portUp n = true := by
  rw [State.portUp, hstate]
  rfl

/-- A symbol error ratio of 1.0 on the one lane of a port without a flag sets FecDegraded, bit 2, and it alone. -/
theorem fecDegraded_of_all_wrong (hstate : s.portState n = 4) (hmode : s.pnum Od.portMode n = 1)
    (hauto : s.pnum Od.portAutoneg n = 1) (hflags : s.pnum Od.portFaultFlags n = 0) :
    fecDegraded n 0x3F800000 s = ((s.setPnum Od.lanePreFecSer n 0x3F800000).setPnum Od.portFaultFlags n 4).raiseFlag
      n 0x01 n true 2 4 := by
  have hlanes : portLanes n 1 = [n] := rfl
  have hkept : (s.setPnum Od.lanePreFecSer n 0x3F800000).pnum Od.portFaultFlags n = 0 :=
    (pnum_setPnum_other (by decide)).trans hflags
  have hbad : (decide (0x38D1B718 ≤ 0x3F800000) && !f32NotFinite 0x3F800000 && decide (0x3F800000 < 2 ^ 31)) = true := by
    decide
  have hset : setField 0 2 1 (boolNat true) = 4 := by decide
  have hlisted : 1 ≤ 6 := by decide
  simp only [fecDegraded, hmode, hauto, hlanes, List.foldl_cons, List.foldl_nil, hkept, hbad, hset, portUp_of_up hstate,
    Nat.le_refl, hlisted, and_self, if_true, OfNat.zero_ne_ofNat, if_false]

end

/-! ### PLLs of octets (R151, R190) -/

section
variable {s : State} {k : Nat}

theorem octetPllLockLoss_of_locked (hlocked : s.pllState k = 2) {t : State}
    (ht : t = ((s.setPnum Od.octetPllState k 1).count32 (Od.octetPllLockLoss + 256 * k)).raiseOcc (8 * k) 0x01 (8 * k) 9 k) :
    octetPllLockLoss k s = (t.octetPorts k).foldl (fun u n => if u.portUp n then u.leaveUp n 5 else u) t := by
  subst ht
  exact if_pos hlocked

theorem octetPllLocked_of_locking (hlocking : s.pllState k = 1) {t : State} (ht : t = s.setPnum Od.octetPllState k 2) :
    octetPllLocked k s = (t.octetPorts k).foldl (fun u n => if u.portState n = 5 then u.startTraining n else u) t := by
  subst ht
  exact if_pos hlocking

theorem octetPllStop_of_dark {g : Nat} (hoff : tabGet none s.port.pllOff k = some g) (hlong : g + 1000000 ≤ s.gtc)
    (hdark : s.octetLit k = false) : octetPllStop k s = (s.setPllOff k none).setPnum Od.octetPllState k 0 := by
  simp only [octetPllStop, hoff, hlong, hdark, Bool.false_eq_true, not_false_eq_true, and_self, if_true]

end

/-! ### SGMII speeds and low-power idle (R150, R176, R177) -/

section
variable {s : State} {n : Nat}

/-- The speed is taken whether or not the admitted bandwidth exceeds its limit. -/
theorem sgmii_sgmiiSpeed {m : Nat} (hmode : s.pnum Od.portMode n = 8) (hon : s.portEnabled n = true)
    (hspeed : m = 10 ∨ m = 100 ∨ m = 1000) : ((sgmiiSpeed n m s).portAt n).sgmii = m := by
  rw [sgmiiSpeed, if_pos ⟨hmode, hon, hspeed⟩]
  dsimp only
  split_ifs
  · rw [portAt_raiseOcc, portAt_setPort_same]
  · rw [portAt_setPort_same]

theorem lpiEnter_of_idle (hstate : s.portState n = 4) (henable : s.pnum Od.lpiEnable n = 1)
    (hagreed : s.pnum Od.lpiPartnerAgreed n = 1) (hplain : s.pnum Od.portProtection n = 0)
    (hmode : modeLpi (s.pnum Od.portMode n) = true) (hempty : (s.portAt n).queues = [])
    (hlong : (s.portAt n).emptyAt + 20000 ≤ s.gtc) (hawake : (s.portAt n).lpi = false) :
    lpiEnter n s = (s.setPort n { s.portAt n with lpi := true }).portCount Od.lpiTransitions n :=
  if_pos ⟨hstate, henable, hagreed, hplain, hmode, List.isEmpty_iff.mpr hempty, hlong, Bool.eq_false_iff.mp hawake⟩

theorem lpiWake_of_waiting (hwaiting : (s.portAt n).queues ≠ []) (hidle : (s.portAt n).lpi = true) :
    lpiWake n s = s.setPort n { s.portAt n with
      lpi := false, wakeUntil := s.gtc + Config.lpiWake (s.pnum Od.portMode n) } := by
  rw [lpiWake, if_neg (mt List.isEmpty_iff.mp hwaiting)]
  exact if_pos hidle

end

/-! ### Frames (R169, R174) -/

/-- The state in which a frame of octets `o` has come in on port `n`, before its checks. -/
def State.frameArrived (s : State) (n : Nat) (o : Bytes) : State :=
  ((s.setAsleep .pipeline (n / 32) false).portCount Od.rxOctets n o.length).noteTraffic n true o.length

section
variable {s : State} {n : Nat} {o : Bytes} (hup : s.portUp n = true)
include hup

theorem frameReceive_of_short (hshort : o.length < 64) : frameReceive n o s
    = (s.frameArrived n o).portCount (if fcsGood o then Od.rxUndersize else Od.rxFragments) n := by
  simp only [frameReceive, hup, hshort, not_true, if_false, if_true, State.frameArrived]

theorem frameReceive_of_good (hlong : 64 ≤ o.length) (hfits : o.length ≤ s.pnum Od.maxFrameSize n)
    (hgood : fcsGood o = true) : frameReceive n o s = (s.frameArrived n o).receiveGood n o := by
  simp only [frameReceive, hup, hgood, Nat.not_lt.mpr hlong, Nat.not_lt.mpr hfits, not_true, if_false, if_true,
    State.frameArrived]

end

/-- The state in which the head frame `f` of queue `q` has left port `n` and is counted, `rest` behind it. -/
def State.frameSent (s : State) (n q : Nat) (f : QFrame) (rest : List QFrame) : State :=
  (((((((s.setPort n ((s.portAt n).setQueue q rest)).releaseFrame f.id).emit (.frame n (s.finishFrame f))).noteDelayReq
    n (s.finishFrame f)).portCount Od.txOctets n (s.finishFrame f).length).portCount Od.txFrames n).countCast Od.txUnicast n
      (parseFrame (s.finishFrame f)).dst).portCount (Od.txQueueFrames + q) n

/-- The note of a frame's octets is no part of the rate of its port. -/
theorem frameTime_noteTraffic {s : State} {n len len' : Nat} {rx : Bool} :
    (s.noteTraffic n rx len).frameTime n len' = s.frameTime n len' := by
  have hrate : (s.noteTraffic n rx len).macRate n = s.macRate n := by
    have hpnum : (s.noteTraffic n rx len).pnum Od.portRate n = s.pnum Od.portRate n := rfl
    have hsgmii : ((s.noteTraffic n rx len).portAt n).sgmii = (s.portAt n).sgmii := by
      rw [State.noteTraffic, portAt_setPort_same]
    simp only [State.macRate, hpnum, hsgmii]
  simp only [State.frameTime, hrate]

/-- An unshaped queue's head frame holds the port for the time of its octets. -/
theorem busyUntil_frameTransmit {s : State} {n q : Nat} {f : QFrame} {rest : List QFrame} (hup : s.portUp n = true)
    (hfree : (s.portAt n).busyUntil ≤ s.gtc) (hawake : (s.portAt n).wakeUntil ≤ s.gtc) (hlpi : (s.portAt n).lpi = false)
    (htx : (s.portAt n).shift.txAt = none) (hnext : s.nextQueue n = some q) (hhead : (s.portAt n).queue q = f :: rest)
    (hwhole : f.stomp = false) (hplain : (s.frameSent n q f rest).shaperOn n q = false) :
    ((frameTransmit n s).portAt n).busyUntil
      = s.gtc + (s.frameSent n q f rest).frameTime n (s.finishFrame f).length := by
  have hmay : s.portUp n = true ∧ (s.portAt n).busyUntil ≤ s.gtc ∧ (s.portAt n).wakeUntil ≤ s.gtc
      ∧ ¬ (s.portAt n).lpi = true ∧ (s.portAt n).shift.txAt = none :=
    ⟨hup, hfree, hawake, Bool.eq_false_iff.mp hlpi, htx⟩
  unfold State.frameSent at hplain ⊢
  simp only [frameTransmit, if_pos hmay, hnext, hhead, hwhole, hplain, Bool.false_eq_true, if_false, portAt_setPort_same,
    frameTime_noteTraffic]

/-- Settles O9: each clause is the lemma about its event. -/
theorem portLinkStates : Obligations.PortLinkStates := by
  unfold Obligations.PortLinkStates
  refine ⟨?up, ?fault, ?sleep, ?detect, ?restart, ?fec, ?lockLoss, ?locked, ?stop, ?sgmii, ?idle, ?wake, ?runt, ?good, ?sent⟩
  case up =>
    intro s n g hstate hpll hsince hheld
    exact ⟨_, rfl, by rw [exec_linkUp, execLinkUp, linkUp_of_held hstate hpll hsince hheld rfl]⟩
  case fault =>
    intro s n remote hstate
    rw [exec_linkFault, execLinkFault, linkFault_of_up hstate]
  case sleep =>
    intro s n g hstate hlong
    rw [exec_signalLossSleep, execSignalLossSleep, signalLossSleep_of_up hstate hlong]
  case detect =>
    intro s n hstate
    rw [exec_signalDetect, execSignalDetect, signalDetect_of_sleep hstate]
  case restart =>
    intro s n hstate hlate
    rw [exec_trainingRestart, execTrainingRestart, trainingRestart_of_late hstate hlate]
  case fec =>
    intro s n hstate hmode hauto _ hflags
    rw [exec_fecDegraded, execFecDegraded, fecDegraded_of_all_wrong hstate hmode hauto hflags]
  case lockLoss =>
    intro s k hlocked
    exact ⟨_, rfl, by rw [exec_octetPllLockLoss, execOctetPllLockLoss, octetPllLockLoss_of_locked hlocked rfl]⟩
  case locked =>
    intro s k hlocking
    exact ⟨_, rfl, by rw [exec_octetPllLocked, execOctetPllLocked, octetPllLocked_of_locking hlocking rfl]⟩
  case stop =>
    intro s k g hoff hlong hdark
    rw [exec_octetPllStop, execOctetPllStop, octetPllStop_of_dark hoff hlong hdark]
  case sgmii =>
    intro s n m hmode hon hspeed _
    exact ⟨sgmiiSpeed n m s, by rw [exec_sgmiiSpeedChange, execSgmiiSpeedChange], sgmii_sgmiiSpeed hmode hon hspeed⟩
  case idle =>
    intro s n hstate henable hagreed hplain hmode hempty hlong hawake
    rw [exec_lpiEnter, execLpiEnter, lpiEnter_of_idle hstate henable hagreed hplain hmode hempty hlong hawake]
  case wake =>
    intro s n hwaiting hidle
    rw [exec_lpiWake, execLpiWake, lpiWake_of_waiting hwaiting hidle]
  case runt =>
    intro s n o hup hshort
    rw [exec_frameReceive, execFrameReceive, frameReceive_of_short hup hshort, State.frameArrived]
  case good =>
    intro s n o hup hlong hfits hgood
    rw [exec_frameReceive, execFrameReceive, frameReceive_of_good hup hlong hfits hgood, State.frameArrived]
  case sent =>
    intro s n q f rest hup hfree hawake hlpi htx hnext hhead _ hwhole
    exact ⟨s.frameSent n q f rest, frameTransmit n s, rfl, by rw [exec_frameTransmit, execFrameTransmit],
      busyUntil_frameTransmit hup hfree hawake hlpi htx hnext hhead hwhole⟩

end Sys2Proof.Machine
end

section
/-! PROOFS. The shift of a port between 100 and 50 Gbit/s (Chapter 4; R178 to R183): what each message and instant of the
handshake does in its phase. -/

namespace Sys2Proof.Machine

/-! ### Requests (R179 to R181) -/

section
variable {s : State} {n : Nat}

theorem downshiftRequest_of_little {thermal : Bool} (hmay : s.mayAsk n = true) (hrate : s.pnum Od.portRate n = 1)
    (hfits : s.admittedThrough n ≤ 25000000000) (hwhy : thermal = true ∨ s.utilLow n = true) :
    downshiftRequest n thermal s = s.askShift n 2 :=
  if_pos ⟨hmay, hrate, hfits, hwhy⟩

theorem upshiftRequest_of_much (hmay : s.mayAsk n = true) (hrate : s.pnum Od.portRate n = 2)
    (hwhy : s.utilHigh n = true ∨ s.admissionWaits n = true) (hpaid : s.upshiftPaid n = true) :
    upshiftRequest n s = s.askShift n 1 :=
  if_pos ⟨hmay, hrate, hwhy, hpaid⟩

end

/-- The state in which this end's own request no longer stands. -/
def State.unasked (s : State) (n : Nat) : State := s.setShift n { (s.portAt n).shift with asked := none }

/-- The cause for which a request to mode `target` is declined, 0 for one that is accepted (R179, R180). -/
def State.shiftCause (s : State) (n target admitted : Nat) : Nat :=
  if target = 1 then (if (s.unasked n).upshiftPaid n then 0 else 4)
  else if 25000000000 < (s.unasked n).admittedThrough n ∨ 25000 < admitted then 1
  else if s.gtc < (s.portAt n).shift.quietUntil then 3
  else if (s.unasked n).utilLow n then 0 else 2

section
variable {s : State} {n txn target source admitted : Nat} (hshifts : s.shifts n = true) (hstate : s.portState n = 4)
  (hnone : (s.portAt n).shift.asked = none)
include hshifts hstate hnone

/-- A request for the other rate that crosses none of this end is answered by its cause. -/
theorem shiftRequest_of_uncrossed (hrate : s.pnum Od.portRate n ≠ target) (htarget : target = 1 ∨ target = 2) :
    shiftRequest n txn target source admitted s =
      if s.shiftCause n target admitted = 0 then ((s.unasked n).linkControl n txn 2 target 0).beginShift n txn target
      else ((s.unasked n).linkControl n txn 3 target (s.shiftCause n target admitted)).raiseOcc
        n 0x01 n 5 (s.shiftCause n target admitted) := by
  have htaken : ¬ (¬ (s.shifts n = true ∧ s.portState n = 4) ∨ s.pnum Od.portRate n = target
      ∨ ¬ (target = 1 ∨ target = 2)) := by simp [hshifts, hstate, hrate, htarget]
  simp only [shiftRequest, if_neg htaken, hnone, Option.isSome_none, Bool.false_eq_true, false_and, if_false]
  rfl

/-- A request to 100 Gbit/s needs only that its energy is paid. -/
theorem shiftRequest_up_of_paid (hrate : s.pnum Od.portRate n = 2) (hpaid : (s.unasked n).upshiftPaid n = true) :
    shiftRequest n txn 1 source admitted s = ((s.unasked n).linkControl n txn 2 1 0).beginShift n txn 1 := by
  have hcause : s.shiftCause n 1 admitted = 0 := by simp only [State.shiftCause, hpaid, if_true]
  rw [shiftRequest_of_uncrossed hshifts hstate hnone (by rw [hrate]; decide) (.inl rfl), if_pos hcause]

/-- A request to 50 Gbit/s with more protection bandwidth admitted at the other end is declined with cause 1. -/
theorem shiftRequest_down_of_admitted (hrate : s.pnum Od.portRate n = 1) (hmuch : 25000 < admitted) :
    shiftRequest n txn 2 source admitted s = ((s.unasked n).linkControl n txn 3 2 1).raiseOcc n 0x01 n 5 1 := by
  have hcause : s.shiftCause n 2 admitted = 1 := by
    rw [State.shiftCause, if_neg (by decide), if_pos (.inr hmuch)]
  rw [shiftRequest_of_uncrossed hshifts hstate hnone (by rw [hrate]; decide) (.inr rfl), hcause, if_neg (by decide)]

end

/-! ### Answers (R179, R181) -/

theorem shiftAccept_of_asked {s : State} {n txn target : Nat} (hasked : (s.portAt n).shift.asked = some (txn, target))
    (hstate : s.portState n = 4) : shiftAccept n txn s = s.beginShift n txn target := by
  simp only [shiftAccept, hasked, hstate, and_self, if_true]

theorem shiftDecline_of_asked {s : State} {n txn target cause : Nat}
    (hasked : (s.portAt n).shift.asked = some (txn, target)) :
    shiftDecline n txn cause s = (s.setShift n { (s.portAt n).shift with
      asked := none, quietUntil := s.gtc + 1000000000 }).raiseOcc n 0x01 n 5 cause := by
  simp only [shiftDecline, hasked, if_true]

/-! ### The switch of receiver and transmitter (R182, R183) -/

theorem shiftMarker_of_running {s : State} {n txn target : Nat} {aligned : Bool}
    (hrunning : (s.portAt n).shift.running = some (txn, target)) (hfirst : (s.portAt n).shift.rxAt = none) :
    shiftMarker n txn aligned s = ((s.setNb n { s.nb n with asked := none }).setShift n { (s.portAt n).shift with
      rxAt := some s.gtc, aligned := aligned }).shiftDone n := by
  simp only [shiftMarker, hrunning, hfirst, and_self, if_true]

theorem shiftTxResume_of_due {s : State} {n g : Nat} (hheld : (s.portAt n).shift.txAt = some g) (hdue : g + 10000 ≤ s.gtc) :
    shiftTxResume n s = (s.setShift n { (s.portAt n).shift with txAt := none }).shiftDone n := by
  simp only [shiftTxResume, hheld, hdue, if_true]

theorem shiftAlignFail_of_late {s : State} {n g : Nat} {r : Nat × Nat} (hrunning : (s.portAt n).shift.running = some r)
    (hmarked : (s.portAt n).shift.rxAt = some g) (hloose : (s.portAt n).shift.aligned = false)
    (hlate : g + 100000 ≤ s.gtc) {t : State}
    (ht : t = ((((s.count32 (Od.shiftFailures + 256 * n)).raiseOcc n 0x01 n 6 0).leaveUp n 3).startTraining n).setCharge
      0x01 n (portCharge 1)) :
    shiftAlignFail n s = t.setShift n { (t.portAt n).shift with quietUntil := s.gtc + 1000000000 } := by
  simp only [shiftAlignFail, hrunning, hmarked, hloose, hlate, ht, Bool.false_eq_true, not_false_eq_true, and_self, if_true]

/-- Settles O10: each clause is the lemma about its message or instant. -/
theorem portRateShifts : Obligations.PortRateShifts := by
  unfold Obligations.PortRateShifts
  refine ⟨?down, ?up, ?accepted, ?declined, ?accept, ?decline, ?marker, ?resume, ?alignFail⟩
  case down =>
    intro s n thermal hmay hrate hfits hwhy
    rw [exec_downshiftRequest, execDownshiftRequest, downshiftRequest_of_little hmay hrate hfits hwhy]
  case up =>
    intro s n hmay hrate hwhy hpaid
    rw [exec_upshiftRequest, execUpshiftRequest, upshiftRequest_of_much hmay hrate hwhy hpaid]
  case accepted =>
    intro s n txn source admitted hshifts hstate hrate hnone hpaid
    rw [exec_shiftRequest, execShiftRequest, shiftRequest_up_of_paid hshifts hstate hnone hrate hpaid, State.unasked]
  case declined =>
    intro s n txn source admitted hshifts hstate hrate hnone hmuch
    rw [exec_shiftRequest, execShiftRequest, shiftRequest_down_of_admitted hshifts hstate hnone hrate hmuch,
      State.unasked]
  case accept =>
    intro s n txn target hasked hstate
    rw [exec_shiftAccept, execShiftAccept, shiftAccept_of_asked hasked hstate]
  case decline =>
    intro s n txn target cause hasked
    rw [exec_shiftDecline, execShiftDecline, shiftDecline_of_asked hasked]
  case marker =>
    intro s n txn target aligned hrunning hfirst
    rw [exec_shiftMarker, execShiftMarker, shiftMarker_of_running hrunning hfirst]
  case resume =>
    intro s n g hheld hdue
    rw [exec_shiftTxResume, execShiftTxResume, shiftTxResume_of_due hheld hdue]
  case alignFail =>
    intro s n r g hrunning hmarked hloose hlate
    exact ⟨_, rfl, by rw [exec_shiftAlignFail, execShiftAlignFail, shiftAlignFail_of_late hrunning hmarked hloose hlate rfl]⟩

end Sys2Proof.Machine
end

section
/-! PROOFS. Streams, learning, the skimmer and static entries (Chapter 5; R202 to R207, R213 to R218, R221): what each write
and each turn of a table does once its checks let it through. -/

namespace Sys2Proof.Machine

/-! ### Admission (R202 to R206) -/

section
variable {s : State} {who : Caller} {e : Nat} {b : Bytes}

theorem tryAdmit_of_ok (hcheck : s.checkAdmission who e b = .ok ()) :
    s.tryAdmit who e b = ((s.admitStream e b).bumpVersion (Od.streamEntry + e) 0, 0) := by
  simp only [State.tryAdmit, hcheck]

theorem tryAdmit_of_error {c : Code} (hcheck : s.checkAdmission who e b = .error c) :
    s.tryAdmit who e b = (s.refuseStream e c, c.value) := by
  simp only [State.tryAdmit, hcheck]

/-- What Table 5-5 admits now need not wait. -/
theorem admissionShift_of_ok (hcheck : s.checkAdmission who e b = .ok ()) : s.admissionShift who e b = false := by
  simp only [State.admissionShift, hcheck]

/-- A write that asks to admit an entry which is not admitted is judged by Table 5-5. -/
theorem streamPut_of_admission (hasks : seAdmitted b = true) (hnew : seAdmitted (s.streamEntry e) = false) :
    s.streamPut who e b = s.tryAdmit who e b := by
  simp only [State.streamPut, hasks, hnew, Bool.false_eq_true, if_true, if_false]

theorem streamGate_of_held (hlets : s.letsForm who (Od.streamEntry + e) false 0 (.bytes b) = true)
    (hheld : s.tenantHolds who 0x02 e = true) : streamGate who e b s = .ok () := by
  obtain ⟨row, hgate⟩ := letsForm_ok hlets
  simp only [streamGate, State.checkEntryOwner, hgate, hheld, ok_bind, need_true]

theorem streamWrite_of_waiting (hgate : streamGate who e b s = .ok ()) (hasks : seAdmitted b = true)
    (hnew : seAdmitted (s.streamEntry e) = false) (hshift : s.admissionShift who e b = true) :
    streamWrite who e b s = s.withSw fun x => { x with
      waiting := x.waiting ++ [⟨e, b, s.gtc, s.overLimit b false, who.sess⟩] } := by
  simp only [streamWrite, hgate, hasks, hnew, hshift, Bool.false_eq_true, not_false_eq_true, and_self, if_true,
    State.withSw]

/-- A write that asks for no admission, or for one that no upshift decides, is answered at once. -/
theorem streamWrite_of_judged {t : State} {c : Nat} (hgate : streamGate who e b s = .ok ())
    (hnow : seAdmitted b = false ∨ s.admissionShift who e b = false) (hput : s.streamPut who e b = (t, c)) :
    streamWrite who e b s = t.emit (.answer who.sess c) := by
  have hstays : ¬ (seAdmitted b = true ∧ ¬ seAdmitted (s.streamEntry e) = true ∧ s.admissionShift who e b = true) := by
    rintro ⟨hasks, -, hshift⟩
    simp [hasks, hshift] at hnow
  simp only [streamWrite, hgate, if_neg hstays, hput]

end

/-! ### The wait for an upshift (R205) -/

section
variable {s : State} {w : WaitAdmit} (hwaits : s.sw.waiting = [w])
include hwaits

/-- The one admission that waits is decided: it leaves the list, and its session is answered. -/
theorem admissionShiftWait_of_ready {t : State} {c : Nat}
    (hready : w.ports.all (fun n => s.pnum Od.portRate n != 2) = true)
    (hjudged : (s.withSw fun x => { x with waiting := [] }).tryAdmit ⟨w.sess, .manager, 0⟩ w.entry w.value = (t, c)) :
    admissionShiftWait w.entry s = t.emit (.answer w.sess c) := by
  unfold State.withSw at hjudged
  simp only [admissionShiftWait, hwaits, List.find?_cons, List.filter_cons, List.filter_nil, beq_self_eq_true, bne_self_eq_false,
    hready, true_or, if_true, Bool.false_eq_true, if_false, hjudged]

theorem admissionShiftWait_of_late (hshifts : w.ports.any (fun n => s.pnum Od.portRate n == 2) = true)
    (hlate : w.since + 10000000 ≤ s.gtc) : admissionShiftWait w.entry s
      = ((s.withSw fun x => { x with waiting := [] }).refuseStream w.entry .noResource).emit
        (.answer w.sess Code.noResource.value) := by
  have hunready : w.ports.all (fun n => s.pnum Od.portRate n != 2) = false := by
    rw [List.all_eq_not_any_not]
    simpa only [bne, Bool.not_not, Bool.not_eq_false'] using hshifts
  simp only [admissionShiftWait, hwaits, List.find?_cons, List.filter_cons, List.filter_nil, beq_self_eq_true,
    bne_self_eq_false, hunready, hlate, or_true, if_true, Bool.false_eq_true, if_false, State.withSw]

end

/-! ### Withdrawal (R207) -/

section
variable {s : State} {who : Caller} {e : Nat} {b : Bytes} (hasks : seAdmitted b = false)
  (hold : seAdmitted (s.streamEntry e) = true) (hform : checkStreamForm b = .ok ())
include hasks hold hform

theorem streamPut_of_withdrawal (hidle : s.streamFeeds e = false) :
    s.streamPut who e b = ((s.withdrawStream e b).bumpVersion (Od.streamEntry + e) 0, 0) := by
  simp only [State.streamPut, hasks, hold, hform, hidle, Bool.false_eq_true, if_true, if_false]

theorem streamPut_of_feeding (hfeeds : s.streamFeeds e = true) :
    s.streamPut who e b = (s, Code.precondition.value) := by
  simp only [State.streamPut, hasks, hold, hform, hfeeds, Bool.false_eq_true, if_true, if_false]

end

/-! ### Learning (R214, R216) -/

/-- The state in which the learns `rest` are still queued in pipeline `p`. -/
def State.leftLearns (s : State) (p : Nat) (rest : List (Nat × Nat)) : State :=
  s.withSw fun x => { x with learns := tabSet [] x.learns p rest }

section
variable {s : State} {key n p : Nat} {rest : List (Nat × Nat)}

@[simp] theorem macEnt_leftLearns : (s.leftLearns p rest).macEnt key = s.macEnt key := rfl

@[simp] theorem bucketOf_leftLearns : (s.leftLearns p rest).bucketOf key = s.bucketOf key := rfl

@[simp] theorem learnedOn_leftLearns : (s.leftLearns p rest).learnedOn n = s.learnedOn n := rfl

@[simp] theorem pnum_leftLearns {id : Nat} : (s.leftLearns p rest).pnum id n = s.pnum id n := rfl

theorem learn_of_queued (hqueue : tabGet [] s.sw.learns p = (key, n) :: rest) :
    learn p s = (s.leftLearns p rest).learnOne key n := by
  simp only [learn, hqueue, State.leftLearns, State.withSw]

theorem learnOne_of_new (hnew : s.macEnt key = none) (hlimit : s.learnedOn n < s.pnum Od.learnLimit n)
    (hroom : (s.bucketOf key).length < 8) : s.learnOne key n = s.setMac key (some ⟨n, true, 0, none, []⟩) := by
  simp only [State.learnOne, hnew, Nat.not_le.mpr hlimit, Nat.not_le.mpr hroom, if_false]

theorem learnOne_of_known {x : MacEnt} (hknown : s.macEnt key = some x) (hlearned : x.static = none) :
    s.learnOne key x.port = s.setMac key (some { x with hit := true, sweeps := 0 }) := by
  simp only [State.learnOne, hknown, hlearned, Option.isSome_none, Bool.false_eq_true, if_false, if_true]

end

/-! ### The skimmer (R218) -/

/-- What one sweep makes of an entry of the learning table. -/
def sweptEntry (x : Nat × MacEnt) : Option (Nat × MacEnt) :=
  if x.2.static.isSome then some x
  else if x.2.hit then some (x.1, { x.2 with hit := false })
  else if 1 ≤ x.2.sweeps then none
  else some (x.1, { x.2 with sweeps := 1 })

theorem skimmerSweep_of_due {s : State} (haging : s.num Od.agingEnable = 1)
    (hdue : s.sw.lastSweep + s.num Od.skimmerInterval * 1000000000 ≤ s.gtc) :
    skimmerSweep s = s.withSw fun x => { x with macs := x.macs.filterMap sweptEntry, lastSweep := s.gtc } :=
  if_pos ⟨haging, hdue⟩

theorem sweptEntry_of_static {x : Nat × MacEnt} (hstatic : x.2.static.isSome = true) : sweptEntry x = some x :=
  if_pos hstatic

theorem sweptEntry_of_learned {k : Nat} {o : MacEnt} (hlearned : o.static = none) : sweptEntry (k, o)
    = if o.hit then some (k, { o with hit := false }) else if 1 ≤ o.sweeps then none else some (k, { o with sweeps := 1 }) := by
  simp only [sweptEntry, hlearned, Option.isSome_none, Bool.false_eq_true, if_false]

/-- An entry that stands after a sweep is a static one, or a learned one whose hit bit fell, or one that was not hit since
the last sweep. -/
theorem sweptEntry_eq_some_iff {x : Nat × MacEnt} {k : Nat} {e : MacEnt} : sweptEntry x = some (k, e) ↔
    x = (k, e) ∧ e.static.isSome = true ∨ ∃ o, x = (k, o) ∧ o.static = none
      ∧ (o.hit = true ∧ e = { o with hit := false } ∨ o.hit = false ∧ o.sweeps = 0 ∧ e = { o with sweeps := 1 }) := by
  obtain ⟨j, o⟩ := x
  cases hstatic : o.static with
  | some slot =>
    rw [sweptEntry_of_static (by simp [hstatic])]
    constructor
    · rintro ⟨⟩
      exact .inl ⟨rfl, by simp [hstatic]⟩
    · rintro (⟨⟨⟩, -⟩ | ⟨o', ⟨⟩, hnone, -⟩)
      · rfl
      · simp [hstatic] at hnone
  | none =>
    rw [sweptEntry_of_learned hstatic]
    constructor
    · split_ifs with hhit hswept
      · rintro ⟨⟩
        exact .inr ⟨o, rfl, hstatic, .inl ⟨hhit, rfl⟩⟩
      · rintro ⟨⟩
      · rintro ⟨⟩
        exact .inr ⟨o, rfl, hstatic, .inr ⟨Bool.eq_false_iff.mpr hhit, by omega, rfl⟩⟩
    · rintro (⟨⟨⟩, hsome⟩ | ⟨o', ⟨⟩, -, ⟨hhit, rfl⟩ | ⟨hhit, hswept, rfl⟩⟩)
      · simp [hstatic] at hsome
      · simp only [hhit, if_true]
      · simp [hhit, hswept]

theorem mem_filterMap_sweptEntry {l : List (Nat × MacEnt)} {k : Nat} {e : MacEnt} : (k, e) ∈ l.filterMap sweptEntry ↔
    (k, e) ∈ l ∧ e.static.isSome = true ∨ ∃ o, (k, o) ∈ l ∧ o.static = none
      ∧ (o.hit = true ∧ e = { o with hit := false } ∨ o.hit = false ∧ o.sweeps = 0 ∧ e = { o with sweeps := 1 }) := by
  simp only [List.mem_filterMap, sweptEntry_eq_some_iff]
  constructor
  · rintro ⟨x, hx, ⟨rfl, hstatic⟩ | ⟨o, rfl, ho⟩⟩
    · exact .inl ⟨hx, hstatic⟩
    · exact .inr ⟨o, hx, ho⟩
  · rintro (⟨hx, hstatic⟩ | ⟨o, hx, ho⟩)
    · exact ⟨_, hx, .inl ⟨rfl, hstatic⟩⟩
    · exact ⟨_, hx, .inr ⟨o, rfl, ho⟩⟩

/-! ### Static entries (R221) -/

theorem staticMacWrite_of_checked {s : State} {who : Caller} {k : Nat} {b : Bytes}
    (hlets : s.letsForm who (Od.staticMacEntry + k) false 0 (.bytes b) = true) (hcheck : s.checkStatic k b = .ok ()) :
    staticMacWrite who k b s = .ok ((s.applyStatic k b).bumpVersion (Od.staticMacEntry + k) 0) := by
  obtain ⟨row, hgate⟩ := letsForm_ok hlets
  simp only [staticMacWrite, hgate, hcheck, ok_bind]

/-- Settles O11: a stream entry is written by `streamWrite_of_judged` or waits, and each other clause is the lemma about its
write or its turn. -/
theorem switchTablesAndStreams : Obligations.SwitchTablesAndStreams := by
  unfold Obligations.SwitchTablesAndStreams
  refine ⟨?admitted, ?refused, ?waits, ?decided, ?late, ?withdrawn, ?feeding, ?new, ?known, ?swept, ?static⟩
  case admitted =>
    intro s who e b hlets hheld hasks hnew hcheck
    rw [exec_streamAdmit, execStreamAdmit, streamWrite_of_judged (streamGate_of_held hlets hheld)
      (.inr (admissionShift_of_ok hcheck)) ((streamPut_of_admission hasks hnew).trans (tryAdmit_of_ok hcheck)), State.done]
  case refused =>
    intro s who e b c hlets hheld hasks hnew hnow hcheck
    rw [exec_streamAdmit, execStreamAdmit, streamWrite_of_judged (streamGate_of_held hlets hheld) (.inr hnow)
      ((streamPut_of_admission hasks hnew).trans (tryAdmit_of_error hcheck)), State.turned]
  case waits =>
    intro s who e b hlets hheld hasks hnew hshift
    rw [exec_streamAdmit, execStreamAdmit,
      streamWrite_of_waiting (streamGate_of_held hlets hheld) hasks hnew hshift]
  case decided =>
    intro s e w hwaits hentry hready hcheck
    rw [exec_admissionShiftWait, execAdmissionShiftWait]
    rw [← hentry] at hcheck ⊢
    rw [admissionShiftWait_of_ready hwaits hready (tryAdmit_of_ok hcheck)]
  case late =>
    intro s e w hwaits hentry hshifts hlate
    rw [exec_admissionShiftWait, execAdmissionShiftWait, ← hentry, admissionShiftWait_of_late hwaits hshifts hlate]
  case withdrawn =>
    intro s who e b hlets hheld hasks hold hform hidle
    rw [exec_streamWithdraw, execStreamWithdraw, streamWrite_of_judged (streamGate_of_held hlets hheld) (.inl hasks)
      (streamPut_of_withdrawal hasks hold hform hidle), State.done]
  case feeding =>
    intro s who e b hlets hheld hasks hold hform hfeeds
    rw [exec_streamWithdraw, execStreamWithdraw, streamWrite_of_judged (streamGate_of_held hlets hheld) (.inl hasks)
      (streamPut_of_feeding hasks hold hform hfeeds), State.turned]
  case new =>
    intro s p key n rest hqueue hnew hlimit hroom
    rw [exec_learn, execLearn, learn_of_queued hqueue, learnOne_of_new (by simpa using hnew) (by simpa using hlimit)
      (by simpa using hroom), State.leftLearns]
  case known =>
    intro s p key rest x hqueue hknown hlearned
    rw [exec_learn, execLearn, learn_of_queued hqueue, learnOne_of_known (by simpa using hknown) hlearned,
      State.leftLearns]
  case swept =>
    intro s haging hdue
    exact ⟨_, by rw [exec_skimmerSweep, execSkimmerSweep, skimmerSweep_of_due haging hdue], rfl,
      fun k e => mem_filterMap_sweptEntry⟩
  case static =>
    intro s who k b hlets hcheck
    rw [exec_staticMacWrite, execStaticMacWrite, staticMacWrite_of_checked hlets hcheck, answer_ok]

end Sys2Proof.Machine
end

section
/-! PROOFS. Sounding, drop events, shaper rates and the supervision of redundancy groups (Chapter 5; R223 to R225, R229 to
R231): what each pass, event, write and instant does when it is due. -/

namespace Sys2Proof.Machine

/-! ### Sounding (R229, R230) -/

section
variable {s : State} (henable : s.num Od.soundingEnable = 1) (hdue : s.num Od.soundingPassGtc + 10000000 ≤ s.gtc)
include henable hdue

/-- A pass that finds no row which differed on the previous pass too counts and reports nothing. -/
theorem soundingPass_of_none_again (hnone : s.soundingDiffs.filter s.sw.sounding.contains = []) : soundingPass s
    = (s.withSw fun x => { x with sounding := s.soundingDiffs }).setNum Od.soundingPassGtc s.gtc := by
  simp only [soundingPass, henable, hdue, and_self, if_true, hnone, List.foldl_nil, State.withSw]

theorem soundingPass_of_none_before (hbefore : s.sw.sounding = []) : soundingPass s
    = (s.withSw fun x => { x with sounding := s.soundingDiffs }).setNum Od.soundingPassGtc s.gtc :=
  soundingPass_of_none_again henable hdue (List.filter_eq_nil_iff.mpr fun x _ => by simp [hbefore])

theorem soundingPass_of_none_now (hnow : s.soundingDiffs = []) : soundingPass s
    = (s.withSw fun x => { x with sounding := [] }).setNum Od.soundingPassGtc s.gtc := by
  rw [soundingPass_of_none_again henable hdue (by rw [hnow, List.filter_nil]), hnow]

end

/-! ### Drop events (R223) -/

theorem dropEvent_of_changed {s : State} {id src kind num code : Nat} (hsource : dropSource id = some (src, kind, num, code))
    (hchanged : s.dropCount id ≠ (tabGet (0, 0) s.sw.drops id).2)
    (hdue : (tabGet (0, 0) s.sw.drops id).1 + 1000000000 ≤ s.gtc) : dropEvent id s
      = (s.withSw fun x => { x with drops := tabSet (0, 0) x.drops id (s.gtc, s.dropCount id) }).raise src code kind num
        ((s.dropCount id + 2 ^ 48 - (tabGet (0, 0) s.sw.drops id).2) % 2 ^ 48) := by
  simp only [dropEvent, hsource, hchanged, Nat.not_lt.mpr hdue, and_false, or_self, if_false, State.withSw]

/-! ### Shaper rates (R224, R225) -/

section
variable {s : State} {who : Caller} {n q v : Nat}
  (hlets : s.letsForm who (Od.shaperRate + 256 * n + q) false 0 (.num v) = true)
include hlets

theorem shaperRateWrite_of_within (hv : v ≤ s.modeRate n) (hport : s.checkPort who n = .ok ()) :
    shaperRateWrite who n q v s = .ok (((s.shaperSettle n q).setNum (Od.shaperRate + 256 * n + q) v).bumpVersion
      (Od.shaperRate + 256 * n + q) 0) := by
  obtain ⟨row, hgate⟩ := letsForm_ok hlets
  simp only [shaperRateWrite, State.checkShaperRate, State.applyShaperRate, hgate, hv, hport, decide_true, need_true, ok_bind]

theorem shaperRateWrite_of_above (hv : s.modeRate n < v) : shaperRateWrite who n q v s = .error .outOfRange := by
  obtain ⟨row, hgate⟩ := letsForm_ok hlets
  simp only [shaperRateWrite, State.checkShaperRate, hgate, Nat.not_le.mpr hv, decide_false, need_false, ok_bind, error_bind]

end

/-! ### Redundancy groups (R231) -/

/-- The supervision frame of a PRP group whose first port has address `a`, before it is doubled: TLV 20, sequence `seq`. -/
def supervisionFrame (a seq : Nat) : Bytes :=
  withFcs (padFrame (toBE 6 0x01154E000100 ++ toBE 6 a ++ toBE 2 0x88FB ++ toBE 2 1 ++ toBE 2 seq ++ toBE 1 20 ++ toBE 1 6
    ++ toBE 6 a ++ toBE 2 0))

theorem redSupervisionSend_of_due {s : State} {g : Nat} (hmode : s.gnum Od.redMode g = 1)
    (hdue : tabGet 0 s.sw.redSent g + s.gnum Od.redLifeCheckInterval g * 1000000 ≤ s.gtc) : redSupervisionSend g s
      = (s.withSw fun x => { x with redSent := tabSet 0 x.redSent g s.gtc }).sendDoubled g
        (s.pnum Od.portDefaultPriority (s.gnum Od.redPortA g)) 0
        (supervisionFrame (s.portMac (s.gnum Od.redPortA g)) (tabGet 0 s.sw.redSeq g)) := by
  simp only [redSupervisionSend, hmode, hdue, ne_eq, one_ne_zero, not_false_eq_true, and_self, if_true, pnum_withSw,
    supervisionFrame, State.withSw]

section
variable {s : State} {g a : Nat} {x : RedNode} (hnode : s.node g a = some x)
include hnode

theorem redNodeForget_of_unheard (hlong : x.last + s.gnum Od.redForgetTime g * 1000000 ≤ s.gtc) :
    redNodeForget g a s = s.setNode g a none := by
  simp only [redNodeForget, hnode, hlong, if_true]

/-- A source heard within RedForgetTime stays; that the command then changes nothing is the model's choice (log 4). -/
theorem redNodeForget_of_heard (hheard : s.gtc < x.last + s.gnum Od.redForgetTime g * 1000000) :
    redNodeForget g a s = s := by
  simp only [redNodeForget, hnode, Nat.not_le.mpr hheard, if_false]

end

/-- Settles O12: each clause is the lemma about its pass, event, write or instant. -/
theorem switchSupervision : Obligations.SwitchSupervision := by
  unfold Obligations.SwitchSupervision
  refine ⟨?before, ?now, ?drop, ?within, ?above, ?supervision, ?unheard, ?heard⟩
  case before =>
    intro s henable hdue hbefore
    rw [exec_soundingPass, execSoundingPass, soundingPass_of_none_before henable hdue hbefore]
  case now =>
    intro s henable hdue hnow
    rw [exec_soundingPass, execSoundingPass, soundingPass_of_none_now henable hdue hnow]
  case drop =>
    intro s id src kind num code hsource hchanged hdue
    rw [exec_dropEvent, execDropEvent, dropEvent_of_changed hsource hchanged hdue]
  case within =>
    intro s who n q v hlets hv hport
    rw [exec_shaperRateWrite, execShaperRateWrite, shaperRateWrite_of_within hlets hv hport, answer_ok]
  case above =>
    intro s who n q v hlets hv
    rw [exec_shaperRateWrite, execShaperRateWrite, shaperRateWrite_of_above hlets hv, answer_error]
  case supervision =>
    intro s g hmode hdue
    rw [exec_redSupervisionSend, execRedSupervisionSend, redSupervisionSend_of_due hmode hdue, supervisionFrame]
  case unheard =>
    intro s g a x hnode hlong
    rw [exec_redNodeForget, execRedNodeForget, redNodeForget_of_unheard hnode hlong]
  case heard =>
    intro s g a x hnode hheard
    rw [exec_redNodeForget, execRedNodeForget, redNodeForget_of_heard hnode hheard]

end Sys2Proof.Machine
end

section
/-! PROOFS. Neighbours, link delay, the database and addresses of the fabric (Chapter 6; R241 to R248): what each message,
instant and decision does under its conditions. -/

namespace Sys2Proof.Machine

/-! ### Tables written twice at one key -/

section
variable {α : Type} {k : Nat}

@[simp] theorem tabDel_tabDel {t : Tab α} : tabDel (tabDel t k) k = tabDel t k := by
  induction t with
  | nil => rfl
  | cons x r ih =>
    obtain ⟨a, w⟩ := x
    by_cases h : a = k <;> simp only [tabDel, h, if_true, if_false, ih]

@[simp] theorem tabDel_tabIns {t : Tab α} {v : α} : tabDel (tabIns t k v) k = tabDel t k := by
  induction t with
  | nil => simp only [tabIns, tabDel, if_true]
  | cons x r ih =>
    obtain ⟨a, w⟩ := x
    unfold tabIns
    split_ifs
    · simp only [tabDel, if_true]
    · simp only [tabDel, ih]

variable [DecidableEq α] {d : α}

@[simp] theorem tabDel_tabSet {t : Tab α} {v : α} : tabDel (tabSet d t k v) k = tabDel t k := by
  unfold tabSet
  split_ifs
  · exact tabDel_tabDel
  · rw [tabDel_tabIns, tabDel_tabDel]

/-- Of two writes at one key the second stands. -/
@[simp] theorem tabSet_tabSet {t : Tab α} {v w : α} : tabSet d (tabSet d t k v) k w = tabSet d t k w := by
  rw [tabSet, tabDel_tabSet, ← tabSet]

end

@[simp] theorem setNb_setNb {s : State} {n : Nat} {x y : Neighbour} : (s.setNb n x).setNb n y = s.setNb n y := by
  simp only [State.setNb, tabSet_tabSet]

/-! ### Hello (R241) -/

section
variable {s : State} {n : Nat}

/-- A Hello sent before a neighbour is known, by a module without an address. -/
theorem xosynHelloSend_of_alone (hup : s.xosynUp n = true) (hdue : (s.nb n).helloAt + 1000000 * s.num Od.helloInterval ≤ s.gtc)
    (hdown : s.pnum Od.neighbourState n = 0) (hnone : s.ownAddress = none) : xosynHelloSend n s
      = (s.setNb n { s.nb n with helloAt := s.gtc }).sendLink n 0 0
        (toBE 8 s.ownSerial ++ toBE 4 (s.num Od.fabricId) ++ toBE 2 0 ++ toBE 1 n ++ toBE 1 0) := by
  have hunseen : (s.pnum Od.neighbourState n != 0) = false := by rw [hdown]; rfl
  simp only [xosynHelloSend, if_pos (And.intro hup (Or.inr hdue)), hunseen, hnone, Bool.false_and, boolNat, Bool.false_eq_true,
    if_false]

theorem xosynHello_of_up {serial fabric : Nat} {a : Option Nat} {seen : Bool} (hup : s.xosynUp n = true) :
    xosynHello n serial fabric a seen s = (((s.setNb n { s.nb n with heard := s.gtc }).setPnum Od.neighbourSerial n
      serial).setPnum Od.neighbourAddress n (a.getD 0xFFFF)).setNeighbour n
        (if fabric ≠ s.num Od.fabricId ∨ serial = s.ownSerial then 3 else if seen then 2 else 1) :=
  if_pos hup

theorem neighbourTimeout_of_silent (hknown : s.pnum Od.neighbourState n ≠ 0) (hlong : (s.nb n).heard + s.helloLimit ≤ s.gtc) :
    neighbourTimeout n s = s.setNeighbour n 0 :=
  if_pos ⟨hknown, hlong⟩

end

/-! ### Link delay (R242, R243) -/

section
variable {s : State} {n : Nat} (htwo : s.twoWay n = true)
include htwo

theorem delayReqSend_of_due (hdue : (s.nb n).delayAt + 1000000 * s.num Od.delayInterval ≤ s.gtc) :
    delayReqSend n s = (s.setNb n { s.nb n with delayAt := s.gtc, asked := none }).sendLink n 2 0 [] :=
  if_pos ⟨htwo, .inr hdue⟩

theorem delayReq_of_twoWay {q : Nat} :
    delayReq n q s = s.sendLink n 3 0 (toBE 8 s.gtc ++ toBE 4 0 ++ toBE 4 q) .residence :=
  if_pos htwo

variable {res q t1 : Nat} (hasked : (s.nb n).asked = some (q, t1))
include hasked

/-- The first measurement of a link has no mean to differ from. -/
theorem delayResp_of_first (hearly : s.gtc ≤ t1 + 5000000) (hfirst : (s.nb n).means = []) : delayResp n res q s
    = (s.setNb n { s.nb n with asked := none, outliers := 0, means := [(s.gtc : Int) - t1 - res] }).publishDelay n := by
  have hfew : ¬ 8 ≤ 0 := by decide
  simp only [delayResp, hasked, htwo, Nat.not_lt.mpr hearly, hfirst, List.length_nil, List.take_succ_cons, List.take_nil,
    setNb_setNb, ne_eq, not_true, or_self, if_false, hfew, false_and]

theorem delayResp_of_late (hlate : t1 + 5000000 < s.gtc) : delayResp n res q s = s.setNb n { s.nb n with asked := none } := by
  simp only [delayResp, hasked, htwo, hlate, ne_eq, not_true, or_self, if_false, if_true]

end

/-! ### The database (R244 to R246) -/

section
variable {s : State} (hon : s.fabricOn = true)
include hon

theorem lsaOriginate_of_due (hdue : s.fab.lsaDue = true) : lsaOriginate s = s.originateLsa.dbChanged := by
  simp only [lsaOriginate, hon, hdue, not_true, if_false, if_true]

theorem lsaOriginate_of_refresh (hsame : s.fab.lsaDue = false) (hold : s.fab.lsaAt + 30000000000 ≤ s.gtc) :
    lsaOriginate s = s.originateLsa := by
  simp only [lsaOriginate, hon, hsame, hold, not_true, Bool.false_eq_true, if_false, if_true]

end

/-- The count of database changes is no object of a port. -/
@[simp] theorem xosynPorts_dbChanged {s : State} : s.dbChanged.xosynPorts = s.xosynPorts := by
  refine List.filter_congr fun n hn => ?_
  have hport : n < 256 := by simpa using (mem_numbersFrom.mp hn).2
  have hkind : s.dbChanged.pnum Od.portKind n = s.pnum Od.portKind n :=
    num_setNum_other s Od.lsaChanges _ 0 _ 0 (by unfold objKey Od.portKind Od.lsaChanges; omega)
  rw [hkind]

@[simp] theorem xosynPorts_withFab {s : State} {f : FabricSt → FabricSt} : (s.withFab f).xosynPorts = s.xosynPorts := rfl

section
variable {s : State} {n : Nat} {h : XosynHead} {m : LsaMsg} (hup : s.xosynUp n = true) (htwo : s.twoWay n = true)
  (hhops : h.hopsLeft ≠ 0)
include hup htwo hhops

/-- An own Lsa of a number above this module's is from before its last start: the next one takes a higher number. -/
theorem lsa_of_own_ahead (hown : m.serial = s.ownSerial) (hahead : s.fab.ownSeq < m.seq) :
    lsa n h m s = (s.withFab fun x => { x with ownSeq := m.seq }).originateLsa := by
  simp only [lsa, hup, htwo, hhops, hown, hahead, and_self, not_true, if_false, if_true, State.withFab]

variable (hother : m.serial ≠ s.ownSerial)
include hother

theorem lsa_of_old_copy {r : LsaRec} (hstored : tabGet none s.fab.db m.serial = some r) (hold : m.seq ≤ r.seq) :
    lsa n h m s = s := by
  simp only [lsa, hup, htwo, hhops, hother, hstored, hold, and_self, not_true, if_false, if_true, decide_true]

/-- A module's first Lsa is stored; with no other port of the fabric it goes no further. -/
theorem lsa_of_new_at_end (hnew : tabGet none s.fab.db m.serial = none) (hroom : s.fab.db.length < 4095)
    (hend : s.xosynPorts = [n]) : lsa n h m s
      = (s.withFab fun x => { x with db := tabSet none x.db m.serial (some (lsaRecord m s.gtc)) }).dbChanged := by
  have hfits : ¬ 4096 ≤ s.fab.db.length + 1 := by omega
  have hports : (s.withFab fun x => { x with
      db := tabSet none x.db m.serial (some (lsaRecord m s.gtc)) }).dbChanged.xosynPorts = [n] := by
    rw [xosynPorts_dbChanged, xosynPorts_withFab, hend]
  unfold State.withFab at hports ⊢
  simp only [lsa, hup, htwo, hhops, hother, hnew, hfits, hports, and_self, and_false, not_true, Bool.false_eq_true, if_false,
    Option.map_none, reduceCtorEq, List.foldl_cons, List.foldl_nil, ne_eq, false_and]

end

theorem lsaAgeOut_of_old {s : State} {v : Nat} {r : LsaRec} (hstored : tabGet none s.fab.db v = some r)
    (htransit : s.fab.transit = []) (harrivals : s.fab.arrivals = []) (hold : r.at_ + 120000000000 ≤ s.gtc) :
    lsaAgeOut v s = (s.withFab fun x => { x with db := tabSet none x.db v none }).dbChanged := by
  simp only [lsaAgeOut, hstored, htransit, harrivals, Nat.not_lt.mpr hold, if_false, List.filter_nil, State.withFab]

/-! ### Addresses (R247, R248) -/

section
variable {s : State} (hon : s.fabricOn = true)
include hon

theorem addressDecide_of_root {t : State} (hchanged : s.fab.undecided = true)
    (ht : t = (s.withFab fun x => { x with undecided := false }).updateRoot) (hroot : t.num Od.rootSerial = t.ownSerial)
    (hstate : t.num Od.fabricState ≠ 0) : addressDecide s = (decideAddresses t.members).foldl State.announceAddress t := by
  subst ht
  rw [addressDecide, if_neg (by simp only [hon, hchanged, not_true, or_self, not_false_eq_true])]
  exact if_pos ⟨hroot, hstate⟩

theorem addressAssign_of_new {a c : Nat} (hnew : s.ownAddress ≠ some a) : addressAssign s.ownSerial (some a) c s
    = (((s.setNum Od.fabricAddress a).withFab fun x => { x with lsaDue := true, changed := true }).raiseOcc
      0x150 0x80 0 3 a).fabricUpdate := by
  simp only [addressAssign, hon, hnew, ne_eq, not_true, or_self, if_false, State.withFab]

/-- A module that holds no address has none to lose: the refusal is reported alone. -/
theorem addressAssign_of_refused (hnone : s.ownAddress = none) :
    addressAssign s.ownSerial none 1 s = s.raiseOcc 0x152 0x80 0 1 (s.num Od.fabricAddress) := by
  simp only [addressAssign, hon, hnone, ne_eq, not_true, or_self, if_false, Option.isNone_none, if_true]

end

/-- Settles O13: each clause is the lemma about its message, instant or decision. -/
theorem fabricNeighboursAndDelay : Obligations.FabricNeighboursAndDelay := by
  unfold Obligations.FabricNeighboursAndDelay
  refine ⟨?helloSend, ?hello, ?silent, ?delaySend, ?delayReq, ?first, ?late, ?due, ?refresh, ?own, ?copy, ?new, ?aged, ?decide,
    ?assigned, ?refused⟩
  case helloSend =>
    intro s n hup hdue hdown hnone
    rw [exec_xosynHelloSend, execXosynHelloSend, xosynHelloSend_of_alone hup hdue hdown hnone]
  case hello =>
    intro s n serial fabric a seen hup
    rw [exec_xosynHello, execXosynHello, xosynHello_of_up hup]
  case silent =>
    intro s n hknown hlong
    rw [exec_neighbourTimeout, execNeighbourTimeout, neighbourTimeout_of_silent hknown hlong]
  case delaySend =>
    intro s n htwo hdue
    rw [exec_delayReqSend, execDelayReqSend, delayReqSend_of_due htwo hdue]
  case delayReq =>
    intro s n src q htwo
    rw [exec_delayReq, execDelayReq, delayReq_of_twoWay htwo]
  case first =>
    intro s n t2 res q t1 hasked htwo hearly hfirst
    rw [exec_delayResp, execDelayResp, delayResp_of_first htwo hasked hearly hfirst]
  case late =>
    intro s n t2 res q t1 hasked htwo hlate
    rw [exec_delayResp, execDelayResp, delayResp_of_late htwo hasked hlate]
  case due =>
    intro s hon hdue
    rw [exec_lsaOriginate, execLsaOriginate, lsaOriginate_of_due hon hdue]
  case refresh =>
    intro s hon hsame hold
    rw [exec_lsaOriginate, execLsaOriginate, lsaOriginate_of_refresh hon hsame hold]
  case own =>
    intro s n h m hup htwo hhops hown hahead
    rw [exec_lsa, execLsa, lsa_of_own_ahead hup htwo hhops hown hahead]
  case copy =>
    intro s n h m r hup htwo hhops hother hstored hold
    rw [exec_lsa, execLsa, lsa_of_old_copy hup htwo hhops hother hstored hold]
  case new =>
    intro s n h m hup htwo hhops hother hnew hroom hend
    rw [exec_lsa, execLsa, lsa_of_new_at_end hup htwo hhops hother hnew hroom hend]
  case aged =>
    intro s v r hstored htransit harrivals hold
    rw [exec_lsaAgeOut, execLsaAgeOut, lsaAgeOut_of_old hstored htransit harrivals hold]
  case decide =>
    intro s t hon hchanged ht hroot hstate
    rw [exec_addressDecide, execAddressDecide, addressDecide_of_root hon hchanged ht hroot hstate]
  case assigned =>
    intro s a c hon hnew
    rw [exec_addressAssign, execAddressAssign, addressAssign_of_new hon hnew]
  case refused =>
    intro s hon hnone
    rw [exec_addressAssign, execAddressAssign, addressAssign_of_refused hon hnone]

end Sys2Proof.Machine
end

section
/-! PROOFS. Routes, flows and sinks of the fabric (Chapter 6; R249 to R257, R264): what each write, message and instant does
under its conditions. -/

namespace Sys2Proof.Machine

/-! ### The head of an arrived frame (R250) -/

section
variable {s : State} {n : Nat} {h : XosynHead}

/-- Of a head only the delay of the path is touched on arrival. -/
theorem arrivedHead_eq (s : State) (n : Nat) (h : XosynHead) :
    ∃ delay valid, s.arrivedHead n h = { h with pathDelay := delay, delayValid := valid } := by
  unfold State.arrivedHead
  split
  · exact ⟨_, _, rfl⟩
  · split_ifs
    · exact ⟨_, _, rfl⟩
    · exact ⟨_, _, rfl⟩

@[simp] theorem arrivedHead_source : (s.arrivedHead n h).source = h.source := by
  obtain ⟨_, _, heq⟩ := arrivedHead_eq s n h
  rw [heq]

@[simp] theorem arrivedHead_flow : (s.arrivedHead n h).flow = h.flow := by
  obtain ⟨_, _, heq⟩ := arrivedHead_eq s n h
  rw [heq]

@[simp] theorem arrivedHead_pathB : (s.arrivedHead n h).pathB = h.pathB := by
  obtain ⟨_, _, heq⟩ := arrivedHead_eq s n h
  rw [heq]

@[simp] theorem arrivedHead_destination : (s.arrivedHead n h).destination = h.destination := by
  obtain ⟨_, _, heq⟩ := arrivedHead_eq s n h
  rw [heq]

@[simp] theorem arrivedHead_hopsLeft : (s.arrivedHead n h).hopsLeft = h.hopsLeft := by
  obtain ⟨_, _, heq⟩ := arrivedHead_eq s n h
  rw [heq]

end

/-! ### Routes (R249, R252, R259) -/

/-- The state with the routes of its database, the root they give and the reports of the members alone. -/
def State.routed (s : State) : State :=
  let t := (s.withFab fun x => { x with changed := false, routes := s.routesNow }).updateRoot
  t.withFab fun x => { x with reports := x.reports.filter fun y => (t.members.filterMap fun z => z.2.addr).contains y.1 }

/-- The state with its stale reports counted. -/
def State.countedStale (s : State) : State :=
  s.setNum Od.staleMembers (s.fab.reports.filter fun x => (x.2.map (·.stale)).getD false).length

theorem routeCompute_of_changed {s : State} (hon : s.fabricOn = true) (hchanged : s.fab.changed = true) : routeCompute s
    = if s.routed.countedStale.num Od.fabricState = 2 then
        s.routed.countedStale.flows.foldl State.repairFlow s.routed.countedStale
      else s.routed.countedStale :=
  if_neg (by simp only [hon, hchanged, not_true, or_self, not_false_eq_true])

/-! ### Flow entries (Table 6-7, R252) -/

section
variable {s : State} {f : Nat} {b : Bytes}

theorem flowWrite_of_checked {who : Caller} (hlets : s.letsForm who (Od.flowEntry + f) false 0 (.bytes b) = true)
    (hcheck : s.checkFlow f b = .ok ()) :
    flowWrite who f b s = .ok ((s.applyFlow f b).bumpVersion (Od.flowEntry + f) 0) := by
  obtain ⟨row, hgate⟩ := letsForm_ok hlets
  simp only [flowWrite, hgate, hcheck, ok_bind]

theorem applyFlow_of_enable (hasks : flowEnabled b = true) (hnew : s.flowEntry f ≠ b)
    (hmember : (s.setBlob (Od.flowEntry + f) b).num Od.fabricState = 2) :
    s.applyFlow f b = (s.setBlob (Od.flowEntry + f) b).setupFlow f := by
  simp only [State.applyFlow, hasks, hnew, hmember, if_true, if_false]

theorem applyFlow_of_disable (hasks : flowEnabled b = false) (hold : flowEnabled (s.flowEntry f) = true) :
    s.applyFlow f b = (((s.releasePath f false).releasePath f true).setBlob (Od.flowEntry + f) b).flowSync f := by
  have hnew : s.flowEntry f ≠ b := by
    rintro rfl
    simp [hasks] at hold
  simp only [State.applyFlow, hasks, hold, hnew, Bool.false_eq_true, if_true, if_false]

end

/-! ### Setup at the sink and on the way (R253) -/

section
variable {s : State} {n : Nat} {h : XosynHead} {m : FlowMsg} {i : Nat} (htwo : s.twoWay n = true)
  (hplace : s.hopIndex m.hops = some i)
include htwo hplace

theorem flowSetup_of_no_sink (hlast : i + 1 = m.hops.length) (hnone : s.sinkOf h.source h.flow = none) :
    flowSetup n h m s = s.answerSetup (s.arrivedHead n h) m i 3 6 := by
  simp only [flowSetup, htwo, hplace, hlast, arrivedHead_source, arrivedHead_flow, hnone, Option.isNone_none, if_true]

/-- The rate of an arrival is charged anew: what the same path had installed before no longer counts. -/
theorem flowSetup_of_sink {k : Nat} {t : State} (hlast : i + 1 = m.hops.length) (hsink : s.sinkOf h.source h.flow = some k)
    (ht : t = s.withFab fun x => { x with arrivals := tabSet none x.arrivals (transitKey h.source h.flow h.pathB) none })
    (hfits : t.rxFits n m.rate = true) : flowSetup n h m s = (t.withFab fun x => { x with
      arrivals := tabSet none x.arrivals (transitKey h.source h.flow h.pathB)
        (some ⟨n, none, m.rate, m.burst, s.serialOf h.source⟩) }).answerSetup (s.arrivedHead n h) m i 2 0 := by
  subst ht
  unfold State.withFab at hfits ⊢
  simp only [flowSetup, htwo, hplace, hlast, arrivedHead_source, arrivedHead_flow, arrivedHead_pathB, hsink, hfits, not_true,
    Option.isNone_some, Bool.false_eq_true, if_false, if_true]

theorem flowSetup_of_no_link (hway : i + 1 ≠ m.hops.length) (hhops : (s.arrivedHead n h).hopsLeft ≠ 0)
    (hlost : s.portToAddress (m.hops.getD (i + 1) 0) = none) :
    flowSetup n h m s = (s.raiseAdmission 0x155 0x80 0 2 2).answerSetup (s.arrivedHead n h) m i 3 2 := by
  simp only [flowSetup, htwo, hplace, hway, hhops, hlost, if_false]

theorem flowRelease_of_last (hlast : i + 1 = m.hops.length) : flowRelease n h m s = s.withFab fun x => { x with
    arrivals := tabSet none x.arrivals (transitKey (s.arrivedHead n h).source (s.arrivedHead n h).flow
      (s.arrivedHead n h).pathB) none } := by
  simp only [flowRelease, htwo, hplace, hlast, if_true, State.withFab]

end

/-! ### Answers at the origin (R254) -/

section
variable {s : State} {n : Nat} {h : XosynHead} {m : FlowMsg} (htwo : s.twoWay n = true)
  (hhere : s.ownAddress = some h.destination) (hflow : h.flow < 1024) (hasked : ((s.flowAt h.flow).path h.pathB).st = 1)
  (hpath : ((s.flowAt h.flow).path h.pathB).hops = m.hops)
include htwo hhere hflow hasked hpath

theorem flowAck_of_asked : flowAck n h m s
    = (s.setPath h.flow h.pathB { (s.flowAt h.flow).path h.pathB with st := 2 }).flowSync h.flow := by
  simp only [flowAck, htwo, hhere, hflow, hasked, hpath, not_true, and_self, if_false, if_true]

theorem flowRefuse_of_asked : flowRefuse n h m s = s.refusePath h.flow h.pathB m.cause m.refusedAt := by
  simp only [flowRefuse, htwo, hhere, hflow, hasked, hpath, not_true, and_self, if_false, if_true]

end

theorem flowSetupTimeout_of_late {s : State} {f : Nat} {b : Bool} (hasked : ((s.flowAt f).path b).st = 1)
    (hlate : ((s.flowAt f).path b).sentAt + 100000000 ≤ s.gtc) : flowSetupTimeout f b s = s.refusePath f b 8 0 :=
  if_pos ⟨hasked, hlate⟩

/-! ### Flow data (R250, R256) -/

/-- A frame for a sink with a stream: the first copy of it is presented to the stream, a later one only counts. -/
theorem flowData_of_sink {s t u : State} {n k : Nat} {h : XosynHead} {o : Bytes} {fresh : Bool} (hup : s.xosynUp n = true)
    (htwo : s.twoWay n = true) (hhere : s.forwardXosyn n 7 (s.arrivedHead n h) o = (t, true))
    (hsink : t.sinkOf (s.arrivedHead n h).source (s.arrivedHead n h).flow = some k)
    (hstream : sinkStream (t.sinkEntry k) ≠ 0xFFFF) (htaken : t.takeSink k (s.arrivedHead n h) = (u, fresh)) :
    flowData n h o s = if fresh then u.presentFrame (u.sinkPort k (s.arrivedHead n h).pathB) (withFcs (padFrame o)) else u := by
  simp only [flowData, hup, htwo, hhere, hsink, hstream, htaken, and_self, not_true, if_false]

/-! ### Sinks (R256, R264) -/

theorem sinkWrite_of_checked {s : State} {who : Caller} {k : Nat} {b : Bytes}
    (hlets : s.letsForm who (Od.sinkEntry + k) false 0 (.bytes b) = true) (hcheck : s.checkSink k b = .ok ()) :
    sinkWrite who k b s = .ok ((s.applySink k b).bumpVersion (Od.sinkEntry + k) 0) := by
  obtain ⟨row, hgate⟩ := letsForm_ok hlets
  simp only [sinkWrite, hgate, hcheck, ok_bind]

/-- Path A is silent while path B still delivers. -/
theorem sinkPathSilent_of_a_alone {s : State} {k : Nat} (hvalid : sinkValid (s.sinkEntry k) = true)
    (huntold : (s.sinkAt k).silentA = false) (hquiet : (s.sinkAt k).atA + 10000000 ≤ s.gtc)
    (hother : s.gtc < (s.sinkAt k).atB + 10000000) : sinkPathSilent k false s
      = (s.setSink k { s.sinkAt k with silentA := true }).raiseOcc (0x170 + k / 128) 0x87 k 1 0 := by
  simp only [sinkPathSilent, hvalid, huntold, hquiet, Nat.not_le.mpr hother, not_true, decide_true, decide_false,
    Bool.false_eq_true, or_self, if_false, boolNat]

/-- Settles O14: each clause is the lemma about its write, message or instant. -/
theorem fabricFlows : Obligations.FabricFlows := by
  unfold Obligations.FabricFlows
  refine ⟨?routes, ?enable, ?disable, ?noSink, ?sink, ?noLink, ?ack, ?refuse, ?release, ?late, ?first, ?second, ?bind, ?silent⟩
  case routes =>
    rintro s t u hon hchanged rfl rfl -
    rw [exec_routeCompute, execRouteCompute, routeCompute_of_changed hon hchanged]
    rfl
  case enable =>
    intro s who f b hlets hcheck hasks hnew hmember
    rw [exec_flowEnable, execFlowEnable, flowWrite_of_checked hlets hcheck, applyFlow_of_enable hasks hnew hmember, answer_ok]
  case disable =>
    intro s who f b hlets hcheck hasks hold
    rw [exec_flowDisable, execFlowDisable, flowWrite_of_checked hlets hcheck, applyFlow_of_disable hasks hold, answer_ok]
  case noSink =>
    intro s n h m i htwo hplace hlast hnone
    rw [exec_flowSetup, execFlowSetup, flowSetup_of_no_sink htwo hplace hlast hnone]
  case sink =>
    intro s t n h m i k htwo hplace hlast hsink ht hfits
    rw [exec_flowSetup, execFlowSetup, flowSetup_of_sink htwo hplace hlast hsink ht hfits]
  case noLink =>
    intro s n h m i htwo hplace hway hhops hlost
    rw [exec_flowSetup, execFlowSetup, flowSetup_of_no_link htwo hplace hway hhops hlost]
  case ack =>
    rintro s n h m p htwo hhere rfl hflow hasked hpath
    rw [exec_flowAck, execFlowAck, flowAck_of_asked htwo hhere hflow hasked hpath]
  case refuse =>
    intro s n h m htwo hhere hflow hasked hpath
    rw [exec_flowRefuse, execFlowRefuse, flowRefuse_of_asked htwo hhere hflow hasked hpath]
  case release =>
    intro s n h m i htwo hplace hlast
    rw [exec_flowRelease, execFlowRelease, flowRelease_of_last htwo hplace hlast]
  case late =>
    intro s f b hasked hlate
    rw [exec_flowSetupTimeout, execFlowSetupTimeout, flowSetupTimeout_of_late hasked hlate]
  case first =>
    intro s t u n h o k hup htwo hhere hsink hstream htaken
    rw [exec_flowData, execFlowData, flowData_of_sink hup htwo hhere hsink hstream htaken, if_pos rfl]
  case second =>
    intro s t u n h o k hup htwo hhere hsink hstream htaken
    rw [exec_flowData, execFlowData, flowData_of_sink hup htwo hhere hsink hstream htaken, if_neg Bool.false_ne_true]
  case bind =>
    intro s who k b hlets hcheck
    rw [exec_sinkEntryWrite, execSinkEntryWrite, sinkWrite_of_checked hlets hcheck, answer_ok]
  case silent =>
    intro s k hvalid huntold hquiet hother
    rw [exec_sinkPathSilent, execSinkPathSilent, sinkPathSilent_of_a_alone hvalid huntold hquiet hother]

end Sys2Proof.Machine
end

section
/-! PROOFS. Time, reports and datagrams over the fabric (Chapter 6; R250, R258 to R260): what each message and instant does
under its conditions. -/

namespace Sys2Proof.Machine

/-! ### Time over the fabric (R258) -/

/-- A domain that follows another source than the fabric is offered at depth 0. -/
theorem timeSend_of_own {s : State} {d : Nat} (hmember : s.num Od.fabricState = 2)
    (hoffered : (s.num Od.timeOffer).testBit d = true) (hon : (s.dom d).state ≠ 0) (hown : (s.dom d).source ≠ 3) :
    timeSend d s = s.sendBroadcast 8 0 (toBE 1 d ++ toBE 1 (s.dom d).state ++ toBE 1 (s.dom d).clockClass
      ++ toBE 1 (s.domQuality d % 256) ++ toBE 1 0 ++ [0, 0, 0] ++ List.replicate 12 0) (.domainTime d) := by
  rw [timeSend, if_pos ⟨hmember, hoffered, hon⟩]
  simp only [hown, if_false]

theorem timeMessage_of_deepest {s : State} {a d p : Nat} {m : TimeMsg} {v : Bool} (hdeepest : m.depth = 15) :
    timeMessage a d m p v s = s :=
  if_pos hdeepest

/-- An offer whose path has no valid delay is kept, and measures nothing. -/
theorem timeMessage_of_unmeasured {s : State} {a d p : Nat} {m : TimeMsg} (hdepth : m.depth ≠ 15)
    (hknown : s.offerers.contains a = true) : timeMessage a d m p false s = s.withFab fun x => { x with
      offers := tabSet none x.offers (offerKey d a) (some ⟨m.st, m.depth, m.clockClass, m.errorLog2, s.gtc⟩) } := by
  simp only [timeMessage, hdepth, hknown, not_true, false_and, Bool.false_eq_true, if_false, State.withFab]

section
variable {s : State} {d a : Nat} {o : Offer} (hoffer : s.offer d a = some o) (hsilent : o.at_ + 375000000 ≤ s.gtc)
include hoffer hsilent

theorem fabricSourceLost_of_unfollowed (hother : s.followed d ≠ some a) : fabricSourceLost d a s
    = s.withFab fun x => { x with offers := tabSet none x.offers (offerKey d a) none } := by
  simp only [fabricSourceLost, hoffer, Nat.not_lt.mpr hsilent, hother, false_and, if_false, State.withFab]

/-- With the offer that the domain followed goes its source, when no other offer stands. -/
theorem fabricSourceLost_of_last {t : State} (hfollowed : s.followed d = some a)
    (ht : t = s.withFab fun x => { x with offers := tabSet none x.offers (offerKey d a) none }) (hlast : t.followed d = none) :
    fabricSourceLost d a s = t.loseSource d 3 := by
  subst ht
  unfold State.withFab at hlast ⊢
  simp only [fabricSourceLost, hoffer, Nat.not_lt.mpr hsilent, hfollowed, hlast, Option.isNone_none, and_self, if_false, if_true]

end

/-! ### Reports (R259) -/

/-- The state that has counted and dated a report of its health now. -/
def State.reportCounted (s : State) : State := s.withFab fun x => { x with
  reportAt := s.gtc, reportState := hwState s.moduleHealth, reportSeq := (x.reportSeq + 1) % 2 ^ 32 }

/-- A report says nothing of the reports sent before. -/
theorem ownReport_reportCounted {s : State} {q : Nat} : s.reportCounted.ownReport q = s.ownReport q := rfl

theorem pondReportSend_of_due {s t : State} (ht : t = s.watchHealth) (hmember : t.num Od.fabricState = 2)
    (hdue : t.fab.reportAt + 1000000 * t.num Od.reportInterval ≤ t.gtc) :
    pondReportSend s = t.reportCounted.sendBroadcast 9 0 (t.reportCounted.ownReport t.fab.reportSeq) := by
  subst ht
  rw [ownReport_reportCounted]
  exact if_pos ⟨hmember, .inl hdue⟩

theorem pondReport_of_first {s : State} {a : Nat} {m : ReportMsg} (hnew : tabGet none s.fab.reports a = none) :
    pondReport a m s = s.withFab fun x => { x with
      reports := tabSet none x.reports a (some ⟨m.seq, m.health, m.share, m.used, m.held, m.inUse, s.gtc, false⟩) } := by
  simp only [pondReport, hnew, State.withFab]

theorem memberStale_of_old {s : State} {a : Nat} {r : Report} (hstored : tabGet none s.fab.reports a = some r)
    (hfresh : r.stale = false) (hold : r.at_ + 3000000 * s.num Od.reportInterval < s.gtc) : memberStale a s
      = ((s.withFab fun x => { x with reports := tabSet none x.reports a (some { r with stale := true }) }).setNum
        Od.staleMembers (s.num Od.staleMembers + 1)).raiseOcc 0x156 0x80 0 1 a := by
  simp only [memberStale, hstored, hfresh, Nat.not_le.mpr hold, Bool.false_eq_true, or_self, if_false, State.withFab]

/-! ### Datagrams (R250, R260) -/

/-- A frame with no hop left on a Forwarding port of a module that it does not name goes no further. -/
theorem forwardXosyn_of_no_hops {s : State} {n kind : Nat} {h : XosynHead} {o : Bytes}
    (hforward : s.pnum Od.portForwardState n = 2) (hother : s.ownAddress ≠ some h.destination) (hhops : h.hopsLeft = 0) :
    s.forwardXosyn n kind h o = (s.fabricDrop Od.hopLimitDrops, false) := by
  simp only [State.forwardXosyn, hforward, hother, hhops, ne_eq, not_true, and_false, if_false, if_true]

section
variable {s t : State} {n : Nat} {h : XosynHead} {o : Bytes} (hup : s.xosynUp n = true) (htwo : s.twoWay n = true)
include hup htwo

theorem datagram_of_here (hhere : s.forwardXosyn n 0xC (s.arrivedHead n h) o = (t, true)) : datagram n h o s
    = (t.receiveInto (t.num Od.datagramRing / 256) (t.num Od.datagramRing % 256)
      (receivePacket 2 (s.arrivedHead n h).source false true false (!t.fine .n) t.gtc (s.arrivedHead n h).sequence o)).1 := by
  simp only [datagram, hup, htwo, hhere, and_self, not_true, if_false, if_true]

theorem datagram_of_away (haway : s.forwardXosyn n 0xC (s.arrivedHead n h) o = (t, false)) : datagram n h o s = t := by
  simp only [datagram, hup, htwo, haway, and_self, not_true, Bool.false_eq_true, if_false]

end

/-- Settles O15: each clause is the lemma about its message or instant. -/
theorem fabricTimeReportsDatagrams : Obligations.FabricTimeReportsDatagrams := by
  unfold Obligations.FabricTimeReportsDatagrams
  refine ⟨?timeSend, ?deepest, ?offer, ?unfollowed, ?last, ?reportSend, ?report, ?stale, ?here, ?noHops⟩
  case timeSend =>
    intro s d hmember hoffered hon hown
    rw [exec_timeSend, execTimeSend, timeSend_of_own hmember hoffered hon hown]
  case deepest =>
    intro s a d m p v hdeepest
    rw [exec_time, execTime, timeMessage_of_deepest hdeepest]
  case offer =>
    intro s a d m p hdepth hknown
    rw [exec_time, execTime, timeMessage_of_unmeasured hdepth hknown]
  case unfollowed =>
    intro s d a o hoffer hsilent hother
    rw [exec_fabricSourceLost, execFabricSourceLost, fabricSourceLost_of_unfollowed hoffer hsilent hother]
  case last =>
    intro s t d a o hoffer hsilent hfollowed ht hlast
    rw [exec_fabricSourceLost, execFabricSourceLost, fabricSourceLost_of_last hoffer hsilent hfollowed ht hlast]
  case reportSend =>
    intro s t ht hmember hdue
    rw [exec_pondReportSend, execPondReportSend, pondReportSend_of_due ht hmember hdue, State.reportCounted]
  case report =>
    intro s a m hnew
    rw [exec_pondReport, execPondReport, pondReport_of_first hnew]
  case stale =>
    intro s a r hstored hfresh hold
    rw [exec_memberStale, execMemberStale, memberStale_of_old hstored hfresh hold]
  case here =>
    intro s t n h o hup htwo hhere
    rw [exec_datagram, execDatagram, datagram_of_here hup htwo hhere]
  case noHops =>
    intro s n h o hup htwo hforward hother hhops _
    rw [exec_datagram, execDatagram, datagram_of_away hup htwo (forwardXosyn_of_no_hops hforward
      (by rwa [arrivedHead_destination]) (by rwa [arrivedHead_hopsLeft]))]

end Sys2Proof.Machine
end

section
/-! PROOFS. The intake of sampled values (Chapter 7; R273, R274, R278, R284 to R288, R295, R299): what a binding, the key slots,
a frame, a horizon and a silence do under their conditions. -/

namespace Sys2Proof.Machine

/-! ### Binding and key slots (R273, R274, R278) -/

section
variable {s : State} {who : Caller} {e : Nat}

theorem applyIntakeEnable_of_unbound (hnew : s.bound e = false) : s.applyIntakeEnable e 1 = s.bindStream e := by
  rw [State.applyIntakeEnable, if_pos rfl, hnew, if_neg Bool.false_ne_true]

theorem applyIntakeEnable_of_zero : s.applyIntakeEnable e 0 = s.unbindStream e :=
  if_neg Nat.zero_ne_one

/-- An enabling write is judged by Table 7-4. -/
theorem checkIntakeEnable_one (howner : s.checkEntryOwner who e = .ok ()) :
    s.checkIntakeEnable who e 1 = s.checkBinding who e := by
  rw [State.checkIntakeEnable, howner, ok_bind, if_pos rfl]

/-- A disabling write asks only that no running instance reads the stream. -/
theorem checkIntakeEnable_zero (howner : s.checkEntryOwner who e = .ok ()) (hunread : s.streamRead e = false) :
    s.checkIntakeEnable who e 0 = .ok () := by
  rw [State.checkIntakeEnable, howner, ok_bind, if_neg Nat.zero_ne_one, hunread, Bool.not_false, need_true]

theorem intakeEnable_of_checked {value : Nat} (hlets : s.lets who (Od.intakeEnable + e) false 0 (.num value) = true)
    (hcheck : s.checkIntakeEnable who e value = .ok ()) :
    intakeEnable who e value s = .ok ((s.applyIntakeEnable e value).bumpVersion (Od.intakeEnable + e) 0) := by
  rw [intakeEnable, lets_ok hlets, ok_bind, hcheck, ok_bind]

theorem intakeEnable_of_refused {value : Nat} {c : Code}
    (hlets : s.lets who (Od.intakeEnable + e) false 0 (.num value) = true)
    (hcheck : s.checkIntakeEnable who e value = .error c) : intakeEnable who e value s = .error c := by
  rw [intakeEnable, lets_ok hlets, ok_bind, hcheck, error_bind]

theorem intakeKeySlots_of_checked {value : Nat} (hlets : s.lets who (Od.intakeKeySlots + e) false 0 (.num value) = true)
    (hcheck : s.checkKeySlots who e value = .ok ()) :
    intakeKeySlots who e value s = .ok ((s.applyKeySlots e value).bumpVersion (Od.intakeKeySlots + e) 0) := by
  rw [intakeKeySlots, lets_ok hlets, ok_bind, hcheck, ok_bind]

end

/-! ### Frames (Table 7-5, R283 to R286) -/

/-- A frame that has been noted is judged by Table 7-5: discarded with its cause, or counted and its samples placed. -/
def State.judgeFrame (s : State) (e : Nat) (o : Bytes) (v : Int) (frozen : Bool) : State :=
  match s.intakeSamples e o v with
  | .error cause => s.intakeDiscard e cause
  | .ok l =>
    let t := s.streamCount e 0 1
    if frozen then t else l.foldl (fun w a => w.takeSample e v a) (horizonClose e t)

theorem judgeFrame_of_error {s : State} {e cause : Nat} {o : Bytes} {v : Int} {frozen : Bool}
    (hfails : s.intakeSamples e o v = .error cause) : s.judgeFrame e o v frozen = s.intakeDiscard e cause := by
  simp only [State.judgeFrame, hfails]

theorem judgeFrame_of_ok {s : State} {e : Nat} {o : Bytes} {v : Int} {l : List Sample}
    (hpasses : s.intakeSamples e o v = .ok l) : s.judgeFrame e o v false
      = l.foldl (fun w a => w.takeSample e v a) (horizonClose e (s.streamCount e 0 1)) := by
  simp only [State.judgeFrame, hpasses, Bool.false_eq_true, if_false]

/-- The oldest copy leaves the queue; a frame of a bound stream, received since its binding, is noted and judged. -/
theorem intakeFrame_of_bound {s t u : State} {c : IntakeCopy} {rest : List IntakeCopy} {x : StreamSt}
    (hcopies : s.intake.copies = c :: rest) (ht : t = s.withIntake fun y => { y with copies := rest })
    (hbound : t.stream c.entry = some x) (hruns : s.intakeRuns = true) (hsince : x.since ≤ c.stamp)
    (hu : u = (t.setStream c.entry (some { x with lastFrame := s.gtc })).noteAmbiguous c.entry
      (seClass (s.streamEntry c.entry)) c.octets) : intakeFrame s
      = u.judgeFrame c.entry c.octets ((t.dom (icDomain (t.intakeConfig c.entry))).valueAt c.stamp) x.frozen.isSome := by
  subst hu ht
  unfold State.withIntake at hbound ⊢
  simp only [intakeFrame, hcopies, hbound]
  exact if_neg (not_or.mpr ⟨not_not.mpr hruns, Nat.not_lt.mpr hsince⟩)

/-! ### The horizon and silence (R286, R288, R295, R299) -/

theorem horizonClose_of_running {s : State} {e : Nat} {x : StreamSt} (hbound : s.stream e = some x)
    (hthawed : x.frozen = none) (hruns : s.intakeRuns = true) : horizonClose e s
      = s.closeMissing e (s.openInstants e x ((s.dom (icDomain (s.intakeConfig e))).valueAt s.gtc
        - icHorizonUnits (s.intakeConfig e) - 24000 * 2 ^ 48)) := by
  simp only [horizonClose, hbound, hthawed, hruns, Option.isSome_none, Bool.false_eq_true, not_true, or_self, if_false]

section
variable {s : State} {e : Nat} {x : StreamSt} (hbound : s.stream e = some x)
  (hplaced : 2 ≤ field (s.num (Od.intakeStreamStatus + e)) 28 4) (hrate : icRateCode (s.intakeConfig e) = 1)
  (hquiet : x.lastPlaced + 2083334 < s.gtc)
include hbound hplaced hrate hquiet

/-- At 4800 samples per second the 10 periods of R295 are 2 083 334 ns. -/
theorem streamSilent_of_quiet : streamSilent e s
    = s.streamState e (if x.lastPlaced < x.lastFrame ∧ s.gtc ≤ x.lastFrame + 2083334 then 4 else 3) := by
  have hlimit : max 1000000 (ceilDiv 10000000000 (intakeRate 1)) = 2083334 := by decide
  simp only [streamSilent, hbound, hrate, hlimit]
  exact if_neg (not_or.mpr ⟨Nat.not_lt.mpr hplaced, Nat.not_le.mpr hquiet⟩)

theorem streamSilent_of_no_frame (hnone : x.lastFrame ≤ x.lastPlaced) : streamSilent e s = s.streamState e 3 := by
  rw [streamSilent_of_quiet hbound hplaced hrate hquiet, if_neg fun h => Nat.not_lt.mpr hnone h.1]

theorem streamSilent_of_frames (hlater : x.lastPlaced < x.lastFrame) (hrecent : s.gtc ≤ x.lastFrame + 2083334) :
    streamSilent e s = s.streamState e 4 := by
  rw [streamSilent_of_quiet hbound hplaced hrate hquiet, if_pos ⟨hlater, hrecent⟩]

end

/-- Settles O16: each clause is the lemma about its write, frame or instant. -/
theorem intakeStreams : Obligations.IntakeStreams := by
  unfold Obligations.IntakeStreams
  refine ⟨?bind, ?unbind, ?refused, ?keySlots, ?discarded, ?taken, ?horizon, ?silent, ?rejecting⟩
  case bind =>
    intro s who e hlets howner hcheck hnew
    rw [exec_intakeEnable, execIntakeEnable, intakeEnable_of_checked hlets ((checkIntakeEnable_one howner).trans hcheck),
      applyIntakeEnable_of_unbound hnew, Act.andThen, answer_ok]
  case unbind =>
    intro s who e hlets howner hunread
    rw [exec_intakeEnable, execIntakeEnable, intakeEnable_of_checked hlets (checkIntakeEnable_zero howner hunread),
      applyIntakeEnable_of_zero, Act.andThen, answer_ok]
  case refused =>
    intro s who e c hlets howner hcheck
    rw [exec_intakeEnable, execIntakeEnable, intakeEnable_of_refused hlets ((checkIntakeEnable_one howner).trans hcheck),
      Act.andThen, answer_error]
  case keySlots =>
    intro s who e v hlets hcheck
    rw [exec_intakeKeySlots, execIntakeKeySlots, intakeKeySlots_of_checked hlets hcheck, answer_ok]
  case discarded =>
    intro s t u c rest x cause hcopies ht hbound hruns hsince hu hfails
    rw [exec_intakeFrame, execIntakeFrame, intakeFrame_of_bound hcopies ht hbound hruns hsince hu, judgeFrame_of_error hfails]
  case taken =>
    intro s t u c rest x l hcopies ht hbound hruns hsince hu hpasses hthawed
    rw [exec_intakeFrame, execIntakeFrame, intakeFrame_of_bound hcopies ht hbound hruns hsince hu, hthawed,
      Option.isSome_none, judgeFrame_of_ok hpasses]
  case horizon =>
    intro s e x hbound hthawed hruns
    rw [exec_horizonClose, execHorizonClose, horizonClose_of_running hbound hthawed hruns]
  case silent =>
    intro s e x hbound hplaced hrate hquiet hnone
    rw [exec_streamSilent, execStreamSilent, streamSilent_of_no_frame hbound hplaced hrate hquiet hnone]
  case rejecting =>
    intro s e x hbound hplaced hrate hquiet hlater hrecent
    rw [exec_streamSilent, execStreamSilent, streamSilent_of_frames hbound hplaced hrate hquiet hlater hrecent]

end Sys2Proof.Machine
end

section
/-! PROOFS. The chain of filters (Chapter 8; R301 to R304, R312, R313, R315, R325 to R329): what the writes of channels, FIR
sets, phasors and trackers do once their checks pass, what an output captures, and what memory errors leave. -/

namespace Sys2Proof.Machine

/-! ### Channels (R302, R303, R313) -/

section
variable {s : State} {who : Caller} {c : Nat}

theorem filterInput_of_checked {value : Nat} (hexists : chExists c = true)
    (hlets : s.lets who (Od.filterInput + chOff c) false 0 (.num value) = true)
    (hcheck : s.checkFilterInput who c value = .ok ()) :
    filterInput who c value s = .ok ((s.applyFilterInput c value).bumpVersion (Od.filterInput + chOff c) 0) := by
  rw [filterInput, need_ok hexists, ok_bind, lets_ok hlets, ok_bind, hcheck, ok_bind]

theorem filterEnable_of_checked {value : Nat} (hexists : chExists c = true)
    (hlets : s.lets who (Od.filterEnable + chOff c) false 0 (.num value) = true)
    (hcheck : s.checkFilterEnable who c value = .ok ()) :
    filterEnable who c value s = .ok ((s.applyFilterEnable c value).bumpVersion (Od.filterEnable + chOff c) 0) := by
  rw [filterEnable, need_ok hexists, ok_bind, lets_ok hlets, ok_bind, hcheck, ok_bind]

theorem filterEnable_of_refused {value : Nat} {e : Code} (hexists : chExists c = true)
    (hlets : s.lets who (Od.filterEnable + chOff c) false 0 (.num value) = true)
    (hcheck : s.checkFilterEnable who c value = .error e) : filterEnable who c value s = .error e := by
  rw [filterEnable, need_ok hexists, ok_bind, lets_ok hlets, ok_bind, hcheck, error_bind]

/-- A channel that no stream feeds cannot be enabled. -/
theorem checkFilterEnable_of_unfed (hexists : chExists c = true)
    (hholds : s.tenantHolds who (chItem c).1 (chItem c).2 = true) (hunfed : s.feedOf (s.inputKey c) = none) :
    s.checkFilterEnable who c 1 = .error .precondition := by
  have howner : s.checkChannelOwner who c = .ok () := by
    rw [State.checkChannelOwner, need_ok hexists, ok_bind, need_ok hholds]
  rw [State.checkFilterEnable, howner, ok_bind, if_pos rfl, hunfed]

theorem applyFilterEnable_of_off (hoff : s.filterOn c = false) : s.applyFilterEnable c 1
    = (((s.setFilter c none).startFilter c).setNum (Od.filterEnable + chOff c) 1).filterEvent c (s.filterState c) := by
  rw [State.applyFilterEnable, if_pos rfl, hoff, if_neg Bool.false_ne_true]

theorem applyFilterEnable_zero : s.applyFilterEnable c 0
    = ((s.setNum (Od.filterEnable + chOff c) 0).setFilter c none).filterEvent c (s.filterState c) := by
  rw [State.applyFilterEnable, if_neg Nat.zero_ne_one]

theorem filterScale_of_checked {b : Bytes} (hexists : chExists c = true)
    (hlets : s.lets who (Od.filterScale + chOff c) false 0 (.bytes b) = true)
    (hcheck : s.checkFilterScale who c b = .ok ()) :
    filterScale who c b s = .ok ((s.applyFilterScale c b).bumpVersion (Od.filterScale + chOff c) 0) := by
  obtain ⟨row, hgate, hrange⟩ := lets_gate hlets
  rw [filterScale, need_ok hexists, ok_bind, hgate, ok_bind, hrange, ok_bind, hcheck, ok_bind]

end

/-! ### FIR sets (R312) -/

section
variable {s : State} {who : Caller} {k : Nat} {b : Bytes}

theorem checkFir_of_unnamed (hform : checkFirForm b = .ok ()) (hunnamed : s.firNamed k = false) :
    s.checkFir k b = .ok () := by
  rw [State.checkFir, hform, ok_bind, hunnamed, Bool.not_false, Bool.true_or, need_true]

/-- A set that an enabled channel names can be written only while it is Corrupt. -/
theorem checkFir_of_named (hform : checkFirForm b = .ok ()) (hnamed : s.firNamed k = true)
    (hgood : s.chain.corrupt.contains k = false) : s.checkFir k b = .error .busy := by
  rw [State.checkFir, hform, ok_bind, hnamed, hgood, Bool.not_true, Bool.false_or, need_false]

theorem firSetWrite_of_checked (hlets : s.letsForm who (Od.firSet + k) false 0 (.bytes b) = true)
    (hcheck : s.checkFir k b = .ok ()) :
    firSetWrite who k b s = .ok ((s.applyFir k b).bumpVersion (Od.firSet + k) 0) := by
  obtain ⟨row, hgate⟩ := letsForm_ok hlets
  rw [firSetWrite, hgate, ok_bind, hcheck, ok_bind]

theorem firSetWrite_of_refused {e : Code} (hlets : s.letsForm who (Od.firSet + k) false 0 (.bytes b) = true)
    (hcheck : s.checkFir k b = .error e) : firSetWrite who k b s = .error e := by
  obtain ⟨row, hgate⟩ := letsForm_ok hlets
  rw [firSetWrite, hgate, ok_bind, hcheck, error_bind]

end

/-! ### Phasors and trackers (R325 to R328) -/

section
variable {s : State} {who : Caller}

theorem phasorEnable_of_checked {p value : Nat} (hlets : s.lets who (Od.phasorEnable + p) false 0 (.num value) = true)
    (hcheck : s.checkPhasorEnable who p value = .ok ()) :
    phasorEnable who p value s = .ok ((s.applyPhasorEnable p value).bumpVersion (Od.phasorEnable + p) 0) := by
  rw [phasorEnable, lets_ok hlets, ok_bind, hcheck, ok_bind]

theorem trackerEnable_of_checked {t value : Nat} (hlets : s.lets who (Od.trackerEnable + t) false 0 (.num value) = true)
    (hcheck : s.checkTrackerEnable t value = .ok ()) :
    trackerEnable who t value s = .ok ((s.applyTrackerEnable t value).bumpVersion (Od.trackerEnable + t) 0) := by
  rw [trackerEnable, lets_ok hlets, ok_bind, hcheck, ok_bind]

end

/-- Phasor `p` goes from `x` to `y`, with the event of Table 8-12 where it is no longer settled. -/
def State.phasorMoved (s : State) (p : Nat) (x y : PhasorSt) : State :=
  if x.settled && !y.settled then (s.setPhasor p (some y)).raiseLimited (0x780 + p / 64) 0xA003 0x83 p 0
  else s.setPhasor p (some y)

/-- The trackers that refer to phasor `p` take their record of instant `n`, if it is complete (R327). -/
def State.recordTrackersOf (s : State) (p n : Nat) : State :=
  (s.enabledTrackers.filter fun k => (tcRefs (s.trackerConfig k)).contains p).foldl (fun w k => w.trackerRecord k n) s

/-- A phasor that follows no tracker waits for none: it takes the one output of its source that it has not taken yet. -/
theorem phasorOutput_of_untracked {s : State} {p : Nat} {x : PhasorSt} {src : FilterSt} {e : ChainEnt} {d fs fo : Nat}
    (hon : s.phasor p = some x) (hsource : s.filter (pcSource (s.phasorConfig p)) = some src)
    (hrates : s.filterRates (pcSource (s.phasorConfig p)) = some (d, fs, fo)) (hents : src.ents = [e])
    (hnew : x.last < e.at_) (huntracked : pcTracker (s.phasorConfig p) = 0xFF) (hnone : s.tracker 0xFF = none)
    (hshed : s.shedLevel ≤ 3) :
    ∃ y : PhasorSt, phasorOutput p s = (s.phasorMoved p x y).recordTrackersOf p e.at_ ∧ y.last = e.at_
      ∧ y.win = (e :: x.win).take 8192 := by
  have hnext : (src.ents.filter fun e => decide (x.last < e.at_)).getLast? = some e := by
    simp [hents, hnew]
  fun_cases phasorOutput p s
  case case1 hsource' hon' hnext' =>
    obtain rfl := Option.some.inj (hon.symm.trans hon')
    obtain rfl := Option.some.inj (hsource.symm.trans hsource')
    exact absurd (hnext.symm.trans hnext') (Option.some_ne_none e)
  case case2 hwaits =>
    have hnow : ¬ 3 < s.shedLevel := Nat.not_lt.mpr hshed
    simp +zetaDelta [huntracked, hnone, hnow] at hwaits
  case case3 src' _ _ _ _ hsource' hon' _ e' hnext' _ _ _ _ _ _ _ _ _ _ _ _ _ _ _ y _ _ =>
    obtain rfl := Option.some.inj (hon.symm.trans hon')
    obtain rfl := Option.some.inj (hsource.symm.trans hsource')
    obtain rfl := Option.some.inj (hnext.symm.trans hnext')
    exact ⟨y, rfl, rfl, rfl⟩
  case case4 hoff => exact (hoff x src d fs fo hon hsource hrates).elim

/-! ### Outputs and memory errors (R315, R329) -/

section
variable {s : State}

theorem filterOutput_of_powered {c : Nat} (hshed : s.shedLevel ≤ 3) :
    filterOutput c s = s.chainRun c (fcR (s.filterConfig c) * fcQ (s.filterConfig c) + 1) :=
  if_pos hshed

theorem chainEccError_corrected {fir : Bool} {n : Nat} : chainEccError true fir n s = s.count32 Od.chainEccCorrected :=
  if_pos rfl

/-- An uncorrectable error in the memory of a running channel restarts it. -/
theorem chainEccError_of_running {n : Nat} (hrunning : s.filterState n = 2) : chainEccError false false n s
    = ((s.count32 Od.chainEccUncorrectable).startFilter n).raiseOcc (chSource n) 0x82 n 4 0 := by
  rw [chainEccError, if_neg Bool.false_ne_true, if_neg Bool.false_ne_true, if_pos hrunning]

theorem chainScrubPass_of_timely {micros : Nat} (htimely : micros ≤ 100000) :
    chainScrubPass micros s = s.setNum Od.chainScrubPassTime (sat32 micros) :=
  if_neg (Nat.not_lt.mpr htimely)

theorem chainScrubPass_of_late {micros : Nat} (hlate : 100000 < micros) : chainScrubPass micros s
    = (s.setNum Od.chainScrubPassTime (sat32 micros)).raiseOcc 0x7A0 0x80 0 2 micros :=
  if_pos hlate

end

/-- Settles O17: each clause is the lemma about its write, output or error. -/
theorem chainOfFilters : Obligations.ChainOfFilters := by
  unfold Obligations.ChainOfFilters
  refine ⟨?input, ?enable, ?disable, ?unfed, ?scale, ?fir, ?named, ?phasor, ?tracker, ?output, ?phasorOut, ?corrected,
    ?restarts, ?timely, ?late⟩
  case input =>
    intro s who c v hexists hlets hcheck
    rw [exec_filterInput, execFilterInput, filterInput_of_checked hexists hlets hcheck, Act.andThen, answer_ok]
  case enable =>
    intro s who c hexists hlets hcheck hoff
    rw [exec_filterEnable, execFilterEnable, filterEnable_of_checked hexists hlets hcheck, applyFilterEnable_of_off hoff,
      Act.andThen, answer_ok]
  case disable =>
    intro s who c hexists hlets hcheck
    rw [exec_filterEnable, execFilterEnable, filterEnable_of_checked hexists hlets hcheck, applyFilterEnable_zero,
      Act.andThen, answer_ok]
  case unfed =>
    intro s who c hexists hlets hholds hunfed
    rw [exec_filterEnable, execFilterEnable,
      filterEnable_of_refused hexists hlets (checkFilterEnable_of_unfed hexists hholds hunfed), Act.andThen, answer_error]
  case scale =>
    intro s who c b hexists hlets hcheck
    rw [exec_filterScale, execFilterScale, filterScale_of_checked hexists hlets hcheck, answer_ok]
  case fir =>
    intro s who k b hlets hform hunnamed
    rw [exec_firSetWrite, execFirSetWrite, firSetWrite_of_checked hlets (checkFir_of_unnamed hform hunnamed), answer_ok]
  case named =>
    intro s who k b hlets hform hnamed hgood
    rw [exec_firSetWrite, execFirSetWrite, firSetWrite_of_refused hlets (checkFir_of_named hform hnamed hgood), answer_error]
  case phasor =>
    intro s who p v hlets hcheck
    rw [exec_phasorEnable, execPhasorEnable, phasorEnable_of_checked hlets hcheck, Act.andThen, answer_ok]
  case tracker =>
    intro s who t v hlets hcheck
    rw [exec_trackerEnable, execTrackerEnable, trackerEnable_of_checked hlets hcheck, Act.andThen, answer_ok]
  case output =>
    intro s c hshed
    rw [exec_filterOutput, execFilterOutput, filterOutput_of_powered hshed]
  case phasorOut =>
    intro s p x src e d fs fo hon hsource hrates hents hnew huntracked hnone hshed
    obtain ⟨y, hout, hlast, hwin⟩ := phasorOutput_of_untracked hon hsource hrates hents hnew huntracked hnone hshed
    refine ⟨_, y, ?_, hlast, hwin, rfl⟩
    rw [exec_phasorOutput, execPhasorOutput, hout, State.recordTrackersOf, State.phasorMoved]
  case corrected =>
    intro s fir n
    rw [exec_chainEccError, execChainEccError, chainEccError_corrected]
  case restarts =>
    intro s t n ht _ hrunning
    rw [exec_chainEccError, execChainEccError, chainEccError_of_running hrunning, ht]
  case timely =>
    intro s m htimely
    rw [exec_chainScrubPass, execChainScrubPass, chainScrubPass_of_timely htimely]
  case late =>
    intro s m hlate
    rw [exec_chainScrubPass, execChainScrubPass, chainScrubPass_of_late hlate]

end Sys2Proof.Machine
end

section
/-! PROOFS. Acquisition units (Chapter 9; R335, R344, R348 to R353, R364, R370): what arming, software triggers, conditions,
freezes and the control of a record do once their checks let them through. -/

namespace Sys2Proof.Machine

/-! ### Arming and software triggers (R335, R344, R348, R370) -/

section
variable {s : State} {who : Caller} {u : Nat} (howner : s.checkUnitOwner who u = .ok ())
include howner

section
variable (hlets : s.lets who (Od.unitArm + 256 * u) false 0 (.num 1) = true)
include hlets

theorem unitArm_of_idle (hidle : s.armed u = false) (hcheck : s.checkArm u = .ok ()) :
    unitArm who u 1 s = .ok (s.arm u) := by
  rw [unitArm, lets_ok hlets, ok_bind, howner, ok_bind, hidle, if_neg Bool.false_ne_true, hcheck, ok_bind]

theorem unitArm_of_armed (harmed : s.armed u = true) : unitArm who u 1 s = .ok s := by
  rw [unitArm, lets_ok hlets, ok_bind, howner, ok_bind, if_pos harmed]

end

theorem unitArm_two (hlets : s.lets who (Od.unitArm + 256 * u) false 0 (.num 2) = true) :
    unitArm who u 2 s = .ok (if s.armed u then s.disarm u else s) := by
  rw [unitArm, lets_ok hlets, ok_bind, howner, ok_bind]

/-- A unit that captures (UnitState 3) is disarmed after the freeze of its open record. -/
theorem unitArm_three_of_capturing {x : UnitSt}
    (hlets : s.lets who (Od.unitArm + 256 * u) false 0 (.num 3) = true) (hcaptures : s.unitState u = 3)
    (hunit : s.unit u = some x) :
    unitArm who u 3 s = .ok (s.setUnit u (some { x with disarmAfter := true })) := by
  simp only [unitArm, lets_ok hlets, howner, ok_bind, hcaptures, hunit, if_true]

section
variable {value : Nat} (hlets : s.lets who (Od.unitSoftTrigger + 256 * u) false 0 (.num value) = true)
include hlets

theorem unitSoftTrigger_of_armed (harmed : s.armed u = true) : unitSoftTrigger who u value s = .ok (s.decideTrigger u
    (.own ((s.dom (ccDomain (s.captureConfig u))).unitsAt s.gtc 0) 7 0xFFFF 64)) := by
  rw [unitSoftTrigger, lets_ok hlets, ok_bind, howner, ok_bind, need_ok harmed, ok_bind]

theorem unitSoftTrigger_of_idle (hidle : s.armed u = false) : unitSoftTrigger who u value s = .error .precondition := by
  rw [unitSoftTrigger, lets_ok hlets, ok_bind, howner, ok_bind, need_error hidle, error_bind]

end

end

/-! ### Conditions and freezes (R336, R344, R349 to R351) -/

section
variable {s : State} {u : Nat} {x : UnitSt} (hunit : s.unit u = some x)
include hunit

theorem triggerDecide_of_sourced {d r g : Nat}
    (hsource : s.source (ucKind (s.unitConfig u)) (ucNum (s.unitConfig u)) = some (d, r, g)) (harmed : s.armed u = true)
    (hsourced : ucSourced (s.unitConfig u) = true) (hshed : s.shedLevel ≤ 3) : triggerDecide u s = s.evaluateAll u r
      ((s.sourceEnts (ucKind (s.unitConfig u)) (ucNum (s.unitConfig u))).filter fun e => decide (x.last < e.1)).reverse := by
  simp only [triggerDecide, hunit, hsource, harmed, hsourced, decide_eq_true hshed, Bool.and_self, if_true]

section
variable {r : OpenRec} (hopen : x.open_ = some r)
include hopen

theorem recordFreeze_of_complete {g : Nat} (hend : r.endGtc = some g) :
    recordFreeze u s = (s.freezeRecord u false).afterFreeze u := by
  simp only [recordFreeze, hunit, hopen, hend, Option.isSome_some, if_true]

theorem recordFreeze_of_incomplete (hend : r.endGtc = none) : recordFreeze u s = s := by
  simp only [recordFreeze, hunit, hopen, hend, Option.isSome_none, Bool.false_eq_true, if_false]

end

end

/-! ### Control of a record (R352, R353) -/

@[simp] theorem unitState_setUnit {s : State} {u v : Nat} {x : Option UnitSt} : (s.setUnit u x).unitState v = s.unitState v :=
  rfl

section
variable {s : State} {who : Caller} {u k : Nat} {x : UnitSt} (howner : s.checkUnitOwner who u = .ok ())
  (hunit : s.unit u = some x)
include howner hunit

theorem recordControl_lock (hlets : s.lets who (Od.recordControl + 256 * u + k) false 0 (.num 1) = true)
    (hheld : (x.slot k).st = 3 ∨ (x.slot k).st = 4) :
    recordControl who u k 1 s = .ok (s.setUnit u (some (x.setSlot k { x.slot k with st := 4 }))) := by
  have hkept : ((x.slot k).st == 3 || (x.slot k).st == 4) = true := by simpa using hheld
  simp only [recordControl, lets_ok hlets, howner, hunit, Option.getD_some, need_ok hkept, ok_bind]

theorem recordControl_unlock (hlets : s.lets who (Od.recordControl + 256 * u + k) false 0 (.num 2) = true)
    (hlocked : (x.slot k).st = 4) (hroom : s.unitState u ≠ 4) :
    recordControl who u k 2 s = .ok (s.setUnit u (some (x.setSlot k { x.slot k with st := 3 }))) := by
  simp only [recordControl, lets_ok hlets, howner, hunit, Option.getD_some, hlocked, hroom, unitState_setUnit, ok_bind,
    if_true, if_false]

section
variable (hlets : s.lets who (Od.recordControl + 256 * u + k) false 0 (.num 3) = true)
include hlets

theorem recordControl_release (hfrozen : (x.slot k).st = 3)
    (hroom : ((s.setUnit u (some (x.setSlot k .init))).releasePages u).unitState u ≠ 4) :
    recordControl who u k 3 s = .ok ((s.setUnit u (some (x.setSlot k .init))).releasePages u) := by
  have hidle : ((x.slot k).st != 5) = true := by rw [hfrozen]; rfl
  have hheld : ((x.slot k).st == 3 || (x.slot k).st == 4) = true := by rw [hfrozen]; rfl
  simp only [recordControl, lets_ok hlets, howner, hunit, Option.getD_some, need_ok hidle, need_ok hheld, hroom, ok_bind,
    if_false]

theorem recordControl_release_of_exporting (hexporting : (x.slot k).st = 5) : recordControl who u k 3 s = .error .busy := by
  have hbusy : ((x.slot k).st != 5) = false := by rw [hexporting]; rfl
  simp only [recordControl, lets_ok hlets, howner, hunit, Option.getD_some, need_error hbusy, ok_bind, error_bind]

end

end

/-- Settles O18: each clause is the lemma about its command. -/
theorem acquisitionUnits : Obligations.AcquisitionUnits := by
  unfold Obligations.AcquisitionUnits
  refine ⟨?arm, ?again, ?disarm, ?afterFreeze, ?soft, ?softIdle, ?decides, ?freezes, ?waits, ?lock, ?unlock, ?release, ?busy⟩
  case arm =>
    intro s who u hlets howner hidle hcheck
    rw [exec_unitArm, execUnitArm, unitArm_of_idle howner hlets hidle hcheck, answer_ok]
  case again =>
    intro s who u hlets howner harmed
    rw [exec_unitArm, execUnitArm, unitArm_of_armed howner hlets harmed, answer_ok]
  case disarm =>
    intro s who u hlets howner
    rw [exec_unitDisarm, execUnitDisarm, unitArm_two howner hlets, answer_ok]
  case afterFreeze =>
    intro s who u x hlets howner hcaptures hunit
    rw [exec_unitDisarmAfterFreeze, execUnitDisarmAfterFreeze, unitArm_three_of_capturing howner hlets hcaptures hunit,
      answer_ok]
  case soft =>
    intro s who u v hlets howner harmed
    rw [exec_unitSoftTrigger, execUnitSoftTrigger, unitSoftTrigger_of_armed howner hlets harmed, answer_ok]
  case softIdle =>
    intro s who u v hlets howner hidle
    rw [exec_unitSoftTrigger, execUnitSoftTrigger, unitSoftTrigger_of_idle howner hlets hidle, answer_error]
  case decides =>
    intro s u x d r g hunit hsource harmed hsourced hshed
    rw [exec_triggerDecide, execTriggerDecide, triggerDecide_of_sourced hunit hsource harmed hsourced hshed]
  case freezes =>
    intro s u x r g hunit hopen hend
    rw [exec_recordFreeze, execRecordFreeze, recordFreeze_of_complete hunit hopen hend]
  case waits =>
    intro s u x r hunit hopen hend
    rw [exec_recordFreeze, execRecordFreeze, recordFreeze_of_incomplete hunit hopen hend]
  case lock =>
    intro s who u k x hlets howner hunit hheld
    rw [exec_recordLock, execRecordLock, recordControl_lock howner hunit hlets hheld, answer_ok]
  case unlock =>
    intro s who u k x hlets howner hunit hlocked hroom
    rw [exec_recordUnlock, execRecordUnlock, recordControl_unlock howner hunit hlets hlocked hroom, answer_ok]
  case release =>
    intro s who u k x hlets howner hunit hfrozen hroom
    rw [exec_recordRelease, execRecordRelease, recordControl_release howner hunit hlets hfrozen hroom, answer_ok]
  case busy =>
    intro s who u k x hlets howner hunit hexporting
    rw [exec_recordRelease, execRecordRelease, recordControl_release_of_exporting howner hunit hlets hexporting, answer_error]

end Sys2Proof.Machine
end

section
/-! PROOFS. Ripple lines (Chapter 9; R358): what an assertion of a free line does, and what it does in a state that lists a
unit beyond the 64 of the chapter. -/

namespace Sys2Proof.Machine

/-! ### An assertion of a free line -/

theorem RippleSt.on_asserted {since : Nat} {drive : Option Nat} {stuck : Bool} :
    RippleSt.on ⟨true, since, drive, stuck⟩ = true := rfl

/-- The state in which the assertion of line `k` is noted and counted, and no unit has been triggered yet. -/
def State.edgeCounted (s : State) (k : Nat) : State :=
  (s.setRipple k { s.rippleAt k with level := true, since := s.gtc }).count48ev (Od.rippleEdges + k) (0x840 + k) 0x80 0

/-- The armed units whose condition is line `k`. -/
def State.lineWatchers (s : State) (k : Nat) : List Nat :=
  s.armedUnits.filter fun u => ucCond (s.unitConfig u) == 6 && ucLine (s.unitConfig u) == k

/-- What unit `u` of `w` decides for an assertion of line `k` stamped now, less the delays of the line's input (R358). -/
def State.edgeDecision (s w : State) (k u : Nat) : Decision :=
  .own ((w.dom (ccDomain (w.captureConfig u))).unitsAt ((s.gtc : Int) * 2 ^ 16
    - (toInt 64 (s.num (Od.factoryRippleInDelay + k)) + toInt 64 (s.num (Od.userRippleInDelay + k)))) 16) 6 0xFFFF 128

/-- The assertion of a line that is neither asserted nor Stuck is counted, and then triggers the armed units that watch it. -/
theorem rippleEdge_of_free {s t : State} {k : Nat} (hfree : (s.rippleAt k).on = false)
    (hheeded : (s.rippleAt k).stuck = false) (ht : t = s.edgeCounted k) :
    rippleEdge k true s = (t.lineWatchers k).foldl (fun w u => w.decideTrigger u (s.edgeDecision w k u)) t := by
  subst ht
  simp only [rippleEdge, hfree, hheeded, RippleSt.on_asserted, Bool.not_true, Bool.or_self, Bool.false_eq_true,
    Bool.true_eq_false, if_false, State.edgeCounted, State.lineWatchers, State.edgeDecision]

/-! ### A unit beyond the 64 -/

/-- A TriggerConfig of condition Ripple on line 2 that asks for no action and sends to nobody (Table 9-14). -/
def watchesLineTwo : Bytes :=
  [6] ++ List.replicate 42 0 ++ [2] ++ List.replicate 6 0 ++ [0xFF, 0xFF] ++ List.replicate 12 0

/-- The reset state with a unit 1027, beyond the 64 of Chapter 9, that watches line 2 and is not armed. -/
def State.strayUnit : State :=
  (State.reset.setUnit 1027 (some .init)).setBlob (Od.triggerConfig + 256 * 1027) watchesLineTwo

theorem armedUnits_strayUnit : State.strayUnit.armedUnits = [] := by decide

/-- To count an edge triggers no unit. -/
theorem unit_edgeCounted_strayUnit : (State.strayUnit.edgeCounted 2).unit 1027 = some .init := by rfl

/-- But here it arms one: UnitState of unit 1027 would be object 7803.02, which is RippleEdges of line 2. -/
theorem lineWatchers_edgeCounted_strayUnit : (State.strayUnit.edgeCounted 2).lineWatchers 2 = [1027] := by decide

/-- So unit 1027 decides a trigger of cause 6 (Ripple) on the same edge. -/
theorem rippleEdge_triggers_strayUnit :
    ((rippleEdge 2 true State.strayUnit).unit 1027).map UnitSt.lastCause = some 6 := by
  rw [rippleEdge_of_free rfl rfl rfl, lineWatchers_edgeCounted_strayUnit, List.foldl_cons, List.foldl_nil]
  rfl

/-- Refutes O19: RIPPLE_EDGE of a free line with no unit armed need not stop at noting and counting the edge. The units of a
state may be numbered beyond 63, and then the count can be the UnitState of one; every unit below 64 keeps its UnitState
elsewhere. -/
theorem not_rippleTriggersAndExport : ¬ Obligations.RippleTriggersAndExport := by
  unfold Obligations.RippleTriggersAndExport
  rintro ⟨-, hedge, -⟩
  obtain ⟨t, hexec, ht⟩ := hedge State.strayUnit 2 rfl rfl armedUnits_strayUnit
  have hcounted : t = State.strayUnit.edgeCounted 2 := ht
  rw [exec_rippleEdge, execRippleEdge, Host.Outcome.next.injEq, hcounted] at hexec
  have htriggered : ((State.strayUnit.edgeCounted 2).unit 1027).map UnitSt.lastCause = some 6 :=
    hexec ▸ rippleEdge_triggers_strayUnit
  rw [unit_edgeCounted_strayUnit] at htriggered
  exact absurd htriggered (by decide)

end Sys2Proof.Machine
end

section
/-! PROOFS. The cycle of a scan (Chapter 10; R387, R391, R392, R397 to R399, R409, R418): what a freeze, an overrun, a boundary
and an automatic restart do when they are due, and that they wait until then. -/

namespace Sys2Proof.Machine

/-! ### The freeze (R387, R391, R392, R418) -/

/-- The freeze of a scan takes force on `w`: `y` is the scan under way, whose number and image digest are shown, and it is
counted (Table 10-14). -/
def State.beginScan (w : State) (i : Nat) (y : ScanSt) : State :=
  (((w.setScan i y).setNum Od.scanNumber y.scan i).setNum Od.imageDigest y.imageDigest i).count48 Od.scansRun 1 i

/-- A scan that begins with elements still pending in its image is counted again in PendingImages. -/
def State.countPending (s : State) (i : Nat) (pending : Bool) : State :=
  if pending then s.count32 Od.pendingImages 1 i else s

section
variable {s : State} {i : Nat}

/-- A due freeze keeps the number and the boundary of the scan, and begins it at EntryPoint with no commit. -/
theorem imageFreeze_of_due {p : Prog} (hprog : (s.scanOf i).prog = some p) (hdue : s.freezeDue i = true) :
    ∃ (w : State) (y : ScanSt), imageFreeze i s = ((w.beginScan i y).countPending i y.pendingAny).enterInst i 3 0
      ∧ y.phase = 1 ∧ y.isa = p.entryRegs ∧ y.commits = [] ∧ y.scan = (s.scanOf i).scan
      ∧ y.boundary = (s.scanOf i).boundary := by
  unfold imageFreeze
  extract_lets x
  split
  next hnone => exact absurd (hprog.symm.trans hnone) (Option.some_ne_none p)
  next q hq =>
    obtain rfl := Option.some.inj (hprog.symm.trans hq)
    rw [if_neg (not_not.mpr hdue)]
    split
    extract_lets gap elapsed clock ents pend flags header digest image
    clear_value image pend clock digest
    clear elapsed flags header
    split
    next w data _ =>
      extract_lets y
      exact ⟨w, y, rfl, rfl, rfl, rfl, rfl, rfl⟩

theorem imageFreeze_of_early (hearly : s.freezeDue i = false) : imageFreeze i s = s := by
  unfold imageFreeze
  extract_lets x
  split
  · rfl
  · exact if_pos (by rw [hearly]; exact Bool.false_ne_true)

end

/-! ### Overruns (R397) -/

section
variable {s : State} {i : Nat} (hscans : s.instState i = 3) (hphase : (s.scanOf i).phase = 1)
include hscans hphase

theorem overrun_of_executing : overrun i s
    = if s.deadlinePassed i then s.overrunInst i 2 else if s.overBudget i then s.overrunInst i 1 else s :=
  if_pos ⟨hscans, hphase⟩

end

/-! ### Boundaries (R387, R399, R409) -/

section
variable {s : State} {i g : Nat} (hat : s.boundaryGtc i = some g)
include hat

theorem scanBoundary_of_early (hearly : s.gtc < g) : scanBoundary i s = s := by
  simp only [scanBoundary, hat]
  exact if_pos (.inr (.inl hearly))

section
variable (hcome : g ≤ s.gtc) (hdomain : (s.dom (s.scanD i)).state ≠ 0)
include hcome hdomain

/-- A boundary that finds no scan executing is one of a Faulted instance, or ends a scan in time. -/
theorem scanBoundary_of_ended (hlive : (s.instRunningState i || s.instState i == 4) = true)
    (hended : ¬ (s.instRunningState i = true ∧ (s.scanOf i).phase = 1)) : scanBoundary i s
      = if s.instState i = 4 then s.faultedBoundary i g (s.boundaryValue i (s.scanOf i).boundary)
        else s.runningBoundary i g (s.boundaryValue i (s.scanOf i).boundary) := by
  simp only [scanBoundary, hat, hlive, hdomain, Nat.not_lt.mpr hcome, hended, Bool.not_true, Bool.false_eq_true, or_self,
    if_false]

theorem scanBoundary_of_running (hruns : s.instRunningState i = true) (hphase : (s.scanOf i).phase = 2)
    (hsound : s.instState i ≠ 4) :
    scanBoundary i s = s.runningBoundary i g (s.boundaryValue i (s.scanOf i).boundary) := by
  have hended : ¬ (s.instRunningState i = true ∧ (s.scanOf i).phase = 1) := fun h => by omega
  rw [scanBoundary_of_ended hat hcome hdomain (by rw [hruns, Bool.true_or]) hended, if_neg hsound]

theorem scanBoundary_of_faulted (hstill : s.instRunningState i = false) (hfaulted : s.instState i = 4) :
    scanBoundary i s = s.faultedBoundary i g (s.boundaryValue i (s.scanOf i).boundary) := by
  have hended : ¬ (s.instRunningState i = true ∧ (s.scanOf i).phase = 1) := by simp [hstill]
  rw [scanBoundary_of_ended hat hcome hdomain (by simp [hfaulted]) hended, if_pos hfaulted]

end

end

/-! ### Automatic restarts (R398) -/

/-- The automatic starts of scan state `x` in the hour before its fault. -/
def ScanSt.recentStarts (x : ScanSt) : List Nat :=
  x.autoStarts.filter fun g => decide (x.faultAt < g + 3600000000000)

/-- A wanted restart that R386 accepts is a warm start not before 10 ms after the fault, and is counted. -/
theorem autoRestart_of_wanted {s u : State} {i : Nat} (hfaulted : s.instState i = 4)
    (hwanted : (s.scanOf i).autoWanted = true) (hsafe : (s.scanOf i).safeDue = false) (hfree : s.inReset i = false)
    (hstart : (s.setScan i { s.scanOf i with autoWanted := false, autoStarts := (s.scanOf i).recentStarts }).startInstance i
      true ((s.scanOf i).faultAt + 10000000) = .ok u) : autoRestart i s
      = (u.setScan i { u.scanOf i with autoStarts := (s.scanOf i).faultAt :: (s.scanOf i).recentStarts }).count32
        Od.autoRestarts 1 i := by
  have hdue : ¬ (s.instState i ≠ 4 ∨ (!(s.scanOf i).autoWanted) = true ∨ (s.scanOf i).safeDue = true
      ∨ s.inReset i = true) := by
    simp [hfaulted, hwanted, hsafe, hfree]
  unfold autoRestart
  extract_lets x recent t
  rw [if_neg hdue]
  have hok : t.startInstance i true (x.faultAt + 10000000) = .ok u := hstart
  simp only [hok]
  rfl

/-- Settles O21: each clause is the lemma about its command. -/
theorem scanCycle : Obligations.ScanCycle := by
  unfold Obligations.ScanCycle
  refine ⟨?freeze, ?tooEarly, ?boundary, ?faulted, ?notYet, ?restart, ?late, ?spent, ?timely⟩
  case freeze =>
    intro s i p hprog hdue
    obtain ⟨w, y, hfreeze, hphase, hisa, hcommits, hscan, hboundary⟩ := imageFreeze_of_due hprog hdue
    refine ⟨w.beginScan i y, (w.beginScan i y).countPending i y.pendingAny, y, ?_, ?_, hphase, hisa, hcommits, hscan,
      hboundary, w, rfl⟩
    · rw [exec_imageFreeze, execImageFreeze, hfreeze]
    · cases y.pendingAny
      · exact .inl rfl
      · exact .inr rfl
  case tooEarly =>
    intro s i hearly
    rw [exec_imageFreeze, execImageFreeze, imageFreeze_of_early hearly]
  case boundary =>
    intro s i g hat hcome hdomain hruns hended hsound
    rw [exec_scanBoundary, execScanBoundary, scanBoundary_of_running hat hcome hdomain hruns hended hsound]
  case faulted =>
    intro s i g hat hcome hdomain hstill hfaulted
    rw [exec_scanBoundary, execScanBoundary, scanBoundary_of_faulted hat hcome hdomain hstill hfaulted]
  case notYet =>
    intro s i g hat hearly
    rw [exec_scanBoundary, execScanBoundary, scanBoundary_of_early hat hearly]
  case restart =>
    intro s t u i hfaulted hwanted hsafe hfree ht hstart
    subst ht
    rw [exec_autoRestart, execAutoRestart, autoRestart_of_wanted hfaulted hwanted hsafe hfree hstart,
      ScanSt.recentStarts]
  case late =>
    intro s i hscans hphase hlate
    rw [exec_overrun, execOverrun, overrun_of_executing hscans hphase, if_pos hlate]
  case spent =>
    intro s i hscans hphase htimely hspent
    rw [exec_overrun, execOverrun, overrun_of_executing hscans hphase, htimely, hspent, if_neg Bool.false_ne_true, if_pos rfl]
  case timely =>
    intro s i hscans hphase htimely hleft
    rw [exec_overrun, execOverrun, overrun_of_executing hscans hphase, htimely, hleft, if_neg Bool.false_ne_true,
      if_neg Bool.false_ne_true]

end Sys2Proof.Machine
end

section
/-! PROOFS. Scan processors (Chapter 10; R378): what a lockstep mismatch does, and what it does in a state that holds an
InstanceState beyond the 256 instances of Chapter 14. -/

namespace Sys2Proof.Machine

/-! ### What events and pair states leave of scans and instances -/

@[simp] theorem scan_setEvDie {s : State} {d : Die} {x : EvDie} : (s.setEvDie d x).scan = s.scan := by
  cases d <;> rfl

@[simp] theorem inst_setEvDie {s : State} {d : Die} {x : EvDie} : (s.setEvDie d x).inst = s.inst := by
  cases d <;> rfl

@[simp] theorem dict_setEvDie {s : State} {d : Die} {x : EvDie} : (s.setEvDie d x).dict = s.dict := by
  cases d <;> rfl

@[simp] theorem scan_setNum {s : State} {id v sel : Nat} : (s.setNum id v sel).scan = s.scan := rfl

@[simp] theorem scan_setCharge {s : State} {k n : Nat} {c : Nat × Nat} : (s.setCharge k n c).scan = s.scan := rfl

@[simp] theorem inst_setNum {s : State} {id v sel : Nat} : (s.setNum id v sel).inst = s.inst := rfl

theorem num_of_dict {s t : State} (h : t.dict = s.dict) (id sel : Nat) : t.num id sel = s.num id sel := by
  rw [State.num, State.obj, h, State.num, State.obj]

section
variable {s : State} {d : Die} {src code kind num detail : Nat}

@[simp] theorem scan_raiseIn : (s.raiseIn d src code kind num detail).scan = s.scan := by
  dsimp only [State.raiseIn, State.count32]
  split_ifs <;> simp

@[simp] theorem inst_raiseIn : (s.raiseIn d src code kind num detail).inst = s.inst := by
  dsimp only [State.raiseIn, State.count32]
  split_ifs <;> simp

/-- An event that is dropped is counted in EventsDropped; no other object changes. -/
theorem num_raiseIn_other {id sel : Nat} (h : objKey id sel ≠ objKey Od.eventsDropped 0) :
    (s.raiseIn d src code kind num detail).num id sel = s.num id sel := by
  dsimp only [State.raiseIn, State.count32]
  split_ifs
  · rfl
  · rw [num_setNum_other _ _ _ _ _ _ h, num_of_dict dict_setEvDie]
  · rw [num_of_dict dict_setEvDie]

/-- A full buffer drops the event of an enabled source, which is counted (R575, R582). -/
theorem num_eventsDropped_raiseIn_of_full (hon : field (s.sourceConfig src) 3 1 ≠ 0)
    (hfull : evCapacity d ≤ (s.evDie d).buffer.length) :
    (s.raiseIn d src code kind num detail).num Od.eventsDropped = sat32 (s.num Od.eventsDropped + 1) := by
  simp only [State.raiseIn, if_neg hon, EvDie.push, hfull, true_or, if_true, count32_num, num_of_dict dict_setEvDie]

end

section
variable {s : State} {i : Nat}

theorem scan_enterInst {st cause : Nat} : (s.enterInst i st cause).scan = s.scan := by
  dsimp only [State.enterInst, State.instRaise]
  split_ifs <;> simp

theorem scan_setInstPair {st : Nat} : (s.setInstPair i st).scan = s.scan := by
  dsimp only [State.setInstPair, State.raiseState, State.raise]
  split_ifs <;> simp

/-- A fault ends the scan of an instance that runs (Table 10-5). -/
theorem phase_faultInstance {cause : Nat} (hruns : s.instRunningState i = true) :
    ((s.faultInstance i cause).scanOf i).phase = 2 := by
  rw [State.faultInstance, if_neg (not_not.mpr hruns)]
  extract_lets x y t u
  have hscan : u.scan = (s.setScan i y).scan := by
    by_cases hswitch : x.switchAt.isSome = true
    · simp only [u, t, if_pos hswitch, scan_setNum]
    · simp only [u, t, if_neg hswitch, scan_setNum]
  rw [State.scanOf, scan_setInstPair, State.releaseInst, scan_setCharge, scan_enterInst, hscan, State.setScan,
    tabGet_set_same, Option.getD_some]

end

/-! ### A lockstep mismatch (R378) -/

/-- The state in which the mismatch of processor `p` is entered and counted, and no instance has been faulted yet. -/
def State.lockstepLost (s : State) (p : Nat) : State := (s.enterSp p 1).count32 (Od.spLockstepErrors + p)

section
variable {s : State} {p : Nat} (hready : s.num (Od.spState + p) = 0)
include hready

theorem lockstepMismatch_of_ready :
    lockstepMismatch p s = (s.spRunning p).foldl (fun u i => u.faultInstance i 5) (s.lockstepLost p) := by
  rw [lockstepMismatch, if_neg (not_not.mpr hready), State.lockstepLost]

theorem lockstepLost_of_ready : s.lockstepLost p
    = ((s.setNum (Od.spState + p) 1).spRaise p 0x1001 (payState 0 1 0 0)).count32 (Od.spLockstepErrors + p) := by
  rw [State.lockstepLost, State.enterSp, hready]
  rfl

theorem inst_lockstepLost : (s.lockstepLost p).inst = s.inst := by
  rw [lockstepLost_of_ready hready, State.count32, inst_setNum, State.spRaise, inst_raiseIn, inst_setNum]

end

/-! ### An instance beyond the 256 -/

/-- The instance whose InstanceState would be object C000.01, EventsDropped. -/
def strayInst : Nat := 4096 * (Od.eventsDropped - Od.instanceState)

theorem instState_strayInst {s : State} : s.instState strayInst = s.num Od.eventsDropped := by
  have hkey : objKey Od.instanceState strayInst = objKey Od.eventsDropped 0 := by decide
  have hdefault : objDefault Od.instanceState = objDefault Od.eventsDropped := by decide
  rw [State.instState, State.num, State.obj, hkey, hdefault, State.num, State.obj]

/-- The reset state, but for the one instance `strayInst`, a full event buffer of the C0-die, and one event dropped. -/
def State.strayInstance : State :=
  { State.reset.setNum Od.eventsDropped 1 with
    inst := { InstSt.reset with present := [strayInst] }
    ev := { EventSt.reset with
      dieC0 := { EvDie.init with buffer := List.replicate 2048 ⟨0, false, false, 0, 0, 0, 0, 0, 0, false⟩ } } }

theorem spState_strayInstance : State.strayInstance.num (Od.spState + 0) = 0 := by decide

/-- Its one instance is Stopped. -/
theorem spRunning_strayInstance : State.strayInstance.spRunning 0 = [] := by decide

/-- The event of the mismatch is dropped and counted, and the instance reads as Starting, which is running (R385). -/
theorem instState_lockstepLost_strayInstance : (State.strayInstance.lockstepLost 0).instState strayInst = 2 := by
  rw [instState_strayInst, lockstepLost_of_ready spState_strayInstance, State.count32,
    num_setNum_other _ _ _ _ _ _ (by decide), State.spRaise, num_eventsDropped_raiseIn_of_full (by decide)
    (List.length_replicate ..).ge, num_setNum_other _ _ _ _ _ _ (by decide)]
  decide

theorem scanSp_lockstepLost_strayInstance : (State.strayInstance.lockstepLost 0).scanSp strayInst = 0 := by
  rw [State.scanSp, lockstepLost_of_ready spState_strayInstance, State.count32, num_setNum_other _ _ _ _ _ _ (by decide),
    State.spRaise, num_raiseIn_other (by decide), num_setNum_other _ _ _ _ _ _ (by decide)]
  decide

theorem instRunningState_lockstepLost_strayInstance :
    (State.strayInstance.lockstepLost 0).instRunningState strayInst = true := by
  rw [State.instRunningState, instState_lockstepLost_strayInstance]
  rfl

theorem spRunning_lockstepLost_strayInstance : (State.strayInstance.lockstepLost 0).spRunning 0 = [strayInst] := by
  have hpresent : (State.strayInstance.lockstepLost 0).inst.present = [strayInst] := by
    rw [inst_lockstepLost spState_strayInstance, State.strayInstance]
  have hruns : ((State.strayInstance.lockstepLost 0).instRunningState strayInst
      && (State.strayInstance.lockstepLost 0).scanSp strayInst == 0) = true := by
    rw [instRunningState_lockstepLost_strayInstance, scanSp_lockstepLost_strayInstance]
    rfl
  rw [State.spRunning, hpresent]
  exact List.filter_cons_of_pos hruns

theorem phase_lockstepLost_strayInstance : ((State.strayInstance.lockstepLost 0).scanOf strayInst).phase = 0 := by
  rw [State.scanOf, lockstepLost_of_ready spState_strayInstance, State.count32, scan_setNum, State.spRaise, scan_raiseIn,
    scan_setNum]
  rfl

/-- Refutes O20: the statement faults the instances that run on the processor once its mismatch is entered and counted, the
model those that ran before. The event of the mismatch can be dropped, and in a state that lists an instance beyond the 256 of
Chapter 14 the count of dropped events can be the InstanceState of that instance; every instance below 256 keeps its
InstanceState elsewhere. -/
theorem not_scanStartsAndLoads : ¬ Obligations.ScanStartsAndLoads := by
  unfold Obligations.ScanStartsAndLoads
  rintro ⟨-, -, -, -, -, -, -, -, -, hmismatch, -⟩
  have hexec : exec (.lockstepMismatch 0) State.strayInstance
      = .next (((State.strayInstance.lockstepLost 0).spRunning 0).foldl (fun u i => u.faultInstance i 5)
        (State.strayInstance.lockstepLost 0)) := hmismatch State.strayInstance 0 spState_strayInstance
  have hspared : lockstepMismatch 0 State.strayInstance = State.strayInstance.lockstepLost 0 := by
    rw [lockstepMismatch_of_ready spState_strayInstance, spRunning_strayInstance, List.foldl_nil]
  rw [exec_lockstepMismatch, execLockstepMismatch, Host.Outcome.next.injEq, Fin.val_zero, hspared,
    spRunning_lockstepLost_strayInstance, List.foldl_cons, List.foldl_nil] at hexec
  have hphase := phase_faultInstance (cause := 5) instRunningState_lockstepLost_strayInstance
  rw [← hexec, phase_lockstepLost_strayInstance] at hphase
  exact absurd hphase (by decide)

end Sys2Proof.Machine
end

section
/-! PROOFS. The words of scan instructions (Chapter 11; R421, R423; Tables 11-3 to 11-12): the fields of an encoded word
read back, and each group of the decoder answers the one instruction that the word spells. -/

namespace Sys2Proof.Machine

/-! ### The fields of a word (Table 11-3) -/

/-- A field of `k` bits fits `k` bits. -/
theorem field_mod {w lo k : Nat} : field w lo k % 2 ^ k = field w lo k := Nat.mod_mod _ _

@[simp] theorem field5_mod {w lo : Nat} : field w lo 5 % 32 = field w lo 5 := field_mod

theorem encR_fields {op d a b func : Nat} (hop : op < 64) (hd : d < 32) (ha : a < 32) (hb : b < 32) (hfunc : func < 2048) :
    field (encR op d a b func) 26 6 = op ∧ field (encR op d a b func) 21 5 = d ∧ field (encR op d a b func) 16 5 = a
      ∧ field (encR op d a b func) 11 5 = b ∧ field (encR op d a b func) 0 11 = func := by
  simp only [field, encR]
  omega

theorem encI_fields {op d a imm : Nat} (hop : op < 64) (hd : d < 32) (ha : a < 32) (himm : imm < 65536) :
    field (encI op d a imm) 26 6 = op ∧ field (encI op d a imm) 21 5 = d ∧ field (encI op d a imm) 16 5 = a
      ∧ field (encI op d a imm) 0 16 = imm := by
  simp only [field, encI]
  omega

/-- A word is the format R word of its fields. -/
theorem encR_of_fields {w : Nat} (h : w < 2 ^ 32) :
    encR (field w 26 6) (field w 21 5) (field w 16 5) (field w 11 5) (field w 0 11) = w := by
  simp only [field, encR]
  omega

/-! ### Every instruction that a group answers spells the word -/

theorem decodeSys_sound {d a b : Fin 32} {func : Nat} {c : IsaOp} (h : decodeSys d a b func = some c) :
    c.legal = true ∧ isaWord c = encR 0x01 d a b func := by
  unfold decodeSys at h
  (repeat' split at h) <;> cases h <;> simp [*, isaWord, IsaOp.legal]

theorem decodeInt_sound {d a b : Fin 32} {func : Nat} {c : IsaOp} (h : decodeInt d a b func = some c) :
    c.legal = true ∧ isaWord c = encR 0x02 d a b func := by
  unfold decodeInt at h
  (repeat' split at h) <;> cases h
  case h_39.isTrue.refl hk => -- SEL, whose function holds the condition
    have hc : (func - 96) % 16 = func - 96 := by omega
    simp only [isaWord, IsaOp.legal, Fin.val_ofNat, hc, bne_iff_ne]
    exact ⟨by omega, congrArg _ (by omega)⟩
  all_goals simp [*, isaWord, IsaOp.legal]

theorem decodeFp_sound {d a b : Fin 32} {func : Nat} {c : IsaOp} (h : decodeFp d a b func = some c) :
    c.legal = true ∧ isaWord c = encR 0x28 d a b func := by
  unfold decodeFp at h
  (repeat' split at h) <;> cases h <;> simp [*, isaWord, IsaOp.legal]

theorem decodeCpx_sound {d a b : Fin 32} {func : Nat} {c : IsaOp} (h : decodeCpx d a b func = some c) :
    c.legal = true ∧ isaWord c = encR 0x2c d a b func := by
  unfold decodeCpx at h
  (repeat' split at h) <;> cases h <;> simp [*, isaWord, IsaOp.legal]

theorem decodeImg_sound {d a b : Fin 32} {func : Nat} {c : IsaOp} (h : decodeImg d a b func = some c) :
    c.legal = true ∧ isaWord c = encR 0x2d d a b func := by
  unfold decodeImg at h
  (repeat' split at h) <;> cases h <;> simp [*, isaWord, IsaOp.legal]

theorem decodeOther_sound {w : Nat} {c : IsaOp} (hw : w < 2 ^ 32) (h : decodeOther w = some c) :
    c.legal = true ∧ isaWord c = w := by
  unfold decodeOther at h
  dsimp only at h
  (repeat' split at h) <;> cases h
  all_goals
    simp_all [isaWord, IsaOp.legal, encI, encR, field]
    omega

/-- Every word of 32 bits that decodes is the word of a legal instruction, the one it decodes to (R423). -/
theorem decodeIsa_sound {w : Nat} {c : IsaOp} (hw : w < 2 ^ 32) (h : decodeIsa w = some c) :
    c.legal = true ∧ isaWord c = w := by
  have hword := encR_of_fields hw
  unfold decodeIsa at h
  split at h
  case h_6 => exact decodeOther_sound hw h
  case h_1 hop => simpa [hop ▸ hword] using decodeSys_sound h
  case h_2 hop => simpa [hop ▸ hword] using decodeInt_sound h
  case h_3 hop => simpa [hop ▸ hword] using decodeFp_sound h
  case h_4 hop => simpa [hop ▸ hword] using decodeCpx_sound h
  case h_5 hop => simpa [hop ▸ hword] using decodeImg_sound h

/-! ### The word of every legal instruction decodes to it -/

theorem isaWord_lt (c : IsaOp) : isaWord c < 2 ^ 32 := by
  cases c <;> simp only [isaWord, encR, encI] <;> omega

theorem decodeIsa_encR {d a b func : Nat} (hd : d < 32) (ha : a < 32) (hb : b < 32) (hfunc : func < 2048) :
    decodeIsa (encR 0x01 d a b func) = decodeSys (Fin.ofNat 32 d) (Fin.ofNat 32 a) (Fin.ofNat 32 b) func
    ∧ decodeIsa (encR 0x02 d a b func) = decodeInt (Fin.ofNat 32 d) (Fin.ofNat 32 a) (Fin.ofNat 32 b) func
    ∧ decodeIsa (encR 0x28 d a b func) = decodeFp (Fin.ofNat 32 d) (Fin.ofNat 32 a) (Fin.ofNat 32 b) func
    ∧ decodeIsa (encR 0x2c d a b func) = decodeCpx (Fin.ofNat 32 d) (Fin.ofNat 32 a) (Fin.ofNat 32 b) func
    ∧ decodeIsa (encR 0x2d d a b func) = decodeImg (Fin.ofNat 32 d) (Fin.ofNat 32 a) (Fin.ofNat 32 b) func := by
  simp [decodeIsa, encR_fields, hd, ha, hb, hfunc]


/-- A word whose major opcode names no group of format R is decoded by Table 11-4. -/
theorem decodeIsa_other {w : Nat} (h : field w 26 6 ∉ [0x01, 0x02, 0x28, 0x2c, 0x2d]) : decodeIsa w = decodeOther w := by
  unfold decodeIsa
  split <;> simp_all

theorem decodeIsa_encI {op d a imm : Nat} (hop : op < 64) (hd : d < 32) (ha : a < 32) (himm : imm < 65536)
    (h : op ∉ [0x01, 0x02, 0x28, 0x2c, 0x2d]) : decodeIsa (encI op d a imm) = decodeOther (encI op d a imm) :=
  decodeIsa_other (by rwa [(encI_fields hop hd ha himm).1])


/-! The forms with fields of their own, by their fields: SHI, B, BL, BZ, BNZ and the fused operations. -/

theorem decodeIsa_shi {w : Nat} {d a : Fin 32} {n : Fin 64} (hop : field w 26 6 = 0x07) (hd : field w 21 5 = d)
    (ha : field w 16 5 = a) (hzero : field w 8 8 = 0) (hn : field w 0 6 = n) :
    (field w 6 2 = 0 → decodeIsa w = some (.shiSll d a n)) ∧ (field w 6 2 = 1 → decodeIsa w = some (.shiSrl d a n))
    ∧ (field w 6 2 = 2 → decodeIsa w = some (.shiSra d a n)) := by
  simp +contextual [decodeIsa_other, decodeOther, hop, hd, ha, hzero, hn]

theorem decodeIsa_bCmd {w : Nat} {cond : Fin 16} {off : Fin 4194304} (hop : field w 26 6 = 0x20)
    (hcond : field w 22 4 = cond) (hoff : field w 0 22 = off) (h : cond.val ≠ 15) :
    decodeIsa w = some (.bCmd cond off) := by
  simp [decodeIsa_other, decodeOther, hop, hcond, hoff, h]

theorem decodeIsa_bl {w : Nat} {off : Fin 67108864} (hop : field w 26 6 = 0x21) (hoff : field w 0 26 = off) :
    decodeIsa w = some (.bl off) := by
  simp [decodeIsa_other, decodeOther, hop, hoff]

theorem decodeIsa_jr {d a : Fin 32} : decodeIsa (encR 0x22 d a 0 0) = some (.jr d a) := by
  have hlow : field (encR 0x22 d a 0 0) 0 16 = 0 := by
    simp only [field, encR]
    omega
  simp [decodeIsa_other, decodeOther, encR_fields, hlow]

theorem decodeIsa_bz {w : Nat} {a : Fin 32} {off : Fin 2097152} (ha : field w 21 5 = a) (hoff : field w 0 21 = off) :
    (field w 26 6 = 0x23 → decodeIsa w = some (.bz a off)) ∧ (field w 26 6 = 0x24 → decodeIsa w = some (.bnz a off)) := by
  simp +contextual [decodeIsa_other, decodeOther, ha, hoff]

theorem decodeIsa_fused {w : Nat} {d a b c : Fin 32} (hop : field w 26 6 = 0x29) (hd : field w 21 5 = d)
    (ha : field w 16 5 = a) (hb : field w 11 5 = b) (hc : field w 6 5 = c) :
    (field w 0 6 = 0 → decodeIsa w = some (.fmadd d a b c)) ∧ (field w 0 6 = 1 → decodeIsa w = some (.fmsub d a b c))
    ∧ (field w 0 6 = 2 → decodeIsa w = some (.fnmsub d a b c)) ∧ (field w 0 6 = 3 → decodeIsa w = some (.fnmadd d a b c)) := by
  simp +contextual [decodeIsa_other, decodeOther, hop, hd, ha, hb, hc]

theorem decodeInt_sel {d a b : Fin 32} {cond : Fin 16} (h : cond.val ≠ 15) :
    decodeInt d a b (0x060 + cond) = some (.sel cond d a b) := by
  cases cond using Fin.lastCases with
  | last => exact absurd rfl h
  | cast i => fin_cases i <;> rfl

/-- The word of every legal instruction decodes to it: the forms of Table 11-3 by their fields, each group by its table. -/
theorem decodeIsa_isaWord {c : IsaOp} (h : c.legal = true) : decodeIsa (isaWord c) = some c := by
  cases c
  all_goals simp only [isaWord, IsaOp.legal, bne_iff_ne] at h ⊢
  case jr => exact decodeIsa_jr
  case sel cond d a b =>
    rw [(decodeIsa_encR d.isLt a.isLt b.isLt (by omega)).2.1]
    simpa using decodeInt_sel h
  case shiSll => refine (decodeIsa_shi ?_ ?_ ?_ ?_ ?_).1 ?_ <;> simp only [field, encI] <;> omega
  case shiSrl => refine (decodeIsa_shi ?_ ?_ ?_ ?_ ?_).2.1 ?_ <;> simp only [field, encI] <;> omega
  case shiSra => refine (decodeIsa_shi ?_ ?_ ?_ ?_ ?_).2.2 ?_ <;> simp only [field, encI] <;> omega
  case bCmd => refine decodeIsa_bCmd ?_ ?_ ?_ h <;> simp only [field] <;> omega
  case bl => refine decodeIsa_bl ?_ ?_ <;> simp only [field] <;> omega
  case bz => refine (decodeIsa_bz ?_ ?_).1 ?_ <;> simp only [field] <;> omega
  case bnz => refine (decodeIsa_bz ?_ ?_).2 ?_ <;> simp only [field] <;> omega
  case fmadd => refine (decodeIsa_fused ?_ ?_ ?_ ?_ ?_).1 ?_ <;> simp only [field] <;> omega
  case fmsub => refine (decodeIsa_fused ?_ ?_ ?_ ?_ ?_).2.1 ?_ <;> simp only [field] <;> omega
  case fnmsub => refine (decodeIsa_fused ?_ ?_ ?_ ?_ ?_).2.2.1 ?_ <;> simp only [field] <;> omega
  case fnmadd => refine (decodeIsa_fused ?_ ?_ ?_ ?_ ?_).2.2.2 ?_ <;> simp only [field] <;> omega
  all_goals
    simp_all [decodeIsa_encR, decodeInt, decodeFp, decodeCpx, decodeImg, decodeSys, decodeIsa_encI, decodeOther, encI_fields]

/-- Settles O57: a legal instruction's word decodes to it, and a word that decodes is that of the instruction. -/
theorem scanWordsAgree : Obligations.ScanWordsAgree := by
  unfold Obligations.ScanWordsAgree
  exact ⟨fun c h => ⟨isaWord_lt c, decodeIsa_isaWord h⟩, fun _ _ => decodeIsa_sound⟩

/-- Settles O50: the decoder evaluated on the eight words. -/
theorem scanWordsDecode : Obligations.ScanWordsDecode := by
  unfold Obligations.ScanWordsDecode
  decide

end Sys2Proof.Machine
end

section
/-! PROOFS. What outlasts every step: MinSecurityVersion, which only rises (R609), and the canonical form of the memory of
HBM (R550, R568, R586). Every function of the model keeps both; one lemma for each function says so, and `exec_lasts` gathers
them. A function that writes HBM, advances MinSecurityVersion or resets the module can only raise the two, and so can a
function that runs one of them; any other leaves them as they are. -/

namespace Sys2Proof.Machine

/-- MinSecurityVersion, and whether the memory of HBM is in canonical form. -/
def State.lasting (s : State) : Nat × Bool := (s.sec.minVersion, Memory.wf s.mem.hbm)

/-- An update of any field is judged by the security and memory that it leaves. -/
@[simp] theorem lasting_mk {pending gtc freeCtr out pond dict time port sw fab intake chain acq scan pair fio inst mem ev sec
    energy start board} :
    State.lasting ⟨pending, gtc, freeCtr, out, pond, dict, time, port, sw, fab, intake, chain, acq, scan, pair, fio, inst,
      mem, ev, sec, energy, start, board⟩ = (sec.minVersion, Memory.wf mem.hbm) := by simp only [State.lasting]

@[simp] theorem minVersion_wf {s : State} : (s.sec.minVersion, Memory.wf s.mem.hbm) = s.lasting := by
  simp only [State.lasting]

@[simp] theorem lasting_ite {c : Prop} [Decidable c] {s t : State} :
    (if c then s else t).lasting = if c then s.lasting else t.lasting := apply_ite ..

@[simp] theorem lasting_foldl {α : Type} {l : List α} {f : State → α → State} {s : State}
    (h : ∀ t x, (f t x).lasting = t.lasting) : (l.foldl f s).lasting = s.lasting := by
  induction l generalizing s with
  | nil => rfl
  | cons x r ih => rw [List.foldl_cons, ih, h]

@[simp] theorem lasting_le_foldl {α : Type} {l : List α} {f : State → α → State} {s : State} {a : Nat × Bool}
    (hs : a ≤ s.lasting) (h : ∀ t x, t.lasting ≤ (f t x).lasting) : a ≤ (l.foldl f s).lasting := by
  induction l generalizing s with
  | nil => exact hs
  | cons x r ih => exact ih (hs.trans (h s x))

/-- From a lemma about the state that a function gives with a value, to the state that its result was taken apart into. -/
theorem lasting_of_fst {α : Type} {s t : State} {p : State × α} {a : α} (hp : p.1.lasting = s.lasting) (h : p = (t, a)) :
    t.lasting = s.lasting := by
  rw [← hp, h]

theorem lasting_le_of_fst {α : Type} {t : State} {p : State × α} {a : α} {k : Nat × Bool} (hp : k ≤ p.1.lasting)
    (h : p = (t, a)) : k ≤ t.lasting := by
  rwa [h] at hp

@[simp] theorem lasting_le_ite {c : Prop} [Decidable c] {k a b : Nat × Bool} :
    k ≤ (if c then a else b) ↔ if c then k ≤ a else k ≤ b := by split <;> rfl

/-- A write of octets into HBM keeps the canonical form of its memory. -/
theorem wf_le_memWrite {m : List Host.Cell} {a : Nat} {b : Bytes} : Memory.wf m ≤ Memory.wf (memWrite m a b) :=
  Bool.le_iff_imp.mpr (memWrite_wf m a b)

/-- An action that is done keeps what outlasts the step from `s`. -/
def Act.Lasts (s : State) (a : Act) : Prop := ∀ t, a = .ok t → s.lasting ≤ t.lasting

@[simp] theorem lasts_ok {s t : State} : Act.Lasts s (.ok t) ↔ s.lasting ≤ t.lasting := by simp [Act.Lasts]

@[simp] theorem lasts_error {s : State} {c : Code} : Act.Lasts s (.error c) := by simp [Act.Lasts]

@[simp] theorem lasts_bind {α : Type} {s : State} {m : Except Code α} {f : α → Act} :
    Act.Lasts s (m >>= f) ↔ ∀ x, m = .ok x → Act.Lasts s (f x) := by
  cases m <;> simp [Act.Lasts, bind, Except.bind]

@[simp] theorem lasts_ite {c : Prop} [Decidable c] {s : State} {a b : Act} :
    Act.Lasts s (if c then a else b) ↔ if c then Act.Lasts s a else Act.Lasts s b := by split <;> rfl

@[simp] theorem lasts_andThen {s : State} {a : Act} {f : State → State} (ha : a.Lasts s)
    (hf : ∀ t, t.lasting ≤ (f t).lasting) : (a.andThen f).Lasts s := by
  cases a with
  | error c => exact lasts_error
  | ok t => exact lasts_ok.mpr ((ha t rfl).trans (hf t))

@[simp] theorem lasting_le_answer {s : State} {who : Caller} {a : Act} (h : a.Lasts s) :
    s.lasting ≤ (s.answer who a).lasting := by
  cases a with
  | error c => exact le_rfl
  | ok t => exact h t rfl

/-- A command that leads to a next state keeps what outlasts the step from `s`. -/
def Res.Lasts (s : State) (r : Res) : Prop := ∀ t, r = .next t → s.lasting ≤ t.lasting

@[simp] theorem lasts_next {s t : State} : Res.Lasts s (.next t) ↔ s.lasting ≤ t.lasting := by simp [Res.Lasts]

@[simp] theorem lasts_fault {s : State} {r : Fault} : Res.Lasts s (.fault r) := by simp [Res.Lasts]

@[simp] theorem lasts_refused {s : State} {r : Refusal} : Res.Lasts s (.refused r) := by simp [Res.Lasts]

@[simp] theorem res_lasts_ite {c : Prop} [Decidable c] {s : State} {a b : Res} :
    Res.Lasts s (if c then a else b) ↔ if c then Res.Lasts s a else Res.Lasts s b := by split <;> rfl

@[simp] theorem lasting_eachDom {s : State} {f : Nat → State → State} (h : ∀ d t, (f d t).lasting = t.lasting) :
    (s.eachDom f).lasting = s.lasting := by
  simp [State.eachDom, h]

end Sys2Proof.Machine
end

section
/-! PROOFS. What outlasts a step, under the shared operations. -/

namespace Sys2Proof.Machine

@[simp] theorem lasting_setObj {s : State} {id sel v} : (s.setObj id sel v).lasting = s.lasting := by
  simp [State.setObj]

@[simp] theorem lasting_setNum {s : State} {id v sel} : (s.setNum id v sel).lasting = s.lasting := by
  simp [State.setNum]

@[simp] theorem lasting_setBlob {s : State} {id b sel} : (s.setBlob id b sel).lasting = s.lasting := by
  simp [State.setBlob]

@[simp] theorem lasting_count32 {s : State} {id k sel} : (s.count32 id k sel).lasting = s.lasting := by
  simp [State.count32]

@[simp] theorem lasting_count48 {s : State} {id k sel} : (s.count48 id k sel).lasting = s.lasting := by
  simp [State.count48]

@[simp] theorem lasting_setPending {s : State} {id sel v} : (s.setPending id sel v).lasting = s.lasting := by
  simp [State.setPending]

@[simp] theorem lasting_bumpVersion {s : State} {id sel} : (s.bumpVersion id sel).lasting = s.lasting := by
  simp [State.bumpVersion]

@[simp] theorem lasting_tookFree {s : State} : s.tookFree.lasting = s.lasting := by simp [State.tookFree]

@[simp] theorem lasting_emit {s : State} {o} : (s.emit o).lasting = s.lasting := by simp [State.emit]

@[simp] theorem lasting_setSession {s : State} {k x} : (s.setSession k x).lasting = s.lasting := by
  simp [State.setSession]

@[simp] theorem lasting_setDom {s : State} {d x} : (s.setDom d x).lasting = s.lasting := by simp [State.setDom]

@[simp] theorem lasting_setEvDie {s : State} {d x} : (s.setEvDie d x).lasting = s.lasting := by
  unfold State.setEvDie
  split <;> simp

@[simp] theorem lasting_raiseIn {s : State} {d src code kind num detail} :
    (s.raiseIn d src code kind num detail).lasting = s.lasting := by
  simp [State.raiseIn]

@[simp] theorem lasting_raise {s : State} {src code kind num detail} :
    (s.raise src code kind num detail).lasting = s.lasting := by
  simp [State.raise]

@[simp] theorem lasting_raiseState {s : State} {src kind num old new cause value} :
    (s.raiseState src kind num old new cause value).lasting = s.lasting := by
  simp [State.raiseState]

@[simp] theorem lasting_raiseFlag {s : State} {src kind num set bit word} :
    (s.raiseFlag src kind num set bit word).lasting = s.lasting := by
  simp [State.raiseFlag]

@[simp] theorem lasting_raiseOcc {s : State} {src kind num pos value} :
    (s.raiseOcc src kind num pos value).lasting = s.lasting := by
  simp [State.raiseOcc]

@[simp] theorem lasting_raiseAdmission {s : State} {src kind num what code} :
    (s.raiseAdmission src kind num what code).lasting = s.lasting := by
  simp [State.raiseAdmission]

@[simp] theorem lasting_raiseDone {s : State} {src kind num id code} :
    (s.raiseDone src kind num id code).lasting = s.lasting := by
  simp [State.raiseDone]

@[simp] theorem lasting_setAsleep {s : State} {u n v} : (s.setAsleep u n v).lasting = s.lasting := by
  simp [State.setAsleep]

@[simp] theorem lasting_le_hbmWrite {s : State} {a b k} (h : k ≤ s.lasting) : k ≤ (s.hbmWrite a b).lasting :=
  h.trans ⟨le_rfl, wf_le_memWrite⟩

@[simp] theorem lasting_setBinding {s : State} {p b} : (s.setBinding p b).lasting = s.lasting := by
  simp [State.setBinding]

end Sys2Proof.Machine
end

section
/-! PROOFS. What outlasts a step, under the time base: references, domains, steps and the time page (Chapter 3). -/

namespace Sys2Proof.Machine

@[simp] theorem lasting_setGen {s : State} {n x} : (s.setGen n x).lasting = s.lasting := by simp [State.setGen]

@[simp] theorem lasting_setPps {s : State} {k x} : (s.setPps k x).lasting = s.lasting := by simp [State.setPps]

@[simp] theorem lasting_issueDom {s : State} {d x step} : (s.issueDom d x step).lasting = s.lasting := by
  simp [State.issueDom]

@[simp] theorem lasting_domEnter {s : State} {d new x} : (s.domEnter d new x).lasting = s.lasting := by
  simp [State.domEnter]

@[simp] theorem lasting_announceStep {s : State} {d kind amount} : (s.announceStep d kind amount).lasting = s.lasting := by
  unfold State.announceStep
  split <;> simp

@[simp] theorem lasting_stepNow {s : State} {d amount} : (s.stepNow d amount).lasting = s.lasting := by
  simp [State.stepNow]

@[simp] theorem lasting_cancelStep {s : State} {d} : (s.cancelStep d).lasting = s.lasting := by simp [State.cancelStep]

@[simp] theorem lasting_servo {s : State} {d} : (s.servo d).lasting = s.lasting := by simp [State.servo]

@[simp] theorem lasting_beginReturn {s : State} {d offset} : (s.beginReturn d offset).lasting = s.lasting := by
  simp [State.beginReturn]

@[simp] theorem lasting_activate {s : State} {d n} : (s.activate d n).lasting = s.lasting := by simp [State.activate]

@[simp] theorem lasting_track {s : State} {d off extra} : (s.track d off extra).lasting = s.lasting := by
  simp [State.track]

@[simp] theorem lasting_measure {s : State} {d n off cls extra} : (s.measure d n off cls extra).lasting = s.lasting := by
  simp [State.measure]

@[simp] theorem lasting_loseActive {s : State} {d} : (s.loseActive d).lasting = s.lasting := by simp [State.loseActive]

@[simp] theorem lasting_loseSource {s : State} {d n} : (s.loseSource d n).lasting = s.lasting := by
  fun_cases State.loseSource s d n <;> simp +zetaDelta

@[simp] theorem lasting_shoreRefLost {s} : (shoreRefLost s).lasting = s.lasting := by simp [shoreRefLost]

@[simp] theorem execShoreRefReturn_lasts {s} : (execShoreRefReturn s).Lasts s := by
  simp [execShoreRefReturn, shoreRefReturn]

@[simp] theorem lasting_setPtp {s : State} {d p} : (s.setPtp d p).lasting = s.lasting := by simp [State.setPtp]

@[simp] theorem lasting_ptpPortState {s : State} {d port st} : (s.ptpPortState d port st).lasting = s.lasting := by
  simp [State.ptpPortState]

@[simp] theorem lasting_ptpMeasure {s : State} {d rx origin corr} : (s.ptpMeasure d rx origin corr).lasting = s.lasting := by
  fun_cases State.ptpMeasure s d rx origin corr <;> simp

@[simp] theorem lasting_noteLeap {s : State} {d positive negative} :
    (s.noteLeap d positive negative).lasting = s.lasting := by
  simp [State.noteLeap]

@[simp] theorem execPtpMessageReceive_lasts {d port msg s} : (execPtpMessageReceive d port msg s).Lasts s := by
  unfold execPtpMessageReceive ptpMessage
  dsimp only
  (repeat' split) <;> simp

@[simp] theorem execPtpSourceLost_lasts {d s} : (execPtpSourceLost d s).Lasts s := by
  simp [execPtpSourceLost, ptpSourceLost]

@[simp] theorem execPtpMessageSend_lasts {d port kind s} : (execPtpMessageSend d port kind s).Lasts s := by
  simp [execPtpMessageSend, ptpSend]

@[simp] theorem execSourceSwitch_lasts {d s} : (execSourceSwitch d s).Lasts s := by
  unfold execSourceSwitch sourceSwitch
  dsimp only
  (repeat' split) <;> simp

@[simp] theorem execHoldoverLimitExceeded_lasts {d s} : (execHoldoverLimitExceeded d s).Lasts s := by
  simp [execHoldoverLimitExceeded, holdoverLimitExceeded]

@[simp] theorem lasting_irigMeasure {s : State} {f m g extra} : (s.irigMeasure f m g extra).lasting = s.lasting := by
  unfold State.irigMeasure
  exact lasting_eachDom fun _ _ => by split <;> simp

@[simp] theorem lasting_ppsState {s : State} {st} : (s.ppsState st).lasting = s.lasting := by simp [State.ppsState]

@[simp] theorem lasting_irigSt {s : State} {st} : (s.irigSt st).lasting = s.lasting := by simp [State.irigSt]

@[simp] theorem execPpsInEdge_lasts {s} : (execPpsInEdge s).Lasts s := by
  unfold execPpsInEdge ppsInEdge
  (repeat' split) <;> simp

@[simp] theorem execIrigFrame_lasts {frame marker s} : (execIrigFrame frame marker s).Lasts s := by
  unfold execIrigFrame irigFrame
  split <;> simp

@[simp] theorem execPpsInTimeout_lasts {s} : (execPpsInTimeout s).Lasts s := by
  unfold execPpsInTimeout ppsInTimeout
  split <;> simp

@[simp] theorem execLeapSecond_lasts {d s} : (execLeapSecond d s).Lasts s := by
  unfold execLeapSecond leapSecond
  split <;> simp

@[simp] theorem lasting_stepApply {d s} : (stepApply d s).lasting = s.lasting := by fun_cases stepApply d s <;> simp

@[simp] theorem setTime_lasts {who d time s} : (setTime who d time s).Lasts s := by simp [setTime]

@[simp] theorem execDomainSetTime_lasts {who d time s} : (execDomainSetTime who d time s).Lasts s := by
  simp [execDomainSetTime]

@[simp] theorem domainStep_lasts {who d amount s} : (domainStep who d amount s).Lasts s := by
  simp [domainStep]

@[simp] theorem execDomainStep_lasts {who d amount s} : (execDomainStep who d amount s).Lasts s := by
  simp [execDomainStep]

@[simp] theorem stepToReference_lasts {who d value s} : (stepToReference who d value s).Lasts s := by
  unfold stepToReference
  split <;> simp

@[simp] theorem execDomainStepToReference_lasts {who d value s} : (execDomainStepToReference who d value s).Lasts s := by
  simp [execDomainStepToReference]

@[simp] theorem stepCancel_lasts {who d value s} : (stepCancel who d value s).Lasts s := by
  unfold stepCancel
  split <;> simp

@[simp] theorem execDomainStepCancel_lasts {who d value s} : (execDomainStepCancel who d value s).Lasts s := by
  simp [execDomainStepCancel]

@[simp] theorem lasting_dropTimed {s : State} {d} : (s.dropTimed d).lasting = s.lasting := by simp [State.dropTimed]

@[simp] theorem lasting_applyDomainEnable {s : State} {d value} : (s.applyDomainEnable d value).lasting = s.lasting := by
  simp [State.applyDomainEnable]

@[simp] theorem execPairOffsetMeasure_lasts {d offset peerState peerTrim s} :
    (execPairOffsetMeasure d offset peerState peerTrim s).Lasts s := by
  simp [execPairOffsetMeasure, pairOffsetMeasure]

@[simp] theorem execGtcLoRead_lasts {reader s} : (execGtcLoRead reader s).Lasts s := by
  simp [execGtcLoRead, gtcLoRead]

@[simp] theorem execDomSecLoRead_lasts {reader d s} : (execDomSecLoRead reader d s).Lasts s := by
  simp [execDomSecLoRead, domSecLoRead]

@[simp] theorem execSnapAllTrigger_lasts {reader s} : (execSnapAllTrigger reader s).Lasts s := by
  simp [execSnapAllTrigger, snapAllTrigger]

@[simp] theorem execPpsOutEdge_lasts {k s} : (execPpsOutEdge k s).Lasts s := by
  simp [execPpsOutEdge, ppsOutEdge]

@[simp] theorem execPpsOutPulseEnd_lasts {k s} : (execPpsOutPulseEnd k s).Lasts s := by
  simp [execPpsOutPulseEnd, ppsOutPulseEnd]

end Sys2Proof.Machine
end

section
/-! PROOFS. What outlasts a step, under the event controller and the event recorder (Chapter 16). -/

namespace Sys2Proof.Machine

@[simp] theorem lasting_raiseLimited {s : State} {src code kind num value} :
    (s.raiseLimited src code kind num value).lasting = s.lasting := by
  simp [State.raiseLimited]

@[simp] theorem execEventRaiseInDie_lasts {die source code kind num detail s} :
    (execEventRaiseInDie die source code kind num detail s).Lasts s := by
  simp [execEventRaiseInDie]

@[simp] theorem eventRaise_lasts {who value s} : (eventRaise who value s).Lasts s := by simp [eventRaise]

@[simp] theorem execEventRaise_lasts {who value s} : (execEventRaise who value s).Lasts s := by
  simp [execEventRaise]

@[simp] theorem lasting_setEvQueue {s : State} {q x} : (s.setEvQueue q x).lasting = s.lasting := by
  simp [State.setEvQueue]

@[simp] theorem lasting_sendMsix {s : State} {fn vec} : (s.sendMsix fn vec).lasting = s.lasting := by
  simp [State.sendMsix]

@[simp] theorem lasting_eqSignal {s : State} {q} : (s.eqSignal q).lasting = s.lasting := by
  fun_cases State.eqSignal s q <;> simp +zetaDelta

@[simp] theorem lasting_le_eqWrite {s : State} {e q} {a} (h : a ≤ s.lasting) :
    a ≤ (s.eqWrite e q).lasting := by simp [h, State.eqWrite]

@[simp] theorem lasting_pinDrive {s : State} {e k} : (s.pinDrive e k).lasting = s.lasting := by
  fun_cases State.pinDrive s e k <;> simp

@[simp] theorem lasting_le_deliver {s : State} {e} {a} (h : a ≤ s.lasting) :
    a ≤ (s.deliver e).lasting := by simp [h, State.deliver]

@[simp] theorem lasting_setRecorder {s : State} {r} : (s.setRecorder r).lasting = s.lasting := by
  simp [State.setRecorder]

@[simp] theorem lasting_recorderTake {s : State} {e} : (s.recorderTake e).lasting = s.lasting := by
  simp [State.recorderTake]

@[simp] theorem lasting_record {s : State} {e} : (s.record e).lasting = s.lasting := by
  fun_cases State.record s e <;> simp

@[simp] theorem execRecorderWrite_lasts {s} : (execRecorderWrite s).Lasts s := by
  unfold execRecorderWrite recorderWrite
  dsimp only
  (repeat' split) <;> simp

@[simp] theorem execRecorderCrcPass_lasts {s} : (execRecorderCrcPass s).Lasts s := by
  simp [execRecorderCrcPass, recorderCrcPass]

@[simp] theorem lasting_operatingSecondsSave {s} : (operatingSecondsSave s).lasting = s.lasting := by
  simp [operatingSecondsSave]

@[simp] theorem execOperatingSecondsSave_lasts {s} : (execOperatingSecondsSave s).Lasts s := by
  simp [execOperatingSecondsSave]

@[simp] theorem lasting_raiseFreeze {s : State} {what role} : (s.raiseFreeze what role).lasting = s.lasting := by
  simp [State.raiseFreeze]

@[simp] theorem lasting_endFreeze {s : State} {what} : (s.endFreeze what).lasting = s.lasting := by
  fun_cases State.endFreeze s what <;> simp +zetaDelta

@[simp] theorem recorderFreeze_lasts {who s} : (recorderFreeze who s).Lasts s := by
  unfold recorderFreeze
  split <;> simp

@[simp] theorem execRecorderFreeze_lasts {who s} : (execRecorderFreeze who s).Lasts s := by
  simp [execRecorderFreeze]

@[simp] theorem recorderUnfreeze_lasts {who s} : (recorderUnfreeze who s).Lasts s := by
  unfold recorderUnfreeze
  split <;> simp

@[simp] theorem execRecorderUnfreeze_lasts {who s} : (execRecorderUnfreeze who s).Lasts s := by
  simp [execRecorderUnfreeze]

@[simp] theorem execFreezeLimitExpiry_lasts {s} : (execFreezeLimitExpiry s).Lasts s := by
  unfold execFreezeLimitExpiry freezeLimitExpiry
  split <;> simp

@[simp] theorem recorderClear_lasts {who value s} : (recorderClear who value s).Lasts s := by
  simp [recorderClear]

@[simp] theorem execRecorderClear_lasts {who value s} : (execRecorderClear who value s).Lasts s := by
  simp [execRecorderClear]

@[simp] theorem lasting_reportMark {s : State} {d w} : (s.reportMark d w).lasting = s.lasting := by
  simp [State.reportMark]

@[simp] theorem lasting_endEpisode {s : State} {d} : (s.endEpisode d).lasting = s.lasting := by
  fun_cases State.endEpisode s d <;> simp

@[simp] theorem execEventRelease_lasts {markN markC0 markC1 markS s} :
    (execEventRelease markN markC0 markC1 markS s).Lasts s := by
  unfold execEventRelease eventRelease
  dsimp only
  (repeat' split) <;> simp

@[simp] theorem execDieSilent_lasts {die mark s} : (execDieSilent die mark s).Lasts s := by
  simp [execDieSilent, dieSilent]

@[simp] theorem execDieReadmit_lasts {die mark s} : (execDieReadmit die mark s).Lasts s := by
  simp [execDieReadmit, dieReadmit]

@[simp] theorem execEqCoalesceTimeout_lasts {q s} : (execEqCoalesceTimeout q s).Lasts s := by
  simp [execEqCoalesceTimeout, eqCoalesceTimeout]

@[simp] theorem execEqKick_lasts {q s} : (execEqKick q s).Lasts s := by simp [execEqKick, eqKick]

theorem tabWfFrom_filter {b : Nat} {m : List Host.Cell} {p : Host.Cell → Bool} (h : tabWfFrom 0 b m = true) :
    tabWfFrom 0 b (m.filter p) = true := by
  induction m generalizing b with
  | nil => rfl
  | cons c r ih =>
    simp only [tabWfFrom, Bool.and_eq_true] at h
    obtain ⟨hc, hr⟩ := h
    have hlow : b ≤ c.1 + 1 := by simp at hc; omega
    cases hp : p c with
    | true =>
      rw [List.filter_cons_of_pos hp, tabWfFrom, Bool.and_eq_true, Bool.and_eq_true]
      exact ⟨hc, ih hr⟩
    | false => simpa [hp] using tabWfFrom_mono 0 _ _ b hlow (ih hr)

/-- Taking an address range out of HBM keeps the canonical form of its memory. -/
theorem wf_le_memClear {m : List Host.Cell} {a n : Nat} : Memory.wf m ≤ Memory.wf (memClear m a n) :=
  Bool.le_iff_imp.mpr fun h => tabWfFrom_filter h

theorem lasting_le_cleared {s : State} {a n : Nat} {k : Nat × Bool} (h : k ≤ s.lasting) :
    k ≤ (s.sec.minVersion, Memory.wf (memClear s.mem.hbm a n)) :=
  h.trans ⟨le_rfl, wf_le_memClear⟩

@[simp] theorem eqConfigWrite_lasts {who q b s} : (eqConfigWrite who q b s).Lasts s := by
  simp [eqConfigWrite]
  intros
  exact lasting_le_cleared (by simp)

@[simp] theorem execEqConfig_lasts {who q value s} : (execEqConfig who q value s).Lasts s := by
  simp [execEqConfig]

@[simp] theorem execEvtPinPulseEnd_lasts {k s} : (execEvtPinPulseEnd k s).Lasts s := by
  simp [execEvtPinPulseEnd, evtPinPulseEnd]

@[simp] theorem evtPinAck_lasts {who k value s} : (evtPinAck who k value s).Lasts s := by simp [evtPinAck]

@[simp] theorem execEvtPinAck_lasts {who k value s} : (execEvtPinAck who k value s).Lasts s := by
  simp [execEvtPinAck]

@[simp] theorem lasting_msixUnmask {fn vec s} : (msixUnmask fn vec s).lasting = s.lasting := by simp [msixUnmask]

@[simp] theorem execMsixVectorUnmask_lasts {fn vector s} : (execMsixVectorUnmask fn vector s).Lasts s := by
  simp [execMsixVectorUnmask]

end Sys2Proof.Machine
end

section
/-! PROOFS. What outlasts a step, under host cores, HBM pages, coherence and memory errors (Chapter 15). -/

namespace Sys2Proof.Machine

@[simp] theorem hbmBind_lasts {who op inst count first s} : (hbmBind who op inst count first s).Lasts s := by
  simp [hbmBind]

@[simp] theorem execHbmBindHost_lasts {who inst count first s} : (execHbmBindHost who inst count first s).Lasts s := by
  simp [execHbmBindHost]

@[simp] theorem execHbmBindManager_lasts {who count first s} : (execHbmBindManager who count first s).Lasts s := by
  simp [execHbmBindManager]

@[simp] theorem execHbmUnbind_lasts {who count first s} : (execHbmUnbind who count first s).Lasts s := by
  simp [execHbmUnbind]

@[simp] theorem execHbmRetire_lasts {who count first s} : (execHbmRetire who count first s).Lasts s := by
  simp [execHbmRetire]

@[simp] theorem execProtectionViolation_lasts {core virt write addr s} :
    (execProtectionViolation core virt write addr s).Lasts s := by
  simp [execProtectionViolation, protectionViolation]

@[simp] theorem execDmaViolation_lasts {inst ring addr data s} : (execDmaViolation inst ring addr data s).Lasts s := by
  simp [execDmaViolation, dmaViolation]

@[simp] theorem lasting_setCacheLine {s : State} {core line x} : (s.setCacheLine core line x).lasting = s.lasting := by
  simp [State.setCacheLine]

@[simp] theorem lasting_setWriteback {s : State} {core line x} : (s.setWriteback core line x).lasting = s.lasting := by
  simp [State.setWriteback]

@[simp] theorem lasting_setDirEntry {s : State} {line x} : (s.setDirEntry line x).lasting = s.lasting := by
  simp [State.setDirEntry]

@[simp] theorem lasting_setWaiting {s : State} {l} : (s.setWaiting l).lasting = s.lasting := by simp [State.setWaiting]

@[simp] theorem lasting_consumePoison {s : State} {core line} : (s.consumePoison core line).lasting = s.lasting := by
  simp [State.consumePoison]

@[simp] theorem lasting_le_flushLine {s : State} {line x} {a} (h : a ≤ s.lasting) :
    a ≤ (s.flushLine line x).lasting := by
  simp [h, State.flushLine]

@[simp] theorem lasting_le_invalidate {s : State} {line cores} {a} (h : a ≤ s.lasting) :
    a ≤ (s.invalidate line cores).lasting :=
  lasting_le_foldl h fun _ _ => by split <;> simp

@[simp] theorem lasting_le_makeRoom {s : State} {line} {a} (h : a ≤ s.lasting) :
    a ≤ (s.makeRoom line).lasting := by
  fun_cases State.makeRoom s line <;> simp [h]

@[simp] theorem lasting_le_grant {s : State} {core line st data holders} {a} (h : a ≤ s.lasting) :
    a ≤ (s.grant core line st data holders).lasting := by
  simp [h, State.grant]

@[simp] theorem lasting_le_serve {s : State} {r} {a} (h : a ≤ s.lasting) :
    a ≤ (s.serve r).lasting := by
  fun_cases State.serve s r <;> simp +zetaDelta [h]

@[simp] theorem lasting_coreStore {s : State} {core line st} : (s.coreStore core line st).lasting = s.lasting := by
  unfold State.coreStore
  split <;> simp

@[simp] theorem lasting_le_request {s : State} {r} {a} (h : a ≤ s.lasting) :
    a ≤ (s.request r).lasting := by simp [h, State.request]

@[simp] theorem lasting_le_serveQueued {n line s} {a} (h : a ≤ s.lasting) :
    a ≤ (State.serveQueued n line s).lasting := by
  induction n generalizing s with
  | zero => exact h
  | succ n ih =>
    unfold State.serveQueued
    split
    · exact h
    · split
      · exact h
      · exact ih (by simp [h])

@[simp] theorem execReadShared_lasts {core line s} : (execReadShared core line s).Lasts s := by
  simp [execReadShared]

@[simp] theorem execReadUnique_lasts {core line store s} : (execReadUnique core line store s).Lasts s := by
  simp [execReadUnique]

@[simp] theorem execUpgrade_lasts {core line store s} : (execUpgrade core line store s).Lasts s := by
  simp [execUpgrade, upgrade]

@[simp] theorem lasting_dropHolder {s : State} {core line} : (s.dropHolder core line).lasting = s.lasting := by
  unfold State.dropHolder
  split <;> simp

@[simp] theorem execWriteback_lasts {core line arrived s} : (execWriteback core line arrived s).Lasts s := by
  unfold execWriteback writebackMsg
  (repeat' split) <;> simp

@[simp] theorem execCleanEvict_lasts {core line arrived s} : (execCleanEvict core line arrived s).Lasts s := by
  unfold execCleanEvict cleanEvict
  (repeat' split) <;> simp

@[simp] theorem execIoRead_lasts {line s} : (execIoRead line s).Lasts s := by simp [execIoRead]

@[simp] theorem execIoWrite_lasts {line offset data s} : (execIoWrite line offset data s).Lasts s := by
  simp [execIoWrite, ioWrite]

@[simp] theorem lasting_le_finish {s : State} {r kept} {a} (h : a ≤ s.lasting) :
    a ≤ (s.finish r kept).lasting := by
  unfold State.finish
  split <;> simp [h]

@[simp] theorem execSnoop_lasts {core line s} : (execSnoop core line s).Lasts s := by
  unfold execSnoop snoop
  (repeat' split)
  · exact lasts_next.mpr le_rfl
  · exact lasts_next.mpr (lasting_le_serveQueued (by simp))
  · exact lasts_next.mpr (lasting_le_serveQueued (by simp))
  · exact lasts_next.mpr (lasting_le_serveQueued (by simp))

@[simp] theorem execHbmEccError_lasts {addr l3 s} : (execHbmEccError addr l3 s).Lasts s := by
  simp [execHbmEccError, eccError]

@[simp] theorem execHbmEccCorrected_lasts {addr l3 checkBit s} : (execHbmEccCorrected addr l3 checkBit s).Lasts s := by
  simp [execHbmEccCorrected, eccCorrected]

@[simp] theorem execDirectoryEccError_lasts {line s} : (execDirectoryEccError line s).Lasts s := by
  simp [execDirectoryEccError, directoryEccError]

@[simp] theorem execHbmScrubPass_lasts {micros s} : (execHbmScrubPass micros s).Lasts s := by
  simp [execHbmScrubPass, hbmScrubPass]

@[simp] theorem execL3ScrubPass_lasts {die micros s} : (execL3ScrubPass die micros s).Lasts s := by
  simp [execL3ScrubPass, l3ScrubPass]

end Sys2Proof.Machine
end

section
/-! PROOFS. What outlasts a step, under what ports, switch and fabric share. -/

namespace Sys2Proof.Machine

@[simp] theorem lasting_setCharge {s : State} {k n c} : (s.setCharge k n c).lasting = s.lasting := by
  simp [State.setCharge]

@[simp] theorem admitCharge_lasts {s : State} {k n c} : (s.admitCharge k n c).Lasts s := by
  simp [State.admitCharge]

@[simp] theorem lasting_count48ev {s : State} {id src kind num k} : (s.count48ev id src kind num k).lasting = s.lasting := by
  simp [State.count48ev]

@[simp] theorem lasting_portCount {s : State} {id n k} : (s.portCount id n k).lasting = s.lasting := by
  simp [State.portCount]

@[simp] theorem lasting_blobCount {s : State} {id i src kind num k} :
    (s.blobCount id i src kind num k).lasting = s.lasting := by
  simp [State.blobCount]

@[simp] theorem lasting_setPnum {s : State} {id n v} : (s.setPnum id n v).lasting = s.lasting := by simp [State.setPnum]

@[simp] theorem lasting_setPort {s : State} {n p} : (s.setPort n p).lasting = s.lasting := by simp [State.setPort]

@[simp] theorem lasting_setPllOff {s : State} {k t} : (s.setPllOff k t).lasting = s.lasting := by simp [State.setPllOff]

@[simp] theorem lasting_pllUpdate {s : State} {k} : (s.pllUpdate k).lasting = s.lasting := by simp [State.pllUpdate]

@[simp] theorem lasting_setBufEnt {s : State} {id b} : (s.setBufEnt id b).lasting = s.lasting := by
  simp [State.setBufEnt]

@[simp] theorem lasting_releaseFrame {s : State} {id} : (s.releaseFrame id).lasting = s.lasting := by
  simp [State.releaseFrame]

@[simp] theorem lasting_enqueue {s : State} {n q f} : (s.enqueue n q f).lasting = s.lasting := by simp [State.enqueue]

@[simp] theorem lasting_discardQueues {s : State} {n} : (s.discardQueues n).lasting = s.lasting := by
  simp [State.discardQueues]

@[simp] theorem lasting_setNb {s : State} {n x} : (s.setNb n x).lasting = s.lasting := by simp [State.setNb]

@[simp] theorem lasting_setFlowState {s : State} {f st} : (s.setFlowState f st).lasting = s.lasting := by
  simp [State.setFlowState]

@[simp] theorem lasting_setFlow {s : State} {f x} : (s.setFlow f x).lasting = s.lasting := by simp [State.setFlow]

@[simp] theorem lasting_setFabricState {s : State} {st} : (s.setFabricState st).lasting = s.lasting := by
  simp [State.setFabricState]

@[simp] theorem lasting_fabricUpdate {s : State} : s.fabricUpdate.lasting = s.lasting := by
  simp [State.fabricUpdate]

@[simp] theorem lasting_restartDelay {s : State} {n} : (s.restartDelay n).lasting = s.lasting := by
  simp [State.restartDelay]

@[simp] theorem lasting_setNeighbour {s : State} {n st} : (s.setNeighbour n st).lasting = s.lasting := by
  simp [State.setNeighbour]

@[simp] theorem lasting_redUpdate {s : State} {g} : (s.redUpdate g).lasting = s.lasting := by simp [State.redUpdate]

@[simp] theorem lasting_redUpdatePort {s : State} {n} : (s.redUpdatePort n).lasting = s.lasting := by
  unfold State.redUpdatePort
  split <;> simp

@[simp] theorem lasting_enterPortState {s : State} {n st} : (s.enterPortState n st).lasting = s.lasting := by
  simp [State.enterPortState]

@[simp] theorem lasting_startTraining {s : State} {n} : (s.startTraining n).lasting = s.lasting := by
  simp [State.startTraining]

@[simp] theorem lasting_flushLearned {s : State} {n} : (s.flushLearned n).lasting = s.lasting := by
  simp [State.flushLearned]

@[simp] theorem lasting_leaveUp {s : State} {n st} : (s.leaveUp n st).lasting = s.lasting := by simp [State.leaveUp]

@[simp] theorem lasting_bringUp {s : State} {n} : (s.bringUp n).lasting = s.lasting := by simp [State.bringUp]

end Sys2Proof.Machine
end

section
/-! PROOFS. What outlasts a step, under frames on the wire. -/

namespace Sys2Proof.Machine

@[simp] theorem lasting_bumpSeq {s : State} {kind flow} : (s.bumpSeq kind flow).lasting = s.lasting := by
  simp [State.bumpSeq]

@[simp] theorem lasting_sendXosyn {s : State} {n kind h body fix prio} :
    (s.sendXosyn n kind h body fix prio).lasting = s.lasting := by
  simp [State.sendXosyn]

@[simp] theorem lasting_sendLink {s : State} {n kind flow body fix} :
    (s.sendLink n kind flow body fix).lasting = s.lasting := by
  simp [State.sendLink]

@[simp] theorem lasting_sendBroadcast {s : State} {kind flow body fix} :
    (s.sendBroadcast kind flow body fix).lasting = s.lasting := by
  simp [State.sendBroadcast]

end Sys2Proof.Machine
end

section
/-! PROOFS. What outlasts a step, under lanes, ports and MACs (Chapter 4). -/

namespace Sys2Proof.Machine

@[simp] theorem lasting_applyPortEnable {s : State} {n value} : (s.applyPortEnable n value).lasting = s.lasting := by
  simp [State.applyPortEnable]

@[simp] theorem execPortEnable_lasts {who n value s} : (execPortEnable who n value s).Lasts s := by
  simp [execPortEnable, portEnableWrite]

@[simp] theorem lasting_applyPortMode {s : State} {n value} : (s.applyPortMode n value).lasting = s.lasting := by
  simp [State.applyPortMode]

@[simp] theorem execPortMode_lasts {who n value s} : (execPortMode who n value s).Lasts s := by
  simp [execPortMode, portModeWrite]

@[simp] theorem lasting_applyPortFec {s : State} {n value} : (s.applyPortFec n value).lasting = s.lasting := by
  simp [State.applyPortFec]

@[simp] theorem execPortFec_lasts {who n value s} : (execPortFec who n value s).Lasts s := by
  simp [execPortFec, portFecWrite]

@[simp] theorem execLinkUp_lasts {n since s} : (execLinkUp n since s).Lasts s := by simp [execLinkUp, linkUp]

@[simp] theorem execLinkFault_lasts {n remote s} : (execLinkFault n remote s).Lasts s := by
  simp [execLinkFault, linkFault]

@[simp] theorem execSignalLossSleep_lasts {n since s} : (execSignalLossSleep n since s).Lasts s := by
  simp [execSignalLossSleep, signalLossSleep]

@[simp] theorem execSignalDetect_lasts {n s} : (execSignalDetect n s).Lasts s := by
  simp [execSignalDetect, signalDetect]

@[simp] theorem execTrainingRestart_lasts {n s} : (execTrainingRestart n s).Lasts s := by
  simp [execTrainingRestart, trainingRestart]

@[simp] theorem execFecDegraded_lasts {n ratio s} : (execFecDegraded n ratio s).Lasts s := by
  simp [execFecDegraded, fecDegraded]

@[simp] theorem lasting_resetPort {s : State} {n} : (s.resetPort n).lasting = s.lasting := by simp [State.resetPort]

@[simp] theorem portReset_lasts {who n value s} : (portReset who n value s).Lasts s := by simp [portReset]

@[simp] theorem execPortReset_lasts {who n s} : (execPortReset who n s).Lasts s := by simp [execPortReset]

@[simp] theorem execPortResetForced_lasts {who n s} : (execPortResetForced who n s).Lasts s := by
  simp [execPortResetForced]

@[simp] theorem lasting_setBucket {s : State} {k b} : (s.setBucket k b).lasting = s.lasting := by simp [State.setBucket]

@[simp] theorem lasting_shaperSettle {s : State} {n q} : (s.shaperSettle n q).lasting = s.lasting := by
  simp [State.shaperSettle]

@[simp] theorem lasting_noteTraffic {s : State} {n rx len} : (s.noteTraffic n rx len).lasting = s.lasting := by
  simp [State.noteTraffic]

@[simp] theorem lasting_countCast {s : State} {id n dst} : (s.countCast id n dst).lasting = s.lasting := by
  simp [State.countCast]

@[simp] theorem lasting_noteDelayReq {s : State} {n o} : (s.noteDelayReq n o).lasting = s.lasting := by
  simp [State.noteDelayReq]

@[simp] theorem lasting_frameTransmit {n s} : (frameTransmit n s).lasting = s.lasting := by
  fun_cases frameTransmit n s <;> simp +zetaDelta

@[simp] theorem execFrameTransmit_lasts {n s} : (execFrameTransmit n s).Lasts s := by simp [execFrameTransmit]

@[simp] theorem execLpiEnter_lasts {n s} : (execLpiEnter n s).Lasts s := by simp [execLpiEnter, lpiEnter]

@[simp] theorem lasting_wakeLpi {s : State} {n} : (s.wakeLpi n).lasting = s.lasting := by simp [State.wakeLpi]

@[simp] theorem execLpiWake_lasts {n s} : (execLpiWake n s).Lasts s := by simp [execLpiWake, lpiWake]

@[simp] theorem lasting_setShift {s : State} {n x} : (s.setShift n x).lasting = s.lasting := by simp [State.setShift]

@[simp] theorem lasting_linkControl {s : State} {n txn op target cause} :
    (s.linkControl n txn op target cause).lasting = s.lasting := by
  simp [State.linkControl]

@[simp] theorem lasting_askShift {s : State} {n target} : (s.askShift n target).lasting = s.lasting := by
  simp [State.askShift]

@[simp] theorem lasting_downshiftRequest {n thermal s} : (downshiftRequest n thermal s).lasting = s.lasting := by
  simp [downshiftRequest]

@[simp] theorem execDownshiftRequest_lasts {n thermal s} : (execDownshiftRequest n thermal s).Lasts s := by
  simp [execDownshiftRequest]

@[simp] theorem execUpshiftRequest_lasts {n s} : (execUpshiftRequest n s).Lasts s := by
  simp [execUpshiftRequest, upshiftRequest]

@[simp] theorem lasting_beginShift {s : State} {n txn target} : (s.beginShift n txn target).lasting = s.lasting := by
  simp [State.beginShift]

@[simp] theorem lasting_shiftDone {s : State} {n} : (s.shiftDone n).lasting = s.lasting := by
  fun_cases State.shiftDone s n <;> simp +zetaDelta

@[simp] theorem lasting_shiftRequest {n txn target source admitted s} :
    (shiftRequest n txn target source admitted s).lasting = s.lasting := by
  simp [shiftRequest]

@[simp] theorem execShiftRequest_lasts {n txn target source admitted s} :
    (execShiftRequest n txn target source admitted s).Lasts s := by
  simp [execShiftRequest]

@[simp] theorem lasting_shiftAccept {n txn s} : (shiftAccept n txn s).lasting = s.lasting := by
  unfold shiftAccept
  split <;> simp

@[simp] theorem execShiftAccept_lasts {n txn s} : (execShiftAccept n txn s).Lasts s := by
  simp [execShiftAccept]

@[simp] theorem lasting_shiftDecline {n txn cause s} : (shiftDecline n txn cause s).lasting = s.lasting := by
  fun_cases shiftDecline n txn cause s <;> simp

@[simp] theorem execShiftDecline_lasts {n txn cause s} : (execShiftDecline n txn cause s).Lasts s := by
  simp [execShiftDecline]

@[simp] theorem lasting_shiftMarker {n txn aligned s} : (shiftMarker n txn aligned s).lasting = s.lasting := by
  fun_cases shiftMarker n txn aligned s <;> simp +zetaDelta

@[simp] theorem execShiftMarker_lasts {n txn aligned s} : (execShiftMarker n txn aligned s).Lasts s := by
  simp [execShiftMarker]

@[simp] theorem execShiftTxResume_lasts {n s} : (execShiftTxResume n s).Lasts s := by
  unfold execShiftTxResume shiftTxResume
  dsimp only
  (repeat' split) <;> simp

@[simp] theorem execShiftAlignFail_lasts {n s} : (execShiftAlignFail n s).Lasts s := by
  unfold execShiftAlignFail shiftAlignFail
  dsimp only
  (repeat' split) <;> simp

@[simp] theorem lasting_snapshotPort {s : State} {n} : (s.snapshotPort n).lasting = s.lasting := by
  simp [State.snapshotPort]

@[simp] theorem portSnapshot_lasts {who n value s} : (portSnapshot who n value s).Lasts s := by
  simp [portSnapshot]

@[simp] theorem execPortCounterSnapshot_lasts {who n value s} : (execPortCounterSnapshot who n value s).Lasts s := by
  simp [execPortCounterSnapshot]

@[simp] theorem allPortSnapshot_lasts {who value s} : (allPortSnapshot who value s).Lasts s := by
  simp [allPortSnapshot]

@[simp] theorem execAllPortSnapshot_lasts {who value s} : (execAllPortSnapshot who value s).Lasts s := by
  simp [execAllPortSnapshot]

@[simp] theorem lasting_clearPort {s : State} {n} : (s.clearPort n).lasting = s.lasting := by simp [State.clearPort]

@[simp] theorem portClear_lasts {who n value s} : (portClear who n value s).Lasts s := by simp [portClear]

@[simp] theorem execPortCounterClear_lasts {who n value s} : (execPortCounterClear who n value s).Lasts s := by
  simp [execPortCounterClear]

@[simp] theorem execFilterEntryWrite_lasts {who n slot value s} : (execFilterEntryWrite who n slot value s).Lasts s := by
  simp [execFilterEntryWrite, filterWrite]

@[simp] theorem lasting_octetPllLockLoss {k s} : (octetPllLockLoss k s).lasting = s.lasting := by
  simp [octetPllLockLoss]

@[simp] theorem execOctetPllLockLoss_lasts {k s} : (execOctetPllLockLoss k s).Lasts s := by
  simp [execOctetPllLockLoss]

@[simp] theorem execOctetPllLocked_lasts {k s} : (execOctetPllLocked k s).Lasts s := by
  simp [execOctetPllLocked, octetPllLocked]

@[simp] theorem execOctetPllStop_lasts {k s} : (execOctetPllStop k s).Lasts s := by
  unfold execOctetPllStop octetPllStop
  split <;> simp

@[simp] theorem execSgmiiSpeedChange_lasts {n speed s} : (execSgmiiSpeedChange n speed s).Lasts s := by
  simp [execSgmiiSpeedChange, sgmiiSpeed]

end Sys2Proof.Machine
end

section
/-! PROOFS. What outlasts a step, under rings, the basket and receive packets (Chapter 14). -/

namespace Sys2Proof.Machine

@[simp] theorem lasting_setRing {s : State} {i r x} : (s.setRing i r x).lasting = s.lasting := by simp [State.setRing]

@[simp] theorem lasting_le_writeSlot {s : State} {i r j b} {a} (h : a ≤ s.lasting) :
    a ≤ (s.writeSlot i r j b).lasting := by
  fun_cases State.writeSlot s i r j b <;> simp [h]

@[simp] theorem lasting_le_writeSlots {s : State} {i r j k b} {a} (h : a ≤ s.lasting) :
    a ≤ (s.writeSlots i r j k b).lasting := by
  induction k generalizing s j b with
  | zero => exact h
  | succ k ih => exact ih (by simp [h])

@[simp] theorem lasting_basketOcc {s : State} {i pos value} : (s.basketOcc i pos value).lasting = s.lasting := by
  simp [State.basketOcc]

@[simp] theorem lasting_setOverrun {s : State} {i r} : (s.setOverrun i r).lasting = s.lasting := by
  simp [State.setOverrun]

@[simp] theorem lasting_ringCount {s : State} {i r off k} : (s.ringCount i r off k).lasting = s.lasting := by
  simp [State.ringCount]

@[simp] theorem lasting_ringFull {s : State} {i r} : (s.ringFull i r).lasting = s.lasting := by simp [State.ringFull]

@[simp] theorem lasting_le_ringAppend {s : State} {i r b} {a} (h : a ≤ s.lasting) :
    a ≤ (s.ringAppend i r b).1.lasting := by
  fun_cases State.ringAppend s i r b <;> simp +zetaDelta [h]

@[simp] theorem lasting_le_receiveInto {s : State} {i r b} {a} (h : a ≤ s.lasting) :
    a ≤ (s.receiveInto i r b).1.lasting := by
  unfold State.receiveInto
  split
  · split
    next t ok hring =>
    have ht : a ≤ t.lasting := lasting_le_of_fst (lasting_le_ringAppend h) hring
    simpa using ht
  · exact h

@[simp] theorem lasting_le_localCopy {s : State} {n b truncated fcsOk} {a} (h : a ≤ s.lasting) :
    a ≤ (s.localCopy n b truncated fcsOk).lasting := by
  simp [h, State.localCopy]

@[simp] theorem lasting_le_gooseCopy {s : State} {e b tagOk stamp} {a} (h : a ≤ s.lasting) :
    a ≤ (s.gooseCopy e b tagOk stamp).lasting := by
  unfold State.gooseCopy
  split <;> simp [h]

@[simp] theorem execRingProd_lasts {inst ring value s} : (execRingProd inst ring value s).Lasts s := by
  simp [execRingProd, ringProd]

@[simp] theorem execRingCons_lasts {inst ring value s} : (execRingCons inst ring value s).Lasts s := by
  simp [execRingCons, ringCons]

@[simp] theorem execRingCommand_lasts {inst ring value s} : (execRingCommand inst ring value s).Lasts s := by
  unfold execRingCommand ringCommand
  dsimp only
  (repeat' split) <;> simp

@[simp] theorem execRingStatusKnock_lasts {inst ring value s} : (execRingStatusKnock inst ring value s).Lasts s := by
  simp [execRingStatusKnock, ringKnock]

@[simp] theorem lasting_applyRing {s : State} {i r b} : (s.applyRing i r b).lasting = s.lasting := by
  simp [State.applyRing]

@[simp] theorem execRingConfig_lasts {who inst ring value s} : (execRingConfig who inst ring value s).Lasts s := by
  simp [execRingConfig, ringConfigWrite]

end Sys2Proof.Machine
end

section
/-! PROOFS. What outlasts a step, under the keys of the key slots (R272, R276 to R278). -/

namespace Sys2Proof.Machine

@[simp] theorem lasting_setKeyRec {s : State} {n bank r} : (s.setKeyRec n bank r).lasting = s.lasting := by
  simp [State.setKeyRec]

@[simp] theorem lasting_eraseSlot {s : State} {n} : (s.eraseSlot n).lasting = s.lasting := by simp [State.eraseSlot]

@[simp] theorem lasting_noteAmbiguous {s : State} {e cls o} : (s.noteAmbiguous e cls o).lasting = s.lasting := by
  simp [State.noteAmbiguous]

end Sys2Proof.Machine
end

section
/-! PROOFS. What outlasts a step, under forwarding, learning and traffic classes (Chapter 5). -/

namespace Sys2Proof.Machine

@[simp] theorem lasting_policeBucket {s : State} {k rate burst len} :
    (s.policeBucket k rate burst len).1.lasting = s.lasting := by
  fun_cases State.policeBucket s k rate burst len <;> simp

@[simp] theorem lasting_policePort {s : State} {k rate burst len} :
    (s.policePort k rate burst len).1.lasting = s.lasting := by
  unfold State.policePort
  split <;> simp

@[simp] theorem lasting_fillBucket {s : State} {k burst} : (s.fillBucket k burst).lasting = s.lasting := by
  simp [State.fillBucket]

@[simp] theorem lasting_bufferFrame {s : State} {cells copies reserve} :
    (s.bufferFrame cells copies reserve).1.lasting = s.lasting := by
  simp [State.bufferFrame]

@[simp] theorem lasting_admitProtection {s : State} {cells copies} :
    (s.admitProtection cells copies).1.lasting = s.lasting := by
  unfold State.admitProtection
  dsimp only
  (repeat' split) <;> simp

@[simp] theorem lasting_setMac {s : State} {key e} : (s.setMac key e).lasting = s.lasting := by simp [State.setMac]

@[simp] theorem lasting_queueLearn {s : State} {n key} : (s.queueLearn n key).lasting = s.lasting := by
  simp [State.queueLearn]

@[simp] theorem lasting_learnOne {s : State} {key n} : (s.learnOne key n).lasting = s.lasting := by
  unfold State.learnOne
  split <;> simp

@[simp] theorem execLearn_lasts {pipeline s} : (execLearn pipeline s).Lasts s := by
  unfold execLearn learn
  split <;> simp

@[simp] theorem execSkimmerSweep_lasts {s} : (execSkimmerSweep s).Lasts s := by
  simp [execSkimmerSweep, skimmerSweep]

@[simp] theorem lasting_applyStatic {s : State} {k b} : (s.applyStatic k b).lasting = s.lasting := by
  simp [State.applyStatic]

@[simp] theorem execStaticMacWrite_lasts {who slot value s} : (execStaticMacWrite who slot value s).Lasts s := by
  simp [execStaticMacWrite, staticMacWrite]

@[simp] theorem lasting_setNode {s : State} {g addr x} : (s.setNode g addr x).lasting = s.lasting := by
  simp [State.setNode]

@[simp] theorem lasting_evictNode {s : State} : s.evictNode.lasting = s.lasting := by
  fun_cases State.evictNode s <;> simp +zetaDelta

@[simp] theorem lasting_redundancy {s : State} {g n o} : (s.redundancy g n o).1.lasting = s.lasting := by
  fun_cases State.redundancy s g n o <;> simp +zetaDelta

@[simp] theorem lasting_sendDoubled {s : State} {g q id o} : (s.sendDoubled g q id o).lasting = s.lasting := by
  simp [State.sendDoubled]

@[simp] theorem lasting_sendCopy {s : State} {src n q id o stomp} : (s.sendCopy src n q id o stomp).lasting = s.lasting := by
  unfold State.sendCopy
  split <;> simp

@[simp] theorem execRedSupervisionSend_lasts {g s} : (execRedSupervisionSend g s).Lasts s := by
  simp [execRedSupervisionSend, redSupervisionSend]

@[simp] theorem execRedNodeForget_lasts {g address s} : (execRedNodeForget g address s).Lasts s := by
  unfold execRedNodeForget redNodeForget
  split <;> simp

@[simp] theorem lasting_takeStreamSeq {s : State} {e src m seq} : (s.takeStreamSeq e src m seq).1.lasting = s.lasting := by
  fun_cases State.takeStreamSeq s e src m seq <;> simp

@[simp] theorem lasting_sendFlow {s : State} {f o} : (s.sendFlow f o).lasting = s.lasting := by simp [State.sendFlow]

@[simp] theorem lasting_le_admittedFrame {s : State} {n e o bad stamp} {a} (h : a ≤ s.lasting) :
    a ≤ (s.admittedFrame n e o bad stamp).lasting := by
  unfold State.admittedFrame
  extract_lets b id src t u
  split
  next v ok hpolice =>
  have hv : v.lasting = s.lasting := by simpa [t, u] using lasting_of_fst lasting_policeBucket hpolice
  clear_value t u
  split
  · simp [h, hv]
  extract_lets ports intake w x
  clear_value ports
  split
  · split
    · split <;> simp [h, hv]
    · simp [h, hv]
  · have hw : a ≤ w.lasting := by
      unfold w
      (repeat' split) <;> simp [h, hv]
    have hx : a ≤ x.lasting := by simp [x, hw]
    split
    · exact hx
    · split
      all_goals next hadmit => simp [lasting_of_fst lasting_admitProtection hadmit, hx]

@[simp] theorem lasting_le_streamFrame {s : State} {n e o bad stamp m seq} {a} (h : a ≤ s.lasting) :
    a ≤ (s.streamFrame n e o bad stamp m seq).lasting := by
  unfold State.streamFrame
  split
  next hseq =>
    have ht := lasting_of_fst lasting_takeStreamSeq hseq
    split <;> simp [h, ht]

/-- A policer that may be off only takes from its bucket (R222). -/
theorem lasting_of_policed {s t : State} {c : Prop} [Decidable c] {k rate burst len : Nat} {ok : Bool}
    (h : (if c then s.policePort k rate burst len else (s, true)) = (t, ok)) : t.lasting = s.lasting :=
  lasting_of_fst (by split <;> simp) h

@[simp] theorem lasting_bestEffort {s : State} {n o bad} : (s.bestEffort n o bad).lasting = s.lasting := by
  fun_cases State.bestEffort s n o bad
  case case1 | case2 => simp +zetaDelta
  case case3 h _ => simp +zetaDelta [lasting_of_policed h]
  case case4 h _ _ _ _ _ =>
    have hin := lasting_of_policed h
    simp +zetaDelta at hin
    simp +zetaDelta [hin]
  case case10 =>
    have hin := lasting_of_policed ‹(if State.pnum _ Od.policerEnable _ = 1 then _ else _) = _›
    have hflood := lasting_of_policed ‹(if _ = true then _ else _) = _›
    have hcell := lasting_of_fst lasting_bufferFrame ‹State.bufferFrame _ _ _ _ = _›
    simp +zetaDelta at hin hflood hcell
    simp +zetaDelta [hin, hflood, hcell]
  all_goals
    have hin := lasting_of_policed ‹(if State.pnum _ Od.policerEnable _ = 1 then _ else _) = _›
    have hflood := lasting_of_policed ‹(if _ = true then _ else _) = _›
    simp +zetaDelta at hin hflood
    simp +zetaDelta [hin, hflood]

@[simp] theorem lasting_le_switchFrame {s : State} {n o bad} {a} (h : a ≤ s.lasting) :
    a ≤ (s.switchFrame n o bad).lasting := by
  unfold State.switchFrame
  dsimp only
  (repeat' split) <;> simp [h]

@[simp] theorem lasting_hsrForward {s : State} {n o fresh} : (s.hsrForward n o fresh).lasting = s.lasting := by
  unfold State.hsrForward
  split <;> simp

@[simp] theorem lasting_admitStream {s : State} {e b} : (s.admitStream e b).lasting = s.lasting := by
  simp [State.admitStream]

@[simp] theorem lasting_refuseStream {s : State} {e c} : (s.refuseStream e c).lasting = s.lasting := by
  simp [State.refuseStream]

@[simp] theorem lasting_tryAdmit {s : State} {who e b} : (s.tryAdmit who e b).1.lasting = s.lasting := by
  unfold State.tryAdmit
  split <;> simp

@[simp] theorem execAdmissionShiftWait_lasts {e s} : (execAdmissionShiftWait e s).Lasts s := by
  unfold execAdmissionShiftWait admissionShiftWait
  dsimp only
  (repeat' split) <;> simp

@[simp] theorem execDropEvent_lasts {counter s} : (execDropEvent counter s).Lasts s := by
  unfold execDropEvent dropEvent
  split <;> simp

@[simp] theorem lasting_applyShaperRate {s : State} {n q value} : (s.applyShaperRate n q value).lasting = s.lasting := by
  simp [State.applyShaperRate]

@[simp] theorem lasting_applyShaperBurst {s : State} {n q value} : (s.applyShaperBurst n q value).lasting = s.lasting := by
  simp [State.applyShaperBurst]

@[simp] theorem lasting_applyShaperEnable {s : State} {n value} : (s.applyShaperEnable n value).lasting = s.lasting := by
  simp [State.applyShaperEnable]

@[simp] theorem execShaperRateWrite_lasts {who n q value s} : (execShaperRateWrite who n q value s).Lasts s := by
  simp [execShaperRateWrite, shaperRateWrite]

@[simp] theorem execSoundingPass_lasts {s} : (execSoundingPass s).Lasts s := by
  simp [execSoundingPass, soundingPass]

end Sys2Proof.Machine
end

section
/-! PROOFS. What outlasts a step, under the sampled-value intake (Chapter 7). -/

namespace Sys2Proof.Machine

@[simp] theorem lasting_setStream {s : State} {e x} : (s.setStream e x).lasting = s.lasting := by simp [State.setStream]

@[simp] theorem lasting_setGridSlot {s : State} {k x} : (s.setGridSlot k x).lasting = s.lasting := by
  simp [State.setGridSlot]

@[simp] theorem lasting_streamState {s : State} {e st} : (s.streamState e st).lasting = s.lasting := by
  simp [State.streamState]

@[simp] theorem lasting_streamField {s : State} {e lo w v} : (s.streamField e lo w v).lasting = s.lasting := by
  simp [State.streamField]

@[simp] theorem lasting_streamCount {s : State} {e i k} : (s.streamCount e i k).lasting = s.lasting := by
  simp [State.streamCount]

@[simp] theorem lasting_intakeDiscard {s : State} {e cause} : (s.intakeDiscard e cause).lasting = s.lasting := by
  simp [State.intakeDiscard]

@[simp] theorem lasting_closeMissing {s : State} {e ranges} : (s.closeMissing e ranges).lasting = s.lasting := by
  unfold State.closeMissing
  split <;> simp

@[simp] theorem lasting_horizonClose {e s} : (horizonClose e s).lasting = s.lasting := by
  unfold horizonClose
  split <;> simp

@[simp] theorem lasting_placeSample {s : State} {e k a} : (s.placeSample e k a).lasting = s.lasting := by
  unfold State.placeSample
  split <;> simp

@[simp] theorem lasting_takeSample {s : State} {e v a} : (s.takeSample e v a).lasting = s.lasting := by
  unfold State.takeSample
  split <;> simp

@[simp] theorem execStreamSilent_lasts {e s} : (execStreamSilent e s).Lasts s := by
  unfold execStreamSilent streamSilent
  split <;> simp

@[simp] theorem lasting_setSources {s : State} {e on} : (s.setSources e on).lasting = s.lasting := by
  simp [State.setSources]

@[simp] theorem lasting_startGrid {s : State} {e v} : (s.startGrid e v).lasting = s.lasting := by simp [State.startGrid]

@[simp] theorem lasting_bindStream {s : State} {e} : (s.bindStream e).lasting = s.lasting := by simp [State.bindStream]

@[simp] theorem lasting_unbindStream {s : State} {e} : (s.unbindStream e).lasting = s.lasting := by
  simp [State.unbindStream]

@[simp] theorem lasting_applyIntakeEnable {s : State} {e value} : (s.applyIntakeEnable e value).lasting = s.lasting := by
  simp [State.applyIntakeEnable]

@[simp] theorem lasting_rebindStream {s : State} {t e} : (s.rebindStream t e).lasting = t.lasting := by
  unfold State.rebindStream
  dsimp only
  split
  · simp
  · split <;> simp

@[simp] theorem lasting_freezeStreams {s : State} {d} : (s.freezeStreams d).lasting = s.lasting := by
  unfold State.freezeStreams
  exact lasting_foldl fun _ _ => by (repeat' split) <;> simp

@[simp] theorem lasting_thawStreams {s : State} {d} : (s.thawStreams d).lasting = s.lasting := by
  unfold State.thawStreams
  exact lasting_foldl fun _ _ => by (repeat' split) <;> simp

@[simp] theorem lasting_applyKeySlots {s : State} {e value} : (s.applyKeySlots e value).lasting = s.lasting := by
  simp [State.applyKeySlots]

@[simp] theorem execIntakeKeySlots_lasts {who e value s} : (execIntakeKeySlots who e value s).Lasts s := by
  simp [execIntakeKeySlots, intakeKeySlots]

@[simp] theorem lasting_withdrawStream {s : State} {e b} : (s.withdrawStream e b).lasting = s.lasting := by
  simp [State.withdrawStream]

@[simp] theorem lasting_streamPut {s : State} {who e b} : (s.streamPut who e b).1.lasting = s.lasting := by
  fun_cases State.streamPut s who e b <;> simp

@[simp] theorem lasting_streamWrite {who e b s} : (streamWrite who e b s).lasting = s.lasting := by
  unfold streamWrite
  split <;> simp

end Sys2Proof.Machine
end

section
/-! PROOFS. What outlasts a step, under the Xosyn fabric (Chapter 6). -/

namespace Sys2Proof.Machine

@[simp] theorem execXosynHelloSend_lasts {n s} : (execXosynHelloSend n s).Lasts s := by
  simp [execXosynHelloSend, xosynHelloSend]

@[simp] theorem lasting_xosynHello {n serial fabric address seen s} :
    (xosynHello n serial fabric address seen s).lasting = s.lasting := by
  simp [xosynHello]

@[simp] theorem execXosynHello_lasts {n serial fabricId address seen s} :
    (execXosynHello n serial fabricId address seen s).Lasts s := by
  simp [execXosynHello]

@[simp] theorem execNeighbourTimeout_lasts {n s} : (execNeighbourTimeout n s).Lasts s := by
  simp [execNeighbourTimeout, neighbourTimeout]

@[simp] theorem execDelayReqSend_lasts {n s} : (execDelayReqSend n s).Lasts s := by
  simp [execDelayReqSend, delayReqSend]

@[simp] theorem lasting_delayReq {n seq s} : (delayReq n seq s).lasting = s.lasting := by simp [delayReq]

@[simp] theorem execDelayReq_lasts {n source seq s} : (execDelayReq n source seq s).Lasts s := by
  simp [execDelayReq]

@[simp] theorem lasting_publishDelay {s : State} {n} : (s.publishDelay n).lasting = s.lasting := by
  simp [State.publishDelay]

@[simp] theorem lasting_delayResp {n residence seq s} : (delayResp n residence seq s).lasting = s.lasting := by
  fun_cases delayResp n residence seq s <;> simp +zetaDelta

@[simp] theorem execDelayResp_lasts {n t2 residence seq s} : (execDelayResp n t2 residence seq s).Lasts s := by
  simp [execDelayResp]

@[simp] theorem lasting_originateLsa {s : State} : s.originateLsa.lasting = s.lasting := by
  simp [State.originateLsa]

@[simp] theorem lasting_dbChanged {s : State} : s.dbChanged.lasting = s.lasting := by simp [State.dbChanged]

@[simp] theorem execLsaOriginate_lasts {s} : (execLsaOriginate s).Lasts s := by
  simp [execLsaOriginate, lsaOriginate]

@[simp] theorem lasting_fabricDrop {s : State} {id} : (s.fabricDrop id).lasting = s.lasting := by
  simp [State.fabricDrop]

@[simp] theorem lasting_relay {s : State} {n kind h body prio} : (s.relay n kind h body prio).lasting = s.lasting := by
  simp [State.relay]

@[simp] theorem lasting_lsa {n head m s} : (lsa n head m s).lasting = s.lasting := by simp [lsa]

@[simp] theorem execLsa_lasts {n head msg s} : (execLsa n head msg s).Lasts s := by simp [execLsa]

@[simp] theorem execLsaAgeOut_lasts {serial s} : (execLsaAgeOut serial s).Lasts s := by
  unfold execLsaAgeOut lsaAgeOut
  split <;> simp

@[simp] theorem lasting_updateRoot {s : State} : s.updateRoot.lasting = s.lasting := by simp [State.updateRoot]

@[simp] theorem lasting_setPath {s : State} {f pathB p} : (s.setPath f pathB p).lasting = s.lasting := by
  simp [State.setPath]

@[simp] theorem lasting_sendSetup {s : State} {f pathB op port hops} :
    (s.sendSetup f pathB op port hops).lasting = s.lasting := by
  simp [State.sendSetup]

@[simp] theorem lasting_releasePath {s : State} {f pathB} : (s.releasePath f pathB).lasting = s.lasting := by
  simp [State.releasePath]

@[simp] theorem lasting_releaseFlows {s : State} : s.releaseFlows.lasting = s.lasting := by
  simp [State.releaseFlows]

@[simp] theorem lasting_addressAssign {serial address cause s} :
    (addressAssign serial address cause s).lasting = s.lasting := by
  fun_cases addressAssign serial address cause s <;> simp +zetaDelta

@[simp] theorem execAddressAssign_lasts {serial address cause s} :
    (execAddressAssign serial address cause s).Lasts s := by
  simp [execAddressAssign]

@[simp] theorem lasting_announceAddress {s : State} {x} : (s.announceAddress x).lasting = s.lasting := by
  simp [State.announceAddress]

@[simp] theorem execAddressDecide_lasts {s} : (execAddressDecide s).Lasts s := by
  simp [execAddressDecide, addressDecide]

@[simp] theorem lasting_flowSync {s : State} {f} : (s.flowSync f).lasting = s.lasting := by simp [State.flowSync]

@[simp] theorem lasting_startPath {s : State} {f pathB p tries avoid} :
    (s.startPath f pathB p tries avoid).lasting = s.lasting := by
  unfold State.startPath
  split <;> simp

@[simp] theorem lasting_setupFlow {s : State} {f} : (s.setupFlow f).lasting = s.lasting := by
  unfold State.setupFlow
  dsimp only
  (repeat' split) <;> simp

@[simp] theorem lasting_replacePath {s : State} {f pathB tries avoid} :
    (s.replacePath f pathB tries avoid).lasting = s.lasting := by
  fun_cases State.replacePath s f pathB tries avoid <;> simp

@[simp] theorem lasting_repairFlow {s : State} {f} : (s.repairFlow f).lasting = s.lasting := by simp [State.repairFlow]

@[simp] theorem execRouteCompute_lasts {s} : (execRouteCompute s).Lasts s := by
  simp [execRouteCompute, routeCompute]

@[simp] theorem lasting_applyFlow {s : State} {f b} : (s.applyFlow f b).lasting = s.lasting := by simp [State.applyFlow]

@[simp] theorem flowWrite_lasts {who f b s} : (flowWrite who f b s).Lasts s := by simp [flowWrite]

@[simp] theorem execFlowEnable_lasts {who f value s} : (execFlowEnable who f value s).Lasts s := by
  simp [execFlowEnable]

@[simp] theorem execFlowDisable_lasts {who f value s} : (execFlowDisable who f value s).Lasts s := by
  simp [execFlowDisable]

@[simp] theorem lasting_answerSetup {s : State} {h m i op cause} : (s.answerSetup h m i op cause).lasting = s.lasting := by
  fun_cases State.answerSetup s h m i op cause <;> simp

@[simp] theorem lasting_passFlow {s : State} {h m op next} : (s.passFlow h m op next).lasting = s.lasting := by
  fun_cases State.passFlow s h m op next <;> simp

@[simp] theorem lasting_flowSetup {n head m s} : (flowSetup n head m s).lasting = s.lasting := by
  fun_cases flowSetup n head m s <;> simp +zetaDelta

@[simp] theorem execFlowSetup_lasts {n head msg s} : (execFlowSetup n head msg s).Lasts s := by
  simp [execFlowSetup]

@[simp] theorem lasting_passBack {s : State} {h m op} : (s.passBack h m op).lasting = s.lasting := by
  unfold State.passBack
  split <;> simp

@[simp] theorem lasting_flowAck {n head m s} : (flowAck n head m s).lasting = s.lasting := by simp [flowAck]

@[simp] theorem execFlowAck_lasts {n head msg s} : (execFlowAck n head msg s).Lasts s := by simp [execFlowAck]

@[simp] theorem lasting_refusePath {s : State} {f pathB cause at_} :
    (s.refusePath f pathB cause at_).lasting = s.lasting := by
  simp [State.refusePath]

@[simp] theorem lasting_flowRefuse {n head m s} : (flowRefuse n head m s).lasting = s.lasting := by
  simp [flowRefuse]

@[simp] theorem execFlowRefuse_lasts {n head msg s} : (execFlowRefuse n head msg s).Lasts s := by
  simp [execFlowRefuse]

@[simp] theorem lasting_flowRelease {n head m s} : (flowRelease n head m s).lasting = s.lasting := by
  unfold flowRelease
  split <;> simp

@[simp] theorem execFlowRelease_lasts {n head msg s} : (execFlowRelease n head msg s).Lasts s := by
  simp [execFlowRelease]

@[simp] theorem execFlowSetupTimeout_lasts {f pathB s} : (execFlowSetupTimeout f pathB s).Lasts s := by
  simp [execFlowSetupTimeout, flowSetupTimeout]

@[simp] theorem lasting_forwardXosyn {s : State} {n kind h body} : (s.forwardXosyn n kind h body).1.lasting = s.lasting := by
  fun_cases State.forwardXosyn s n kind h body <;> simp

@[simp] theorem lasting_setSink {s : State} {k x} : (s.setSink k x).lasting = s.lasting := by simp [State.setSink]

@[simp] theorem lasting_takeSink {s : State} {k h} : (s.takeSink k h).1.lasting = s.lasting := by
  fun_cases State.takeSink s k h <;> simp +zetaDelta

@[simp] theorem lasting_le_presentFrame {s : State} {n o} {a} (h : a ≤ s.lasting) :
    a ≤ (s.presentFrame n o).lasting := by
  unfold State.presentFrame
  split <;> simp [h]

@[simp] theorem lasting_le_flowData {n head carried s} {a} (h : a ≤ s.lasting) :
    a ≤ (flowData n head carried s).lasting := by
  unfold flowData
  dsimp only
  (repeat' split) <;> simp [h]

@[simp] theorem execFlowData_lasts {n head carried s} : (execFlowData n head carried s).Lasts s := by
  simp [execFlowData]

@[simp] theorem lasting_applySink {s : State} {k b} : (s.applySink k b).lasting = s.lasting := by simp [State.applySink]

@[simp] theorem execSinkEntryWrite_lasts {who k value s} : (execSinkEntryWrite who k value s).Lasts s := by
  simp [execSinkEntryWrite, sinkWrite]

@[simp] theorem execSinkPathSilent_lasts {k pathB s} : (execSinkPathSilent k pathB s).Lasts s := by
  simp [execSinkPathSilent, sinkPathSilent]

@[simp] theorem lasting_le_datagram {n head payload s} {a} (h : a ≤ s.lasting) :
    a ≤ (datagram n head payload s).lasting := by
  simp [h, datagram]

@[simp] theorem execDatagram_lasts {n head payload s} : (execDatagram n head payload s).Lasts s := by
  simp [execDatagram]

@[simp] theorem execTimeSend_lasts {d s} : (execTimeSend d s).Lasts s := by simp [execTimeSend, timeSend]

@[simp] theorem lasting_timeMessage {source d m pathDelay valid s} :
    (timeMessage source d m pathDelay valid s).lasting = s.lasting := by
  simp [timeMessage]

@[simp] theorem execTime_lasts {source d offer pathDelay valid s} :
    (execTime source d offer pathDelay valid s).Lasts s := by
  simp [execTime]

@[simp] theorem execFabricSourceLost_lasts {d address s} : (execFabricSourceLost d address s).Lasts s := by
  unfold execFabricSourceLost fabricSourceLost
  split <;> simp

@[simp] theorem lasting_pondReport {source m s} : (pondReport source m s).lasting = s.lasting := by
  fun_cases pondReport source m s <;> simp +zetaDelta

@[simp] theorem execPondReport_lasts {source msg s} : (execPondReport source msg s).Lasts s := by
  simp [execPondReport]

@[simp] theorem execMemberStale_lasts {address s} : (execMemberStale address s).Lasts s := by
  unfold execMemberStale memberStale
  split <;> simp

@[simp] theorem lasting_applyFabricEnable {s : State} {value} : (s.applyFabricEnable value).lasting = s.lasting := by
  simp [State.applyFabricEnable]

end Sys2Proof.Machine
end

section
/-! PROOFS. What outlasts a step, under the filter and decimation chain (Chapter 8). -/

namespace Sys2Proof.Machine

@[simp] theorem lasting_setFilter {s : State} {c x} : (s.setFilter c x).lasting = s.lasting := by simp [State.setFilter]

@[simp] theorem lasting_setTracker {s : State} {t x} : (s.setTracker t x).lasting = s.lasting := by
  simp [State.setTracker]

@[simp] theorem lasting_setPhasor {s : State} {p x} : (s.setPhasor p x).lasting = s.lasting := by simp [State.setPhasor]

@[simp] theorem lasting_chainRun {s : State} {c k} : (s.chainRun c k).lasting = s.lasting := by
  fun_induction State.chainRun s c k
  case case6 ih => simp +zetaDelta [ih]
  all_goals simp +zetaDelta

@[simp] theorem lasting_filterEvent {s : State} {c old} : (s.filterEvent c old).lasting = s.lasting := by
  simp [State.filterEvent]

@[simp] theorem lasting_startFilter {s : State} {c} : (s.startFilter c).lasting = s.lasting := by
  simp [State.startFilter]

@[simp] theorem lasting_idleFilter {s : State} {c} : (s.idleFilter c).lasting = s.lasting := by
  unfold State.idleFilter
  split <;> simp

@[simp] theorem lasting_reconcileFilters {s : State} : s.reconcileFilters.lasting = s.lasting := by
  unfold State.reconcileFilters
  exact lasting_foldl fun _ _ => by (repeat' split) <;> simp

@[simp] theorem lasting_restartSettling {s : State} {d v w} : (s.restartSettling d v w).lasting = s.lasting := by
  unfold State.restartSettling
  exact lasting_foldl fun _ _ => by (repeat' split) <;> simp

@[simp] theorem lasting_regridFilters {s : State} {d} : (s.regridFilters d).lasting = s.lasting := by
  unfold State.regridFilters
  exact lasting_foldl fun _ _ => by (repeat' split) <;> simp

@[simp] theorem lasting_applyFilterEnable {s : State} {c value} : (s.applyFilterEnable c value).lasting = s.lasting := by
  simp [State.applyFilterEnable]

@[simp] theorem lasting_applyFilterInput {s : State} {c value} : (s.applyFilterInput c value).lasting = s.lasting := by
  unfold State.applyFilterInput
  split <;> simp

@[simp] theorem lasting_applyFilterScale {s : State} {c b} : (s.applyFilterScale c b).lasting = s.lasting := by
  unfold State.applyFilterScale
  split <;> simp

@[simp] theorem execFilterScale_lasts {who c value s} : (execFilterScale who c value s).Lasts s := by
  simp [execFilterScale, filterScale]

@[simp] theorem lasting_applyFir {s : State} {k b} : (s.applyFir k b).lasting = s.lasting := by simp [State.applyFir]

@[simp] theorem execFirSetWrite_lasts {who k value s} : (execFirSetWrite who k value s).Lasts s := by
  simp [execFirSetWrite, firSetWrite]

@[simp] theorem lasting_applyDetector {s : State} {c b} : (s.applyDetector c b).lasting = s.lasting := by
  unfold State.applyDetector
  split <;> simp

@[simp] theorem lasting_applyFilterConfig {s : State} {c b} : (s.applyFilterConfig c b).lasting = s.lasting := by
  simp [State.applyFilterConfig]

@[simp] theorem lasting_trackerFlags {s : State} {t old new} : (s.trackerFlags t old new).lasting = s.lasting := by
  simp [State.trackerFlags]

@[simp] theorem lasting_trackerRecord {s : State} {t n} : (s.trackerRecord t n).lasting = s.lasting := by
  unfold State.trackerRecord
  split <;> simp

@[simp] theorem lasting_phasorOutput {p s} : (phasorOutput p s).lasting = s.lasting := by
  fun_cases phasorOutput p s <;> simp +zetaDelta

@[simp] theorem lasting_applyPhasorEnable {s : State} {p value} : (s.applyPhasorEnable p value).lasting = s.lasting := by
  simp [State.applyPhasorEnable]

@[simp] theorem lasting_applyTrackerEnable {s : State} {t value} : (s.applyTrackerEnable t value).lasting = s.lasting := by
  simp [State.applyTrackerEnable]

@[simp] theorem execChainScrubPass_lasts {micros s} : (execChainScrubPass micros s).Lasts s := by
  simp [execChainScrubPass, chainScrubPass]

end Sys2Proof.Machine
end

section
/-! PROOFS. What outlasts a step, under trigger units, records and ripple lines (Chapter 9). -/

namespace Sys2Proof.Machine

@[simp] theorem lasting_setUnit {s : State} {u x} : (s.setUnit u x).lasting = s.lasting := by simp [State.setUnit]

@[simp] theorem lasting_enterUnit {s : State} {u st} : (s.enterUnit u st).lasting = s.lasting := by
  simp [State.enterUnit]

@[simp] theorem lasting_fillSlot {s : State} {u k} : (s.fillSlot u k).lasting = s.lasting := by
  unfold State.fillSlot
  split <;> simp

@[simp] theorem lasting_resumeUnit {s : State} {u from_} : (s.resumeUnit u from_).lasting = s.lasting := by
  fun_cases State.resumeUnit s u from_ <;> simp

@[simp] theorem lasting_arm {s : State} {u} : (s.arm u).lasting = s.lasting := by
  simp [State.arm]
  split <;> simp

@[simp] theorem lasting_le_writeRing {s : State} {c r data quality} {a} (h : a ≤ s.lasting) :
    a ≤ (s.writeRing c r data quality).lasting := 
  lasting_le_foldl h fun _ _ => by simp

@[simp] theorem lasting_le_writeRecord {s : State} {u x r postShort} {a} (h : a ≤ s.lasting) :
    a ≤ (s.writeRecord u x r postShort).lasting :=
  lasting_le_hbmWrite (lasting_le_hbmWrite (lasting_le_foldl h fun _ _ => by simp))

@[simp] theorem lasting_settleUnit {s : State} {u} : (s.settleUnit u).lasting = s.lasting := by
  unfold State.settleUnit
  split <;> simp

@[simp] theorem lasting_releasePages {s : State} {u} : (s.releasePages u).lasting = s.lasting := by
  unfold State.releasePages
  split <;> simp

@[simp] theorem lasting_le_freezeRecord {s : State} {u postShort} {a} (h : a ≤ s.lasting) :
    a ≤ (s.freezeRecord u postShort).lasting := by
  fun_cases State.freezeRecord s u postShort <;> simp +zetaDelta [h]

@[simp] theorem lasting_le_disarm {s : State} {u} {a} (h : a ≤ s.lasting) :
    a ≤ (s.disarm u).lasting := by
  fun_cases State.disarm s u <;> simp +zetaDelta [h]

@[simp] theorem lasting_le_afterFreeze {s : State} {u} {a} (h : a ≤ s.lasting) :
    a ≤ (s.afterFreeze u).lasting := by
  fun_cases State.afterFreeze s u <;> simp [h]

@[simp] theorem execRecordFreeze_lasts {u s} : (execRecordFreeze u s).Lasts s := by
  unfold execRecordFreeze recordFreeze
  (repeat' split) <;> simp

@[simp] theorem lasting_captureUnit {s : State} {u} : (s.captureUnit u).lasting = s.lasting := by
  unfold State.captureUnit
  split <;> simp

@[simp] theorem lasting_captureAll {s : State} : s.captureAll.lasting = s.lasting := by simp [State.captureAll]

@[simp] theorem lasting_missTrigger {s : State} {u} : (s.missTrigger u).lasting = s.lasting := by
  fun_cases State.missTrigger s u <;> simp +zetaDelta

@[simp] theorem lasting_openRecord {s : State} {u x e filling} : (s.openRecord u x e filling).lasting = s.lasting := by
  simp [State.openRecord]

@[simp] theorem lasting_retrigger {s : State} {u x r e} : (s.retrigger u x r e).lasting = s.lasting := by
  simp [State.retrigger]

@[simp] theorem lasting_captureTrigger {s : State} {u e} : (s.captureTrigger u e).lasting = s.lasting := by
  fun_cases State.captureTrigger s u e <;> simp

@[simp] theorem lasting_setRipple {s : State} {k x} : (s.setRipple k x).lasting = s.lasting := by simp [State.setRipple]

@[simp] theorem lasting_driveRipple {s : State} {k} : (s.driveRipple k).lasting = s.lasting := by
  simp [State.driveRipple]

@[simp] theorem lasting_sendTrigger {s : State} {u e} : (s.sendTrigger u e).lasting = s.lasting := by
  simp [State.sendTrigger]

@[simp] theorem lasting_decideOn {s : State} {u e} : (s.decideOn u e).lasting = s.lasting := by
  unfold State.decideOn
  dsimp only
  (repeat' split) <;> simp

@[simp] theorem lasting_decideTrigger {s : State} {u e} : (s.decideTrigger u e).lasting = s.lasting := by
  simp [State.decideTrigger]

@[simp] theorem lasting_evaluateAll {s : State} {u rate l} : (s.evaluateAll u rate l).lasting = s.lasting := by
  induction l generalizing s with
  | nil => rfl
  | cons e r ih =>
    unfold State.evaluateAll
    (repeat' split) <;> simp [ih]

@[simp] theorem execTriggerDecide_lasts {u s} : (execTriggerDecide u s).Lasts s := by
  unfold execTriggerDecide triggerDecide
  dsimp only
  (repeat' split) <;> simp

@[simp] theorem unitArm_lasts {who u value s} : (unitArm who u value s).Lasts s := by
  unfold unitArm
  (repeat' split) <;> simp

@[simp] theorem execUnitArm_lasts {who u s} : (execUnitArm who u s).Lasts s := by simp [execUnitArm]

@[simp] theorem execUnitDisarm_lasts {who u s} : (execUnitDisarm who u s).Lasts s := by simp [execUnitDisarm]

@[simp] theorem execUnitDisarmAfterFreeze_lasts {who u s} : (execUnitDisarmAfterFreeze who u s).Lasts s := by
  simp [execUnitDisarmAfterFreeze]

@[simp] theorem unitSoftTrigger_lasts {who u value s} : (unitSoftTrigger who u value s).Lasts s := by
  simp [unitSoftTrigger]

@[simp] theorem execUnitSoftTrigger_lasts {who u value s} : (execUnitSoftTrigger who u value s).Lasts s := by
  simp [execUnitSoftTrigger]

@[simp] theorem lasting_le_applyUnitWrite {s : State} {u id b} {a} (h : a ≤ s.lasting) :
    a ≤ (s.applyUnitWrite u id b).lasting := by
  fun_cases State.applyUnitWrite s u id b <;> simp +zetaDelta [h]

@[simp] theorem recordControl_lasts {who u k value s} : (recordControl who u k value s).Lasts s := by
  unfold recordControl
  split
  all_goals
    simp only [lasts_bind, lasts_ok, lasting_ite, lasting_le_ite]
    intros
    (repeat' split) <;> simp

@[simp] theorem execRecordLock_lasts {who u slot s} : (execRecordLock who u slot s).Lasts s := by
  simp [execRecordLock]

@[simp] theorem execRecordUnlock_lasts {who u slot s} : (execRecordUnlock who u slot s).Lasts s := by
  simp [execRecordUnlock]

@[simp] theorem execRecordRelease_lasts {who u slot s} : (execRecordRelease who u slot s).Lasts s := by
  simp [execRecordRelease]

@[simp] theorem execRippleEdge_lasts {line asserted s} : (execRippleEdge line asserted s).Lasts s := by
  simp [execRippleEdge, rippleEdge]

@[simp] theorem execRippleRelease_lasts {line s} : (execRippleRelease line s).Lasts s := by
  unfold execRippleRelease rippleRelease
  dsimp only
  (repeat' split) <;> simp

@[simp] theorem execRippleStuck_lasts {line s} : (execRippleStuck line s).Lasts s := by
  simp [execRippleStuck, rippleStuck]

@[simp] theorem execRippleStuckClear_lasts {line s} : (execRippleStuckClear line s).Lasts s := by
  simp [execRippleStuckClear, rippleStuckClear]

@[simp] theorem lasting_raiseDrops {s : State} {src code kind num} :
    (s.raiseDrops src code kind num).lasting = s.lasting := by
  simp [State.raiseDrops]

@[simp] theorem lasting_discardTrigger {s : State} : s.discardTrigger.lasting = s.lasting := by
  simp [State.discardTrigger]

@[simp] theorem lasting_offerTrigger {s : State} {u source valid pathDelay m} :
    (s.offerTrigger u source valid pathDelay m).lasting = s.lasting := by
  simp [State.offerTrigger]

@[simp] theorem lasting_takeTrigger {s : State} {sink source valid pathDelay m} :
    (s.takeTrigger sink source valid pathDelay m).lasting = s.lasting := by
  simp [State.takeTrigger]

@[simp] theorem lasting_trigger {n head m s} : (trigger n head m s).lasting = s.lasting := by
  unfold trigger
  dsimp only
  (repeat' split) <;> simp

@[simp] theorem execTrigger_lasts {n head msg s} : (execTrigger n head msg s).Lasts s := by simp [execTrigger]

@[simp] theorem execAcqEccError_lasts {corrected u slot s} : (execAcqEccError corrected u slot s).Lasts s := by
  unfold execAcqEccError acqEccError
  dsimp only
  (repeat' split) <;> simp

@[simp] theorem lasting_le_stopLostUnits {s : State} {a} (h : a ≤ s.lasting) :
    a ≤ s.stopLostUnits.lasting := by
  simp [h, State.stopLostUnits]

@[simp] theorem lasting_le_stopUnits {s : State} {a} (h : a ≤ s.lasting) :
    a ≤ s.stopUnits.lasting := by
  refine lasting_le_foldl h fun t u => ?_
  dsimp only
  (repeat' split) <;> simp

@[simp] theorem lasting_resumeUnits {s : State} : s.resumeUnits.lasting = s.lasting := by
  unfold State.resumeUnits
  exact lasting_foldl fun _ _ => by (repeat' split) <;> simp

@[simp] theorem lasting_le_disarmInstance {s : State} {i} {a} (h : a ≤ s.lasting) :
    a ≤ (s.disarmInstance i).lasting := by
  simp [h, State.disarmInstance]

end Sys2Proof.Machine
end

section
/-! PROOFS. What outlasts a step, under what an exported record leaves (R365 to R367). -/

namespace Sys2Proof.Machine

@[simp] theorem exportRequest_lasts {who value s} : (exportRequest who value s).Lasts s := by
  simp [exportRequest]

@[simp] theorem execExportRequest_lasts {who value s} : (execExportRequest who value s).Lasts s := by
  simp [execExportRequest]

@[simp] theorem lasting_le_exportDone {failed s} {a} (h : a ≤ s.lasting) :
    a ≤ (exportDone failed s).lasting := by
  fun_cases exportDone failed s
  · exact h
  · simp +zetaDelta only [lasting_raiseState]
    (repeat' split) <;> simp [h]

@[simp] theorem execExportDone_lasts {failed s} : (execExportDone failed s).Lasts s := by
  simp [execExportDone]

end Sys2Proof.Machine
end

section
/-! PROOFS. What outlasts a step, under scan processors, programs and admission (Chapter 10). -/

namespace Sys2Proof.Machine

@[simp] theorem lasting_setScan {s : State} {i x} : (s.setScan i x).lasting = s.lasting := by simp [State.setScan]

@[simp] theorem lasting_instRaise {s : State} {i code detail} : (s.instRaise i code detail).lasting = s.lasting := by
  simp [State.instRaise]

@[simp] theorem lasting_enterInst {s : State} {i st cause} : (s.enterInst i st cause).lasting = s.lasting := by
  simp [State.enterInst]

@[simp] theorem lasting_instOcc {s : State} {i pos value} : (s.instOcc i pos value).lasting = s.lasting := by
  simp [State.instOcc]

@[simp] theorem lasting_instLimited {s : State} {i code k} : (s.instLimited i code k).lasting = s.lasting := by
  simp [State.instLimited]

@[simp] theorem lasting_instDone {s : State} {i id code} : (s.instDone i id code).lasting = s.lasting := by
  simp [State.instDone]

@[simp] theorem lasting_spRaise {s : State} {p code detail} : (s.spRaise p code detail).lasting = s.lasting := by
  simp [State.spRaise]

@[simp] theorem lasting_enterSp {s : State} {p st} : (s.enterSp p st).lasting = s.lasting := by simp [State.enterSp]

@[simp] theorem lasting_releaseInst {s : State} {i} : (s.releaseInst i).lasting = s.lasting := by
  simp [State.releaseInst]

@[simp] theorem lasting_setInstPair {s : State} {i st} : (s.setInstPair i st).lasting = s.lasting := by
  simp [State.setInstPair]

@[simp] theorem lasting_faultInstance {s : State} {i cause} : (s.faultInstance i cause).lasting = s.lasting := by
  simp [State.faultInstance]

@[simp] theorem lasting_overrunInst {s : State} {i cause} : (s.overrunInst i cause).lasting = s.lasting := by
  simp [State.overrunInst]

@[simp] theorem execLockstepMismatch_lasts {p s} : (execLockstepMismatch p s).Lasts s := by
  simp [execLockstepMismatch, lockstepMismatch]

@[simp] theorem spRecover_lasts {who p value s} : (spRecover who p value s).Lasts s := by simp [spRecover]

@[simp] theorem execSpRecover_lasts {who p value s} : (execSpRecover who p value s).Lasts s := by
  simp [execSpRecover]

@[simp] theorem execSpSelfTestDone_lasts {p pass s} : (execSpSelfTestDone p pass s).Lasts s := by
  simp [execSpSelfTestDone, spSelfTestDone]

@[simp] theorem execSpEccError_lasts {p corrected code inst s} : (execSpEccError p corrected code inst s).Lasts s := by
  simp [execSpEccError, spEccError]

@[simp] theorem execSpScrubPass_lasts {p micros s} : (execSpScrubPass p micros s).Lasts s := by
  simp [execSpScrubPass, spScrubPass]

end Sys2Proof.Machine
end

section
/-! PROOFS. What outlasts a step, under fast I/O, pulse generators and local sense (Chapters 3 and 13). -/

namespace Sys2Proof.Machine

@[simp] theorem lasting_setPin {s : State} {n x} : (s.setPin n x).lasting = s.lasting := by simp [State.setPin]

@[simp] theorem lasting_setQueue {s : State} {q} : (s.setQueue q).lasting = s.lasting := by simp [State.setQueue]

@[simp] theorem lasting_notePins {s : State} : s.notePins.lasting = s.lasting := by simp [State.notePins]

@[simp] theorem lasting_setLevel {s : State} {n half l} : (s.setLevel n half l).lasting = s.lasting := by
  simp [State.setLevel]

@[simp] theorem lasting_pinSafe {s : State} {n} : (s.pinSafe n).lasting = s.lasting := by
  unfold State.pinSafe
  split <;> simp

@[simp] theorem lasting_safeOutputs {s : State} {i} : (s.safeOutputs i).lasting = s.lasting := by
  simp [State.safeOutputs]

@[simp] theorem lasting_dropCommit {s : State} {i} : (s.dropCommit i).lasting = s.lasting := by simp [State.dropCommit]

@[simp] theorem lasting_enqueueFio {s : State} {e} : (s.enqueueFio e).lasting = s.lasting := by simp [State.enqueueFio]

@[simp] theorem lasting_withdraw {s : State} {f} : (s.withdraw f).lasting = s.lasting := by simp [State.withdraw]

@[simp] theorem lasting_withdrawAfter {s : State} {i limit} : (s.withdrawAfter i limit).lasting = s.lasting := by
  simp [State.withdrawAfter]

@[simp] theorem lasting_takeRecord {s : State} {i n g v used l} : (s.takeRecord i n g v used l).lasting = s.lasting := by
  simp [State.takeRecord]

@[simp] theorem lasting_actEntry {s : State} {e half} : (s.actEntry e half).lasting = s.lasting := by
  simp [State.actEntry]

@[simp] theorem execFioEntryExecute_lasts {pin s} : (execFioEntryExecute pin s).Lasts s := by
  unfold execFioEntryExecute fioEntryExecute
  split <;> simp

@[simp] theorem execHeldEntryDiscard_lasts {pin s} : (execHeldEntryDiscard pin s).Lasts s := by
  simp [execHeldEntryDiscard, heldEntryDiscard]

@[simp] theorem lasting_gainPins {s : State} {sel} : (s.gainPins sel).lasting = s.lasting := by simp [State.gainPins]

@[simp] theorem lasting_setFqPage {s : State} {i x} : (s.setFqPage i x).lasting = s.lasting := by simp [State.setFqPage]

@[simp] theorem submitFio_lasts {s : State} {i x} : (s.submitFio i x).Lasts s := by simp [State.submitFio]

@[simp] theorem lasting_le_fqSubmit {i s} {a} (h : a ≤ s.lasting) :
    a ≤ (fqSubmit i s).lasting := by
  unfold fqSubmit
  dsimp only
  split
  · exact h
  · split
    · simp [h]
    · have hsubmit : Act.Lasts s (if s.inReset i then .error .busy else s.submitFio i (s.fqPage i)) := by simp
      generalize (if s.inReset i then Except.error Code.busy else s.submitFio i (s.fqPage i) : Act) = b at hsubmit ⊢
      cases b with
      | error c => simp [h]
      | ok t => simp [h.trans (lasts_ok.mp hsubmit)]

@[simp] theorem execFqSubmit_lasts {inst s} : (execFqSubmit inst s).Lasts s := by simp [execFqSubmit]

@[simp] theorem execFqSubmitCollision_lasts {inst s} : (execFqSubmitCollision inst s).Lasts s := by
  simp [execFqSubmitCollision, fqSubmitCollision]

@[simp] theorem lasting_pinFlagEvent {s : State} {n set bit word} : (s.pinFlagEvent n set bit word).lasting = s.lasting := by
  simp [State.pinFlagEvent]

@[simp] theorem execFioInputEdge_lasts {pin high sample s} : (execFioInputEdge pin high sample s).Lasts s := by
  simp [execFioInputEdge, fioInputEdge]

@[simp] theorem execChatterClear_lasts {pin s} : (execChatterClear pin s).Lasts s := by
  simp [execChatterClear, chatterClear]

@[simp] theorem execReadbackFault_lasts {pin differs s} : (execReadbackFault pin differs s).Lasts s := by
  simp [execReadbackFault, readbackFault]

@[simp] theorem lasting_applyPinClass {s : State} {n polarity value} :
    (s.applyPinClass n polarity value).lasting = s.lasting := by
  simp [State.applyPinClass]

@[simp] theorem execFioClassWrite_lasts {who pin polarity value s} :
    (execFioClassWrite who pin polarity value s).Lasts s := by
  simp [execFioClassWrite, fioClassWrite]

@[simp] theorem lasting_pgLevel {s : State} {n active} : (s.pgLevel n active).lasting = s.lasting := by
  unfold State.pgLevel
  split <;> simp

@[simp] theorem pgArm_lasts {who n s} : (pgArm who n s).Lasts s := by
  unfold pgArm
  split <;> simp

@[simp] theorem execPgArm_lasts {who n s} : (execPgArm who n s).Lasts s := by simp [execPgArm]

@[simp] theorem pgDisarm_lasts {who n s} : (pgDisarm who n s).Lasts s := by simp [pgDisarm]

@[simp] theorem execPgDisarm_lasts {who n s} : (execPgDisarm who n s).Lasts s := by simp [execPgDisarm]

@[simp] theorem execPgEdge_lasts {n s} : (execPgEdge n s).Lasts s := by
  unfold execPgEdge pgEdge
  dsimp only
  (repeat' split) <;> simp

@[simp] theorem execPgPulseEnd_lasts {n s} : (execPgPulseEnd n s).Lasts s := by
  unfold execPgPulseEnd pgPulseEnd
  dsimp only
  (repeat' split) <;> simp

@[simp] theorem lasting_holdGens {s : State} {d} : (s.holdGens d).lasting = s.lasting := by simp [State.holdGens]

@[simp] theorem lasting_disarmGens {s : State} {f} : (s.disarmGens f).lasting = s.lasting := by simp [State.disarmGens]

@[simp] theorem lasting_resetPins {s : State} {i} : (s.resetPins i).lasting = s.lasting := by simp [State.resetPins]

@[simp] theorem lasting_setLs {s : State} {m x} : (s.setLs m x).lasting = s.lasting := by simp [State.setLs]

@[simp] theorem lasting_setTcs {s : State} {m x} : (s.setTcs m x).lasting = s.lasting := by simp [State.setTcs]

@[simp] theorem lasting_setAlarm {s : State} {m a} : (s.setAlarm m a).lasting = s.lasting := by simp [State.setAlarm]

@[simp] theorem lasting_tcsEval {s : State} {m} : (s.tcsEval m).lasting = s.lasting := by simp [State.tcsEval]

@[simp] theorem execTcsDelayExpiry_lasts {m s} : (execTcsDelayExpiry m s).Lasts s := by
  simp [execTcsDelayExpiry, tcsDelayExpiry]

@[simp] theorem lasting_restartTcs {s : State} {m} : (s.restartTcs m).lasting = s.lasting := by simp [State.restartTcs]

@[simp] theorem lasting_applyLsEnable {s : State} {m value} : (s.applyLsEnable m value).lasting = s.lasting := by
  simp [State.applyLsEnable]

@[simp] theorem lasting_lsConvert {s : State} {m a b} : (s.lsConvert m a b).lasting = s.lasting := by
  simp [State.lsConvert]

@[simp] theorem lasting_lsConversion {samples s} : (lsConversion samples s).lasting = s.lasting := by
  unfold lsConversion
  dsimp only
  split
  · rfl
  · rw [lasting_foldl]
    · simp
    · intros
      split <;> simp

@[simp] theorem execLsConversion_lasts {samples s} : (execLsConversion samples s).Lasts s := by
  simp [execLsConversion]

@[simp] theorem lsCalibrate_lasts {who m kind s} : (lsCalibrate who m kind s).Lasts s := by simp [lsCalibrate]

@[simp] theorem execLsCalibrateZero_lasts {who m s} : (execLsCalibrateZero who m s).Lasts s := by
  simp [execLsCalibrateZero]

@[simp] theorem execLsCalibrateSpan_lasts {who m s} : (execLsCalibrateSpan who m s).Lasts s := by
  simp [execLsCalibrateSpan]

@[simp] theorem execLsCalibrationDone_lasts {m s} : (execLsCalibrationDone m s).Lasts s := by
  unfold execLsCalibrationDone lsCalibrationDone
  dsimp only
  (repeat' split) <;> simp

end Sys2Proof.Machine
end

section
/-! PROOFS. What outlasts a step, under items and the health words of ponds (R45 to R53). -/

namespace Sys2Proof.Machine

@[simp] theorem lasting_watchHealth {s : State} : s.watchHealth.lasting = s.lasting := by simp [State.watchHealth]

end Sys2Proof.Machine
end

section
/-! PROOFS. What outlasts a step, under the redundant pair (Chapter 12). -/

namespace Sys2Proof.Machine

@[simp] theorem lasting_setPair {s : State} {x} : (s.setPair x).lasting = s.lasting := by simp [State.setPair]

@[simp] theorem lasting_sendPair {s : State} {op count body} : (s.sendPair op count body).lasting = s.lasting := by
  simp [State.sendPair]

/-- Taking a pair message only notes its Sequence. -/
theorem lasting_of_takePair {s t : State} {port seq : Nat} (h : s.takePair port seq = some t) : t.lasting = s.lasting := by
  unfold State.takePair at h
  split at h
  · cases h
    simp
  · cases h

@[simp] theorem lasting_setPairState {s : State} {st cause} : (s.setPairState st cause).lasting = s.lasting := by
  simp [State.setPairState]

@[simp] theorem lasting_setPaddle {s : State} {st} : (s.setPaddle st).lasting = s.lasting := by simp [State.setPaddle]

@[simp] theorem lasting_setPairInst {s : State} {i x} : (s.setPairInst i x).lasting = s.lasting := by
  simp [State.setPairInst]

@[simp] theorem lasting_setSuspect {s : State} {v} : (s.setSuspect v).lasting = s.lasting := by simp [State.setSuspect]

@[simp] theorem lasting_setRevert {s : State} {v} : (s.setRevert v).lasting = s.lasting := by simp [State.setRevert]

@[simp] theorem lasting_setLineFault {s : State} {v} : (s.setLineFault v).lasting = s.lasting := by
  simp [State.setLineFault]

@[simp] theorem lasting_applyPairEnable {s : State} {value} : (s.applyPairEnable value).lasting = s.lasting := by
  simp [State.applyPairEnable]

@[simp] theorem execPairEnable_lasts {who value s} : (execPairEnable who value s).Lasts s := by
  simp [execPairEnable, pairEnable]

@[simp] theorem execPairHelloSend_lasts {s} : (execPairHelloSend s).Lasts s := by
  simp [execPairHelloSend, pairHelloSend]

@[simp] theorem lasting_pairHello {port seq serial pairId role beat dom s} :
    (pairHello port seq serial pairId role beat dom s).lasting = s.lasting := by
  unfold pairHello
  split
  · rfl
  · next h => simp [lasting_of_takePair h]

@[simp] theorem execPairHello_lasts {port seq serial pairId role beat dom s} :
    (execPairHello port seq serial pairId role beat dom s).Lasts s := by
  simp [execPairHello]

@[simp] theorem execPairIsolated_lasts {s} : (execPairIsolated s).Lasts s := by
  simp [execPairIsolated, pairIsolated]

@[simp] theorem lasting_pairWatch {s : State} : s.pairWatch.lasting = s.lasting := by
  unfold State.pairWatch
  dsimp only
  (repeat' split) <;> simp

@[simp] theorem execBeat_lasts {c0 c1 s} : (execBeat c0 c1 s).Lasts s := by simp [execBeat, beat]

@[simp] theorem lasting_beatReceive {port seq m s} : (beatReceive port seq m s).lasting = s.lasting := by
  unfold beatReceive
  split
  · rfl
  · next h => simp [lasting_of_takePair h]

@[simp] theorem execBeatReceive_lasts {port seq msg s} : (execBeatReceive port seq msg s).Lasts s := by
  simp [execBeatReceive]

@[simp] theorem lasting_endAuthority {s : State} {x} : (s.endAuthority x).lasting = s.lasting := by
  simp [State.endAuthority]

@[simp] theorem execLeaseExpiry_lasts {s} : (execLeaseExpiry s).Lasts s := by
  unfold execLeaseExpiry leaseExpiry
  split <;> simp

@[simp] theorem execClaim_lasts {claimIn s} : (execClaim claimIn s).Lasts s := by simp [execClaim, claim]

@[simp] theorem lasting_gainClaim {s : State} : s.gainClaim.lasting = s.lasting := by
  fun_cases State.gainClaim s <;> simp +zetaDelta

@[simp] theorem execClaimSample_lasts {claimIn s} : (execClaimSample claimIn s).Lasts s := by
  simp [execClaimSample, claimSample]

@[simp] theorem execClaimInAsserted_lasts {s} : (execClaimInAsserted s).Lasts s := by
  simp [execClaimInAsserted, claimInAsserted]

@[simp] theorem execClaimLineFault_lasts {since s} : (execClaimLineFault since s).Lasts s := by
  simp [execClaimLineFault, claimLineFault]

@[simp] theorem execReleaseCause_lasts {s} : (execReleaseCause s).Lasts s := by
  simp [execReleaseCause, releaseCauseCmd]

@[simp] theorem execReleaseInstant_lasts {s} : (execReleaseInstant s).Lasts s := by
  unfold execReleaseInstant releaseInstant
  split <;> simp

@[simp] theorem lasting_release {port seq instant cause s} : (release port seq instant cause s).lasting = s.lasting := by
  unfold release
  split
  · rfl
  · next h => (repeat' split) <;> simp [lasting_of_takePair h]

@[simp] theorem execRelease_lasts {port seq instant cause s} : (execRelease port seq instant cause s).Lasts s := by
  simp [execRelease]

@[simp] theorem lasting_makeOffer {s : State} {cause} : (s.makeOffer cause).lasting = s.lasting := by
  simp [State.makeOffer]

@[simp] theorem lasting_offerCmd {port seq instant cause s} : (offerCmd port seq instant cause s).lasting = s.lasting := by
  unfold offerCmd
  split
  · rfl
  · next h => simp [lasting_of_takePair h]

@[simp] theorem execOffer_lasts {port seq instant cause s} : (execOffer port seq instant cause s).Lasts s := by
  simp [execOffer]

@[simp] theorem lasting_accept {port seq instant cause s} : (accept port seq instant cause s).lasting = s.lasting := by
  unfold accept
  split
  · rfl
  · next h => (repeat' split) <;> simp [lasting_of_takePair h]

@[simp] theorem execAccept_lasts {port seq instant cause s} : (execAccept port seq instant cause s).Lasts s := by
  simp [execAccept]

@[simp] theorem lasting_refuse {port seq instant cause s} : (refuse port seq instant cause s).lasting = s.lasting := by
  unfold refuse
  split
  · rfl
  · next h => (repeat' split) <;> simp [lasting_of_takePair h]

@[simp] theorem execRefuse_lasts {port seq instant cause s} : (execRefuse port seq instant cause s).Lasts s := by
  simp [execRefuse]

@[simp] theorem lasting_takeRequest {port seq instant cause s} : (takeRequest port seq instant cause s).lasting = s.lasting := by
  unfold takeRequest
  split
  · rfl
  · next h => (repeat' split) <;> simp [lasting_of_takePair h]

@[simp] theorem execTakeRequest_lasts {port seq instant cause s} :
    (execTakeRequest port seq instant cause s).Lasts s := by
  simp [execTakeRequest]

@[simp] theorem execHandoverInstant_lasts {s} : (execHandoverInstant s).Lasts s := by
  unfold execHandoverInstant handoverInstant
  split <;> simp

@[simp] theorem execTakeBack_lasts {s} : (execTakeBack s).Lasts s := by simp [execTakeBack, takeBack]

@[simp] theorem paddleHandOver_lasts {who s} : (paddleHandOver who s).Lasts s := by simp [paddleHandOver]

@[simp] theorem execPaddleHandOver_lasts {who s} : (execPaddleHandOver who s).Lasts s := by
  simp [execPaddleHandOver]

@[simp] theorem paddleTake_lasts {who s} : (paddleTake who s).Lasts s := by simp [paddleTake]

@[simp] theorem execPaddleTake_lasts {who s} : (execPaddleTake who s).Lasts s := by simp [execPaddleTake]

@[simp] theorem clearSuspect_lasts {who s} : (clearSuspect who s).Lasts s := by simp [clearSuspect]

@[simp] theorem execClearSuspect_lasts {who s} : (execClearSuspect who s).Lasts s := by
  simp [execClearSuspect]

@[simp] theorem clearRevert_lasts {who s} : (clearRevert who s).Lasts s := by simp [clearRevert]

@[simp] theorem execClearRevertSuspended_lasts {who s} : (execClearRevertSuspended who s).Lasts s := by
  simp [execClearRevertSuspended]

@[simp] theorem execSelfTestFail_lasts {test s} : (execSelfTestFail test s).Lasts s := by
  simp [execSelfTestFail, selfTestFail]

@[simp] theorem execSelfTestRecover_lasts {test s} : (execSelfTestRecover test s).Lasts s := by
  simp [execSelfTestRecover, selfTestRecover]

@[simp] theorem execStatusSend_lasts {s} : (execStatusSend s).Lasts s := by simp [execStatusSend, statusSend]

@[simp] theorem lasting_statusReceive {port seq m s} : (statusReceive port seq m s).lasting = s.lasting := by
  unfold statusReceive
  split
  · rfl
  · next h => simp [lasting_of_takePair h]

@[simp] theorem execStatus_lasts {port seq msg s} : (execStatus port seq msg s).Lasts s := by
  simp [execStatus]

@[simp] theorem execDigestSend_lasts {s} : (execDigestSend s).Lasts s := by simp [execDigestSend, digestSend]

@[simp] theorem lasting_takeDigest {s : State} {r} : (s.takeDigest r).lasting = s.lasting := by simp [State.takeDigest]

@[simp] theorem lasting_digest {port seq l s} : (digest port seq l s).lasting = s.lasting := by
  unfold digest
  split
  · rfl
  · next h => simp [lasting_of_takePair h]

@[simp] theorem execDigest_lasts {port seq records s} : (execDigest port seq records s).Lasts s := by
  simp [execDigest]

@[simp] theorem lasting_mismatchEvent {s : State} {i scan} : (s.mismatchEvent i scan).lasting = s.lasting := by
  simp [State.mismatchEvent]

@[simp] theorem lasting_reviewSuspect {s : State} : s.reviewSuspect.lasting = s.lasting := by
  simp [State.reviewSuspect]

@[simp] theorem lasting_pairAdvance {s : State} {i outcome} : (s.pairAdvance i outcome).lasting = s.lasting := by
  simp [State.pairAdvance]

@[simp] theorem execDigestCompare_lasts {inst s} : (execDigestCompare inst s).Lasts s := by
  unfold execDigestCompare digestCompare
  split <;> simp

@[simp] theorem pairJoin_lasts {who i s} : (pairJoin who i s).Lasts s := by simp [pairJoin]

@[simp] theorem execPairJoin_lasts {who inst s} : (execPairJoin who inst s).Lasts s := by simp [execPairJoin]

end Sys2Proof.Machine
end

section
/-! PROOFS. What outlasts a step, under the run of a scan (Chapter 10). -/

namespace Sys2Proof.Machine

@[simp] theorem lasting_programObjects {s : State} {i p} : (s.programObjects i p).lasting = s.lasting := by
  simp [State.programObjects]

@[simp] theorem lasting_setFerry {s : State} {i off n v} : (s.setFerry i off n v).lasting = s.lasting := by
  simp [State.setFerry]

@[simp] theorem lasting_le_writeRetained {s : State} {i n} {a} (h : a ≤ s.lasting) :
    a ≤ (s.writeRetained i n).lasting := by
  fun_cases State.writeRetained s i n <;> simp +zetaDelta [h]

/-- The state that a checked start gives has only admitted a charge (R386). -/
theorem lasting_le_of_checkStart {s t : State} {i : Nat} {warm : Bool} {p : Prog} (h : s.checkStart i warm = .ok (p, t)) :
    s.lasting ≤ t.lasting := by
  unfold State.checkStart at h
  split at h
  · cases h
  · simp only [bind, Except.bind] at h
    (repeat' split at h) <;> cases h
    exact admitCharge_lasts _ ‹State.admitCharge _ _ _ _ = _›

@[simp] theorem lasting_launch {s : State} {i p warm b} : (s.launch i p warm b).lasting = s.lasting := by
  unfold State.launch
  extract_lets x s'
  have hs' : s'.lasting = s.lasting := by simp [s']
  clear_value s'
  split
  next t page hpage =>
  have ht : t.lasting = s'.lasting := by
    cases hret : x.retPage with
    | some q =>
      rw [hret] at hpage
      cases hpage
      rfl
    | none =>
      rw [hret] at hpage
      cases hrun : s'.pageRun i 1 <;> rw [hrun] at hpage <;> cases hpage <;> simp
  extract_lets copy data last y u v w z
  have hz : z.lasting = s.lasting := by simp [z, w, v, u, ht, hs']
  clear_value z
  simp [hz]

@[simp] theorem startInstance_lasts {s : State} {i warm g} : (s.startInstance i warm g).Lasts s := by
  simp only [State.startInstance, lasts_bind, Prod.forall, lasts_ok]
  exact fun _ _ h => by simp [lasting_le_of_checkStart h]

@[simp] theorem coldStart_lasts {who i s} : (coldStart who i s).Lasts s := by
  simp only [coldStart, lasts_bind, lasts_ite]
  intro _ _
  split
  · simp only [Prod.forall, lasts_ok]
    intro _ _ h
    simpa using lasting_le_of_checkStart h
  · exact startInstance_lasts

@[simp] theorem execColdStart_lasts {who inst s} : (execColdStart who inst s).Lasts s := by
  simp [execColdStart]

@[simp] theorem warmStart_lasts {who i s} : (warmStart who i s).Lasts s := by simp [warmStart]

@[simp] theorem execWarmStart_lasts {who inst s} : (execWarmStart who inst s).Lasts s := by
  simp [execWarmStart]

@[simp] theorem lasting_requestStop {s : State} {i} : (s.requestStop i).lasting = s.lasting := by
  simp [State.requestStop]

@[simp] theorem stopCmd_lasts {who i s} : (stopCmd who i s).Lasts s := by simp [stopCmd]

@[simp] theorem execStopCmd_lasts {who inst s} : (execStopCmd who inst s).Lasts s := by simp [execStopCmd]

@[simp] theorem checkCandidate_lasts {s : State} {i p q} : (s.checkCandidate i p q).Lasts s := by
  simp only [State.checkCandidate, lasts_bind, lasts_ite, lasts_ok]
  intros
  split
  · intro t hcharge _ _ _ _
    exact admitCharge_lasts t hcharge
  · simp

@[simp] theorem programLoad_lasts {who i addr s} : (programLoad who i addr s).Lasts s := by simp [programLoad]

@[simp] theorem execProgramLoad_lasts {who inst address s} : (execProgramLoad who inst address s).Lasts s := by
  simp [execProgramLoad]

@[simp] theorem lasting_le_takeCandidate {s : State} {i q} {a} (h : a ≤ s.lasting) :
    a ≤ (s.takeCandidate i q).1.lasting := by
  unfold State.takeCandidate
  dsimp only
  split
  · exact h
  · split
    · next hcheck => 
      have hu := checkCandidate_lasts _ hcheck
      simp at hu
      simp [h.trans hu]
    · simp [h]

@[simp] theorem execProgramLoadDone_lasts {inst s} : (execProgramLoadDone inst s).Lasts s := by
  unfold execProgramLoadDone programLoadDone
  dsimp only
  (repeat' split) <;> simp

@[simp] theorem lasting_basketCount {s : State} {i off n k} : (s.basketCount i off n k).lasting = s.lasting := by
  simp [State.basketCount]

theorem lasting_areaOf {s : State} {i : Nat} {p} : (s.areaOf i p).1.lasting = s.lasting := by
  simp only [State.areaOf]
  split <;> simp

@[simp] theorem lasting_inboundArea {s : State} {i k} : (s.inboundArea i k).1.lasting = s.lasting := by
  rw [inboundArea_eq, lasting_areaOf]

@[simp] theorem lasting_le_appendOutbound {k i used area n at_ fits c s} {a} (h : a ≤ s.lasting) :
    a ≤ (State.appendOutbound k i used area n at_ fits c s).1.lasting := by
  fun_induction State.appendOutbound k i used area n at_ fits c s
  case case4 hring ih => exact ih (lasting_le_of_fst (by split <;> simp [h]) hring)
  case case5 hring _ ih => exact ih (lasting_le_of_fst (by split <;> simp [h]) hring)
  all_goals exact h

@[simp] theorem lasting_le_outbound {s : State} {i k} {a} (h : a ≤ s.lasting) :
    a ≤ (s.outbound i k).lasting := by
  unfold State.outbound
  dsimp only
  (repeat' split) <;> simp [h]

@[simp] theorem lasting_imageFreeze {i s} : (imageFreeze i s).lasting = s.lasting := by
  unfold imageFreeze
  extract_lets x
  have hin : (s.inboundArea i x.scan).1.lasting = s.lasting := lasting_inboundArea
  generalize s.inboundArea i x.scan = q at hin ⊢
  obtain ⟨u, b⟩ := q
  split
  · rfl
  split
  · rfl
  split
  extract_lets gap elapsed clock ents pend flags header digest data
  clear_value data pend clock digest
  clear elapsed flags header
  split
  next t data h =>
  have ht : t.lasting = s.lasting := by
    by_cases hb : s.basketBytes i = 0
    · rw [if_pos hb, Prod.mk.injEq] at h
      rw [h.1]
    · rw [if_neg hb, Prod.mk.injEq] at h
      rw [← h.1]
      exact hin
  clear h
  simp [ht]

@[simp] theorem execImageFreeze_lasts {inst s} : (execImageFreeze inst s).Lasts s := by simp [execImageFreeze]

@[simp] theorem lasting_useProgram {s : State} {i q data} : (s.useProgram i q data).lasting = s.lasting := by
  simp [State.useProgram]

@[simp] theorem lasting_ferrySwitch {s : State} {i n} : (s.ferrySwitch i n).lasting = s.lasting := by
  fun_cases State.ferrySwitch s i n <;> simp +zetaDelta

@[simp] theorem lasting_setSwitch {s : State} {i n} : (s.setSwitch i n).lasting = s.lasting := by simp [State.setSwitch]

@[simp] theorem ferrySwitchCmd_lasts {who i n s} : (ferrySwitchCmd who i n s).Lasts s := by
  unfold ferrySwitchCmd
  dsimp only
  (repeat' split) <;> simp

@[simp] theorem execFerrySwitch_lasts {who inst scan s} : (execFerrySwitch who inst scan s).Lasts s := by
  simp [execFerrySwitch]

@[simp] theorem lasting_withdrawFerry {s : State} {i st tell} : (s.withdrawFerry i st tell).lasting = s.lasting := by
  fun_cases State.withdrawFerry s i st tell <;> simp +zetaDelta

@[simp] theorem lasting_dropCandidate {s : State} {i} : (s.dropCandidate i).lasting = s.lasting := by
  simp [State.dropCandidate]

@[simp] theorem ferryCancel_lasts {who i value s} : (ferryCancel who i value s).Lasts s := by
  simp [ferryCancel]

@[simp] theorem execFerryCancel_lasts {who inst value s} : (execFerryCancel who inst value s).Lasts s := by
  simp [execFerryCancel]

@[simp] theorem lasting_sendResync {s : State} {i m} : (s.sendResync i m).lasting = s.lasting := by
  fun_cases State.sendResync s i m <;> simp

@[simp] theorem lasting_applyResync {s : State} {i} : (s.applyResync i).lasting = s.lasting := by
  fun_cases State.applyResync s i <;> simp +zetaDelta

@[simp] theorem lasting_leaveProcessor {s : State} {i st} : (s.leaveProcessor i st).lasting = s.lasting := by
  simp [State.leaveProcessor]

@[simp] theorem lasting_le_finishStop {s : State} {i v written} {a} (h : a ≤ s.lasting) :
    a ≤ (s.finishStop i v written).lasting := by
  simp [h, State.finishStop]

@[simp] theorem lasting_nextBoundary {s : State} {i g v} : (s.nextBoundary i g v).lasting = s.lasting := by
  simp [State.nextBoundary]

@[simp] theorem lasting_faultedBoundary {s : State} {i g v} : (s.faultedBoundary i g v).lasting = s.lasting := by
  simp [State.faultedBoundary]

@[simp] theorem lasting_le_commitScan {s : State} {i g v} {a} (h : a ≤ s.lasting) :
    a ≤ (s.commitScan i g v).lasting := by
  simp [h, State.commitScan]

@[simp] theorem lasting_pairBoundary {s : State} {i k was} : (s.pairBoundary i k was).lasting = s.lasting := by
  unfold State.pairBoundary
  dsimp only
  (repeat' split) <;> simp

@[simp] theorem lasting_le_runningBoundary {s : State} {i g v} {a} (h : a ≤ s.lasting) :
    a ≤ (s.runningBoundary i g v).lasting := by
  unfold State.runningBoundary
  extract_lets x was commit stamped retained sent next scan fresh switched paired
  have hsent : a ≤ sent.lasting := by simp [sent, retained, stamped, commit, h]
  have hswitched : a ≤ switched.lasting := by
    unfold switched
    split <;> simp [fresh, next, hsent]
  (repeat' split) <;> simp [paired, hswitched, h]

@[simp] theorem execScanBoundary_lasts {inst s} : (execScanBoundary inst s).Lasts s := by
  unfold execScanBoundary scanBoundary
  split <;> simp

@[simp] theorem lasting_le_autoRestart {i s} {a} (h : a ≤ s.lasting) :
    a ≤ (autoRestart i s).lasting := by
  unfold autoRestart
  dsimp only
  split
  · exact h
  · split
    · next hstart => 
      have hu := startInstance_lasts _ hstart
      simp at hu
      simp [h.trans hu]
    · simp [h]

@[simp] theorem execAutoRestart_lasts {inst s} : (execAutoRestart inst s).Lasts s := by simp [execAutoRestart]

@[simp] theorem lasting_le_shedInstances {s : State} {a} (h : a ≤ s.lasting) :
    a ≤ s.shedInstances.lasting := by
  simp [h, State.shedInstances]

@[simp] theorem lasting_le_unshedInstances {s : State} {a} (h : a ≤ s.lasting) :
    a ≤ s.unshedInstances.lasting := by
  refine lasting_le_foldl h fun t i => ?_
  split
  · split
    · next hstart => exact startInstance_lasts _ hstart
    · simp
  · exact le_rfl

@[simp] theorem lasting_scanStep {s : State} {d pre post} : (s.scanStep d pre post).lasting = s.lasting := by
  simp [State.scanStep]

@[simp] theorem lasting_rescan {s : State} {i} : (s.rescan i).lasting = s.lasting := by simp [State.rescan]

@[simp] theorem lasting_rejoinDomain {s : State} {d} : (s.rejoinDomain d).lasting = s.lasting := by
  simp [State.rejoinDomain]

end Sys2Proof.Machine
end

section
/-! PROOFS. What outlasts a step, under resynchronisation, ferry and start by message (Chapter 12). -/

namespace Sys2Proof.Machine

@[simp] theorem lasting_resyncData {port seq m s} : (resyncData port seq m s).lasting = s.lasting := by
  unfold resyncData
  split
  · rfl
  · next h => simp [lasting_of_takePair h]

@[simp] theorem execResyncData_lasts {port seq msg s} : (execResyncData port seq msg s).Lasts s := by
  simp [execResyncData]

@[simp] theorem execResyncAbandon_lasts {inst s} : (execResyncAbandon inst s).Lasts s := by
  simp [execResyncAbandon, resyncAbandon]

@[simp] theorem lasting_ferryPropose {port seq i n tag s} : (ferryPropose port seq i n tag s).lasting = s.lasting := by
  unfold ferryPropose
  split
  · rfl
  · next h => simp [lasting_of_takePair h]

@[simp] theorem execFerryPropose_lasts {port seq inst scan tag s} :
    (execFerryPropose port seq inst scan tag s).Lasts s := by
  simp [execFerryPropose]

@[simp] theorem lasting_ferryAccept {port seq i n tag s} : (ferryAccept port seq i n tag s).lasting = s.lasting := by
  unfold ferryAccept
  split
  · rfl
  · next h => (repeat' split) <;> simp [lasting_of_takePair h]

@[simp] theorem execFerryAccept_lasts {port seq inst scan tag s} :
    (execFerryAccept port seq inst scan tag s).Lasts s := by
  simp [execFerryAccept]

@[simp] theorem execFerryProposeTimeout_lasts {inst s} : (execFerryProposeTimeout inst s).Lasts s := by
  unfold execFerryProposeTimeout ferryTimeout
  split <;> simp

@[simp] theorem lasting_ferryCancelMessage {port seq i n tag s} :
    (ferryCancelMessage port seq i n tag s).lasting = s.lasting := by
  unfold ferryCancelMessage
  split
  · rfl
  · next h => simp [lasting_of_takePair h]

@[simp] theorem execFerryCancelMessage_lasts {port seq inst scan tag s} :
    (execFerryCancelMessage port seq inst scan tag s).Lasts s := by
  simp [execFerryCancelMessage]

@[simp] theorem lasting_le_startPropose {port seq i mode n tag s} {a} (h : a ≤ s.lasting) :
    a ≤ (startPropose port seq i mode n tag s).lasting := by
  unfold startPropose
  split
  · exact h
  · next htake =>
    have ht := lasting_of_takePair htake
    split
    · split
      · next hstart =>
        have hu := lasting_le_of_checkStart hstart
        rw [ht] at hu
        split <;> simp [h.trans hu, ht, h]
      · simpa [ht] using h
    · simpa [ht] using h

@[simp] theorem execStartPropose_lasts {port seq inst mode scan tag s} :
    (execStartPropose port seq inst mode scan tag s).Lasts s := by
  simp [execStartPropose]

@[simp] theorem lasting_startAlone {s : State} {i} : (s.startAlone i).lasting = s.lasting := by simp [State.startAlone]

@[simp] theorem lasting_startAccept {port seq i mode n tag s} : (startAccept port seq i mode n tag s).lasting = s.lasting := by
  unfold startAccept
  split
  · rfl
  · next h => simp [lasting_of_takePair h]

@[simp] theorem execStartAccept_lasts {port seq inst mode scan tag s} :
    (execStartAccept port seq inst mode scan tag s).Lasts s := by
  simp [execStartAccept]

@[simp] theorem execPairedStartTimeout_lasts {inst s} : (execPairedStartTimeout inst s).Lasts s := by
  simp [execPairedStartTimeout, pairedStartTimeout]

end Sys2Proof.Machine
end

section
/-! PROOFS. What outlasts a step, under sessions and what ends them (R89, R96 to R100). -/

namespace Sys2Proof.Machine

@[simp] theorem lasting_endSession {s : State} {k} : (s.endSession k).lasting = s.lasting := by
  unfold State.endSession
  dsimp only
  (repeat' split) <;> simp

@[simp] theorem lasting_bindWindow {s : State} {w v} : (s.bindWindow w v).lasting = s.lasting := by
  simp [State.bindWindow]

@[simp] theorem lasting_endTenants {s : State} {i} : (s.endTenants i).lasting = s.lasting := by simp [State.endTenants]

end Sys2Proof.Machine
end

section
/-! PROOFS. What outlasts a step, under functions, transmit rings and their resets (Chapter 14). -/

namespace Sys2Proof.Machine

@[simp] theorem lasting_forgetSelector {s : State} {i} : (s.forgetSelector i).lasting = s.lasting := by
  simp [State.forgetSelector]

@[simp] theorem lasting_emptyRings {s : State} {i} : (s.emptyRings i).lasting = s.lasting := by simp [State.emptyRings]

@[simp] theorem instanceCreate_lasts {who i s} : (instanceCreate who i s).Lasts s := by simp [instanceCreate]

@[simp] theorem execInstanceCreate_lasts {who value s} : (execInstanceCreate who value s).Lasts s := by
  simp [execInstanceCreate]

@[simp] theorem lasting_bindVf {s : State} {n v} : (s.bindVf n v).lasting = s.lasting := by simp [State.bindVf]

@[simp] theorem lasting_deleteInstance {s : State} {i} : (s.deleteInstance i).lasting = s.lasting := by
  simp [State.deleteInstance]

@[simp] theorem instanceDelete_lasts {who i s} : (instanceDelete who i s).Lasts s := by simp [instanceDelete]

@[simp] theorem execInstanceDelete_lasts {who value s} : (execInstanceDelete who value s).Lasts s := by
  simp [execInstanceDelete]

@[simp] theorem execVfInstance_lasts {who n value s} : (execVfInstance who n value s).Lasts s := by
  simp [execVfInstance, vfInstance]

@[simp] theorem lasting_emptyBasket {s : State} {i} : (s.emptyBasket i).lasting = s.lasting := by
  simp [State.emptyBasket]

@[simp] theorem lasting_resetFunction {s : State} {fn} : (s.resetFunction fn).lasting = s.lasting := by
  unfold State.resetFunction
  dsimp only
  (repeat' split) <;> simp

@[simp] theorem lasting_functionLevelReset {fn s} : (functionLevelReset fn s).lasting = s.lasting := by
  simp [functionLevelReset]

@[simp] theorem execFunctionLevelReset_lasts {fn s} : (execFunctionLevelReset fn s).Lasts s := by
  simp [execFunctionLevelReset]

@[simp] theorem execFunctionLevelResetDone_lasts {fn s} : (execFunctionLevelResetDone fn s).Lasts s := by
  simp [execFunctionLevelResetDone, functionResetDone]

theorem lasting_of_sendPacket {s t : State} {i : Nat} {d body : Bytes} (h : s.sendPacket i d body = some t) :
    t.lasting = s.lasting := by
  unfold State.sendPacket at h
  dsimp only at h
  (repeat' split at h) <;> cases h <;> simp

@[simp] theorem lasting_txPacketSend {i ring dma s} : (txPacketSend i ring dma s).lasting = s.lasting := by
  unfold txPacketSend
  dsimp only
  split
  · rfl
  · split
    · rfl
    · split
      · next h => simp [lasting_of_sendPacket h]
      · simp

@[simp] theorem execTxPacketSend_lasts {inst ring dma s} : (execTxPacketSend inst ring dma s).Lasts s := by
  simp [execTxPacketSend]

@[simp] theorem lasting_setResetJob {s : State} {i x} : (s.setResetJob i x).lasting = s.lasting := by
  simp [State.setResetJob]

@[simp] theorem lasting_setResetStatus {s : State} {i st mode time} :
    (s.setResetStatus i st mode time).lasting = s.lasting := by
  simp [State.setResetStatus]

@[simp] theorem lasting_le_squashWork {s : State} {i} {a} (h : a ≤ s.lasting) :
    a ≤ (s.squashWork i).lasting := by simp [h, State.squashWork]

@[simp] theorem lasting_le_beginReset {s : State} {i mode} {a} (h : a ≤ s.lasting) :
    a ≤ (s.beginReset i mode).lasting := by
  simp [h, State.beginReset]

@[simp] theorem resetDrain_lasts {who i s} : (resetDrain who i s).Lasts s := by simp [resetDrain]

@[simp] theorem execResetDrain_lasts {who inst s} : (execResetDrain who inst s).Lasts s := by
  simp [execResetDrain]

@[simp] theorem lasting_le_becomeSquash {s : State} {i j} {a} (h : a ≤ s.lasting) :
    a ≤ (s.becomeSquash i j).lasting := by
  simp [h, State.becomeSquash]

@[simp] theorem lasting_le_squashDrains {s : State} {a} (h : a ≤ s.lasting) :
    a ≤ s.squashDrains.lasting := by
  unfold State.squashDrains
  exact lasting_le_foldl h fun _ _ => by (repeat' split) <;> simp

@[simp] theorem resetSquash_lasts {who i s} : (resetSquash who i s).Lasts s := by
  unfold resetSquash
  split <;> simp

@[simp] theorem execResetSquash_lasts {who inst s} : (execResetSquash who inst s).Lasts s := by
  simp [execResetSquash]

@[simp] theorem lasting_finishReset {s : State} {i st j} : (s.finishReset i st j).lasting = s.lasting := by
  simp [State.finishReset]

@[simp] theorem execResetComplete_lasts {inst s} : (execResetComplete inst s).Lasts s := by
  unfold execResetComplete resetComplete
  split <;> simp

@[simp] theorem execDrainLimitExpiry_lasts {inst s} : (execDrainLimitExpiry inst s).Lasts s := by
  unfold execDrainLimitExpiry drainLimit
  split <;> simp

end Sys2Proof.Machine
end

section
/-! PROOFS. What outlasts a step, under keys, ownership, boot images and attestation (Chapter 17). -/

namespace Sys2Proof.Machine

@[simp] theorem lasting_setSec {s : State} {x} : (s.setSec x).lasting = (x.minVersion, Memory.wf s.mem.hbm) := by
  simp [State.setSec]

@[simp] theorem lasting_setOwnership {s : State} {x} : (s.setOwnership x).lasting = s.lasting := by
  simp [State.setOwnership]

@[simp] theorem lasting_setBootRec {s : State} {x} : (s.setBootRec x).lasting = s.lasting := by simp [State.setBootRec]

@[simp] theorem lasting_setKeyPend {s : State} {n p} : (s.setKeyPend n p).lasting = s.lasting := by
  simp [State.setKeyPend]

@[simp] theorem lasting_copyBank {s : State} {n b} : (s.copyBank n b).lasting = s.lasting := by simp [State.copyBank]

@[simp] theorem lasting_repairKey {s : State} {n} : (s.repairKey n).lasting = s.lasting := by simp [State.repairKey]

@[simp] theorem lasting_noteKeys {s : State} {t} : (s.noteKeys t).lasting = t.lasting := by simp [State.noteKeys]

@[simp] theorem lasting_damage {s : State} {a1} : (s.damage a1).lasting = s.lasting := by
  fun_cases State.damage s a1 <;> simp

@[simp] theorem execJournalCheckPass_lasts {bad s} : (execJournalCheckPass bad s).Lasts s := by
  simp [execJournalCheckPass, journalCheck]

@[simp] theorem keyLoad_lasts {who n b s} : (keyLoad who n b s).Lasts s := by simp [keyLoad]

@[simp] theorem execKeyLoad_lasts {who slot value s} : (execKeyLoad who slot value s).Lasts s := by
  simp [execKeyLoad]

@[simp] theorem lasting_dropStaged {s : State} {n} : (s.dropStaged n).lasting = s.lasting := by
  unfold State.dropStaged
  split <;> simp

@[simp] theorem execKeyLoadDone_lasts {slot readBack s} : (execKeyLoadDone slot readBack s).Lasts s := by
  unfold execKeyLoadDone keyLoadDone
  (repeat' split) <;> simp

@[simp] theorem keyCommit_lasts {who n after s} : (keyCommit who n after s).Lasts s := by
  unfold keyCommit
  split <;> simp

@[simp] theorem execKeyCommit_lasts {who slot after s} : (execKeyCommit who slot after s).Lasts s := by
  simp [execKeyCommit]

@[simp] theorem execKeyCommitDone_lasts {slot s} : (execKeyCommitDone slot s).Lasts s := by
  unfold execKeyCommitDone keyCommitDone
  split <;> simp

@[simp] theorem keyDiscard_lasts {who n s} : (keyDiscard who n s).Lasts s := by simp [keyDiscard]

@[simp] theorem execKeyDiscard_lasts {who slot s} : (execKeyDiscard who slot s).Lasts s := by
  simp [execKeyDiscard]

@[simp] theorem keyErase_lasts {who n value s} : (keyErase who n value s).Lasts s := by simp [keyErase]

@[simp] theorem execKeyErase_lasts {who slot value s} : (execKeyErase who slot value s).Lasts s := by
  simp [execKeyErase]

@[simp] theorem lasting_storeVault {s : State} {n key} : (s.storeVault n key).lasting = s.lasting := by
  simp [State.storeVault]

@[simp] theorem lasting_setCredential {s : State} {n b} : (s.setCredential n b).lasting = s.lasting := by
  simp [State.setCredential]

@[simp] theorem credentialEntry_lasts {who n b s} : (credentialEntry who n b s).Lasts s := by
  simp [credentialEntry]

@[simp] theorem execCredentialEntry_lasts {who n value s} : (execCredentialEntry who n value s).Lasts s := by
  simp [execCredentialEntry]

@[simp] theorem credentialSecret_lasts {who n b s} : (credentialSecret who n b s).Lasts s := by
  simp [credentialSecret]

@[simp] theorem execCredentialSecret_lasts {who n value s} : (execCredentialSecret who n value s).Lasts s := by
  simp [execCredentialSecret]

@[simp] theorem lasting_drawClaim {s : State} : s.drawClaim.lasting = s.lasting := by simp [State.drawClaim]

@[simp] theorem lasting_ownerClaim {who b s} : (ownerClaim who b s).1.lasting = s.lasting := by
  fun_cases ownerClaim who b s <;> simp +zetaDelta

@[simp] theorem execOwnerClaim_lasts {who value s} : (execOwnerClaim who value s).Lasts s := by
  simp [execOwnerClaim]

@[simp] theorem lasting_writeFlash {s : State} {d b v} : (s.writeFlash d b v).lasting = s.lasting := by
  simp [State.writeFlash]

@[simp] theorem lasting_setImageStatus {s : State} {d v} : (s.setImageStatus d v).lasting = s.lasting := by
  simp [State.setImageStatus]

@[simp] theorem bootConfirm_lasts {who value s} : (bootConfirm who value s).Lasts s := by simp [bootConfirm]

@[simp] theorem execBootConfirm_lasts {who value s} : (execBootConfirm who value s).Lasts s := by
  simp [execBootConfirm]

@[simp] theorem securityVersionAdvance_lasts {who v s} : (securityVersionAdvance who v s).Lasts s := by
  simp only [securityVersionAdvance, lasts_bind, lasts_ok, lasting_raiseOcc, lasting_setSec]
  intro _ _ _ hv _ _ _ _
  have hlt : s.sec.minVersion < v := by
    unfold need at hv
    split at hv
    · simp_all
    · cases hv
  exact ⟨hlt.le, le_rfl⟩

@[simp] theorem execSecurityVersionAdvance_lasts {who value s} : (execSecurityVersionAdvance who value s).Lasts s := by
  simp [execSecurityVersionAdvance]

@[simp] theorem ownerBootKeyProgram_lasts {who b s} : (ownerBootKeyProgram who b s).Lasts s := by
  unfold ownerBootKeyProgram
  split <;> simp

@[simp] theorem execOwnerBootKeyProgram_lasts {who value s} : (execOwnerBootKeyProgram who value s).Lasts s := by
  simp [execOwnerBootKeyProgram]

@[simp] theorem ownerBootKeyRevoke_lasts {who k s} : (ownerBootKeyRevoke who k s).Lasts s := by
  simp [ownerBootKeyRevoke]

@[simp] theorem execOwnerBootKeyRevoke_lasts {who value s} : (execOwnerBootKeyRevoke who value s).Lasts s := by
  simp [execOwnerBootKeyRevoke]

@[simp] theorem lasting_extendChain {s : State} {j d} : (s.extendChain j d).lasting = s.lasting := by
  simp [State.extendChain]

@[simp] theorem lasting_zeroChains {s : State} {l} : (s.zeroChains l).lasting = s.lasting := by simp [State.zeroChains]

@[simp] theorem lasting_measureStages {s : State} {j f} : (s.measureStages j f).lasting = s.lasting := by
  simp [State.measureStages]

@[simp] theorem measureExtend_lasts {who b s} : (measureExtend who b s).Lasts s := by simp [measureExtend]

@[simp] theorem execMeasureExtend_lasts {who value s} : (execMeasureExtend who value s).Lasts s := by
  simp [execMeasureExtend]

@[simp] theorem recoveryBlock_lasts {who b v s} : (recoveryBlock who b v s).Lasts s := by simp [recoveryBlock]

@[simp] theorem execRecoveryBlock_lasts {who b value s} : (execRecoveryBlock who b value s).Lasts s := by
  simp [execRecoveryBlock]

@[simp] theorem execTamperCauseClear_lasts {cause s} : (execTamperCauseClear cause s).Lasts s := by
  simp [execTamperCauseClear, tamperCauseClear]

@[simp] theorem tamperKnock_lasts {who v s} : (tamperKnock who v s).Lasts s := by simp [tamperKnock]

@[simp] theorem execTamperStatusKnock_lasts {who value s} : (execTamperStatusKnock who value s).Lasts s := by
  simp [execTamperStatusKnock]

@[simp] theorem attestMSecret_lasts {who b s} : (attestMSecret who b s).Lasts s := by simp [attestMSecret]

@[simp] theorem execAttestMSecret_lasts {who value s} : (execAttestMSecret who value s).Lasts s := by
  simp [execAttestMSecret]

@[simp] theorem lasting_setNonce {s : State} {k cls b} : (s.setNonce k cls b).lasting = s.lasting := by
  simp [State.setNonce]

@[simp] theorem attestChallenge_lasts {id cls who b s} : (attestChallenge id cls who b s).Lasts s := by
  simp [attestChallenge]

@[simp] theorem execAttestMChallenge_lasts {who value s} : (execAttestMChallenge who value s).Lasts s := by
  simp [execAttestMChallenge]

@[simp] theorem execAttestPChallenge_lasts {who value s} : (execAttestPChallenge who value s).Lasts s := by
  simp [execAttestPChallenge]

@[simp] theorem lasting_evidence {s : State} {k cls} : (s.evidence k cls).1.lasting = s.lasting := by
  fun_cases State.evidence s k cls <;> simp +zetaDelta

@[simp] theorem lasting_attestRead {id cls who s} : (attestRead id cls who s).lasting = s.lasting := by
  unfold attestRead
  split
  · simp
  · split
    · next h => simp [lasting_of_fst lasting_evidence h]
    · next h => simp [lasting_of_fst lasting_evidence h]

@[simp] theorem execAttestMResponse_lasts {who s} : (execAttestMResponse who s).Lasts s := by
  simp [execAttestMResponse]

@[simp] theorem execAttestPQuote_lasts {who s} : (execAttestPQuote who s).Lasts s := by
  simp [execAttestPQuote]

@[simp] theorem attestPGenerate_lasts {who value s} : (attestPGenerate who value s).Lasts s := by
  simp [attestPGenerate]

@[simp] theorem execAttestPGenerate_lasts {who value s} : (execAttestPGenerate who value s).Lasts s := by
  simp [execAttestPGenerate]

end Sys2Proof.Machine
end

section
/-! PROOFS. What outlasts a step, under module resets, the sluice and the power-on flow (R606, R660 to R674). -/

namespace Sys2Proof.Machine

@[simp] theorem lasting_setStart {s : State} {x} : (s.setStart x).lasting = s.lasting := by simp [State.setStart]

@[simp] theorem lasting_setEnergy {s : State} {x} : (s.setEnergy x).lasting = s.lasting := by simp [State.setEnergy]

@[simp] theorem lasting_endSessions {s : State} : s.endSessions.lasting = s.lasting := by simp [State.endSessions]

@[simp] theorem lasting_applyPending {s : State} : s.applyPending.lasting = s.lasting := by
  unfold State.applyPending
  extract_lets t
  have ht : t.lasting = s.lasting := lasting_foldl fun _ _ => by
    dsimp only
    (repeat' split) <;> simp
  split <;> simp [ht]

@[simp] theorem lasting_raisePowerOn {s : State} {kind} : (s.raisePowerOn kind).lasting = s.lasting := by
  simp [State.raisePowerOn]

@[simp] theorem lasting_noteReset {s : State} {kind cause} : (s.noteReset kind cause).lasting = s.lasting := by
  simp [State.noteReset]

@[simp] theorem lasting_reach {s : State} {l} : (s.reach l).lasting = s.lasting := by simp [State.reach]

@[simp] theorem lasting_le_resetCores {s : State} {a} (h : a ≤ s.lasting) :
    a ≤ s.resetCores.lasting := by
  unfold State.resetCores
  extract_lets t u
  have ht : a ≤ t.lasting := lasting_le_foldl h fun _ _ => by split <;> simp
  have hu : a ≤ u.lasting := lasting_le_foldl ht fun _ _ => by split <;> simp
  exact hu

@[simp] theorem lasting_restartPtp {s : State} : s.restartPtp.lasting = s.lasting := by simp [State.restartPtp]

@[simp] theorem lasting_le_beginWarm {s : State} {kind cause} {a} (h : a ≤ s.lasting) :
    a ≤ (s.beginWarm kind cause).lasting := by
  simp [h, State.beginWarm]

@[simp] theorem execWarmResetDone_lasts {s} : (execWarmResetDone s).Lasts s := by
  unfold execWarmResetDone warmResetDone
  split <;> simp

@[simp] theorem execWrstN_lasts {s} : (execWrstN s).Lasts s := by simp [execWrstN, wrst]

@[simp] theorem moduleResetWarm_lasts {who s} : (moduleResetWarm who s).Lasts s := by simp [moduleResetWarm]

@[simp] theorem execModuleResetWarm_lasts {who s} : (execModuleResetWarm who s).Lasts s := by
  simp [execModuleResetWarm]

/-- A power-on reset empties the memory of HBM and keeps the fuses of MinSecurityVersion (Table 19-1). -/
theorem lasting_powerOnReset {s : State} {cause} : (s.powerOnReset cause).lasting = (s.sec.minVersion, true) := by
  simp [State.powerOnReset, State.keptSec, State.reset, MemSt.reset]
  rfl

@[simp] theorem lasting_le_powerOnReset {s : State} {cause a} (h : a ≤ s.lasting) :
    a ≤ (s.powerOnReset cause).lasting := by
  rw [lasting_powerOnReset]
  exact h.trans ⟨le_rfl, le_top⟩

@[simp] theorem execPowerOnReset_lasts {supply s} : (execPowerOnReset supply s).Lasts s := by
  simp [execPowerOnReset]

@[simp] theorem recoveryRestart_lasts {who value s} : (recoveryRestart who value s).Lasts s := by
  simp [recoveryRestart]

@[simp] theorem execRecoveryRestart_lasts {who value s} : (execRecoveryRestart who value s).Lasts s := by
  simp [execRecoveryRestart, lasting_le_answer]

@[simp] theorem moduleResetPowerOn_lasts {who s} : (moduleResetPowerOn who s).Lasts s := by
  simp [moduleResetPowerOn]

@[simp] theorem execModuleResetPowerOn_lasts {who s} : (execModuleResetPowerOn who s).Lasts s := by
  simp [execModuleResetPowerOn, lasting_le_answer]

@[simp] theorem moduleResetForced_lasts {who s} : (moduleResetForced who s).Lasts s := by
  simp [moduleResetForced]

@[simp] theorem execModuleResetForced_lasts {who s} : (execModuleResetForced who s).Lasts s := by
  simp [execModuleResetForced, lasting_le_answer]

@[simp] theorem lasting_repairEpoch {s : State} : s.repairEpoch.lasting = s.lasting := by simp [State.repairEpoch]

@[simp] theorem lasting_shoreUp {s : State} : s.shoreUp.lasting = s.lasting := by simp [State.shoreUp]

@[simp] theorem lasting_le_powerOnResetEnd {roleB bad s} : s.lasting ≤ (powerOnResetEnd roleB bad s).lasting := by
  unfold powerOnResetEnd
  split
  · exact le_rfl
  · simp

@[simp] theorem execPowerOnResetEnd_lasts {roleB bad s} : (execPowerOnResetEnd roleB bad s).Lasts s := by
  simp [execPowerOnResetEnd]

@[simp] theorem lasting_startImage {s : State} {d} : (s.startImage d).lasting = s.lasting := by simp [State.startImage]

@[simp] theorem lasting_tryImage {s : State} {d} : (s.tryImage d).1.lasting = s.lasting := by
  fun_cases State.tryImage s d <;> simp +zetaDelta

@[simp] theorem lasting_noteFlash {s : State} : s.noteFlash.lasting = s.lasting := by simp [State.noteFlash]

@[simp] theorem lasting_imageBoot {s} : (imageBoot s).lasting = s.lasting := by
  unfold imageBoot
  split
  · rfl
  · extract_lets t u
    have hu : u.lasting = s.lasting := by simp [u, t]
    split
    · split
      · next h => rw [lasting_of_fst lasting_tryImage h, hu]
      · next ha =>
        have hs := (lasting_of_fst lasting_tryImage ha).trans hu
        split
        · next hb => rw [lasting_of_fst lasting_tryImage hb, hs]
        · next hb => simp [lasting_of_fst lasting_tryImage hb, hs]
    · exact hu

@[simp] theorem execImageBoot_lasts {s} : (execImageBoot s).Lasts s := by simp [execImageBoot]

@[simp] theorem execRailCheckRetry_lasts {outside s} : (execRailCheckRetry outside s).Lasts s := by
  simp [execRailCheckRetry, railCheck]

@[simp] theorem execFastDiesUp_lasts {s} : (execFastDiesUp s).Lasts s := by simp [execFastDiesUp, fastDiesUp]

@[simp] theorem execManagerStarted_lasts {s} : (execManagerStarted s).Lasts s := by
  simp [execManagerStarted, managerStarted]

@[simp] theorem lasting_le_fastDiesOff {s : State} {a} (h : a ≤ s.lasting) : a ≤ s.fastDiesOff.lasting := by
  have hended : a ≤ s.endSessions.lasting := by simp [h]
  have hleft : a ≤ (s.endSessions.sec.minVersion, Memory.wf MemSt.reset.hbm) := ⟨hended.1, le_top⟩
  simpa only [State.fastDiesOff, lasting_raiseFlag, lasting_setNum, lasting_mk] using hleft

@[simp] theorem execShoreWake_lasts {s} : (execShoreWake s).Lasts s := by
  unfold execShoreWake shoreWake
  split <;> simp

@[simp] theorem lasting_le_sluice {s : State} {cause} {a} (h : a ≤ s.lasting) :
    a ≤ (s.sluice cause).lasting := by simp [h, State.sluice]

@[simp] theorem execSluice_lasts {cause s} : (execSluice cause s).Lasts s := by simp [execSluice, sluiceCause]

@[simp] theorem sluiceCommand_lasts {who value s} : (sluiceCommand who value s).Lasts s := by
  simp [sluiceCommand]

@[simp] theorem execSluiceCommand_lasts {who value s} : (execSluiceCommand who value s).Lasts s := by
  simp [execSluiceCommand]

@[simp] theorem ownerRelease_lasts {who value s} : (ownerRelease who value s).Lasts s := by
  simp [ownerRelease]

@[simp] theorem execOwnerRelease_lasts {who value s} : (execOwnerRelease who value s).Lasts s := by
  simp [execOwnerRelease]

end Sys2Proof.Machine
end

section
/-! PROOFS. What outlasts a step, under the hamper: hold-up bank, shed levels, sleep and heat (Chapter 18). -/

namespace Sys2Proof.Machine

@[simp] theorem lasting_setHamper {s : State} {src bit v} : (s.setHamper src bit v).lasting = s.lasting := by
  simp [State.setHamper]

@[simp] theorem lasting_judgeBudget {s : State} {balance} : (s.judgeBudget balance).lasting = s.lasting := by
  simp [State.judgeBudget]

@[simp] theorem lasting_ledgerTick {s : State} {rails} : (s.ledgerTick rails).lasting = s.lasting := by
  simp [State.ledgerTick]

@[simp] theorem lasting_declareLoss {s : State} : s.declareLoss.lasting = s.lasting := by simp [State.declareLoss]

@[simp] theorem lasting_reportCapacitance {s : State} : s.reportCapacitance.lasting = s.lasting := by
  unfold State.reportCapacitance
  split <;> simp

@[simp] theorem execHoldupConversion_lasts {code s} : (execHoldupConversion code s).Lasts s := by
  simp [execHoldupConversion, holdupConversion]

@[simp] theorem lasting_flushRecorder {s : State} : s.flushRecorder.lasting = s.lasting := by
  unfold State.flushRecorder
  dsimp only
  (repeat' split) <;> simp

@[simp] theorem lasting_holdPorts {s : State} : s.holdPorts.lasting = s.lasting := by simp [State.holdPorts]

@[simp] theorem lasting_releasePorts {s : State} : s.releasePorts.lasting = s.lasting := by
  simp [State.releasePorts]

@[simp] theorem lasting_le_shedActions {s : State} {l} {a} (h : a ≤ s.lasting) :
    a ≤ (s.shedActions l).lasting := by
  unfold State.shedActions
  split <;> simp [h]

@[simp] theorem lasting_le_enterShed {s : State} {l cause} {a} (h : a ≤ s.lasting) :
    a ≤ (s.enterShed l cause).lasting := by
  simp [h, State.enterShed]

@[simp] theorem lasting_le_endShed {s : State} {a} (h : a ≤ s.lasting) :
    a ≤ s.endShed.lasting := by simp [h, State.endShed]

@[simp] theorem lasting_le_shedTick {s : State} {a} (h : a ≤ s.lasting) :
    a ≤ s.shedTick.lasting := by
  fun_cases State.shedTick s <;> simp [h]

@[simp] theorem lasting_judgeReturn {s : State} : s.judgeReturn.lasting = s.lasting := by
  unfold State.judgeReturn
  split <;> simp

@[simp] theorem lasting_judgeMargin {s : State} : s.judgeMargin.lasting = s.lasting := by simp [State.judgeMargin]

@[simp] theorem lasting_drainTick {s : State} : s.drainTick.lasting = s.lasting := by
  unfold State.drainTick
  split <;> simp

@[simp] theorem execHamperTick_lasts {rails s} : (execHamperTick rails s).Lasts s := by
  simp [execHamperTick, hamperTick]

@[simp] theorem lasting_le_emptyCore {s : State} {core} {a} (h : a ≤ s.lasting) :
    a ≤ (s.emptyCore core).lasting := by
  unfold State.emptyCore
  extract_lets mine t
  have ht : a ≤ t.lasting := lasting_le_foldl h fun _ _ => by split <;> simp
  exact ht

@[simp] theorem execShedCoreGate_lasts {s} : (execShedCoreGate s).Lasts s := by
  unfold execShedCoreGate shedCoreGate
  split <;> simp

@[simp] theorem lasting_powerFail {v s} : (powerFail v s).lasting = s.lasting := by simp [powerFail]

@[simp] theorem execPowerFail_lasts {value s} : (execPowerFail value s).Lasts s := by simp [execPowerFail]

@[simp] theorem holdupCalibrate_lasts {who kind s} : (holdupCalibrate who kind s).Lasts s := by
  simp [holdupCalibrate]

@[simp] theorem execHoldupCalibrateZero_lasts {who s} : (execHoldupCalibrateZero who s).Lasts s := by
  simp [execHoldupCalibrateZero]

@[simp] theorem execHoldupCalibrateSpan_lasts {who s} : (execHoldupCalibrateSpan who s).Lasts s := by
  simp [execHoldupCalibrateSpan]

@[simp] theorem execHoldupCalibrationDone_lasts {s} : (execHoldupCalibrationDone s).Lasts s := by
  unfold execHoldupCalibrationDone holdupCalibrationDone
  dsimp only
  (repeat' split) <;> simp

@[simp] theorem moduleSleepEnter_lasts {who s} : (moduleSleepEnter who s).Lasts s := by
  simp [moduleSleepEnter]

@[simp] theorem execModuleSleepEnter_lasts {who s} : (execModuleSleepEnter who s).Lasts s := by
  simp [execModuleSleepEnter]

@[simp] theorem lasting_wantWake {s : State} : s.wantWake.lasting = s.lasting := by simp [State.wantWake]

@[simp] theorem moduleSleepLeave_lasts {who s} : (moduleSleepLeave who s).Lasts s := by
  simp [moduleSleepLeave]

@[simp] theorem execModuleSleepLeave_lasts {who s} : (execModuleSleepLeave who s).Lasts s := by
  simp [execModuleSleepLeave]

@[simp] theorem lasting_wake {v s} : (wake v s).lasting = s.lasting := by simp [wake]

@[simp] theorem execWake_lasts {value s} : (execWake value s).Lasts s := by simp [execWake]

@[simp] theorem execUnitSleepEntry_lasts {unit n s} : (execUnitSleepEntry unit n s).Lasts s := by
  unfold execUnitSleepEntry unitSleepEntry
  split <;> simp

@[simp] theorem execPreFreezeWake_lasts {inst s} : (execPreFreezeWake inst s).Lasts s := by
  simp [execPreFreezeWake, preFreezeWake]

@[simp] theorem lasting_setThermal {s : State} {st} : (s.setThermal st).lasting = s.lasting := by
  simp [State.setThermal]

@[simp] theorem lasting_judgeHeat {s : State} : s.judgeHeat.lasting = s.lasting := by
  unfold State.judgeHeat
  split <;> simp

@[simp] theorem lasting_thermalSample {temps s} : (thermalSample temps s).lasting = s.lasting := by
  unfold thermalSample
  extract_lets t u v
  have ht : t.lasting = s.lasting := lasting_foldl fun _ _ => by split <;> simp
  simp [v, u, ht]

@[simp] theorem execThermalSample_lasts {temps s} : (execThermalSample temps s).Lasts s := by
  simp [execThermalSample]

@[simp] theorem execThrottleStep_lasts {s} : (execThrottleStep s).Lasts s := by
  simp [execThrottleStep, throttleStep]

@[simp] theorem execThermalDownshiftStep_lasts {s} : (execThermalDownshiftStep s).Lasts s := by
  unfold execThermalDownshiftStep thermalDownshift
  dsimp only
  (repeat' split) <;> simp

@[simp] theorem execThermalTrip_lasts {s} : (execThermalTrip s).Lasts s := by
  simp [execThermalTrip, thermalTrip]

@[simp] theorem execThermalTripShore_lasts {s} : (execThermalTripShore s).Lasts s := by
  unfold execThermalTripShore thermalTripShore
  split <;> simp

end Sys2Proof.Machine
end

section
/-! PROOFS. What outlasts a step, under the board interfaces (Chapter 20). -/

namespace Sys2Proof.Machine

@[simp] theorem lasting_setBoard {s : State} {x} : (s.setBoard x).lasting = s.lasting := by simp [State.setBoard]

@[simp] theorem lasting_setMgmtLink {s : State} {st} : (s.setMgmtLink st).lasting = s.lasting := by
  simp [State.setMgmtLink]

@[simp] theorem execMgmtLinkChange_lasts {state s} : (execMgmtLinkChange state s).Lasts s := by
  simp [execMgmtLinkChange, mgmtLinkChange]

@[simp] theorem lasting_setPcie {s : State} {width rate} : (s.setPcie width rate).lasting = s.lasting := by
  simp [State.setPcie]

@[simp] theorem execPcieLinkChange_lasts {width rate s} : (execPcieLinkChange width rate s).Lasts s := by
  simp [execPcieLinkChange, pcieLinkChange]

@[simp] theorem execSrefCheck_lasts {edges ppm s} : (execSrefCheck edges ppm s).Lasts s := by
  simp [execSrefCheck, srefCheck]

@[simp] theorem execPePerstN_lasts {asserted s} : (execPePerstN asserted s).Lasts s := by
  simp [execPePerstN, pePerst]

@[simp] theorem bootFlashBlock_lasts {who b v s} : (bootFlashBlock who b v s).Lasts s := by
  simp only [bootFlashBlock, lasts_bind, lasts_ok]
  intros
  rw [lasting_setBoard, lasting_setImageStatus, lasting_writeFlash]

@[simp] theorem execBootFlashBlock_lasts {who b value s} : (execBootFlashBlock who b value s).Lasts s := by
  simp [execBootFlashBlock]

@[simp] theorem lasting_setLastCode {s : State} {d c} : (s.setLastCode d c).lasting = s.lasting := by
  simp [State.setLastCode]

@[simp] theorem execBootFlashBlockDone_lasts {ok s} : (execBootFlashBlockDone ok s).Lasts s := by
  unfold execBootFlashBlockDone bootFlashBlockDone
  split <;> simp

@[simp] theorem bootFlashVerify_lasts {who value s} : (bootFlashVerify who value s).Lasts s := by
  simp [bootFlashVerify]

@[simp] theorem execBootFlashVerify_lasts {who value s} : (execBootFlashVerify who value s).Lasts s := by
  simp [execBootFlashVerify]

@[simp] theorem execBootFlashVerifyDone_lasts {s} : (execBootFlashVerifyDone s).Lasts s := by
  unfold execBootFlashVerifyDone bootFlashVerifyDone
  split <;> simp

@[simp] theorem lasting_mb0Write {s : State} {p v} : (s.mb0Write p v).lasting = s.lasting := by simp [State.mb0Write]

theorem lasting_mb0Fold {data : Bytes} {s : State} {p : Nat} :
    (data.foldl (fun (x : State × Nat) o => (x.1.mb0Write x.2 o.toNat, (x.2 + 1) % 256)) (s, p)).1.lasting = s.lasting := by
  induction data generalizing s p with
  | nil => rfl
  | cons o r ih => rw [List.foldl_cons, ih, lasting_mb0Write]

@[simp] theorem lasting_mb0TargetWrite {p data s} : (mb0TargetWrite p data s).lasting = s.lasting := by
  unfold mb0TargetWrite
  split
  · rfl
  · simp [lasting_mb0Fold]

@[simp] theorem execMb0TargetWrite_lasts {pointer data s} : (execMb0TargetWrite pointer data s).Lasts s := by
  simp [execMb0TargetWrite]

@[simp] theorem lasting_mb1RecordReceive {p data s} : (mb1RecordReceive p data s).lasting = s.lasting := by
  simp [mb1RecordReceive]

@[simp] theorem execMb1RecordReceive_lasts {pointer data s} : (execMb1RecordReceive pointer data s).Lasts s := by
  simp [execMb1RecordReceive]

@[simp] theorem lasting_setBusWaiting {s : State} {bus l} : (s.setBusWaiting bus l).lasting = s.lasting := by
  simp [State.setBusWaiting]

@[simp] theorem lasting_setBusLost {s : State} {bus v} : (s.setBusLost bus v).lasting = s.lasting := by
  simp [State.setBusLost]

@[simp] theorem lasting_mbFail {s : State} {bus m} : (s.mbFail bus m).lasting = s.lasting := by simp [State.mbFail]

@[simp] theorem lasting_mbAttempt {s : State} {bus m ack} : (s.mbAttempt bus m ack).lasting = s.lasting := by
  simp [State.mbAttempt]

@[simp] theorem lasting_boardStarted {s : State} : s.boardStarted.lasting = s.lasting := by
  simp [State.boardStarted]

@[simp] theorem execBoardControllerWrite_lasts {ack s} : (execBoardControllerWrite ack s).Lasts s := by
  unfold execBoardControllerWrite boardControllerWrite
  split <;> simp

@[simp] theorem lasting_recordStarted {s : State} {monitor} : (s.recordStarted monitor).lasting = s.lasting := by
  simp [State.recordStarted]

@[simp] theorem execMb1RecordSend_lasts {monitor ack s} : (execMb1RecordSend monitor ack s).Lasts s := by
  unfold execMb1RecordSend mb1RecordSend
  split <;> simp

@[simp] theorem execMbRetry_lasts {bus ack s} : (execMbRetry bus ack s).Lasts s := by
  unfold execMbRetry mbRetry
  split <;> simp

@[simp] theorem lasting_arbitrationLost {bus monitor asTarget s} :
    (arbitrationLost bus monitor asTarget s).lasting = s.lasting := by
  unfold arbitrationLost
  extract_lets attempt
  have hattempt : ∀ m t, attempt = some (m, t) → t.lasting = s.lasting := by
    intro m t h
    unfold attempt at h
    split at h
    · cases h
      rfl
    · split at h <;>
      · obtain ⟨_, _, h⟩ := Option.map_eq_some_iff.mp h
        cases h
        simp
  clear_value attempt
  split
  · rfl
  · dsimp only
    (repeat' split) <;> simp [hattempt _ _ rfl]

@[simp] theorem execArbitrationLost_lasts {bus monitor asTarget s} :
    (execArbitrationLost bus monitor asTarget s).Lasts s := by
  simp [execArbitrationLost]

@[simp] theorem execMbBusRecovery_lasts {bus a1 s} : (execMbBusRecovery bus a1 s).Lasts s := by
  simp [execMbBusRecovery, busRecovery]

end Sys2Proof.Machine
end

section
/-! PROOFS. What outlasts a step, under the receive path of a port (R169 to R172, R195). -/

namespace Sys2Proof.Machine

@[simp] theorem lasting_takeLinkControl {s : State} {n h o} : (s.takeLinkControl n h o).lasting = s.lasting := by
  unfold State.takeLinkControl
  split <;> simp

@[simp] theorem lasting_le_takePairFrame {s : State} {n head o} {a} (h : a ≤ s.lasting) :
    a ≤ (s.takePairFrame n head o).lasting := by
  unfold State.takePairFrame
  split <;> simp [h]

@[simp] theorem lasting_takeFlowSetup {s : State} {n h o} : (s.takeFlowSetup n h o).lasting = s.lasting := by
  unfold State.takeFlowSetup
  split <;> simp

@[simp] theorem lasting_takeBroadcast {s : State} {n kind head o} : (s.takeBroadcast n kind head o).lasting = s.lasting := by
  simp [State.takeBroadcast]

@[simp] theorem lasting_le_takeXosyn {s : State} {n o} {a} (h : a ≤ s.lasting) :
    a ≤ (s.takeXosyn n o).lasting := by
  fun_cases State.takeXosyn s n o <;> simp [h]

@[simp] theorem lasting_countGood {s : State} {n o f} : (s.countGood n o f).lasting = s.lasting := by
  simp [State.countGood]

@[simp] theorem lasting_le_switched {s : State} {n o bad} {a} (h : a ≤ s.lasting) :
    a ≤ (s.switched n o bad).lasting := by
  simp [h, State.switched]

@[simp] theorem lasting_le_receiveGood {s : State} {n o} {a} (h : a ≤ s.lasting) :
    a ≤ (s.receiveGood n o).lasting := by
  simp [h, State.receiveGood]

@[simp] theorem lasting_le_receiveOversize {s : State} {n o} {a} (h : a ≤ s.lasting) :
    a ≤ (s.receiveOversize n o).lasting := by
  simp [h, State.receiveOversize]

@[simp] theorem execFrameReceive_lasts {n octets s} : (execFrameReceive n octets s).Lasts s := by
  simp [execFrameReceive, frameReceive]

end Sys2Proof.Machine
end

section
/-! PROOFS. What outlasts a step, under ponds and in-package links (Chapter 1). -/

namespace Sys2Proof.Machine

@[simp] theorem execLinkGroupDegraded_lasts {group link s} : (execLinkGroupDegraded group link s).Lasts s := by
  simp [execLinkGroupDegraded, linkGroupDegraded]

@[simp] theorem lasting_stopProcessor {s : State} {p} : (s.stopProcessor p).lasting = s.lasting := by
  simp [State.stopProcessor]

@[simp] theorem execLinkGroupFailed_lasts {group s} : (execLinkGroupFailed group s).Lasts s := by
  unfold execLinkGroupFailed linkGroupFailed
  split <;> simp

@[simp] theorem pondCreate_lasts {who pond v s} : (pondCreate who pond v s).Lasts s := by simp [pondCreate]

@[simp] theorem execPondCreateChild_lasts {who pond value s} : (execPondCreateChild who pond value s).Lasts s := by
  simp [execPondCreateChild]

@[simp] theorem pondDelete_lasts {who pond v s} : (pondDelete who pond v s).Lasts s := by simp [pondDelete]

@[simp] theorem execPondDelete_lasts {who pond value s} : (execPondDelete who pond value s).Lasts s := by
  simp [execPondDelete]

@[simp] theorem lasting_moveItem {s : State} {kind dest n} : (s.moveItem kind dest n).lasting = s.lasting := by
  simp [State.moveItem]

@[simp] theorem pondMove_lasts {who src v s} : (pondMove who src v s).Lasts s := by simp [pondMove]

@[simp] theorem execPondMove_lasts {who pond value s} : (execPondMove who pond value s).Lasts s := by
  simp [execPondMove]

@[simp] theorem lasting_applyShare {s : State} {p v} : (s.applyShare p v).lasting = s.lasting := by
  simp [State.applyShare]

@[simp] theorem execPondEnergyShareWrite_lasts {who pond value s} :
    (execPondEnergyShareWrite who pond value s).Lasts s := by
  simp [execPondEnergyShareWrite, shareWrite]

@[simp] theorem execPondReportSend_lasts {s} : (execPondReportSend s).Lasts s := by
  simp [execPondReportSend, pondReportSend]

end Sys2Proof.Machine
end

section
/-! PROOFS. What outlasts a step, under commands that run through several chapters. -/

namespace Sys2Proof.Machine

@[simp] theorem execHorizonClose_lasts {e s} : (execHorizonClose e s).Lasts s := by simp [execHorizonClose]

@[simp] theorem execIntakeFrame_lasts {s} : (execIntakeFrame s).Lasts s := by
  unfold execIntakeFrame intakeFrame
  dsimp only
  (repeat' split) <;> simp

@[simp] theorem execFilterOutput_lasts {c s} : (execFilterOutput c s).Lasts s := by
  simp [execFilterOutput, filterOutput]

@[simp] theorem execPhasorOutput_lasts {p s} : (execPhasorOutput p s).Lasts s := by simp [execPhasorOutput]

@[simp] theorem lasting_le_bindingsChanged {s : State} {a} (h : a ≤ s.lasting) :
    a ≤ s.bindingsChanged.lasting := by
  simp [h, State.bindingsChanged]

@[simp] theorem execIntakeEnable_lasts {who e value s} : (execIntakeEnable who e value s).Lasts s :=
  lasts_next.mpr (lasting_le_answer (lasts_andThen (by simp [intakeEnable]) fun _ => by simp))

@[simp] theorem execStreamAdmit_lasts {who e value s} : (execStreamAdmit who e value s).Lasts s := by
  simp [execStreamAdmit]

@[simp] theorem execStreamWithdraw_lasts {who e value s} : (execStreamWithdraw who e value s).Lasts s := by
  simp [execStreamWithdraw]

@[simp] theorem execFilterInput_lasts {who c value s} : (execFilterInput who c value s).Lasts s :=
  lasts_next.mpr (lasting_le_answer (lasts_andThen (by simp [filterInput]) fun _ => by simp))

@[simp] theorem execFilterEnable_lasts {who c value s} : (execFilterEnable who c value s).Lasts s :=
  lasts_next.mpr (lasting_le_answer (lasts_andThen (by simp [filterEnable]) fun _ => by simp))

@[simp] theorem execPhasorEnable_lasts {who p value s} : (execPhasorEnable who p value s).Lasts s :=
  lasts_next.mpr (lasting_le_answer (lasts_andThen (by simp [phasorEnable]) fun _ => by simp))

@[simp] theorem execTrackerEnable_lasts {who t value s} : (execTrackerEnable who t value s).Lasts s :=
  lasts_next.mpr (lasting_le_answer (lasts_andThen (by simp [trackerEnable]) fun _ => by simp))

@[simp] theorem execChainEccError_lasts {corrected fir n s} : (execChainEccError corrected fir n s).Lasts s := by
  simp [execChainEccError, chainEccError]

@[simp] theorem lasting_enableDomain {s : State} {d value} : (s.enableDomain d value).lasting = s.lasting := by
  simp [State.enableDomain]

@[simp] theorem execDomainEnable_lasts {who d value s} : (execDomainEnable who d value s).Lasts s := by
  simp [execDomainEnable, domainEnable]

@[simp] theorem execStepApply_lasts {d s} : (execStepApply d s).Lasts s := by
  unfold execStepApply stepAll
  split <;> simp

@[simp] theorem execShoreRefLost_lasts {s} : (execShoreRefLost s).Lasts s := by
  simp [execShoreRefLost, refLost]

end Sys2Proof.Machine
end

section
/-! PROOFS. What outlasts a step, under reads of objects. -/

namespace Sys2Proof.Machine

@[simp] theorem lasting_readRecord {s : State} {k} : (s.readRecord k).1.lasting = s.lasting := by
  fun_cases State.readRecord s k <;> simp +zetaDelta

@[simp] theorem lasting_serveRead {s : State} {who id sel active} :
    (s.serveRead who id sel active).1.lasting = s.lasting := by
  unfold State.serveRead
  split
  · split
    · next h => exact lasting_of_fst lasting_evidence h
    · next h => exact lasting_of_fst lasting_evidence h
  · split
    · split
      · next h => exact lasting_of_fst lasting_evidence h
      · next h => exact lasting_of_fst lasting_evidence h
    · split
      · split
        next h => exact lasting_of_fst lasting_readRecord h
      · split
        · simp
        · split <;> simp

@[simp] theorem lasting_readObject {s : State} {who id present sel typ active} :
    (s.readObject who id present sel typ active).1.lasting = s.lasting := by
  unfold State.readObject
  split
  · rfl
  · split
    · next h => exact lasting_of_fst lasting_serveRead h
    · next h => exact lasting_of_fst lasting_serveRead h

end Sys2Proof.Machine
end

section
/-! PROOFS. What outlasts a step, under the saved configuration (R83, R84, R670). -/

namespace Sys2Proof.Machine

@[simp] theorem lasting_setDict {s : State} {x} : (s.setDict x).lasting = s.lasting := by simp [State.setDict]

@[simp] theorem lasting_setCopy {s : State} {d c} : (s.setCopy d c).lasting = s.lasting := by simp [State.setCopy]

@[simp] theorem configSave_lasts {who value s} : (configSave who value s).Lasts s := by simp [configSave]

@[simp] theorem execConfigSave_lasts {who value s} : (execConfigSave who value s).Lasts s := by
  simp [execConfigSave]

@[simp] theorem execConfigSaveDone_lasts {ok s} : (execConfigSaveDone ok s).Lasts s := by
  unfold execConfigSaveDone configSaveDone
  split <;> simp

@[simp] theorem configRestoreDefaults_lasts {who value s} : (configRestoreDefaults who value s).Lasts s := by
  simp [configRestoreDefaults]

@[simp] theorem execConfigRestoreDefaults_lasts {who value s} : (execConfigRestoreDefaults who value s).Lasts s := by
  simp [execConfigRestoreDefaults]

end Sys2Proof.Machine
end

section
/-! PROOFS. What outlasts a step, under the checks of a written value and the block it controls (R77, R78). -/

namespace Sys2Proof.Machine

@[simp] theorem lasting_applyLow {s : State} {id v} : (s.applyLow id v).lasting = s.lasting := by simp [State.applyLow]

@[simp] theorem lasting_le_applyStreamConfig {s : State} {id e v} {a} (h : a ≤ s.lasting) :
    a ≤ (s.applyStreamConfig id e v).lasting := by
  simp [h, State.applyStreamConfig]

@[simp] theorem lasting_le_applyMid {s : State} {id v} {a} (h : a ≤ s.lasting) :
    a ≤ (s.applyMid id v).lasting := by simp [h, State.applyMid]

@[simp] theorem lasting_applyHigh {s : State} {id sel v} : (s.applyHigh id sel v).lasting = s.lasting := by
  simp [State.applyHigh]

@[simp] theorem lasting_le_applyChapter {s : State} {id sel v} {a} (h : a ≤ s.lasting) :
    a ≤ (s.applyChapter id sel v).lasting := by
  unfold State.applyChapter
  split <;> simp [h]

end Sys2Proof.Machine
end

section
/-! PROOFS. What outlasts a step, under writes of objects and the actions that they start (R67 to R72, R104). -/

namespace Sys2Proof.Machine

theorem lasting_le_after {s : State} {a : Act} (h : a.Lasts s) : s.lasting ≤ (s.after a).1.lasting := by
  cases a with
  | error c => exact le_rfl
  | ok t => exact h t rfl

@[simp] theorem refuseAction_lasts {s : State} {who id sel present v} :
    (s.refuseAction who id sel present v).Lasts s := by
  simp [State.refuseAction]

/-- The action that an object's write starts, if it starts one, keeps what outlasts the step from `s`. -/
def BegunLasts (s : State) (o : Option Act) : Prop := ∀ a, o = some a → a.Lasts s

@[simp] theorem begun_none {s : State} : BegunLasts s none := by simp [BegunLasts]

@[simp] theorem begun_some {s : State} {a : Act} : BegunLasts s (some a) ↔ a.Lasts s := by
  simp [BegunLasts]

theorem begunLasts_ite {c : Prop} [Decidable c] {s : State} {o p : Option Act} (ho : BegunLasts s o)
    (hp : BegunLasts s p) : BegunLasts s (if c then o else p) := by
  split <;> assumption

theorem actionLow_lasts {s : State} {who : Caller} {id : Nat} {v : OVal} : BegunLasts s (s.actionLow who id v) := by
  unfold State.actionLow
  dsimp only
  repeat' apply begunLasts_ite
  all_goals (repeat' split) <;> simp

theorem actionMid_lasts {s : State} {who : Caller} {id sel : Nat} {v : OVal} :
    BegunLasts s (s.actionMid who id sel v) := by
  unfold State.actionMid
  dsimp only
  repeat' apply begunLasts_ite
  all_goals (repeat' split) <;> simp

theorem actionHigh_lasts {s : State} {who : Caller} {id : Nat} {v : OVal} : BegunLasts s (s.actionHigh who id v) := by
  unfold State.actionHigh
  dsimp only
  repeat' apply begunLasts_ite
  all_goals (repeat' split) <;> simp

theorem lasting_le_of_action {s : State} {who : Caller} {id sel : Nat} {v : OVal} {p : State × Nat}
    (h : s.action who id sel v = some p) : s.lasting ≤ p.1.lasting := by
  unfold State.action at h
  split at h
  · cases h
    simp
  · obtain ⟨a, ha, rfl⟩ := Option.map_eq_some_iff.mp h
    apply lasting_le_after
    split at ha
    case h_6 | h_7 | h_8 => exact actionHigh_lasts a ha
    case h_9 => exact actionLow_lasts a ha
    all_goals exact actionMid_lasts a ha

@[simp] theorem lasting_le_putValue {s : State} {who r id sel v} :
    s.lasting ≤ (s.putValue who r id sel v).1.lasting := by
  unfold State.putValue
  split
  · next h => exact lasting_le_of_action h
  · split
    · dsimp only
      split <;> simp
    · exact lasting_le_after (by simp)

@[simp] theorem lasting_le_writeObject {s : State} {who id present sel typ b} :
    s.lasting ≤ (s.writeObject who id present sel typ b).1.lasting := by
  unfold State.writeObject
  (repeat' split) <;> simp

@[simp] theorem stageObject_lasts {s : State} {who k id present sel typ b} :
    (s.stageObject who k id present sel typ b).Lasts s := by
  simp only [State.stageObject, lasts_bind]
  intros
  split <;> simp

@[simp] theorem lasting_le_putObject {s : State} {who k id present sel typ b} :
    s.lasting ≤ (s.putObject who k id present sel typ b).1.lasting := by
  unfold State.putObject
  split
  · split
    · exact lasting_le_after (by simp)
    · simp
  · simp

@[simp] theorem lasting_le_commitEntry {s : State} {who e base} :
    s.lasting ≤ (s.commitEntry who e base).1.lasting := by
  unfold State.commitEntry
  dsimp only
  (repeat' split) <;> simp

/-- A set that is applied keeps what outlasts the step from the state that it starts from. -/
theorem lasting_le_of_commitRun_ok {s t base : State} {who : Caller} {n : Nat} {l : List StageEnt}
    {bs cs : List (Nat × Block)} (h : s.commitRun who base n l bs = .ok (t, cs)) : s.lasting ≤ t.lasting := by
  induction l generalizing s n bs with
  | nil =>
    cases h
    exact le_rfl
  | cons e l ih =>
    unfold State.commitRun at h
    split at h
    · next hentry =>
      have hfirst := lasting_le_commitEntry (s := s) (who := who) (e := e) (base := base)
      rw [hentry] at hfirst
      exact hfirst.trans (ih h)
    · cases h

/-- A set that is refused leaves the state that it was to be applied to, but for an event. -/
theorem lasting_of_commitRun_error {s t base : State} {who : Caller} {n m c : Nat} {l : List StageEnt}
    {bs : List (Nat × Block)} (h : s.commitRun who base n l bs = .error (m, c, t)) : t.lasting = base.lasting := by
  induction l generalizing s n bs with
  | nil => cases h
  | cons e l ih =>
    unfold State.commitRun at h
    split at h
    · exact ih h
    · cases h
      simp

theorem lasting_le_of_commitSet_done {s t : State} {who : Caller} {l : List StageEnt}
    (h : s.commitSet who l = .done t) : s.lasting ≤ t.lasting := by
  unfold State.commitSet at h
  split at h
  · cases h
  · next hrun =>
    dsimp only at h
    (repeat' split at h) <;> cases h
    exact lasting_le_of_commitRun_ok hrun

theorem lasting_of_commitSet_failed {s t : State} {who : Caller} {l : List StageEnt} {n c : Nat}
    (h : s.commitSet who l = .failed n c t) : t.lasting = s.lasting := by
  unfold State.commitSet at h
  split at h
  · next hrun =>
    cases h
    exact lasting_of_commitRun_error hrun
  · dsimp only at h
    (repeat' split at h) <;> cases h
    rfl

@[simp] theorem lasting_startQuiesce {s : State} {l} : (s.startQuiesce l).lasting = s.lasting := by
  simp [State.startQuiesce]

@[simp] theorem lasting_resumeBlocks {s : State} {l} : (s.resumeBlocks l).lasting = s.lasting := by
  simp [State.resumeBlocks]

end Sys2Proof.Machine
end

section
/-! PROOFS. What outlasts a step, under Balmuene and the object windows (R65 to R80, R90 to R102, R712). -/

namespace Sys2Proof.Machine

@[simp] theorem lasting_setWindow {s : State} {k x} : (s.setWindow k x).lasting = s.lasting := by simp [State.setWindow]

@[simp] theorem lasting_openWindow {s : State} {k} : (s.openWindow k).lasting = s.lasting := by
  fun_cases State.openWindow s k <;> simp

@[simp] theorem lasting_sendReply {s : State} {addr port k r} : (s.sendReply addr port k r).lasting = s.lasting := by
  simp [State.sendReply]

@[simp] theorem lasting_conclude {s : State} {k r dests} : (s.conclude k r dests).lasting = s.lasting := by
  unfold State.conclude
  (repeat' split) <;> simp

@[simp] theorem lasting_dropDatagram {s : State} : s.dropDatagram.lasting = s.lasting := by
  simp [State.dropDatagram]

@[simp] theorem lasting_duplicate {s : State} {h x} : (s.duplicate h x).lasting = s.lasting := by
  fun_cases State.duplicate s h x <;> simp +zetaDelta

/-- An operation of a session keeps what outlasts the step from the state it starts from. -/
def Run.Lasts (run : Run) : Prop := ∀ s who, s.lasting ≤ (run s who).1.lasting

theorem lasting_le_of_run {run : Run} (h : run.Lasts) {s t : State} {who : Caller} {r : Option (Nat × ReplyBody)}
    (hrun : run s who = (t, r)) : s.lasting ≤ t.lasting := by
  have hlasts := h s who
  rwa [hrun] at hlasts

theorem lasting_le_balmuene {s : State} {h : Header} {op : Nat} {whole : Bool} {run : Run} (hrun : run.Lasts) :
    s.lasting ≤ (s.balmuene h op whole run).lasting := by
  fun_cases State.balmuene s h op whole run
  case case6 hr | case7 hr => simpa +zetaDelta using lasting_le_of_run hrun hr
  all_goals simp +zetaDelta

theorem lasting_le_windowOp {s : State} {k op : Nat} {run : Run} (hrun : run.Lasts) :
    s.lasting ≤ (s.windowOp k op run).lasting := by
  fun_cases State.windowOp s k op run
  case case5 hr | case6 hr => simpa +zetaDelta using lasting_le_of_run hrun hr
  all_goals simp +zetaDelta

theorem lasting_le_runOn {via : Via} {op : Nat} {whole : Bool} {run : Run} {s : State} (hrun : run.Lasts) :
    s.lasting ≤ (runOn via op whole run s).lasting := by
  unfold runOn
  split
  · exact lasting_le_balmuene hrun
  · exact lasting_le_windowOp hrun

@[simp] theorem lasting_getItems {s : State} {who window active room l acc} :
    (s.getItems who window active room l acc).1.lasting = s.lasting := by
  induction l generalizing s room acc with
  | nil => rfl
  | cons i l ih =>
    unfold State.getItems
    split
    · next h => rw [ih, lasting_of_fst lasting_readObject h]
    · next h =>
      dsimp only
      split <;> rw [ih, lasting_of_fst lasting_readObject h]

theorem lasting_le_writeItems {s : State} {f : State → Item → State × Nat}
    (hf : ∀ t i, t.lasting ≤ (f t i).1.lasting) {l : List Item} {acc : List ReplyItem} :
    s.lasting ≤ (s.writeItems f l acc).1.lasting := by
  induction l generalizing s acc with
  | nil => exact le_rfl
  | cons i l ih => exact (hf s i).trans ih

theorem itemsRun_lasts {via : Via} {l : List Item} {f : State → Caller → State × List ReplyItem}
    (hf : ∀ s who, s.lasting ≤ (f s who).1.lasting) : (itemsRun via l f).Lasts := by
  intro s who
  unfold itemsRun
  split
  · exact hf s who
  · exact le_rfl

@[simp] theorem execGet_lasts {via active items s} : (execGet via active items s).Lasts s :=
  lasts_next.mpr (lasting_le_runOn (itemsRun_lasts fun _ _ => by simp))

@[simp] theorem execPut_lasts {via items s} : (execPut via items s).Lasts s :=
  lasts_next.mpr (lasting_le_runOn (itemsRun_lasts fun _ _ => lasting_le_writeItems fun _ _ => by simp))

@[simp] theorem execStage_lasts {via items s} : (execStage via items s).Lasts s :=
  lasts_next.mpr (lasting_le_runOn (itemsRun_lasts fun _ _ => lasting_le_writeItems fun _ _ => lasting_le_after (by simp)))

@[simp] theorem lasting_clearStage {s : State} {k} : (s.clearStage k).lasting = s.lasting := by
  unfold State.clearStage
  split <;> simp

@[simp] theorem lasting_waitCommit {s : State} {k timed l blocks} : (s.waitCommit k timed l blocks).lasting = s.lasting := by
  simp [State.waitCommit]

theorem commitRunNow_lasts : Run.Lasts commitRunNow := by
  intro s who
  unfold commitRunNow
  split
  · exact le_rfl
  · split
    · next h => simpa using lasting_le_of_commitSet_done h
    · next h => simp [lasting_of_commitSet_failed h]
    · simp

@[simp] theorem execCommit_lasts {via s} : (execCommit via s).Lasts s :=
  lasts_next.mpr (lasting_le_runOn commitRunNow_lasts)

theorem commitRunAt_lasts {d time : Nat} : Run.Lasts (commitRunAt d time) := by
  intro s who
  unfold commitRunAt
  split
  · exact le_rfl
  · split
    · exact le_rfl
    · split
      · next h => simp [lasting_of_commitRun_error h]
      · simp

@[simp] theorem execCommitAt_lasts {via dom time s} : (execCommitAt via dom time s).Lasts s :=
  lasts_next.mpr (lasting_le_runOn commitRunAt_lasts)

@[simp] theorem execDiscard_lasts {via s} : (execDiscard via s).Lasts s := by
  refine lasts_next.mpr (lasting_le_runOn fun s who => ?_)
  dsimp only
  split <;> simp

@[simp] theorem lasting_failTimed {s : State} {k entry code} : (s.failTimed k entry code).lasting = s.lasting := by
  simp [State.failTimed]

@[simp] theorem lasting_commitEnds {s : State} {j entry code} : (s.commitEnds j entry code).lasting = s.lasting := by
  simp [State.commitEnds]

@[simp] theorem lasting_dropJob {s : State} {j} : (s.dropJob j).lasting = s.lasting := by simp [State.dropJob]

@[simp] theorem lasting_le_quiesceComplete {k s} : s.lasting ≤ (quiesceComplete k s).lasting := by
  unfold quiesceComplete
  split
  · dsimp only
    split
    · next h => simp [lasting_of_commitRun_error h]
    · next h =>
      have hdone := lasting_le_of_commitRun_ok h
      split
      · simp
      · simpa using hdone
  · exact le_rfl

@[simp] theorem execQuiesceComplete_lasts {sess s} : (execQuiesceComplete sess s).Lasts s := by
  simp [execQuiesceComplete]

@[simp] theorem execQuiesceTimeout_lasts {sess s} : (execQuiesceTimeout sess s).Lasts s := by
  unfold execQuiesceTimeout quiesceTimeout
  split <;> simp

@[simp] theorem lasting_le_timedApply {k s} : s.lasting ≤ (timedApply k s).lasting := by
  unfold timedApply
  split
  · exact le_rfl
  · split
    · exact le_rfl
    · split
      · exact le_rfl
      · dsimp only
        split
        · next h => simpa using lasting_le_of_commitSet_done h
        · next h => simp [lasting_of_commitSet_failed h]
        · simp

@[simp] theorem execTimedCommitApply_lasts {sess s} : (execTimedCommitApply sess s).Lasts s := by
  simp [execTimedCommitApply]

theorem describeRun_lasts {window : Bool} {i : Item} : Run.Lasts (describeRun window i) := by
  intro s who
  unfold describeRun
  split <;> exact le_rfl

@[simp] theorem execDescribe_lasts {via item s} : (execDescribe via item s).Lasts s :=
  lasts_next.mpr (lasting_le_runOn describeRun_lasts)

theorem readSegmentRun_lasts {window : Bool} {i : Item} {offset count : Nat} :
    Run.Lasts (readSegmentRun window i offset count) := by
  intro s who
  unfold readSegmentRun
  split
  · next h => simp [lasting_of_fst lasting_readObject h]
  · next h => simp [lasting_of_fst lasting_readObject h]

@[simp] theorem execReadSegment_lasts {via item offset count s} : (execReadSegment via item offset count s).Lasts s :=
  lasts_next.mpr (lasting_le_runOn readSegmentRun_lasts)

@[simp] theorem lasting_le_writeSegment {s : State} {who i offset} :
    s.lasting ≤ (s.writeSegment who i offset).1.lasting := by
  fun_cases State.writeSegment s who i offset
  case case5 =>
    refine le_trans ?_ lasting_le_putObject
    simp +zetaDelta
  all_goals simp +zetaDelta

@[simp] theorem execWriteSegment_lasts {via item offset s} : (execWriteSegment via item offset s).Lasts s :=
  lasts_next.mpr (lasting_le_runOn fun _ _ => lasting_le_writeSegment)

@[simp] theorem lasting_openBalmuene {s : State} {h role reserved sel} :
    (s.openBalmuene h role reserved sel).lasting = s.lasting := by
  fun_cases State.openBalmuene s h role reserved sel <;> simp

@[simp] theorem execOpenSession_lasts {h route role reserved sel s} :
    (execOpenSession h route role reserved sel s).Lasts s := by
  have hrefused : Run.Lasts fun t _ => (t, some (Code.malformed.value, .empty)) := fun _ _ => le_rfl
  simp only [execOpenSession, lasts_next]
  cases route with
  | dtls => simp
  | udp => simp
  | window w => exact lasting_le_windowOp hrefused
  | pf => exact lasting_le_windowOp hrefused
  | vf n => exact lasting_le_windowOp hrefused

@[simp] theorem execClose_lasts {h s} : (execClose h s).Lasts s :=
  lasts_next.mpr (lasting_le_balmuene fun _ _ => by simp)

@[simp] theorem execKeepalive_lasts {h s} : (execKeepalive h s).Lasts s :=
  lasts_next.mpr (lasting_le_balmuene fun _ _ => le_rfl)

@[simp] theorem execSessionTimeout_lasts {sess s} : (execSessionTimeout sess s).Lasts s := by
  unfold execSessionTimeout sessionTimeout
  split <;> simp

@[simp] theorem execDtlsHandshake_lasts {addr port assoc cookie client ok s} :
    (execDtlsHandshake addr port assoc cookie client ok s).Lasts s := by
  simp [execDtlsHandshake, dtlsHandshake]

@[simp] theorem execDtlsAssociationEnd_lasts {assoc s} : (execDtlsAssociationEnd assoc s).Lasts s := by
  simp [execDtlsAssociationEnd, dtlsEnd]

@[simp] theorem execLocalWindowBinding_lasts {who w value s} : (execLocalWindowBinding who w value s).Lasts s := by
  simp [execLocalWindowBinding, localWindowBinding]

@[simp] theorem execWinControlCollision_lasts {w value s} : (execWinControlCollision w value s).Lasts s := by
  simp [execWinControlCollision, winControlCollision]

@[simp] theorem lasting_windowCompletion {k s} : (windowCompletion k s).lasting = s.lasting := by
  fun_cases windowCompletion k s <;> simp +zetaDelta

@[simp] theorem execWindowCompletion_lasts {w s} : (execWindowCompletion w s).Lasts s := by
  simp [execWindowCompletion]

end Sys2Proof.Machine
end

section
/-! PROOFS. What outlasts a step, under the scan instruction set (Chapter 11). -/

namespace Sys2Proof.Machine

@[simp] theorem lasting_isaRun {i c f s} : (isaRun i c f s).1.lasting = s.lasting := by
  fun_cases isaRun i c f s <;> simp

@[simp] theorem execEndscan_lasts {inst s} : (execEndscan inst s).Lasts s := by
  unfold execEndscan State.endScan
  dsimp only
  (repeat' split) <;> simp

@[simp] theorem execIllegalInstruction_lasts {inst s} : (execIllegalInstruction inst s).Lasts s := by
  unfold execIllegalInstruction illegalInstruction
  (repeat' split) <;> simp

@[simp] theorem execRetainedStoreWait_lasts {a0 s} : (execRetainedStoreWait a0 s).Lasts s := by
  simp [execRetainedStoreWait]

@[simp] theorem execOverrun_lasts {inst s} : (execOverrun inst s).Lasts s := by simp [execOverrun, overrun]

end Sys2Proof.Machine
end

section
/-! PROOFS. What outlasts a step, under the configuration load at start-up (R669, R670, R674). -/

namespace Sys2Proof.Machine

@[simp] theorem lasting_le_loadEntry {s : State} {id v} : s.lasting ≤ (s.loadEntry id v).1.lasting := by
  unfold State.loadEntry
  split
  · exact le_rfl
  · dsimp only
    split
    · exact le_rfl
    · split
      · exact lasting_le_after (by simp)
      · simp

@[simp] theorem lasting_le_loadOne {s : State} {id v} : s.lasting ≤ (s.loadOne id v).lasting := by
  have hentry := lasting_le_loadEntry (s := s) (id := id) (v := v)
  unfold State.loadOne
  split
  · next h => rwa [h] at hentry
  · next h =>
    rw [h] at hentry
    dsimp only
    split <;> simpa using hentry

@[simp] theorem lasting_forgetReloaded {s : State} : s.forgetReloaded.lasting = s.lasting := by
  simp [State.forgetReloaded]

@[simp] theorem lasting_le_configLoad {s} : s.lasting ≤ (configLoad s).lasting := by
  unfold configLoad
  split
  · exact le_rfl
  extract_lets wake t start u v w x steps y dict
  have hw : w.lasting = v.lasting := lasting_foldl fun _ _ => by split <;> simp
  have hx : x.lasting = s.lasting := by simp [x, hw, v, u, t]
  clear_value x
  have hy : s.lasting ≤ y.lasting := by
    rw [← hx]
    unfold y
    split
    · simp
    · extract_lets z z'
      have hz : z.lasting = x.lasting := by simp [z]
      have hz' : z.lasting ≤ z'.lasting := lasting_le_foldl le_rfl fun _ _ => lasting_le_foldl le_rfl fun _ _ => by
        (repeat' split) <;> simp
      rw [hz] at hz'
      simpa using hz'
  clear_value y
  split <;> simpa using hy

@[simp] theorem execConfigLoad_lasts {s} : (execConfigLoad s).Lasts s := by simp [execConfigLoad]

end Sys2Proof.Machine
end

section
/-! PROOFS. What outlasts a step, under direct registers (R18). -/

namespace Sys2Proof.Machine

@[simp] theorem lasting_writeWindow {s : State} {k offset v} : (s.writeWindow k offset v).lasting = s.lasting := by
  simp [State.writeWindow]

@[simp] theorem lasting_writeFio {s : State} {i offset v} : (s.writeFio i offset v).lasting = s.lasting := by
  simp [State.writeFio]

@[simp] theorem lasting_writeBasket {s : State} {i offset v} : (s.writeBasket i offset v).lasting = s.lasting := by
  simp [State.writeBasket]

@[simp] theorem lasting_writeKinst {s : State} {core v} : (s.writeKinst core v).lasting = s.lasting := by
  simp [State.writeKinst]

@[simp] theorem lasting_writeMsix {s : State} {fn offset v} : (s.writeMsix fn offset v).lasting = s.lasting := by
  simp [State.writeMsix]

@[simp] theorem execRegisterWrite_lasts {page offset value s} : (execRegisterWrite page offset value s).Lasts s := by
  unfold execRegisterWrite registerWrite
  split <;> simp

end Sys2Proof.Machine
end

section
/-! PROOFS. What outlasts a step, under every command. -/

namespace Sys2Proof.Machine

theorem isaRun_lasts {i : Nat} {c : IsaOp} {f : Effect} {s : State} : Res.Lasts s (.next (isaRun i c f s).1) := by
  simp

/-- What outlasts a command: an instruction through `isaRun`, any other by the lemma about its meaning. -/
theorem exec_lasts (c : Instr) (s : State) : Res.Lasts s (exec c s) := by
  cases c
  all_goals simp
  all_goals exact isaRun_lasts -- what `simp` leaves are the scan instructions

/-- A step that answers a next state raises MinSecurityVersion or leaves it, and keeps a canonical memory. -/
theorem lasting_le_of_step {s t : State} (h : step s = .next t) : s.lasting ≤ t.lasting := by
  unfold step at h
  split at h
  · cases h
    simp [State.tick]
  · simpa [State.withQueue] using exec_lasts _ _ t h

/-- Settles O58: no command breaks the canonical form, and a tick leaves the memory alone. -/
theorem stepsKeepMemoryCanonical : Obligations.StepsKeepMemoryCanonical := by
  unfold Obligations.StepsKeepMemoryCanonical
  intro s t hwf hstep
  exact Bool.le_iff_imp.mp (lasting_le_of_step hstep).2 hwf

/-- Settles O60: no command lowers the version, and a tick leaves the security state alone. -/
theorem securityVersionNeverFalls : Obligations.SecurityVersionNeverFalls := by
  unfold Obligations.SecurityVersionNeverFalls
  intro s t hstep
  exact (lasting_le_of_step hstep).1

end Sys2Proof.Machine
end

section
/-! PROOFS. What integer, move and flag instructions deliver (Chapter 11; R424 to R426; Tables 11-4 to 11-8 and 11-12): each
result as an operation on machine words, and each instruction by the rule of its effect. -/

namespace Sys2Proof.Machine

/-! ### Rules of the effects -/

/-- An integer instruction delivers what its operation gives. -/
theorem next_alu {s : State} {i : Nat} {c : IsaOp} {d : Fin 32} {f : (Nat → BitVec 64) → IsaSt → IntOut}
    {v : BitVec 64} {cy ov dz : Bool} (h : s.readyFor i c = true)
    (hf : f (s.regs i).getG (s.stepped i c) = ⟨v, cy, ov, dz⟩) :
    (.next (isaRun i c (alu d f) s).1 : Res) = .next (s.withRegs i ((s.stepped i c).deliver d v cy ov dz)) := by
  rw [isaRun_regs h fun _ _ => alu_eq ..]
  simp [hf]

/-- A move writes its register alone. -/
theorem next_move {s : State} {i : Nat} {c : IsaOp} {d : Fin 32} {f : (Nat → BitVec 64) → BitVec 64} {v : BitVec 64}
    (h : s.readyFor i c = true) (hf : f (s.regs i).getG = v) :
    (.next (isaRun i c (move d f) s).1 : Res) = .next (s.withRegs i ((s.stepped i c).setG d v)) := by
  rw [isaRun_regs h fun _ _ => rfl]
  simp [hf]

/-- A comparison replaces FLAGS alone. -/
theorem next_compare {s : State} {i : Nat} {c : IsaOp} {f : (Nat → BitVec 64) → BitVec 64 × BitVec 64} {a b v : BitVec 64}
    {cy ov dz : Bool} (h : s.readyFor i c = true) (hf : f (s.regs i).getG = (a, b)) (hsub : subInt a b = ⟨v, cy, ov, dz⟩) :
    (.next (isaRun i c (compare f) s).1 : Res)
      = .next (s.withRegs i ((s.stepped i c).withFlags (setFlags (s.regs i).flags v.msb (v == 0) cy ov false false))) := by
  rw [isaRun_regs h (r := (s.stepped i c).withFlags (setFlags (s.regs i).flags v.msb (v == 0) cy ov false false))]
  intro _ _
  simp [compare, hf, hsub, IsaSt.withFlags]

/-! ### Sums and products (R424) -/

theorem ofInt_sub (x y : BitVec 64) : BitVec.ofInt 64 (x.toInt - y.toInt) = x - y := by
  rw [Int.sub_eq_add_neg, BitVec.ofInt_add, BitVec.ofInt_neg, BitVec.ofInt_toInt, BitVec.ofInt_toInt, BitVec.sub_eq_add_neg]

theorem addInt_eq (x y : BitVec 64) :
    addInt x y = ⟨x + y, decide (2 ^ 64 ≤ x.toNat + y.toNat), outside64 (x.toInt + y.toInt), false⟩ := by
  simp [addInt, wrapping, outside64, BitVec.ofInt_add]

theorem subInt_eq (x y : BitVec 64) :
    subInt x y = ⟨x - y, decide (y.toNat ≤ x.toNat), outside64 (x.toInt - y.toInt), false⟩ := by
  simp [subInt, wrapping, outside64, ofInt_sub]

theorem sub_beq_zero (x y : BitVec 64) : (x - y == 0) = (x == y) := by
  rw [Bool.eq_iff_iff, beq_iff_eq, beq_iff_eq]
  bv_omega

theorem wrapping_neg (x : BitVec 64) : wrapping (-x.toInt) = ⟨-x, false, outside64 (-x.toInt), false⟩ := by
  simp [wrapping, outside64, BitVec.ofInt_neg]

theorem wrapping_abs (x : BitVec 64) :
    wrapping (x.toInt.natAbs : Int) = ⟨if x.toInt < 0 then -x else x, false, outside64 |x.toInt|, false⟩ := by
  rw [Int.natCast_natAbs]
  simp only [wrapping, outside64, IntOut.mk.injEq, and_true]
  split
  · next hneg => rw [abs_of_neg hneg, BitVec.ofInt_neg, BitVec.ofInt_toInt]
  · next hpos => rw [abs_of_nonneg (not_lt.mp hpos), BitVec.ofInt_toInt]

theorem wrapping_mul (x y : BitVec 64) :
    wrapping (x.toInt * y.toInt) = ⟨x * y, false, outside64 (x.toInt * y.toInt), false⟩ := by
  simp [wrapping, outside64, BitVec.ofInt_mul]

/-- Saturation to `w` bits delivers the nearest value of its range, and tells whether that is another one. -/
theorem saturating_eq (w : Nat) (x : Int) :
    saturating w x = ⟨BitVec.ofInt 64 (nearest w x), false, decide (nearest w x ≠ x), false⟩ := by
  have hsaturate : saturate x w = (nearest w x, decide (nearest w x ≠ x)) := by
    have hm : (0 : Int) < 2 ^ (w - 1) := by positivity
    unfold saturate nearest
    generalize (2 : Int) ^ (w - 1) = m at hm
    dsimp only
    (repeat' split) <;> refine Prod.ext (by dsimp only; omega) ?_ <;> simp <;> omega
  rw [saturating, hsaturate]

/-- The high 64 bits of a signed product. -/
theorem ofInt_mulh (x y : BitVec 64) : BitVec.ofInt 64 (x.toInt * y.toInt / 2 ^ 64)
    = (x.signExtend 128 * y.signExtend 128).extractLsb' 64 64 := by
  have hprod : x.signExtend 128 * y.signExtend 128 = BitVec.ofInt 128 (x.toInt * y.toInt) := by
    rw [BitVec.ofInt_mul, BitVec.signExtend, BitVec.signExtend]
  rw [hprod]
  generalize x.toInt * y.toInt = p
  apply BitVec.eq_of_toNat_eq
  rw [BitVec.toNat_ofInt, BitVec.extractLsb'_toNat, BitVec.toNat_ofInt, Nat.shiftRight_eq_div_pow]
  omega

/-- The high 64 bits of an unsigned product. -/
theorem ofNat_mulhu (x y : BitVec 64) : BitVec.ofNat 64 (x.toNat * y.toNat / 2 ^ 64)
    = (x.setWidth 128 * y.setWidth 128).extractLsb' 64 64 := by
  apply BitVec.eq_of_toNat_eq
  have hx : x.toNat % 2 ^ 128 = x.toNat := by omega
  have hy : y.toNat % 2 ^ 128 = y.toNat := by omega
  rw [BitVec.toNat_ofNat, BitVec.extractLsb'_toNat, BitVec.toNat_mul, BitVec.toNat_setWidth, BitVec.toNat_setWidth, hx, hy,
    Nat.shiftRight_eq_div_pow]
  omega

/-- Settles O22: each instruction by the rule of its effect and the equation of its result. -/
theorem isaArithmetic : Obligations.IsaArithmetic := by
  unfold Obligations.IsaArithmetic
  refine ⟨?add, ?addi, ?sub, ?adds, ?subs, ?neg, ?negs, ?abs, ?abss, ?mul, ?muls, ?mulh, ?mulhu, ?sat16, ?sat32, ?cmp, ?cmpi⟩
  case add => exact fun s i d a b h => next_alu h (addInt_eq _ _)
  case addi => exact fun s i d a imm h => next_alu h (addInt_eq _ _)
  case sub => exact fun s i d a b h => next_alu h (subInt_eq _ _)
  case adds => exact fun s i d a b h => next_alu h (saturating_eq _ _)
  case subs => exact fun s i d a b h => next_alu h (saturating_eq _ _)
  case neg => exact fun s i d a h => next_alu h (wrapping_neg _)
  case negs => exact fun s i d a h => next_alu h (saturating_eq _ _)
  case abs => exact fun s i d a h => next_alu h (wrapping_abs _)
  case abss => exact fun s i d a h => next_alu h (by rw [Int.natCast_natAbs]; exact saturating_eq _ _)
  case mul => exact fun s i d a b h => next_alu h (wrapping_mul _ _)
  case muls => exact fun s i d a b h => next_alu h (saturating_eq _ _)
  case mulh => exact fun s i d a b h => next_alu h (congrArg plain (ofInt_mulh _ _))
  case mulhu => exact fun s i d a b h => next_alu h (congrArg plain (ofNat_mulhu _ _))
  case sat16 => exact fun s i d a h => next_alu h (saturating_eq _ _)
  case sat32 => exact fun s i d a h => next_alu h (saturating_eq _ _)
  case cmp =>
    intro s i a b h
    rw [← sub_beq_zero]
    exact next_compare h rfl (subInt_eq _ _)
  case cmpi =>
    intro s i a imm h
    rw [← sub_beq_zero]
    exact next_compare h rfl (subInt_eq _ _)

/-! ### Division (R426) -/

theorem divide_eq (x y : BitVec 64) :
    divide x y = ⟨x.sdiv y, false, x == BitVec.intMin 64 && y == -1, y == 0⟩ := by
  unfold divide
  split
  · next hzero => simp [hzero]
  · next hy =>
    have hflag : (y == 0) = false := beq_eq_false_iff_ne.mpr hy
    have hval : BitVec.ofInt 64 (x.toInt.tdiv y.toInt) = x.sdiv y := by
      apply BitVec.eq_of_toInt_eq
      rw [BitVec.toInt_ofInt, BitVec.toInt_sdiv]
    have hover : decide (x.toInt.tdiv y.toInt < -(2 ^ 63) ∨ 2 ^ 63 ≤ x.toInt.tdiv y.toInt) = (x == BitVec.intMin 64 && y == -1) := by
      by_cases hx : x = BitVec.intMin 64 ∧ y = -1#64
      · obtain ⟨rfl, rfl⟩ := hx
        decide
      · have hne : x ≠ BitVec.intMin 64 ∨ y ≠ -1#64 := by tauto
        have hlow := (x.sdiv y).le_toInt
        have hhigh := (x.sdiv y).toInt_lt
        rw [BitVec.toInt_sdiv_of_ne_or_ne x y hne] at hlow hhigh
        have hnone : (x == BitVec.intMin 64 && y == -1) = false := by simpa using hx
        rw [hnone, decide_eq_false_iff_not]
        omega
    rw [wrapping, hval, hover, hflag]

theorem divideU_eq (x y : BitVec 64) : divideU x y = ⟨x / y, false, false, y == 0⟩ := by
  unfold divideU
  split
  · next hzero => simp [hzero]
  · next hy => rw [plain, ← BitVec.udiv_def, beq_eq_false_iff_ne.mpr hy]

theorem remainder_eq (x y : BitVec 64) : remainder x y = ⟨x.srem y, false, false, y == 0⟩ := by
  unfold remainder
  split
  · next hzero => simp [hzero]
  · next hy =>
    have hval : BitVec.ofInt 64 (x.toInt.tmod y.toInt) = x.srem y := by
      rw [← BitVec.toInt_srem, BitVec.ofInt_toInt]
    rw [plain, hval, beq_eq_false_iff_ne.mpr hy]

theorem remainderU_eq (x y : BitVec 64) : remainderU x y = ⟨x % y, false, false, y == 0⟩ := by
  unfold remainderU
  split
  · next hzero => simp [hzero]
  · next hy => rw [plain, ← BitVec.umod_def, beq_eq_false_iff_ne.mpr hy]

/-- Quotient and remainder give back the dividend (R426). -/
theorem sdiv_mul_add_srem (x y : BitVec 64) : x = x.sdiv y * y + x.srem y := by
  have hq : BitVec.ofInt 64 (x.toInt.tdiv y.toInt) = x.sdiv y := by
    apply BitVec.eq_of_toInt_eq
    rw [BitVec.toInt_ofInt, BitVec.toInt_sdiv]
  have hr : BitVec.ofInt 64 (x.toInt.tmod y.toInt) = x.srem y := by
    rw [← BitVec.toInt_srem, BitVec.ofInt_toInt]
  calc x = BitVec.ofInt 64 (x.toInt.tdiv y.toInt * y.toInt + x.toInt.tmod y.toInt) := by
          rw [Int.tdiv_mul_add_tmod, BitVec.ofInt_toInt]
    _ = x.sdiv y * y + x.srem y := by rw [BitVec.ofInt_add, BitVec.ofInt_mul, BitVec.ofInt_toInt, hq, hr]

/-- Settles O23: each instruction by its equation; the remainder takes the sign of the dividend. -/
theorem isaDivision : Obligations.IsaDivision := by
  unfold Obligations.IsaDivision
  refine ⟨?div, ?divu, ?rem, ?remu, fun x y => ⟨sdiv_mul_add_srem x y, ?nonneg, ?nonpos⟩⟩
  case div => exact fun s i d a b h => next_alu h (divide_eq _ _)
  case divu => exact fun s i d a b h => next_alu h (divideU_eq _ _)
  case rem => exact fun s i d a b h => next_alu h (remainder_eq _ _)
  case remu => exact fun s i d a b h => next_alu h (remainderU_eq _ _)
  case nonneg =>
    intro hx
    rw [BitVec.toInt_srem]
    exact Int.tmod_nonneg _ hx
  case nonpos =>
    intro hx
    have hneg := Int.tmod_nonneg y.toInt (Int.neg_nonneg.mpr hx)
    rw [Int.neg_tmod] at hneg
    rw [BitVec.toInt_srem]
    omega

/-! ### Logic, shifts and the places of bits (R425) -/

theorem imm16_eq (imm : Fin 65536) : imm16 imm = BitVec.ofNat 64 imm := by
  rw [imm16, Nat.mod_eq_of_lt imm.isLt]

theorem shiftLeft_eq (x : BitVec 64) (n : Nat) : shiftLeft x n = x <<< n := by
  unfold shiftLeft
  split
  · next h => rw [BitVec.shiftLeft_eq_zero h]; rfl
  · rfl

theorem shiftRight_eq (x : BitVec 64) (n : Nat) : shiftRight x n = x >>> n := by
  unfold shiftRight
  split
  · next h => rw [BitVec.ushiftRight_eq_zero h]; rfl
  · rfl

/-- A shift by 64 or more leaves the sign alone, as one by 64 does. -/
theorem shiftSign_eq (x : BitVec 64) (n : Nat) : shiftSign x n = x.sshiftRight n := by
  unfold shiftSign
  ext k hk
  rw [BitVec.getElem_sshiftRight, BitVec.getElem_sshiftRight]
  by_cases hn : n ≤ 64
  · simp [Nat.min_eq_left hn]
  · have hfar : ¬ n + k < 64 := by omega
    simp [Nat.min_eq_right (by omega : 64 ≤ n), hfar]

theorem zext_eq (x : BitVec 64) {k : Nat} (hk : k ≤ 64) : (x.setWidth k).setWidth 64 = x &&& BitVec.ofNat 64 (2 ^ k - 1) := by
  apply BitVec.eq_of_toNat_eq
  have hlow : 2 ^ k - 1 < 2 ^ 64 := by
    have := Nat.pow_le_pow_right (by decide : 2 > 0) hk
    omega
  have hmod : x.toNat % 2 ^ k < 2 ^ 64 := lt_of_le_of_lt (Nat.mod_le ..) x.isLt
  rw [BitVec.toNat_and, BitVec.toNat_ofNat, Nat.mod_eq_of_lt hlow, Nat.and_two_pow_sub_one_eq_mod, BitVec.toNat_setWidth,
    BitVec.toNat_setWidth, Nat.mod_eq_of_lt hmod]

/-- The leading zeros among `w` bits of a number that fits them. -/
theorem leadingZeros_eq {w n : Nat} (h : n < 2 ^ w) : leadingZeros w n = if n = 0 then w else w - 1 - n.log2 := by
  induction w with
  | zero =>
    have hn : n = 0 := by simpa using h
    simp [leadingZeros, hn]
  | succ w ih =>
    unfold leadingZeros
    by_cases hlow : n < 2 ^ w
    · rw [Nat.testBit_lt_two_pow hlow, ih hlow]
      rw [if_neg Bool.false_ne_true]
      split
      · rfl
      · next hn =>
        have hlog := (Nat.log2_lt hn).mpr hlow
        omega
    · have hn : n ≠ 0 := by
        have := Nat.two_pow_pos w
        omega
      have hlog : n.log2 = w := (Nat.log2_eq_iff hn).mpr ⟨not_lt.mp hlow, h⟩
      have hbit : n.testBit w = true := by
        rw [Nat.testBit_eq_decide_div_mod_eq, Nat.div_eq_of_lt_le (k := 1) (by omega) (by rw [Nat.pow_succ] at h; omega)]
        rfl
      rw [hbit, if_pos rfl, if_neg hn, hlog, Nat.add_sub_cancel, Nat.sub_self]

theorem clz_eq (x : BitVec 64) : leadingZeros 64 x.toNat = if x = 0 then 64 else 63 - x.toNat.log2 := by
  rw [leadingZeros_eq x.isLt]
  simp [← BitVec.toNat_inj]

/-- Settles O24: each instruction by the equation of its result. -/
theorem isaLogicAndShifts : Obligations.IsaLogicAndShifts := by
  unfold Obligations.IsaLogicAndShifts
  refine ⟨fun s i d a imm => ⟨?andi, ?ori, ?xori⟩, fun s i d a n => ⟨?shiSll, ?shiSrl, ?shiSra⟩,
    fun s i d a b => ⟨?and, ?or, ?xor, ?andn, ?sll, ?srl, ?sra, ?min, ?max, ?minu, ?maxu⟩,
    fun s i d a => ⟨?not, ?sext8, ?sext16, ?sext32, ?zext8, ?zext16, ?zext32, ?clz⟩⟩
  case andi => exact fun h => next_alu h (by rw [imm16_eq]; rfl)
  case ori => exact fun h => next_alu h (by rw [imm16_eq]; rfl)
  case xori => exact fun h => next_alu h (by rw [imm16_eq]; rfl)
  case shiSll => exact fun h => next_alu h (congrArg plain (shiftLeft_eq _ _))
  case shiSrl => exact fun h => next_alu h (congrArg plain (shiftRight_eq _ _))
  case shiSra => exact fun h => next_alu h (congrArg plain (shiftSign_eq _ _))
  case sll => exact fun h => next_alu h (congrArg plain (shiftLeft_eq _ _))
  case srl => exact fun h => next_alu h (congrArg plain (shiftRight_eq _ _))
  case sra => exact fun h => next_alu h (congrArg plain (shiftSign_eq _ _))
  case min => exact fun h => next_alu h (by simp only [plain, BitVec.sle_eq_decide, decide_eq_true_eq]; rfl)
  case max => exact fun h => next_alu h (by simp only [plain, BitVec.sle_eq_decide, decide_eq_true_eq]; rfl)
  case zext8 => exact fun h => next_alu h (congrArg plain (zext_eq _ (by decide)))
  case zext16 => exact fun h => next_alu h (congrArg plain (zext_eq _ (by decide)))
  case zext32 => exact fun h => next_alu h (congrArg plain (zext_eq _ (by decide)))
  case clz => exact fun h => next_alu h (by rw [clz_eq]; rfl)
  all_goals exact fun h => next_alu h rfl

/-! ### Moves and FLAGS (Tables 11-4 to 11-8 and 11-12) -/

theorem ofInt_toInt_eq_signExtend {w n : Nat} (hw : 0 < w) :
    BitVec.ofInt 64 (toInt w n) = (BitVec.ofNat w n).signExtend 64 := by
  have hhalf : 2 ^ w = 2 * 2 ^ (w - 1) := by rw [← Nat.pow_succ']; congr 1; omega
  rw [BitVec.signExtend, BitVec.toInt_eq_toNat_cond, BitVec.toNat_ofNat, toInt]
  congr 1
  have hcond : n % 2 ^ w < 2 ^ (w - 1) ↔ 2 * (n % 2 ^ w) < 2 ^ w := by omega
  simp only [hcond]

/-- Settles O25: a move writes its register, a special register reads from its list, and FLAGS alone are replaced. -/
theorem isaMovesAndFlags : Obligations.IsaMovesAndFlags := by
  unfold Obligations.IsaMovesAndFlags
  refine ⟨?movi, ?cati, ?sel, ?rdsr, ?wrsr, ?clrf, ?nop⟩
  case movi => exact fun s i d imm h => next_move h (ofInt_toInt_eq_signExtend (by decide))
  case cati =>
    intro s i d a imm h
    refine next_move h ?_
    rw [imm16_eq, BitVec.shiftLeft_eq_mul_twoPow]
    rfl
  case sel =>
    intro s i c d a b h hc
    have hlegal : ¬ c.val = 15 := fun heq => hc (Fin.ext heq)
    rw [exec_sel, execSel, isaRun_regs h fun _ _ => by rw [select, if_neg hlegal]]
    rfl
  case rdsr =>
    intro s i d k p hp h hk
    rw [exec_rdsr, execRdsr, isaRun_regs h]
    intro q hq
    obtain rfl : p = q := Option.some.inj (hp.symm.trans hq)
    obtain ⟨k, hk32⟩ := k
    have hk10 : k ≤ 10 := hk
    interval_cases k <;> rfl
  case wrsr => 
    intro s i a h
    rw [exec_wrsr, execWrsr, isaRun_regs h fun _ _ => rfl]
    rfl
  case clrf => 
    intro s i h
    rw [exec_clrf, execClrf, isaRun_regs h fun _ _ => rfl]
    rfl
  case nop => 
    intro s i h
    rw [exec_nop, execNop, isaRun_regs h fun _ _ => rfl]

/-! ### Loads and stores (R421) -/

theorem allows_of_dataOk {s : State} {i a n : Nat} {p : Prog} {b : Bool} (h : s.dataOk i a n = b)
    (hp : (s.scanOf i).prog = some p) : p.allows a n = b := by
  rwa [State.dataOk, hp] at h

section
variable {s : State} {i : Fin 256} {c : IsaOp} {d a : Fin 32} {imm : Fin 65536} {n : Nat}

/-- A load at an address that it may access writes its register. -/
theorem next_load {sign : Bool} {v : BitVec 64} (h : s.readyFor i c = true) (hok : s.dataOk i (s.ea i a imm) n = true)
    (hv : (if sign then BitVec.ofInt 64 (toInt (8 * n) (ofLE ((s.scanOf i).read (s.ea i a imm) n)))
      else BitVec.ofNat 64 (ofLE ((s.scanOf i).read (s.ea i a imm) n))) = v) :
    (.next (isaRun i c (load n sign d a imm) s).1 : Res) = .next (s.withRegs i ((s.stepped i c).setG d v)) := by
  rw [isaRun_regs h (r := (s.stepped i c).setG d v)]
  intro p hp
  have hallows : p.allows ((s.stepped i c).ea a imm) n = true := allows_of_dataOk hok hp
  rw [load, if_pos hallows, ← hv]
  rfl

theorem next_load_zero (h : s.readyFor i c = true) (hok : s.dataOk i (s.ea i a imm) n = true) :
    (.next (isaRun i c (load n false d a imm) s).1 : Res) = .next (s.withRegs i ((s.stepped i c).setG d
      (BitVec.ofNat 64 (ofLE ((s.scanOf i).read (s.ea i a imm) n))))) :=
  next_load h hok rfl

theorem next_load_sign (hn : 0 < n) (h : s.readyFor i c = true) (hok : s.dataOk i (s.ea i a imm) n = true) :
    (.next (isaRun i c (load n true d a imm) s).1 : Res) = .next (s.withRegs i ((s.stepped i c).setG d
      (BitVec.signExtend 64 (BitVec.ofNat (8 * n) (ofLE ((s.scanOf i).read (s.ea i a imm) n)))))) :=
  next_load h hok (ofInt_toInt_eq_signExtend (by omega))

theorem next_loadF (h : s.readyFor i c = true) (hok : s.dataOk i (s.ea i a imm) 4 = true) :
    (.next (isaRun i c (loadF d a imm) s).1 : Res)
      = .next (s.withRegs i ((s.stepped i c).setF d (ofLE ((s.scanOf i).read (s.ea i a imm) 4)))) := by
  rw [isaRun_regs h (r := (s.stepped i c).setF d (ofLE ((s.scanOf i).read (s.ea i a imm) 4)))]
  intro p hp
  have hallows : p.allows ((s.stepped i c).ea a imm) 4 = true := allows_of_dataOk hok hp
  rw [loadF, if_pos hallows]
  rfl

/-- A store at an address that it may access writes its octets. -/
theorem next_store (h : s.readyFor i c = true) (hok : s.dataOk i (s.ea i a imm) n = true) :
    (.next (isaRun i c (store n d a imm) s).1 : Res)
      = .next (s.withStore i (s.stepped i c) (s.ea i a imm) (toLE n (s.g i d).toNat)) := by
  rw [isaRun_store h (r := s.stepped i c) (a := s.ea i a imm) (b := toLE n (s.g i d).toNat)]
  intro p hp
  have hallows : p.allows ((s.stepped i c).ea a imm) n = true := allows_of_dataOk hok hp
  rw [store, if_pos hallows]
  rfl

theorem next_storeF (h : s.readyFor i c = true) (hok : s.dataOk i (s.ea i a imm) 4 = true) :
    (.next (isaRun i c (storeF d a imm) s).1 : Res)
      = .next (s.withStore i (s.stepped i c) (s.ea i a imm) (toLE 4 (s.f i d))) := by
  rw [isaRun_store h (r := s.stepped i c) (a := s.ea i a imm) (b := toLE 4 (s.f i d))]
  intro p hp
  have hallows : p.allows ((s.stepped i c).ea a imm) 4 = true := allows_of_dataOk hok hp
  rw [storeF, if_pos hallows]
  rfl

/-- An access that may not be performed faults. -/
theorem next_load_fault {sign : Bool} (h : s.readyFor i c = true) (hok : s.dataOk i (s.ea i a imm) n = false) :
    (.next (isaRun i c (load n sign d a imm) s).1 : Res) = .next (s.accessFault i c) := by
  rw [isaRun_fault h]
  intro p hp
  have hallows : p.allows ((s.stepped i c).ea a imm) n = false := allows_of_dataOk hok hp
  rw [load, if_neg (by rw [hallows]; decide)]

theorem next_store_fault (h : s.readyFor i c = true) (hok : s.dataOk i (s.ea i a imm) n = false) :
    (.next (isaRun i c (store n d a imm) s).1 : Res) = .next (s.accessFault i c) := by
  rw [isaRun_fault h]
  intro p hp
  have hallows : p.allows ((s.stepped i c).ea a imm) n = false := allows_of_dataOk hok hp
  rw [store, if_neg (by rw [hallows]; decide)]

theorem next_storeF_fault (h : s.readyFor i c = true) (hok : s.dataOk i (s.ea i a imm) 4 = false) :
    (.next (isaRun i c (storeF d a imm) s).1 : Res) = .next (s.accessFault i c) := by
  rw [isaRun_fault h]
  intro p hp
  have hallows : p.allows ((s.stepped i c).ea a imm) 4 = false := allows_of_dataOk hok hp
  rw [storeF, if_neg (by rw [hallows]; decide)]

end

/-- Settles O26: each load and store by the rule of its width. -/
theorem isaLoadsAndStores : Obligations.IsaLoadsAndStores := by
  unfold Obligations.IsaLoadsAndStores
  exact ⟨fun _ _ _ _ _ => ⟨next_load_sign (by decide), next_load_zero, next_load_sign (by decide), next_load_zero,
      next_load_sign (by decide), next_load_zero, next_load_zero, next_loadF, next_store, next_store, next_store, next_store,
      next_storeF⟩,
    fun _ _ _ _ _ => ⟨next_load_fault, next_load_fault, next_load_fault, next_load_fault, next_store_fault,
      next_store_fault, next_storeF_fault⟩⟩

/-! ### Floating point (R427 to R430) -/

/-- A floating-point instruction delivers its value and its exceptions. -/
theorem next_fpu {s : State} {i : Nat} {c : IsaOp} {d : Nat} {f : (Nat → Nat) → (Nat → BitVec 64) → Nat × Nat} {x : Nat × Nat}
    (h : s.readyFor i c = true) (hf : f (s.regs i).getF (s.regs i).getG = x) :
    (.next (isaRun i c (fpu d f) s).1 : Res) = .next (s.withRegs i ((s.stepped i c).deliverF d x.1 x.2)) := by
  rw [isaRun_regs h fun _ _ => fpu_eq ..]
  simp [hf]

theorem next_fpuG {s : State} {i : Nat} {c : IsaOp} {d : Fin 32} {f : (Nat → Nat) → Nat × Nat} {x : Nat × Nat}
    (h : s.readyFor i c = true) (hf : f (s.regs i).getF = x) :
    (.next (isaRun i c (fpuG d f) s).1 : Res) = .next (s.withRegs i ((s.stepped i c).deliverGF d x.1 x.2)) := by
  rw [isaRun_regs h fun _ _ => fpuG_eq ..]
  simp [hf]

theorem stickF_zero (w : BitVec 64) : stickF w 0 = w := by simp [stickF]

/-- Without an exception only the register is written. -/
theorem deliverF_none (r : IsaSt) (d v : Nat) : r.deliverF d v 0 = r.setF d v := by
  rw [IsaSt.deliverF, stickF_zero]
  rfl

theorem deliverGF_none (r : IsaSt) (d : Fin 32) (v : Nat) : r.deliverGF d v 0 = r.setG d (BitVec.ofNat 64 v) := by
  rw [IsaSt.deliverGF, stickF_zero]
  by_cases hd : d.val = 0 <;> simp [IsaSt.setG, hd]

theorem getF_lt (r : IsaSt) (k : Nat) : r.getF k < 2 ^ 32 := (tabGet 0 r.f k).isLt

theorem flip_eq_xor {x : Nat} (h : x < 2 ^ 32) : f32.flip x = x ^^^ 2 ^ 31 := by
  have hhigh : (x ^^^ 2 ^ 31) / 2 ^ 31 = x / 2 ^ 31 ^^^ 1 := by rw [Nat.xor_div_two_pow]; rfl
  have hlow : (x ^^^ 2 ^ 31) % 2 ^ 31 = x % 2 ^ 31 := by rw [Nat.xor_mod_two_pow, Nat.mod_self, Nat.xor_zero]
  have hneg : f32.neg x = decide (2 ^ 31 ≤ x % 2 ^ 32) := rfl
  have hmag : f32.mag x = x % 2 ^ 31 := rfl
  have hsign : f32.sign = 2 ^ 31 := rfl
  rw [Fmt.flip, hneg, hmag, hsign, Nat.mod_eq_of_lt h]
  by_cases hx : 2 ^ 31 ≤ x
  · have hone : x / 2 ^ 31 = 1 := by omega
    rw [hone, Nat.xor_self] at hhigh
    simp only [hx, decide_true, if_true]
    omega
  · have hzero : x / 2 ^ 31 = 0 := by omega
    rw [hzero, Nat.zero_xor] at hhigh
    simp only [hx, decide_false, Bool.false_eq_true, if_false]
    omega

/-- Settles O28: each instruction delivers what its operation gives; a copy and a change of sign raise no exception. -/
theorem isaFloatingPoint : Obligations.IsaFloatingPoint := by
  unfold Obligations.IsaFloatingPoint
  refine ⟨fun s i d a b => ⟨?fadd, ?fsub, ?fmul, ?fdiv, ?fmin, ?fmax, ?feq, ?flt, ?fle⟩,
    fun s i d a => ⟨?fsqrt, ?fabs, ?fneg, ?fmov, ?fclass, ?fcvtfl, ?fcvtflu, ?fcvtlf, ?fcvtlfz, ?fmvgf, ?fmvfg, ?frndn, ?frndz,
      ?frndm, ?frndp⟩,
    fun s i d a b c => ⟨?fmadd, ?fmsub, ?fnmsub, ?fnmadd⟩⟩
  case feq | flt | fle | fcvtlf | fcvtlfz => exact fun h => next_fpuG h rfl
  case fclass | fmvgf => exact fun h => (next_fpuG h rfl).trans (by rw [deliverGF_none]; rfl)
  case fneg => exact fun h => (next_fpu h rfl).trans (by rw [deliverF_none, flip_eq_xor (getF_lt ..)]; rfl)
  case fabs | fmov | fmvfg => exact fun h => (next_fpu h rfl).trans (by rw [deliverF_none]; rfl)
  all_goals exact fun h => next_fpu h rfl

end Sys2Proof.Machine
end

section
/-! PROOFS. HBM reads back what was written; the state after reset (Chapter 15). -/

namespace Sys2Proof.Machine

/-! ### Writing back what a table holds -/

theorem tabDel_of_lt {α : Type} [DecidableEq α] (d : α) (t : Tab α) (b k : Nat) (h : tabWfFrom d b t = true)
    (hk : k < b) : tabDel t k = t := by
  induction t generalizing b with
  | nil => rfl
  | cons p r ih =>
    obtain ⟨a, w⟩ := p
    simp only [tabWfFrom, Bool.and_eq_true, decide_eq_true_eq] at h
    obtain ⟨⟨hb, -⟩, hr⟩ := h
    rw [tabDel, if_neg (by omega), ih (a + 1) hr (by omega)]

theorem tabGet_of_lt {α : Type} [DecidableEq α] (d : α) (t : Tab α) (b k : Nat) (h : tabWfFrom d b t = true)
    (hk : k < b) : tabGet d t k = d := by
  rw [← tabDel_of_lt d t b k h hk, tabGet_del_same]

theorem tabIns_of_lt {α : Type} [DecidableEq α] (d : α) (t : Tab α) (b k : Nat) (v : α)
    (h : tabWfFrom d b t = true) (hk : k < b) : tabIns t k v = (k, v) :: t := by
  cases t with
  | nil => rfl
  | cons p r =>
    obtain ⟨a, w⟩ := p
    simp only [tabWfFrom, Bool.and_eq_true, decide_eq_true_eq] at h
    rw [tabIns, if_pos (by omega)]

/-- In a canonical table, writing what a key holds leaves the very same table. -/
theorem tabSet_tabGet_from {α : Type} [DecidableEq α] (d : α) (t : Tab α) (b k : Nat)
    (h : tabWfFrom d b t = true) : tabSet d t k (tabGet d t k) = t := by
  induction t generalizing b with
  | nil => simp [tabSet, tabDel]
  | cons p r ih =>
    obtain ⟨a, w⟩ := p
    simp only [tabWfFrom, Bool.and_eq_true, decide_eq_true_eq] at h
    obtain ⟨⟨-, hw⟩, hr⟩ := h
    have ih := ih (a + 1) hr
    by_cases hak : a = k
    · subst hak
      simp only [tabSet, tabGet, tabDel, if_true, if_neg hw, tabDel_of_lt d r (a + 1) a hr (by omega)]
      exact tabIns_of_lt d r (a + 1) a w hr (by omega)
    · by_cases hlt : k < a
      · have hg : tabGet d r k = d := tabGet_of_lt d r (a + 1) k hr (by omega)
        simp [tabSet, tabGet, tabDel, hak, hg, tabDel_of_lt d r (a + 1) k hr (by omega)]
      · by_cases hg : tabGet d r k = d
        · rw [tabSet, if_pos hg] at ih
          simp [tabSet, tabGet, tabDel, hak, hg, ih]
        · rw [tabSet, if_neg hg] at ih
          simp [tabSet, tabGet, tabDel, tabIns, hak, hg, hlt, ih]

/-! ### Reading after writing -/

theorem memRead_congr (m m' : List Host.Cell) (a n : Nat)
    (h : ∀ x, a ≤ x → x < a + n → memByte m x = memByte m' x) : memRead m a n = memRead m' a n := by
  induction n generalizing a with
  | zero => rfl
  | succ n ih =>
    rw [memRead, memRead, h a le_rfl (by omega), ih (a + 1) fun x h1 h2 => h x (by omega) (by omega)]

/-- Octets read back as written. -/
theorem memRead_memWrite_same (m : List Host.Cell) (a : Nat) (b : Bytes) :
    memRead (memWrite m a b) a b.length = b := by
  induction b generalizing a with
  | nil => rfl
  | cons y r ih =>
    have hfirst : memByte (memWrite m a (y :: r)) a = y := by simp [memByte_memWrite]
    have hrest : memRead (memWrite m a (y :: r)) (a + 1) r.length = r := by
      refine (memRead_congr _ (memWrite m (a + 1) r) _ _ fun x h1 _ => ?_).trans (ih (a + 1))
      exact tabGet_set_other 0 _ a x y (by omega)
    rw [List.length_cons, memRead, hfirst, hrest]

/-- Octets that do not overlap the written ones read as before. -/
theorem memRead_memWrite_other (m : List Host.Cell) (a x n : Nat) (b : Bytes)
    (h : x + n ≤ a ∨ a + b.length ≤ x) : memRead (memWrite m a b) x n = memRead m x n := by
  refine memRead_congr _ _ _ _ fun y h1 h2 => ?_
  rw [memByte_memWrite, if_neg (by omega)]

/-- In a canonical memory, writing the octets that are there leaves the very same memory. -/
theorem memWrite_memRead (m : List Host.Cell) (a n : Nat) (h : Memory.wf m = true) :
    memWrite m a (memRead m a n) = m := by
  induction n generalizing a with
  | zero => rfl
  | succ n ih =>
    rw [memRead, memWrite, ih (a + 1)]
    exact tabSet_tabGet_from 0 m 0 a h

/-- Settles O52: read after write of the memory's table, and that a canonical table has one spelling. -/
theorem hbmReadsWhatWasWritten : Obligations.HbmReadsWhatWasWritten := by
  unfold Obligations.HbmReadsWhatWasWritten
  refine ⟨fun s a b => memRead_memWrite_same _ a b, fun s a x n b h => memRead_memWrite_other _ a x n b h,
    fun s a n h => ?_⟩
  rw [State.hbmWrite, State.hbmRead, memWrite_memRead _ _ _ h]

/-- Settles O51: at reset the memory lists nothing, and no die holds an event. -/
theorem resetMemoryIsCanonical : Obligations.ResetMemoryIsCanonical := by
  unfold Obligations.ResetMemoryIsCanonical
  have hempty : ∀ d : Die, (State.reset.evDie d).buffer = [] := fun d => by cases d <;> rfl
  exact ⟨reset_wf, fun d => by simp [hempty]⟩

end Sys2Proof.Machine
end

section
/-! PROOFS. Event buffers and the recorder's header (Chapter 16; R580, R582, R583, R594, R595). -/

namespace Sys2Proof.Machine

/-! ### What leaves the dies' buffers alone -/

section
variable {s : State}

/-- A state with the same event part has the same dies. -/
theorem evDie_of_ev {t : State} (h : t.ev = s.ev) : t.evDie = s.evDie := by
  funext d
  cases d <;> simp only [State.evDie, h]

@[simp] theorem evDie_emit (o : Out) : (s.emit o).evDie = s.evDie := evDie_of_ev rfl

@[simp] theorem evDie_hbmWrite (a : Nat) (b : Bytes) : (s.hbmWrite a b).evDie = s.evDie := evDie_of_ev rfl

@[simp] theorem evDie_setNum (id v sel : Nat) : (s.setNum id v sel).evDie = s.evDie := evDie_of_ev rfl

@[simp] theorem evDie_count32 (id k sel : Nat) : (s.count32 id k sel).evDie = s.evDie := evDie_of_ev rfl

@[simp] theorem evDie_count48 (id k sel : Nat) : (s.count48 id k sel).evDie = s.evDie := evDie_of_ev rfl

@[simp] theorem evDie_setRecorder (r : Recorder) : (s.setRecorder r).evDie = s.evDie := by
  funext d
  cases d <;> rfl

@[simp] theorem evDie_setEvQueue (q : Nat) (x : EvQueue) : (s.setEvQueue q x).evDie = s.evDie := by
  funext d
  cases d <;> rfl

theorem evDie_setEvDie (d d' : Die) (x : EvDie) :
    (s.setEvDie d x).evDie d' = if d' = d then x else s.evDie d' := by
  cases d <;> cases d' <;> rfl

@[simp] theorem evDie_setEvDie_same (d : Die) (x : EvDie) : (s.setEvDie d x).evDie d = x := by
  simp [evDie_setEvDie]

@[simp] theorem evDie_sendMsix (fn vec : Nat) : (s.sendMsix fn vec).evDie = s.evDie := by
  unfold State.sendMsix
  split
  · funext d; cases d <;> rfl
  · simp

@[simp] theorem evDie_eqSignal (q : Nat) : (s.eqSignal q).evDie = s.evDie := by
  unfold State.eqSignal
  extract_lets b _ t
  have ht : t.evDie = s.evDie := evDie_setEvQueue _ _
  split
  · rw [← ht]; funext d; cases d <;> rfl
  · rw [evDie_sendMsix, ht]
  · exact ht

@[simp] theorem evDie_eqWrite (e : Event) (q : Nat) : (s.eqWrite e q).evDie = s.evDie := by
  unfold State.eqWrite
  extract_lets b x slots a entry fn y t y' u
  have ht : t.evDie = s.evDie := by
    simp only [t]
    split <;> simp
  have hu : u.evDie = s.evDie := by simp [u, ht]
  split_ifs <;> simp [hu]

@[simp] theorem evDie_pinDrive (e : Event) (k : Nat) : (s.pinDrive e k).evDie = s.evDie := by
  unfold State.pinDrive
  extract_lets c
  split_ifs
  · rfl
  · split <;> funext d <;> cases d <;> rfl

/-- A fold of steps that leave the dies alone leaves them alone. -/
theorem evDie_foldl {α : Type} {f : State → α → State} (hf : ∀ u a, (f u a).evDie = u.evDie) (l : List α) (u : State) :
    (l.foldl f u).evDie = u.evDie := by
  induction l generalizing u with
  | nil => rfl
  | cons a l ih => rw [List.foldl_cons, ih, hf]

@[simp] theorem evDie_deliver (e : Event) : (s.deliver e).evDie = s.evDie := by
  unfold State.deliver
  extract_lets r t
  have ht : t.evDie = s.evDie := evDie_foldl (fun u a => by dsimp only; split <;> simp) _ _
  exact (evDie_foldl (fun u a => by split <;> simp) _ _).trans ht

@[simp] theorem evDie_recorderTake (e : Event) : (s.recorderTake e).evDie = s.evDie := by
  unfold State.recorderTake
  extract_lets r frozen len l pre
  split_ifs <;> simp

end

/-! ### Each change of a buffer keeps its room -/

section
variable {s : State}

theorem buffersFit_of_evDie {t : State} (h : t.evDie = s.evDie) (hs : s.buffersFit) : t.buffersFit :=
  fun d => h ▸ hs d

theorem buffersFit_setEvDie {d : Die} {x : EvDie} (hx : x.buffer.length ≤ evCapacity d) (hs : s.buffersFit) :
    (s.setEvDie d x).buffersFit := by
  intro d'
  rw [evDie_setEvDie]
  split
  next h => exact h ▸ hx
  next => exact hs d'

/-- A push drops an event rather than go beyond the room (R582). -/
theorem length_push_le {cap : Nat} {x : EvDie} (e : Event) (h : x.buffer.length ≤ cap) :
    (x.push cap e).buffer.length ≤ cap := by
  unfold EvDie.push
  split
  next => exact h
  next hroom => simp only [List.length_append, List.length_singleton]; omega

theorem buffersFit_raiseIn (d : Die) (src code kind num detail : Nat) (hs : s.buffersFit) :
    (s.raiseIn d src code kind num detail).buffersFit := by
  unfold State.raiseIn
  extract_lets cfg e x y t
  have ht : t.buffersFit := buffersFit_setEvDie (length_push_le e (hs d)) hs
  split_ifs
  · exact hs
  · exact buffersFit_of_evDie (evDie_count32 _ _ _) ht
  · exact ht

theorem buffersFit_reportMark (d : Die) (w : Nat) (hs : s.buffersFit) : (s.reportMark d w).buffersFit :=
  buffersFit_setEvDie (hs d) hs

theorem length_insertEvent (e : Event) (l : List Event) : (insertEvent e l).length = l.length + 1 := by
  induction l with
  | nil => rfl
  | cons a r ih =>
    rw [insertEvent]
    split <;> simp [ih]

/-- The LostEvents event goes into a buffer that is less than half full. -/
theorem buffersFit_endEpisode (d : Die) (hs : s.buffersFit) : (s.endEpisode d).buffersFit := by
  unfold State.endEpisode
  extract_lets x
  split
  next => exact hs
  next n f l _ =>
    split_ifs with hhalf
    · refine buffersFit_setEvDie ?_ hs
      rw [length_insertEvent]
      omega
    · exact hs

theorem buffersFit_eventRelease (wn w0 w1 ws : Nat) (hs : s.buffersFit) : (eventRelease wn w0 w1 ws s).buffersFit := by
  unfold eventRelease
  extract_lets u
  have hu : u.buffersFit := buffersFit_reportMark _ _ (buffersFit_reportMark _ _ (buffersFit_reportMark _ _
    (buffersFit_reportMark _ _ hs)))
  split
  next => exact hu
  next d e _ =>
    extract_lets x t
    have hdrop : (x.buffer.drop 1).length ≤ evCapacity d :=
      (List.drop_sublist 1 x.buffer).length_le.trans (hu d)
    have ht : t.buffersFit := buffersFit_endEpisode d (buffersFit_setEvDie (x := { x with buffer := _ }) hdrop hu)
    exact buffersFit_of_evDie (by simp) ht

end

/-- Settles O53: a push drops rather than overfill, and a release puts at most one event into a buffer, half empty. -/
theorem buffersStayWithinRoom : Obligations.BuffersStayWithinRoom := by
  unfold Obligations.BuffersStayWithinRoom
  exact ⟨fun s d src code kind num detail hs => ⟨_, exec_eventRaiseInDie .., buffersFit_raiseIn _ _ _ _ _ _ hs⟩,
    fun s wn w0 w1 ws hs => ⟨_, exec_eventRelease .., buffersFit_eventRelease wn w0 w1 ws hs⟩⟩

/-! ### The header of the log -/

section
variable (r : Recorder) (head count op : Nat)

/-- The header that a write puts into the older copy. -/
def Recorder.freshHeader : RecHeader :=
  ⟨max r.header0.sequence r.header1.sequence + 1, head, count, op, r.powerCycles, true⟩

theorem writeHeader_of_le (h : r.header0.sequence ≤ r.header1.sequence) :
    r.writeHeader head count op = { r with header0 := r.freshHeader head count op } := if_pos h

theorem writeHeader_of_lt (h : r.header1.sequence < r.header0.sequence) :
    r.writeHeader head count op = { r with header1 := r.freshHeader head count op } := if_neg (Nat.not_le.mpr h)

theorem header_of_lt (h0 : r.header0.crcOk = true) (h : r.header1.sequence < r.header0.sequence) :
    r.header = r.header0 := if_pos ⟨h0, .inr h⟩

theorem header_of_torn0 (h0 : r.header0.crcOk = false) : r.header = r.header1 := by simp [Recorder.header, h0]

theorem header_of_torn1 (h0 : r.header0.crcOk = true) (h1 : r.header1.crcOk = false) : r.header = r.header0 := by
  simp [Recorder.header, h0, h1]

theorem header_of_le (h1 : r.header1.crcOk = true) (h : r.header0.sequence ≤ r.header1.sequence) :
    r.header = r.header1 := by
  simp [Recorder.header, h1, Nat.not_lt.mpr h]

end

/-- Settles O55: the write goes to the copy that is not in force, so that the other still is when the write is torn. -/
theorem headerSurvivesATornWrite : Obligations.HeaderSurvivesATornWrite := by
  unfold Obligations.HeaderSurvivesATornWrite
  rintro r w head count op h0 h1 rfl
  rcases Nat.lt_or_ge r.header1.sequence r.header0.sequence with hlt | hle
  · rw [writeHeader_of_lt r head count op hlt]
    refine ⟨header_of_le _ rfl (by simp only [Recorder.freshHeader]; omega), fun h => absurd hlt (Nat.not_lt.mpr h),
      fun _ => ⟨rfl, ?_⟩⟩
    exact Eq.trans (header_of_torn1 _ (by exact h0) (by rfl)) (header_of_lt r h0 hlt).symm
  · rw [writeHeader_of_le r head count op hle]
    refine ⟨header_of_lt _ rfl (by simp only [Recorder.freshHeader]; omega), fun _ => ⟨rfl, ?_⟩,
      fun h => absurd h (Nat.not_lt.mpr hle)⟩
    exact Eq.trans (header_of_torn0 _ (by rfl)) (header_of_le r h1 hle).symm

end Sys2Proof.Machine
end

section
/-! PROOFS. Events, event queues and the recorder's log (Chapter 16): what each command does under its conditions. -/

namespace Sys2Proof.Machine

/-! ### Raising an event (R575, R582, R590) -/

section
variable {s : State} {d : Die} {src code kind num detail : Nat}

/-- The event that a die raises now from an enabled source (R578). -/
def State.freshEvent (s : State) (d : Die) (src code kind num detail : Nat) : Event :=
  ⟨s.stamp d, !s.fine d, s.time.backup, src, code, kind, num, detail, field (s.sourceConfig src) 0 3, false⟩

theorem raiseIn_of_disabled (h : field (s.sourceConfig src) 3 1 = 0) : s.raiseIn d src code kind num detail = s := by
  rw [State.raiseIn, if_pos h]

theorem push_of_room {cap : Nat} {x : EvDie} (e : Event) (h : 4 * x.buffer.length < 3 * cap) :
    x.push cap e = { x with buffer := x.buffer ++ [e], watermark := max x.watermark e.gtc } := by
  rw [EvDie.push, if_neg (by omega)]

theorem push_of_full {cap : Nat} {x : EvDie} (e : Event) (h : cap ≤ x.buffer.length) (hnone : x.episode = none) :
    x.push cap e = { x with episode := some (1, e.gtc, e.gtc) } := by
  rw [EvDie.push, if_pos (.inl h), hnone]

theorem raiseIn_of_room (hon : field (s.sourceConfig src) 3 1 ≠ 0)
    (hroom : 4 * (s.evDie d).buffer.length < 3 * evCapacity d) :
    s.raiseIn d src code kind num detail = s.setEvDie d { s.evDie d with
      buffer := (s.evDie d).buffer ++ [s.freshEvent d src code kind num detail]
      watermark := max (s.evDie d).watermark (s.stamp d) } := by
  simp [State.raiseIn, hon, push_of_room _ hroom, State.freshEvent]

theorem raiseIn_of_full (hon : field (s.sourceConfig src) 3 1 ≠ 0)
    (hfull : evCapacity d ≤ (s.evDie d).buffer.length) (hnone : (s.evDie d).episode = none) :
    s.raiseIn d src code kind num detail =
      (s.setEvDie d { s.evDie d with episode := some (1, s.stamp d, s.stamp d) }).count32 Od.eventsDropped := by
  simp [State.raiseIn, hon, push_of_full _ hfull hnone]

end

section
variable {s : State} {who : Caller}

theorem eventRaise_of_lets {b : Bytes} (hlets : s.lets who Od.eventRaise false 0 (.bytes b) = true)
    (hlow : 0xF00 ≤ leAt b 0 2) (hhigh : leAt b 0 2 ≤ 0xFFF) (hcode : leAt b 2 2 / 0x1000 = 0xE)
    (hitem : leAt b 4 4 = 0x0C000000 + (leAt b 0 2 - 0xF00))
    (hown : who.role ≠ .tenant ∨ s.inInstance who.inst (s.holderOf 0x0C (leAt b 0 2 - 0xF00)) = true) :
    eventRaise who b s = .ok (s.raiseIn .s (leAt b 0 2) (leAt b 2 2) 0x0C (leAt b 0 2 - 0xF00) (leAt b 8 12)) := by
  have howner : (who.role != .tenant || s.inInstance who.inst (s.holderOf 0x0C (leAt b 0 2 - 0xF00))) = true := by
    simpa using hown
  simp only [eventRaise, lets_ok hlets, ok_bind, hlow, hhigh, hcode, hitem, howner, decide_true, Bool.and_self,
    need_true, beq_self_eq_true, Nat.reduceMul, Nat.reducePow]

/-! ### Release, silent and readmitted dies (R580, R583) -/

theorem eventRelease_of_none {t : State} {wn w0 w1 ws : Nat}
    (ht : t = (((s.reportMark .n wn).reportMark .c0 w0).reportMark .c1 w1).reportMark .s ws)
    (h : t.nextRelease = none) : eventRelease wn w0 w1 ws s = t := by
  simp only [eventRelease, ← ht, h]

theorem eventRelease_of_some {t : State} {wn w0 w1 ws : Nat} {d : Die} {e : Event}
    (ht : t = (((s.reportMark .n wn).reportMark .c0 w0).reportMark .c1 w1).reportMark .s ws)
    (h : t.nextRelease = some (d, e)) :
    eventRelease wn w0 w1 ws s = State.recorderTake (State.deliver (State.count48
      ((t.setEvDie d { t.evDie d with buffer := (t.evDie d).buffer.drop 1 }).endEpisode d) Od.eventsReleased) e) e := by
  simp only [eventRelease, ← ht, h]

theorem dieSilent_of_late {d : Die} {m : Nat} (hin : (s.evDie d).excluded = false) (hlate : m + 100000 < s.gtc) :
    dieSilent d m s = ((s.setEvDie d { s.evDie d with excluded := true }).setNum Od.diesExcluded
      (s.num Od.diesExcluded ||| 2 ^ dieNumber d)).raise 0xE09 0xF003 0x89 (dieNumber d) (dieNumber d + 256) := by
  simp only [dieSilent, hin, hlate, Bool.not_false, decide_true, Bool.and_self, if_true]

theorem dieSilent_of_near {d : Die} {m : Nat} (h : s.gtc ≤ m + 100000) : dieSilent d m s = s := by
  simp only [dieSilent, Nat.not_lt.mpr h, decide_false, Bool.and_false, Bool.false_eq_true, if_false]

theorem dieReadmit_of_near {d : Die} {m : Nat} (hout : (s.evDie d).excluded = true) (h : s.gtc ≤ m + 10000) :
    dieReadmit d m s = ((s.setEvDie d { s.evDie d with
        excluded := false
        watermark := max (s.evDie d).watermark (min m s.gtc) }).setNum Od.diesExcluded
          (s.num Od.diesExcluded - 2 ^ dieNumber d)).raise 0xE09 0xF003 0x89 (dieNumber d) (dieNumber d) := by
  simp only [dieReadmit, hout, h, decide_true, Bool.and_self, if_true]

end

/-- Settles O38: each clause is what its command does under the clause's conditions. -/
theorem eventMergeAndRelease : Obligations.EventMergeAndRelease := by
  unfold Obligations.EventMergeAndRelease
  refine ⟨?disabled, ?room, ?full, ?software, ?nothing, ?release, ?silent, ?near, ?readmit⟩
  case disabled =>
    intro s d src code kind num detail hoff
    rw [exec_eventRaiseInDie, execEventRaiseInDie, raiseIn_of_disabled hoff]
  case room =>
    intro s d src code kind num detail hcode hkind hnum hdetail hon hroom
    have hcode' : code % 2 ^ 16 = code := Nat.mod_eq_of_lt hcode
    rw [exec_eventRaiseInDie, execEventRaiseInDie, hcode', Nat.mod_eq_of_lt hkind,
      Nat.mod_eq_of_lt hnum, Nat.mod_eq_of_lt hdetail, raiseIn_of_room hon hroom, State.freshEvent]
  case full =>
    intro s d src code kind num detail hon hfull hnone
    rw [exec_eventRaiseInDie, execEventRaiseInDie, raiseIn_of_full hon hfull hnone]
  case software =>
    intro s who b hlets hlow hhigh hcode hitem hown
    rw [exec_eventRaise, execEventRaise, eventRaise_of_lets hlets hlow hhigh hcode hitem hown, answer_ok]
  case nothing =>
    intro s t wn w0 w1 ws ht hnone
    rw [exec_eventRelease, execEventRelease, eventRelease_of_none ht hnone]
  case release =>
    rintro s t u wn w0 w1 ws d e ht hsome rfl
    rw [exec_eventRelease, execEventRelease, eventRelease_of_some ht hsome]
  case silent =>
    intro s d m hin hlate
    rw [exec_dieSilent, execDieSilent, dieSilent_of_late hin hlate]
  case near =>
    intro s d m hnear
    rw [exec_dieSilent, execDieSilent, dieSilent_of_near hnear]
  case readmit =>
    intro s d m hout hnear
    rw [exec_dieReadmit, execDieReadmit, dieReadmit_of_near hout hnear]

/-! ### Event queues (R585, R586, R588) -/

section
variable {s : State} {who : Caller} {q : Nat} {b : Bytes}

theorem not_eqEnabled_of_zero (h : byteAt b 0 = 0) : eqEnabled b = false := by
  simp [eqEnabled, h]

/-- The check of a Tenant's instance lets any other role through. -/
theorem tenantCheck_of_ne (hrole : who.role ≠ .tenant) (x : Bool) : (who.role != .tenant || x) = true := by
  simp [hrole]

/-- A write of a disabled queue with Enable 0 stores the bytes (R586). -/
theorem eqConfigWrite_of_disabled (hlets : s.lets who (Od.eqConfig + q) false 0 (.bytes b) = true)
    (hrole : who.role ≠ .tenant) (hoff : eqEnabled (s.eqConfig q) = false) (hzero : byteAt b 0 = 0)
    (hbyte : byteAt b 23 = 0) (hword : leAt b 28 4 = 0) :
    eqConfigWrite who q b s = .ok (((s.setEvQueue q { s.evQueue q with unsignalled := 0, bound := false }).setBlob
      (Od.eqConfig + q) b).bumpVersion (Od.eqConfig + q) 0) := by
  have hnew := not_eqEnabled_of_zero hzero
  simp [eqConfigWrite, lets_ok hlets, ok_bind, tenantCheck_of_ne hrole, hoff, hnew, hzero, hbyte, hword]

theorem eqConfigWrite_of_changed (hlets : s.lets who (Od.eqConfig + q) false 0 (.bytes b) = true)
    (hrole : who.role ≠ .tenant) (hon : eqEnabled (s.eqConfig q) = true) (hchange : b.drop 1 ≠ (s.eqConfig q).drop 1) :
    eqConfigWrite who q b s = .error .busy := by
  have hrefused : (!eqEnabled (s.eqConfig q) || b.drop 1 == (s.eqConfig q).drop 1) = false := by simpa [hon] using hchange
  simp only [eqConfigWrite, lets_ok hlets, ok_bind, tenantCheck_of_ne hrole, hrefused, need_true, need_false, error_bind]

theorem eqConfigWrite_of_other_owner (hlets : s.lets who (Od.eqConfig + q) false 0 (.bytes b) = true)
    (hrole : who.role = .tenant) (hother : leAt (s.eqConfig q) 4 2 ≠ who.inst ∨ leAt b 4 2 ≠ who.inst) :
    eqConfigWrite who q b s = .error .notOwner := by
  have howner : (who.role != .tenant || (leAt (s.eqConfig q) 4 2 == who.inst && leAt b 4 2 == who.inst)) = false := by
    simpa [hrole, or_iff_not_imp_left] using hother
  simp only [eqConfigWrite, lets_ok hlets, ok_bind, howner, need_false, error_bind]

/-- An Enable that passes R586 binds the free pages of the ring, clears it and starts its sequence at 1. -/
theorem eqConfigWrite_of_enable (hlets : s.lets who (Od.eqConfig + q) false 0 (.bytes b) = true)
    (hrole : who.role ≠ .tenant) (hoff : eqEnabled (s.eqConfig q) = false) (hon : eqEnabled b = true)
    (hfields : checkEqFields b = .ok ()) (howner : s.checkEqOwner b = true) (hhbm : byteAt b 1 = 0)
    {t : State} {ps : List Nat}
    (hps : ps = (pagesOf (leAt b 8 8) (64 * 2 ^ byteAt b 2)).filter fun p => s.pageBinding p == 0)
    (ht : t = (ps.foldl (fun u p => u.setBinding p 5) s).withMem (fun x => { x with
      hbm := memClear (ps.foldl (fun u p => u.setBinding p 5) s).mem.hbm (leAt b 8 8) (64 * 2 ^ byteAt b 2) })) :
    eqConfigWrite who q b s = .ok (((t.setEvQueue q ⟨1, 0, 0, !ps.isEmpty⟩).setBlob (Od.eqConfig + q) b).bumpVersion
      (Od.eqConfig + q) 0) := by
  subst ht hps
  simp only [eqConfigWrite, lets_ok hlets, ok_bind, tenantCheck_of_ne hrole, hoff, hon, hfields, howner, hhbm,
    State.withMem, need_true, Bool.not_false, Bool.true_or, Bool.false_eq_true, if_true, if_false]

theorem eqKick_of_signalled (h : (s.evQueue q).unsignalled = 0) : eqKick q s = s := if_pos h

theorem eqKick_of_unsignalled (h : (s.evQueue q).unsignalled ≠ 0) : eqKick q s = s.eqSignal q := if_neg h

theorem eqCoalesceTimeout_of_signalled (h : (s.evQueue q).unsignalled = 0) : eqCoalesceTimeout q s = s :=
  if_neg fun ⟨_, hne, _⟩ => hne h

theorem eqCoalesceTimeout_of_due (h : (s.evQueue q).unsignalled ≠ 0) (hon : eqEnabled (s.eqConfig q) = true)
    (hdue : (s.evQueue q).firstAt + 1000 * leAt (s.eqConfig q) 24 4 ≤ s.gtc) :
    eqCoalesceTimeout q s = s.eqSignal q :=
  if_pos ⟨hon, h, by omega⟩

/-! ### Pins and vectors (R588, R589) -/

theorem evtPinPulseEnd_of_due {k g : Nat} (hpin : tabGet EvPin.init s.ev.pins k = ⟨true, g⟩)
    (hmode : field (s.num (Od.evtPinConfig + k)) 0 2 = 1) (hdue : g ≤ s.gtc) :
    evtPinPulseEnd k s = s.withEv fun x => { x with pins := tabSet .init x.pins k ⟨false, g⟩ } := by
  simp [evtPinPulseEnd, hpin, hmode, hdue, State.withEv]

theorem evtPinPulseEnd_of_early {k g : Nat} (hpin : tabGet EvPin.init s.ev.pins k = ⟨true, g⟩) (hearly : s.gtc < g) :
    evtPinPulseEnd k s = s := by
  simp [evtPinPulseEnd, hpin, Nat.not_le.mpr hearly]

theorem evtPinAck_of_lets {k : Nat} (hlets : s.lets who (Od.evtPinAck + k) false 0 (.num 1) = true) :
    evtPinAck who k 1 s = .ok (s.withEv fun x => { x with pins := tabSet .init x.pins k EvPin.init }) := by
  simp only [evtPinAck, lets_ok hlets, ok_bind, if_true, State.withEv]

/-- Mask and Pending of vector `k` are cleared (Table 16-9). -/
def State.clearVector (s : State) (k : Nat) : State := s.withEv fun x => { x with
  msixMasked := tabSet false x.msixMasked k false
  msixPending := tabSet false x.msixPending k false }

theorem msixUnmask_eq (f v : Nat) : msixUnmask f v s =
    if tabGet false s.ev.msixPending (f * 64 + v) then (s.clearVector (f * 64 + v)).emit (.msix f v)
    else s.clearVector (f * 64 + v) := rfl

end

/-- Settles O39: each clause is what its command does under the clause's conditions. -/
theorem queuesPinsAndVectors : Obligations.QueuesPinsAndVectors := by
  unfold Obligations.QueuesPinsAndVectors
  refine ⟨?store, ?busy, ?owner, ?enable, ?signalled, ?kick, ?coalesce, ?pulse, ?early, ?ack, ?unmask⟩
  case store =>
    intro s who q b hlets hrole hoff hzero hbyte hword
    rw [exec_eqConfig, execEqConfig, eqConfigWrite_of_disabled hlets hrole hoff hzero hbyte hword, answer_ok]
  case busy =>
    intro s who q b hlets hrole hon hchange
    rw [exec_eqConfig, execEqConfig, eqConfigWrite_of_changed hlets hrole hon hchange, answer_error]
  case owner =>
    intro s who q b hlets hrole hother
    rw [exec_eqConfig, execEqConfig, eqConfigWrite_of_other_owner hlets hrole hother, answer_error]
  case enable =>
    intro s t who q b ps hlets hrole hoff hon hfields howner hhbm hps ht
    rw [exec_eqConfig, execEqConfig, eqConfigWrite_of_enable hlets hrole hoff hon hfields howner hhbm hps ht, answer_ok]
  case signalled =>
    intro s q h
    rw [exec_eqKick, execEqKick, eqKick_of_signalled h, exec_eqCoalesceTimeout, execEqCoalesceTimeout,
      eqCoalesceTimeout_of_signalled h]
    exact ⟨rfl, rfl⟩
  case kick =>
    intro s q h
    rw [exec_eqKick, execEqKick, eqKick_of_unsignalled h]
  case coalesce =>
    intro s q h hon hdue
    rw [exec_eqCoalesceTimeout, execEqCoalesceTimeout, eqCoalesceTimeout_of_due h hon hdue]
  case pulse =>
    intro s k g hpin hmode hdue
    rw [exec_evtPinPulseEnd, execEvtPinPulseEnd, evtPinPulseEnd_of_due hpin hmode hdue]
  case early =>
    intro s k g hpin hearly
    rw [exec_evtPinPulseEnd, execEvtPinPulseEnd, evtPinPulseEnd_of_early hpin hearly]
  case ack =>
    intro s who k hlets
    rw [exec_evtPinAck, execEvtPinAck, evtPinAck_of_lets hlets, answer_ok]
  case unmask =>
    rintro s t f v rfl
    rw [exec_msixVectorUnmask, execMsixVectorUnmask, msixUnmask_eq]
    exact ⟨fun h => by rw [if_pos h]; rfl, fun h => by rw [if_neg (by simp [h])]; rfl⟩

/-! ### The recorder's log (R591 to R598) -/

section
variable {s : State} {who : Caller}

theorem recorderWrite_of_nothing (h : s.ev.recorder.frozen.isSome = true ∨ s.ev.recorder.input = []) :
    recorderWrite s = s := by
  by_cases hfrozen : s.ev.recorder.frozen.isSome = true
  · simp only [recorderWrite, hfrozen, if_true]
  · simp only [recorderWrite, hfrozen, h.resolve_left hfrozen, if_false, Bool.false_eq_true]

theorem recorderWrite_of_more {e f : Event} {r : List Event} (hfree : s.ev.recorder.frozen = none)
    (hin : s.ev.recorder.input = e :: f :: r) :
    recorderWrite s = (s.setRecorder { s.ev.recorder with input := f :: r }).record e := by
  simp [recorderWrite, hfree, hin]

theorem recorderWrite_of_last {e : Event} (hfree : s.ev.recorder.frozen = none) (hin : s.ev.recorder.input = [e])
    (hstate : ((s.setRecorder { s.ev.recorder with input := [] }).record e).num Od.recorderState = 2) :
    recorderWrite s =
      ((s.setRecorder { s.ev.recorder with input := [] }).record e).setNum Od.recorderState 0 := by
  simp only [hfree] at hstate
  simp [recorderWrite, hfree, hin, hstate]

/-- Records that pass their CRC, or were found failing before, are left alone (R596). -/
theorem recorderCrcPass_of_good
    (h : ∀ x ∈ s.ev.recorder.slots, ∀ r, x.2 = some r → r.crcOk = true ∨ r.counted = true) : recorderCrcPass s = s := by
  unfold recorderCrcPass
  extract_lets bad
  have hnone : bad = [] := by
    refine List.filterMap_eq_nil_iff.mpr fun x hx => ?_
    obtain ⟨k, o⟩ := x
    cases o with
    | none => rfl
    | some r => rcases h _ hx r rfl with hr | hr <;> simp [hr]
  rw [hnone, List.foldl_nil]

theorem recorderCrcPass_of_bad {k : Nat} {x : Rec} (hslots : s.ev.recorder.slots = [(k, some x)])
    (hcrc : x.crcOk = false) (hnew : x.counted = false) :
    recorderCrcPass s = ((s.setRecorder { s.ev.recorder with
      slots := tabSet none [(k, some x)] k (some { x with counted := true }) }).count32 Od.suspectRecords).raise
        0xE0A 0xF004 0x80 0 k := by
  simp [recorderCrcPass, hslots, hcrc, hnew]

theorem recorderFreeze_of_free (hlets : s.lets who Od.recorderFreeze false 0 (.num 1) = true)
    (hfree : s.ev.recorder.frozen = none) :
    recorderFreeze who s = .ok (((s.setRecorder { s.ev.recorder with
      frozen := some (who.sess, roleNumber who.role, s.gtc) }).setNum Od.recorderState 1).raiseFreeze 1
        (roleNumber who.role)) := by
  simp only [recorderFreeze, lets_ok hlets, ok_bind, hfree]

theorem recorderFreeze_of_other {k r g : Nat} (hlets : s.lets who Od.recorderFreeze false 0 (.num 1) = true)
    (hfrozen : s.ev.recorder.frozen = some (k, r, g)) (hk : k ≠ who.sess) :
    recorderFreeze who s = .error .heldElsewhere := by
  simp only [recorderFreeze, lets_ok hlets, ok_bind, hfrozen, if_neg hk]

theorem recorderUnfreeze_of_frozen {k r g : Nat} (hlets : s.lets who Od.recorderFreeze false 0 (.num 2) = true)
    (hfrozen : s.ev.recorder.frozen = some (k, r, g)) :
    recorderUnfreeze who s =
      if k = who.sess ∨ who.role = .owner then .ok (s.endFreeze 2) else .error .heldElsewhere := by
  simp only [recorderUnfreeze, lets_ok hlets, ok_bind, hfrozen]

theorem freezeLimitExpiry_of_frozen {k r g : Nat} (hfrozen : s.ev.recorder.frozen = some (k, r, g)) :
    freezeLimitExpiry s = if s.gtc < g + s.num Od.freezeLimit * 1000000 then s else s.endFreeze 3 := by
  simp only [freezeLimitExpiry, hfrozen]

theorem recorderClear_of_frozen {v : Nat} (hlets : s.lets who Od.recorderClear false 0 (.num v) = true)
    (hfrozen : s.ev.recorder.frozen.isSome = true) : recorderClear who v s = .error .busy := by
  have hbusy : s.ev.recorder.frozen.isNone = false := by simpa using hfrozen
  simp only [recorderClear, lets_ok hlets, ok_bind, hbusy, need_false, error_bind]

theorem recorderClear_of_free {v : Nat} {t : State} (hlets : s.lets who Od.recorderClear false 0 (.num v) = true)
    (hfree : s.ev.recorder.frozen = none)
    (ht : t = s.setRecorder { s.ev.recorder with
      header0 := { s.ev.recorder.header0 with count := 0 }
      header1 := { s.ev.recorder.header1 with count := 0 } }) :
    recorderClear who v s = .ok (t.record ⟨t.stamp .s, !t.fine .s, t.time.backup, 0xE0A, 0xF006, 0x80, 0,
      s.ev.recorder.header.count, field (t.sourceConfig 0xE0A) 0 3, false⟩) := by
  subst ht
  simp only [recorderClear, lets_ok hlets, ok_bind, hfree, Option.isNone_none, need_true]

end

/-- Settles O40: each clause is what its command does under the clause's conditions. -/
theorem recorderLog : Obligations.RecorderLog := by
  unfold Obligations.RecorderLog
  refine ⟨?nothing, ?more, ?last, ?good, ?bad, ?save, ?freeze, ?held, ?unfreeze, ?notHolder, ?expired, ?early, ?busy,
    ?clear⟩
  case nothing =>
    intro s h
    rw [exec_recorderWrite, execRecorderWrite, recorderWrite_of_nothing h]
  case more =>
    intro s e f r hfree hin
    rw [exec_recorderWrite, execRecorderWrite, recorderWrite_of_more hfree hin]
  case last =>
    intro s e hfree hin hstate
    rw [exec_recorderWrite, execRecorderWrite, recorderWrite_of_last hfree hin hstate]
  case good =>
    intro s h
    rw [exec_recorderCrcPass, execRecorderCrcPass, recorderCrcPass_of_good h]
  case bad =>
    intro s k x hslots hcrc hnew
    rw [exec_recorderCrcPass, execRecorderCrcPass, recorderCrcPass_of_bad hslots hcrc hnew]
  case save => exact fun s => rfl
  case freeze =>
    intro s who hlets hfree
    rw [exec_recorderFreeze, execRecorderFreeze, recorderFreeze_of_free hlets hfree, answer_ok]
  case held =>
    intro s who k r g hlets hfrozen hk
    rw [exec_recorderFreeze, execRecorderFreeze, recorderFreeze_of_other hlets hfrozen hk, answer_error]
  case unfreeze =>
    intro s who k r g hlets hfrozen hmay
    rw [exec_recorderUnfreeze, execRecorderUnfreeze, recorderUnfreeze_of_frozen hlets hfrozen, if_pos hmay, answer_ok]
  case notHolder =>
    intro s who k r g hlets hfrozen hk hrole
    rw [exec_recorderUnfreeze, execRecorderUnfreeze, recorderUnfreeze_of_frozen hlets hfrozen,
      if_neg (not_or.mpr ⟨hk, hrole⟩), answer_error]
  case expired =>
    intro s k r g hfrozen hdue
    rw [exec_freezeLimitExpiry, execFreezeLimitExpiry, freezeLimitExpiry_of_frozen hfrozen, if_neg (Nat.not_lt.mpr hdue)]
  case early =>
    intro s k r g hfrozen hearly
    rw [exec_freezeLimitExpiry, execFreezeLimitExpiry, freezeLimitExpiry_of_frozen hfrozen, if_pos hearly]
  case busy =>
    intro s who v hlets hfrozen
    rw [exec_recorderClear, execRecorderClear, recorderClear_of_frozen hlets hfrozen, answer_error]
  case clear =>
    intro s t who v hlets hfree ht
    rw [exec_recorderClear, execRecorderClear, recorderClear_of_free hlets hfree ht, answer_ok]

end Sys2Proof.Machine
end

section
/-! PROOFS. Rings (Chapter 14; R527 to R530, R535, R536). -/

namespace Sys2Proof.Machine

/-! ### Reading rings -/

section
variable {s : State} {i r : Nat} {x : Ring}

theorem ring_of_inst {t : State} (h : t.inst = s.inst) : t.ring i r = s.ring i r := by
  rw [State.ring, State.ring, h]

@[simp] theorem ring_setRing_same : (s.setRing i r x).ring i r = x := tabGet_set_same ..

theorem ring_setRing_other {j q : Nat} (h : i * 16 + r ≠ j * 16 + q) : (s.setRing i r x).ring j q = s.ring j q :=
  tabGet_set_other _ _ _ _ _ (Ne.symm h)

@[simp] theorem ring_basketOcc {j pos value : Nat} : (s.basketOcc j pos value).ring i r = s.ring i r :=
  ring_of_inst inst_raiseIn

@[simp] theorem ring_ringCount {j q off k : Nat} : (s.ringCount j q off k).ring i r = s.ring i r := by
  unfold State.ringCount
  split <;> rfl

/-- Overrun is set and nothing else of the ring changes. -/
@[simp] theorem ring_setOverrun : (s.setOverrun i r).ring i r = { s.ring i r with overrun := true } := by
  unfold State.setOverrun
  extract_lets x
  split
  next h => rw [← show x.overrun = true from h]
  next => rw [ring_basketOcc, ring_setRing_same]

@[simp] theorem ring_ringFull : (s.ringFull i r).ring i r =
    { s.ring i r with full := true, overrun := true, drops := sat32 ((s.ring i r).drops + 1) } := by
  simp [State.ringFull]

@[simp] theorem trim_prod : x.trim.prod = x.prod := rfl

@[simp] theorem trim_cons : x.trim.cons = x.cons := rfl

@[simp] theorem trim_full : x.trim.full = x.full := rfl

/-! ### What the host's writes do -/

section
variable {v : Nat} (hexists : s.instExists i = true) (hon : s.ringEnabled i r = true)
include hexists hon

theorem ringProd_of_enabled (hprod : hostProduces r = true) (hrun : s.inReset i = false) (hv : v < 2 ^ 32) :
    ringProd i r v s = if (s.ring i r).held + (v + 2 ^ 32 - (s.ring i r).prod) % 2 ^ 32 ≤ s.ringSlots i r then
      s.setRing i r { s.ring i r with prod := v } else s.ringFull i r := by
  simp only [ringProd, hprod, hexists, hon, hrun, Nat.mod_eq_of_lt hv, and_self, if_true, Bool.false_eq_true, if_false]

theorem ringCons_of_enabled (hcons : hostProduces r = false) (hv : v < 2 ^ 32) :
    ringCons i r v s = if (v + 2 ^ 32 - (s.ring i r).cons) % 2 ^ 32 ≤ (s.ring i r).held then
      s.setRing i r (Ring.trim { s.ring i r with
        cons := v
        full := (s.ring i r).full && (v + 2 ^ 32 - (s.ring i r).cons) % 2 ^ 32 == 0 }) else s.setOverrun i r := by
  simp only [ringCons, hcons, hexists, hon, Nat.mod_eq_of_lt hv, Bool.false_eq_true, not_false_eq_true, and_self, if_true]

theorem ringCommand_of_packet {f k : Nat} {l : List (Nat × Nat)} (hcons : hostProduces r = false)
    (hpackets : (s.ring i r).trim.packets = (f, k) :: l) (hheld : 0 < (s.ring i r).trim.held) :
    ringCommand i r 1 s = s.setRing i r (Ring.trim { (s.ring i r).trim with
      cons := (f + k) % 2 ^ 32
      full := false }) := by
  simp only [ringCommand, hcons, hexists, hon, hheld, hpackets, Bool.false_eq_true, not_false_eq_true, and_self, if_true]

end

theorem ringProd_of_module {v : Nat} (h : hostProduces r = false) : ringProd i r v s = s :=
  if_neg fun ⟨hprod, _⟩ => Bool.false_ne_true (h.symm.trans hprod)

theorem ringCons_of_module {v : Nat} (h : hostProduces r = true) : ringCons i r v s = s :=
  if_neg fun ⟨hcons, _⟩ => hcons h

theorem ringCommand_of_module {v : Nat} (h : hostProduces r = true) : ringCommand i r v s = s :=
  if_neg fun ⟨_, hcons, _⟩ => hcons h

theorem ringConfigWrite_of_checks {who : Caller} {b : Bytes}
    (hform : s.letsForm who (Od.ringConfig + r) true i (.bytes b) = true) (hcheck : s.checkRing i r b = .ok ()) :
    ringConfigWrite who i r b s = .ok ((s.applyRing i r b).bumpVersion (Od.ringConfig + r) i) := by
  obtain ⟨row, hgate⟩ := letsForm_ok hform
  rw [ringConfigWrite, hgate, ok_bind, hcheck, ok_bind]

end

theorem sat32_eq_min (n : Nat) : sat32 n = min 0xFFFFFFFF n := by
  unfold sat32 satAt
  split <;> omega

/-- Settles O35: each clause reads the ring after what its register write does. -/
theorem ringsOfInstances : Obligations.RingsOfInstances := by
  unfold Obligations.RingsOfInstances
  refine ⟨?produce, ?full, ?consume, ?overrun, ?command, ?knock, ?config, ?notProducer, ?notConsumer⟩
  case produce =>
    intro s i r v hprod hexists hon hrun hv hroom
    refine ⟨_, exec_ringProd .., ?_⟩
    rw [ringProd_of_enabled hexists hon hprod hrun hv, if_pos hroom, ring_setRing_same]
    exact ⟨rfl, rfl, fun j q hkey _ => ring_setRing_other hkey, rfl, rfl⟩
  case full =>
    intro s i r v hprod hexists hon hrun hv hfull
    refine ⟨_, exec_ringProd .., ?_⟩
    rw [ringProd_of_enabled hexists hon hprod hrun hv, if_neg (Nat.not_le.mpr hfull), ring_ringFull]
    exact ⟨rfl, rfl, rfl, sat32_eq_min _⟩
  case consume =>
    intro s i r v hcons hexists hon hv hheld
    refine ⟨_, exec_ringCons .., ?_⟩
    rw [ringCons_of_enabled hexists hon hcons hv, if_pos hheld, ring_setRing_same]
    exact ⟨trim_cons, trim_prod⟩
  case overrun =>
    intro s i r v hcons hexists hon hv hheld
    refine ⟨_, exec_ringCons .., ?_⟩
    rw [ringCons_of_enabled hexists hon hcons hv, if_neg (Nat.not_le.mpr hheld), ring_setOverrun]
    exact ⟨rfl, rfl⟩
  case command =>
    intro s i r f k l hcons hexists hon hpackets hheld
    refine ⟨_, exec_ringCommand .., ?_⟩
    rw [ringCommand_of_packet hexists hon hcons hpackets hheld, ring_setRing_same]
    exact ⟨trim_cons, trim_full, trim_prod⟩
  case knock =>
    intro s i r v hexists hbit
    rw [exec_ringStatusKnock, execRingStatusKnock, ringKnock, if_pos ⟨hexists, hbit⟩]
  case config =>
    intro s who i r b hform hcheck
    rw [exec_ringConfig, execRingConfig, ringConfigWrite_of_checks hform hcheck, answer_ok]
  case notProducer =>
    intro s i r v h
    rw [exec_ringProd, execRingProd, ringProd_of_module h]
  case notConsumer =>
    intro s i r v h
    rw [exec_ringCons, execRingCons, ringCons_of_module h, exec_ringCommand, execRingCommand, ringCommand_of_module h]
    exact ⟨rfl, rfl⟩

end Sys2Proof.Machine
end

section
/-! PROOFS. Host memory (Chapter 15): coherence of lines, pages of HBM, protection, errors and scrubbing. -/

namespace Sys2Proof.Machine

/-! ### Requests at the home directory (R558, R559, Table 15-6) -/

/-- A request of line `l` wakes the line's HBM stack and its L3 (R56). -/
def State.wakeLine (s : State) (l : Nat) : State :=
  (s.setAsleep .hbmStack (stackOf (64 * l)) false).setAsleep .l3Bank (homeDie (64 * l)) false

section
variable {s : State} {l kind core offset : Nat} {b : Bytes}

theorem request_of_free (hack : kind ≤ 1 → (s.wakeLine l).writeback core l = none)
    (hfree : (s.wakeLine l).lineBusy l = false) :
    s.request ⟨l, kind, core, 0, offset, b⟩ = (s.wakeLine l).serve ⟨l, kind, core, 0, offset, b⟩ := by
  have hsent : ¬ (kind ≤ 1 ∧ ((s.wakeLine l).writeback core l).isSome = true) :=
    fun ⟨hkind, hsome⟩ => by simp [hack hkind] at hsome
  have hidle : ¬ (s.wakeLine l).lineBusy l = true := by simp [hfree]
  exact (if_neg hsent).trans (if_neg hidle)

theorem request_of_busy (hkind : 1 < kind) (hbusy : (s.wakeLine l).lineBusy l = true) :
    s.request ⟨l, kind, core, 0, offset, b⟩ =
      (s.wakeLine l).setWaiting ((s.wakeLine l).mem.waiting ++ [⟨l, kind, core, 0, offset, b⟩]) :=
  (if_neg fun ⟨hle, _⟩ => Nat.not_le.mpr hkind hle).trans (if_pos hbusy)

end

section
variable {t : State} {c l : Nat} {e : DirEntry}

/-- A line that no core holds is granted exclusively to the core that asks, for reading or for writing. -/
theorem serve_read_of_unheld (h : t.dirEntry l = none) {kind : Nat} (hkind : kind = 0 ∨ kind = 1) :
    t.serve ⟨l, kind, c, 0, 0, []⟩ = t.grant c l 2 (t.lineOf l) [c] := by
  rcases hkind with rfl | rfl <;> simp only [State.serve, h]

theorem serve_readShared_of_shared (h : t.dirEntry l = some e) (hshared : e.owned = false)
    (hnew : e.holders.contains c = false) :
    t.serve ⟨l, 0, c, 0, 0, []⟩ = t.grant c l 1 (t.lineOf l) (e.holders ++ [c]) := by
  simp only [State.serve, h, hshared, hnew, Bool.false_eq_true, false_and, if_false]

/-- A request of a line that another core owns waits for a snoop of that core. -/
theorem serve_readShared_of_owned {o : Nat} {r : List Nat} (h : t.dirEntry l = some e) (howned : e.owned = true)
    (hother : e.others c = o :: r) :
    t.serve ⟨l, 0, c, 0, 0, []⟩ = t.setWaiting (t.mem.waiting ++ [⟨l, 0, c, o + 1, 0, []⟩]) := by
  simp [State.serve, h, howned, hother]

theorem serve_readUnique_of_shared {x : CacheLine} (h : t.dirEntry l = some e) (hshared : e.owned = false)
    (hline : t.cacheLine c l = some x) :
    t.serve ⟨l, 1, c, 0, 0, []⟩ = (t.invalidate l (e.others c)).grant c l 2 x.data [c] := by
  simp only [State.serve, h, hshared, hline, Bool.false_eq_true, false_and, if_false]

theorem coreStore_none : t.coreStore c l none = t := rfl

end

/-! ### Write-backs, evictions and snoops (R560 to R562) -/

section
variable {s : State} {c l : Nat}

theorem writebackMsg_sent {x : CacheLine} (hline : s.cacheLine c l = some x) (hdirty : x.st = 3) :
    writebackMsg c l false s = (s.setCacheLine c l none).setWriteback c l (some x.data) := by
  simp only [writebackMsg, Bool.false_eq_true, if_false, hline, hdirty, if_true]

theorem writebackMsg_arrived {b : Bytes} (hsent : s.writeback c l = some b) (hnone : s.mem.waiting = []) :
    writebackMsg c l true s = ((s.hbmWrite (l * 64) b).setWriteback c l none).dropHolder c l := by
  simp [writebackMsg, hsent, hnone]

theorem cleanEvict_sent {x : CacheLine} (hline : s.cacheLine c l = some x) (hclean : x.st ≠ 3) :
    cleanEvict c l false s = s.setCacheLine c l none := by
  simp only [cleanEvict, Bool.false_eq_true, if_false, hline, if_neg hclean]

theorem cleanEvict_arrived (hline : s.cacheLine c l = none) (hsent : s.writeback c l = none) :
    cleanEvict c l true s = s.dropHolder c l := by
  simp only [cleanEvict, hline, hsent, Option.isNone_none, and_self, if_true]

theorem snoop_of_none (h : s.mem.waiting = []) : snoop c l s = s := by
  simp only [snoop, h, List.find?_nil]

/-- The snoop of a shared read finds the line: it is flushed and kept shared, and the request completes. -/
theorem snoop_of_found {r : DirReq} {x : CacheLine} (hwaiting : s.mem.waiting = [r]) (hr : r.line = l)
    (hsnooped : r.snooped = c + 1) (hkind : r.kind = 0) (hsent : s.writeback c l = none)
    (hline : s.cacheLine c l = some x) :
    snoop c l s = State.serveQueued 1 l
      ((((s.setWaiting []).flushLine l x).setCacheLine c l (some ⟨1, x.data⟩)).finish r true) := by
  have hfind : s.mem.waiting.find? (fun q => q.line == l && q.snooped == c + 1) = some r := by
    simp [hwaiting, hr, hsnooped]
  have herase : s.mem.waiting.erase r = [] := by simp [hwaiting]
  have hlength : s.mem.waiting.length = 1 := by simp [hwaiting]
  simp only [snoop, hfind, herase, hlength, hsent, hline, hkind, true_or, if_true, decide_true]

end

/-- Settles O37: each clause is one branch of the directory's answer. -/
theorem coherenceOfLines : Obligations.CoherenceOfLines := by
  unfold Obligations.CoherenceOfLines
  refine ⟨?unheld, ?shared, ?owned, ?upgrade, ?ioRead, ?ioWrite, ?busy, ?writeback, ?arrived, ?evict, ?evicted,
    ?nothing, ?snoop⟩
  case unheld =>
    rintro s t c l (ht : t = s.wakeLine l) hack hfree hnone
    subst ht
    rw [exec_readShared, execReadShared, request_of_free (fun _ => hack) hfree, exec_readUnique, execReadUnique,
      request_of_free (fun _ => hack) hfree, coreStore_none]
    exact ⟨congrArg _ (serve_read_of_unheld hnone (.inl rfl)), congrArg _ (serve_read_of_unheld hnone (.inr rfl))⟩
  case shared =>
    rintro s t c l e (ht : t = s.wakeLine l) hack hfree hentry hshared hnew
    subst ht
    rw [exec_readShared, execReadShared, request_of_free (fun _ => hack) hfree]
    exact congrArg _ (serve_readShared_of_shared hentry hshared hnew)
  case owned =>
    rintro s t c l e o r (ht : t = s.wakeLine l) hack hfree hentry howned hother
    subst ht
    rw [exec_readShared, execReadShared, request_of_free (fun _ => hack) hfree]
    exact congrArg _ (serve_readShared_of_owned hentry howned hother)
  case upgrade =>
    rintro s t c l e x (ht : t = s.wakeLine l) hack hfree hentry hshared hline
    subst ht
    rw [exec_upgrade, execUpgrade, Machine.upgrade, request_of_free (fun _ => hack) hfree, coreStore_none]
    exact congrArg _ (serve_readUnique_of_shared hentry hshared hline)
  case ioRead =>
    rintro s t l (ht : t = s.wakeLine l) hfree hnone
    subst ht
    rw [exec_ioRead, execIoRead, request_of_free (fun h => absurd h (by decide)) hfree]
    simp only [State.serve, hnone]
  case ioWrite =>
    rintro s t l o b (ht : t = s.wakeLine l) hlength ho hfree hnone
    subst ht
    rw [exec_ioWrite, execIoWrite, Machine.ioWrite, Nat.mod_eq_of_lt ho, List.take_of_length_le (by omega),
      request_of_free (fun h => absurd h (by simp)) hfree]
    simp only [State.serve, hnone]
  case busy =>
    rintro s t l (ht : t = s.wakeLine l) hbusy
    subst ht
    rw [exec_ioRead, execIoRead, request_of_busy (by decide) hbusy]
  case writeback =>
    intro s c l x hline hdirty
    rw [exec_writeback, execWriteback, writebackMsg_sent hline hdirty]
  case arrived =>
    intro s c l b hsent hnone
    rw [exec_writeback, execWriteback, writebackMsg_arrived hsent hnone]
  case evict =>
    intro s c l x hline hclean
    rw [exec_cleanEvict, execCleanEvict, cleanEvict_sent hline hclean]
  case evicted =>
    intro s c l hline hsent
    rw [exec_cleanEvict, execCleanEvict, cleanEvict_arrived hline hsent]
  case nothing =>
    intro s c l hnone
    rw [exec_snoop, execSnoop, snoop_of_none hnone]
  case snoop =>
    intro s c l r x hwaiting hr hsnooped hkind hsent hline
    rw [exec_snoop, execSnoop, snoop_of_found hwaiting hr hsnooped hkind hsent hline]

/-! ### Pages and their bindings (R552, R553) -/

section
variable {s : State} {who : Caller} {i c p : Nat}

theorem hbmBind_host (hlets : s.lets who Od.hbmBind false 0 (.num (p + c * 2 ^ 24 + 1 * 2 ^ 40 + i * 2 ^ 48)) = true)
    (hc : 1 ≤ c) (hroom : p + c ≤ 32768)
    (howner : (numbersFrom p c).all (fun q => s.inInstance i (s.holderOf 0x0A q)) = true)
    (hfree : (numbersFrom p c).all (fun q => s.pageBinding q == 0) = true) :
    hbmBind who 1 i c p s = .ok ((numbersFrom p c).foldl (fun u q => u.setBinding q 6) s) := by
  have hc' : c ≤ 32768 := by omega
  unfold hbmBind
  rw [lets_ok hlets]
  simp [ok_bind, hc, hc', hroom, need_ok howner, need_ok hfree]

theorem hbmBind_manager
    (hlets : s.lets who Od.hbmBind false 0 (.num (p + c * 2 ^ 24 + 2 * 2 ^ 40 + 0 * 2 ^ 48)) = true)
    (hc : 1 ≤ c) (hroom : p + c ≤ 32768) (howner : (numbersFrom p c).all (fun q => s.holderOf 0x0A q == 0xF00) = true)
    (hfree : (numbersFrom p c).all (fun q => s.pageBinding q == 0) = true) :
    hbmBind who 2 0 c p s = .ok ((numbersFrom p c).foldl (fun u q => u.setBinding q 7) s) := by
  have hc' : c ≤ 32768 := by omega
  unfold hbmBind
  rw [lets_ok hlets]
  simp [ok_bind, hc, hc', hroom, need_ok howner, need_ok hfree]

theorem hbmBind_unbind
    (hlets : s.lets who Od.hbmBind false 0 (.num (p + c * 2 ^ 24 + 3 * 2 ^ 40 + 0 * 2 ^ 48)) = true)
    (hc : 1 ≤ c) (hroom : p + c ≤ 32768)
    (hbound : (numbersFrom p c).all (fun q => s.pageBinding q == 6 || s.pageBinding q == 7) = true) :
    hbmBind who 3 0 c p s = .ok ((numbersFrom p c).foldl (fun u q => u.setBinding q 0) s) := by
  have hc' : c ≤ 32768 := by omega
  unfold hbmBind
  rw [lets_ok hlets]
  simp [ok_bind, hc, hc', hroom, need_ok hbound]

theorem hbmBind_retire
    (hlets : s.lets who Od.hbmBind false 0 (.num (p + 1 * 2 ^ 24 + 4 * 2 ^ 40 + 0 * 2 ^ 48)) = true)
    (hroom : p + 1 ≤ 32768) :
    hbmBind who 4 0 1 p s =
      if s.pageBinding p = 0 then .ok ((s.setBinding p 8).raiseOcc (0xC14 + p % 4) 0x0A p 3 p) else .error .busy := by
  have hone : numbersFrom p 1 = [p] := rfl
  unfold hbmBind
  rw [lets_ok hlets]
  by_cases hfree : s.pageBinding p = 0
  · simp [ok_bind, hroom, hone, hfree]
  · simp [ok_bind, hroom, hone, hfree, need_error, error_bind]

end

/-! ### Protection, errors and scrubbing (R554 to R557, R564 to R568) -/

section
variable {s : State}

theorem protectionViolation_of_refused {c a : Nat} {v w : Bool} (hrefused : s.accessAllowed c v w a = false)
    (ha : a < 2 ^ 36) :
    protectionViolation c v w a s = (((s.emit (.coreException c 0 a)).count32 Od.protectionViolations).count32
      (Od.hcViolations + c)).raiseLimited 0xC1A 0x0B c 0xA001
        (a % 2 ^ 52 + tabGet 0 s.mem.kinst c % 2 ^ 12 * 2 ^ 52) := by
  have hregion : hostRegion a ≠ .unmapped := by
    simp only [hostRegion, if_pos ha, ne_eq, reduceCtorEq, not_false_eq_true]
  simp only [protectionViolation, hrefused, hregion, Bool.false_eq_true, false_and, if_false]

theorem dmaViolation_of_inside {i r a : Nat} {b : Bytes}
    (hon : (byteAt (s.blob (Od.ringConfig + r) i) 0).testBit 0 = true)
    (hhbm : byteAt (s.blob (Od.ringConfig + r) i) 1 = 0)
    (hinside : (pagesOf a b.length).all (fun p => (pagesOf (leAt (s.blob (Od.ringConfig + r) i) 8 8)
      (64 * 2 ^ byteAt (s.blob (Od.ringConfig + r) i) 2)).contains p) = true) :
    dmaViolation i r a b s = s.hbmWrite a b := by
  simp only [dmaViolation, hon, hhbm, hinside, beq_self_eq_true, Bool.and_self, if_true]

theorem dmaViolation_of_disabled {i r a : Nat} {b : Bytes}
    (hoff : (byteAt (s.blob (Od.ringConfig + r) i) 0).testBit 0 = false) :
    dmaViolation i r a b s = (s.count32 Od.protectionViolations).raiseOcc 0xC1A 0x81 i 1 a := by
  simp only [dmaViolation, hoff, Bool.false_and, Bool.false_eq_true, if_false]

theorem directoryEccError_of_unheld {l : Nat} (h : ∀ c, s.cacheLine c l = none) :
    directoryEccError l s = ((s.setDirEntry l none).count32 (Od.directoryRecovered + homeDie (l * 64))).raiseOcc
      (0xC10 + homeDie (l * 64)) 0x89 (1 + homeDie (l * 64)) 1 (l * 64) := by
  simp [directoryEccError, h]

theorem hbmScrubPass_of_clean {m : Nat} (hclean : s.mem.poison = []) (hm : m ≤ 100000) :
    hbmScrubPass m s = (s.withMem fun x => { x with scrubNext := (x.scrubNext + 1) % 256 }).setNum
      (Od.hbmScrubPassTime + s.mem.scrubNext % 4) (sat32 m) := by
  simp only [hbmScrubPass, hclean, Nat.not_lt.mpr hm, if_false, List.map_nil, List.filter_nil, List.foldl_nil,
    State.withMem]

end

/-- Settles O36: each clause is one branch of its command. -/
theorem hbmPagesAndErrors : Obligations.HbmPagesAndErrors := by
  unfold Obligations.HbmPagesAndErrors
  refine ⟨?host, ?manager, ?unbind, ?retire, ?inUse, ?allowed, ?refused, ?inside, ?disabled, ?ecc, ?corrected,
    ?directory, ?scrub, ?slow⟩
  case host =>
    intro s who i c p hlets hc hroom howner hfree
    rw [exec_hbmBindHost, execHbmBindHost, hbmBind_host hlets hc hroom howner hfree, answer_ok]
  case manager =>
    intro s who c p hlets hc hroom howner hfree
    rw [exec_hbmBindManager, execHbmBindManager, hbmBind_manager hlets hc hroom howner hfree, answer_ok]
  case unbind =>
    intro s who c p hlets hc hroom hbound
    rw [exec_hbmUnbind, execHbmUnbind, hbmBind_unbind hlets hc hroom hbound, answer_ok]
  case retire =>
    intro s who p hlets hroom hfree
    rw [exec_hbmRetire, execHbmRetire, hbmBind_retire hlets hroom, if_pos hfree, answer_ok]
  case inUse =>
    intro s who p hlets hroom hused
    rw [exec_hbmRetire, execHbmRetire, hbmBind_retire hlets hroom, if_neg hused, answer_error]
  case allowed =>
    intro s c v w a h
    rw [exec_protectionViolation, execProtectionViolation, protectionViolation, if_pos h]
  case refused =>
    intro s c v w a hrefused ha
    rw [exec_protectionViolation, execProtectionViolation, protectionViolation_of_refused hrefused ha]
  case inside =>
    intro s i r a b hon hhbm hinside
    rw [exec_dmaViolation, execDmaViolation, dmaViolation_of_inside hon hhbm hinside]
  case disabled =>
    intro s i r a b hoff
    rw [exec_dmaViolation, execDmaViolation, dmaViolation_of_disabled hoff]
  case ecc => exact fun s a => rfl
  case corrected => exact fun s a => rfl
  case directory =>
    intro s l h
    rw [exec_directoryEccError, execDirectoryEccError, directoryEccError_of_unheld h]
  case scrub =>
    intro s m hclean hm
    rw [exec_hbmScrubPass, execHbmScrubPass, hbmScrubPass_of_clean hclean hm]
  case slow =>
    intro s d m hm
    rw [exec_l3ScrubPass, execL3ScrubPass, l3ScrubPass, if_pos hm]

end Sys2Proof.Machine
end

section
/-! PROOFS. Instances, functions, transmit rings and instance resets (Chapter 14; R519 to R526, R537 to R541). -/

namespace Sys2Proof.Machine

/-- The gate with the range of the object's table is the gate, and then the range. -/
theorem lets_split {s : State} {who : Caller} {id : Nat} {p : Bool} {sel : Nat} {v : OVal}
    (h : s.lets who id p sel v = true) : ∃ row, s.gate who id p sel v = .ok row ∧ row.checkRange v = .ok () := by
  have hrange := lets_ok h
  unfold State.gateRange at hrange
  cases hgate : s.gate who id p sel v with
  | error c =>
    rw [hgate, error_bind] at hrange
    cases hrange
  | ok row =>
    rw [hgate, ok_bind] at hrange
    exact ⟨row, rfl, hrange⟩

section
variable {s : State} {who : Caller} {i : Nat}

/-! ### Instances (R520, R521) -/

theorem instanceCreate_of_free {t : State} (hlets : s.lets who Od.instanceCreate false 0 (.num i) = true)
    (hfree : s.instExists i = false) (ht : t = s.forgetSelector i) :
    instanceCreate who i s = .ok ((t.withPond fun x => { x with
      ponds := tabSet none x.ponds i (some ⟨1, 0xF00, 4⟩) }).withInst fun x => { x with
        present := insertNat i t.inst.present }) := by
  subst ht
  simp only [instanceCreate, lets_ok hlets, hfree, ok_bind, Bool.not_false, need_true, State.withPond, State.withInst]

theorem instanceCreate_of_taken (hlets : s.lets who Od.instanceCreate false 0 (.num i) = true)
    (htaken : s.instExists i = true) : instanceCreate who i s = .error .busy := by
  simp only [instanceCreate, lets_ok hlets, htaken, ok_bind, Bool.not_true, need_false, error_bind]

theorem instanceDelete_of_stopped (hlets : s.lets who Od.instanceDelete false 0 (.num i) = true) (hi : i ≠ 0)
    (hexists : s.instExists i = true) (hstopped : s.instRunning i = false) (hreset : s.inReset i = false) :
    instanceDelete who i s = .ok (s.deleteInstance i) := by
  obtain ⟨row, hgate, hrange⟩ := lets_split hlets
  have hne : (i != 0) = true := bne_iff_ne.mpr hi
  simp only [instanceDelete, hgate, hrange, hne, hexists, hstopped, hreset, ok_bind, Bool.or_true, Bool.not_false,
    Bool.and_self, need_true]

theorem instanceDelete_zero (hform : s.letsForm who Od.instanceDelete false 0 (.num 0) = true) :
    instanceDelete who 0 s = .error .denied := by
  obtain ⟨row, hgate⟩ := letsForm_ok hform
  simp only [instanceDelete, hgate, ok_bind, beq_self_eq_true, Bool.true_or, need_true, bne_self_eq_false, need_false,
    error_bind]

/-! ### Functions (R524, R526) -/

theorem vfInstance_of_checks {n v : Nat} (hform : s.letsForm who (0xB20000 + n) false 0 (.num v) = true)
    (hcheck : s.checkVf n v = .ok ()) :
    vfInstance who n v s = .ok ((s.bindVf n v).bumpVersion (0xB20000 + n) 0) := by
  obtain ⟨row, hgate⟩ := letsForm_ok hform
  simp only [vfInstance, hgate, hcheck, ok_bind]

theorem resetFunctions_of_virtual {fn : Fin 256} (h : fn ≠ 0) : resetFunctions fn = [fn.val] :=
  if_neg fun hzero => h (Fin.ext hzero)

/-! ### Transmit rings (R537) -/

theorem txPacketSend_of_whole {t u : State} {r : Nat} {dma d : Bytes} {k : Nat} (hexists : s.instExists i = true)
    (hon : s.ringEnabled i (4 + r) = true) (hd : d = s.txOctets i (4 + r) (s.ring i (4 + r)).cons 1 dma)
    (hk : k = max 1 (leAt d 4 2)) (hheld : (s.ring i (4 + r)).held ≠ 0) (hwhole : k ≤ (s.ring i (4 + r)).held)
    (ht : t = s.setRing i (4 + r)
      { s.ring i (4 + r) with cons := ((s.ring i (4 + r)).cons + k) % 2 ^ 32, full := false })
    (hsent : t.sendPacket i d (slice ((s.txOctets i (4 + r) (s.ring i (4 + r)).cons k dma).drop 32) 0 (leAt d 0 2)) =
      some u) :
    txPacketSend i r dma s = (u.ringCount i (4 + r) 0 1).ringCount i (4 + r) 8 (leAt d 0 2) := by
  subst ht hk hd
  simp only [txPacketSend, hexists, hon, hheld, Nat.not_lt.mpr hwhole, hsent, Bool.not_true, Bool.false_eq_true, or_self,
    if_false]

/-! ### Resets (R538 to R541) -/

theorem resetDrain_of_idle (hlets : s.lets who Od.resetCommand true i (.num 1) = true) (hidle : s.inReset i = false) :
    resetDrain who i s = .ok (s.beginReset i 1) := by
  simp only [resetDrain, lets_ok hlets, hidle, ok_bind, Bool.not_false, need_true]

theorem resetDrain_of_reset (hlets : s.lets who Od.resetCommand true i (.num 1) = true) (hreset : s.inReset i = true) :
    resetDrain who i s = .error .inProgress := by
  simp only [resetDrain, lets_ok hlets, hreset, ok_bind, Bool.not_true, need_false, error_bind]

theorem resetSquash_of_idle (hlets : s.lets who Od.resetCommand true i (.num 2) = true) (hidle : s.resetJob i = none) :
    resetSquash who i s = .ok (s.beginReset i 2) := by
  simp only [resetSquash, lets_ok hlets, hidle, ok_bind]

theorem resetSquash_of_drain {j : ResetJob} (hlets : s.lets who Od.resetCommand true i (.num 2) = true)
    (hjob : s.resetJob i = some j) (hdrain : j.mode = 1) : resetSquash who i s = .ok (s.becomeSquash i j) := by
  simp only [resetSquash, lets_ok hlets, hjob, hdrain, ok_bind, beq_self_eq_true, need_true]

theorem resetComplete_of_done {j : ResetJob} (hjob : s.resetJob i = some j) (hdone : s.resetWorkDone i = true) :
    resetComplete i s = s.finishReset i 3 j := by
  simp only [resetComplete, hjob, hdone, if_true]

theorem drainLimit_of_due {j : ResetJob} (hjob : s.resetJob i = some j) (hwork : s.resetWorkDone i = false)
    (hdrain : j.mode = 1) (hdue : j.since + 1000000 * s.num Od.drainLimit i ≤ s.gtc) :
    drainLimit i s = ((s.resetPins i).squashWork i).finishReset i 4 j := by
  simp only [drainLimit, hjob, hwork, hdrain, hdue, Bool.not_false, and_self, if_true]

end

/-- Settles O34: each clause is one branch of its command. -/
theorem instancesFunctionsResets : Obligations.InstancesFunctionsResets := by
  unfold Obligations.InstancesFunctionsResets
  refine ⟨?create, ?taken, ?delete, ?zero, ?vf, ?flr, ?flrDone, ?tx, ?drain, ?inReset, ?squash, ?becomes, ?complete,
    ?expiry⟩
  case create =>
    intro s t who i hlets hfree ht
    rw [exec_instanceCreate, execInstanceCreate, instanceCreate_of_free hlets hfree ht, answer_ok]
  case taken =>
    intro s who i hlets htaken
    rw [exec_instanceCreate, execInstanceCreate, instanceCreate_of_taken hlets htaken, answer_error]
  case delete =>
    intro s who i hlets hi hexists hstopped hreset
    rw [exec_instanceDelete, execInstanceDelete, instanceDelete_of_stopped hlets hi hexists hstopped hreset, answer_ok]
  case zero =>
    intro s who hform
    rw [exec_instanceDelete, execInstanceDelete, instanceDelete_zero hform, answer_error]
  case vf =>
    intro s who n v hform hcheck
    rw [exec_vfInstance, execVfInstance, vfInstance_of_checks hform hcheck, answer_ok]
  case flr =>
    intro s fn hfn
    rw [exec_functionLevelReset, execFunctionLevelReset, functionLevelReset, resetFunctions_of_virtual hfn,
      List.foldl_cons, List.foldl_nil]
  case flrDone =>
    intro s fn hfn
    rw [exec_functionLevelResetDone, execFunctionLevelResetDone, functionResetDone, resetFunctions_of_virtual hfn,
      List.foldl_cons, List.foldl_nil]
    rfl
  case tx =>
    intro s t u i r dma d k hexists hon hd hk hheld hwhole ht hsent
    rw [exec_txPacketSend, execTxPacketSend, txPacketSend_of_whole hexists hon hd hk hheld hwhole ht hsent]
  case drain =>
    intro s who i hlets hidle
    rw [exec_resetDrain, execResetDrain, resetDrain_of_idle hlets hidle, answer_ok]
  case inReset =>
    intro s who i hlets hreset
    rw [exec_resetDrain, execResetDrain, resetDrain_of_reset hlets hreset, answer_error]
  case squash =>
    intro s who i hlets hidle
    rw [exec_resetSquash, execResetSquash, resetSquash_of_idle hlets hidle, answer_ok]
  case becomes =>
    intro s who i j hlets hjob hdrain
    rw [exec_resetSquash, execResetSquash, resetSquash_of_drain hlets hjob hdrain, answer_ok]
  case complete =>
    intro s i j hjob hdone
    rw [exec_resetComplete, execResetComplete, resetComplete_of_done hjob hdone]
  case expiry =>
    intro s i j hjob hwork hdrain hdue
    rw [exec_drainLimitExpiry, execDrainLimitExpiry, drainLimit_of_due hjob hwork hdrain hdue]

end Sys2Proof.Machine
end

section
/-! PROOFS. The redundant pair: forming, beats, digests, resynchronisation requests and status (Chapter 12). -/

namespace Sys2Proof.Machine

section
variable {s t : State} {who : Caller}

/-! ### Forming (R446, R447) -/

theorem pairEnable_of_checks {v : Nat} (hlets : s.lets who Od.pairEnable false 0 (.num v) = true)
    (hcheck : s.checkPairEnable v = .ok ()) :
    pairEnable who v s = .ok ((s.applyPairEnable v).bumpVersion Od.pairEnable 0) := by
  simp only [pairEnable, lets_ok hlets, hcheck, ok_bind]

theorem pairHelloSend_of_due (hon : s.pairOn = true) (hdue : s.pair.helloAt + 100000000 ≤ s.gtc) :
    pairHelloSend s = (s.setPair { s.pair with helloAt := s.gtc, helloSaid := s.helloFields }).sendPair 1 0
      (toBE 8 s.ownSerial ++ toBE 4 (s.num Od.pairId) ++ toBE 1 (boolNat s.pair.roleB) ++ toBE 1 (s.num Od.pairBeat)
        ++ toBE 1 s.pairDom ++ toBE 1 0) :=
  if_pos ⟨hon, .inr hdue⟩

section
variable {p q serial role beat dom : Nat}

theorem pairHello_of_copy {pid : Nat} (hcopy : s.takePair p q = none) :
    pairHello p q serial pid role beat dom s = s := by
  simp only [pairHello, hcopy]

/-- A Hello of this module's own role sets Conflict. -/
theorem pairHello_of_same_role (htake : s.takePair p q = some t) (hrole : role = boolNat s.pair.roleB) :
    pairHello p q serial (s.num Od.pairId) role beat dom s = t.setPairState 3 1 := by
  simp [pairHello, htake, hrole]

/-- A Hello that agrees forms the pair. -/
theorem pairHello_of_agreed (htake : s.takePair p q = some t) (hrole : role ≠ boolNat s.pair.roleB)
    (hbeat : beat = s.num Od.pairBeat) (hdom : dom = s.pairDom) (hany : s.num Od.peerSerialExpected = 0)
    (hforming : (t.setNum Od.peerSerial serial).pairState = 1) :
    pairHello p q serial (s.num Od.pairId) role beat dom s = (t.setNum Od.peerSerial serial).setPairState 2 0 := by
  simp [pairHello, htake, hrole, hbeat, hdom, hany, hforming]

end

theorem pairIsolated_of_silent (hformed : s.pairState = 2) (hsilent : s.pair.heardAt + 4 * s.beatNs ≤ s.gtc) :
    pairIsolated s = s.setPairState 4 0 :=
  if_pos ⟨hformed, hsilent⟩

/-! ### Beats (R462, R463) -/

/-- The state in which the Beat of beat `k` is sent after the lease was renewed. -/
def State.renewedAt (s : State) (k : Int) : State :=
  (s.setPair { s.pair with expires := some (k * s.beatUnits + s.leaseTime), beatNo := k }).pairWatch

theorem beat_of_renewal {k : Int} {c0 c1 : Bool} (hk : k = s.pairNow / s.beatUnits)
    (hrun : (s.dom s.pairDom).state ≠ 0) (hnew : k ≠ s.pair.beatNo) (hrenews : s.renews (k * s.beatUnits) c0 c1 = true) :
    beat c0 c1 s = if (s.renewedAt k).pairOn then (s.renewedAt k).sendPair 2 0 ((s.renewedAt k).beatBody (k * s.beatUnits))
      else s.renewedAt k := by
  subst hk
  rw [beat, if_neg (not_or.mpr ⟨hrun, hnew⟩)]
  simp only [hrenews, if_true]
  rfl

/-- A Beat without a lease or the paddle is kept, and nothing else changes in a formed pair. -/
theorem beatReceive_of_plain {p q : Nat} {m : BeatMsg} (htake : s.takePair p q = some t) (hlease : m.expires = 0)
    (hpaddle : m.paddle = 0) (hformed : t.pairState = 2) :
    beatReceive p q m s = t.setPair { t.pair with peerBeat := some m } := by
  have hstate (x : PairSt) : (t.setPair x).pairState = 2 := hformed
  have hholds : (t.setPair { t.pair with peerBeat := some m }).peerHolds = false := by
    simp [State.peerHolds, State.setPair, hpaddle]
  simp [beatReceive, htake, hlease, hstate, hholds]

/-! ### Digests (R449 to R457) -/

theorem digestSend_of_due (hon : s.pairOn = true) (hdue : s.recordsDue ≠ []) :
    digestSend s =
      ((s.recordsDue.take 40).foldl (fun u i => u.setPairInst i { u.pairInst i with sent := some (u.scanOf i).scan }) s).sendPair 3
        ((s.recordsDue.take 40).filterMap s.ownRecord).length
        (((s.recordsDue.take 40).filterMap s.ownRecord).flatMap DigestRec.encode) := by
  simp [digestSend, hon, hdue]

theorem digest_of_taken {p q : Nat} {l : List DigestRec} (htake : s.takePair p q = some t) :
    digest p q l s = l.foldl (fun u r => u.takeDigest r) t := by
  simp only [digest, htake]

/-- The outcome Agreed of a scan, at the end of its pair window. -/
theorem digestCompare_of_agreed {i : Nat} {own : DigestRec} {g : Nat} (hown : s.ownRecord i = some own)
    (hpaired : s.paired i = true) (hrun : s.instState i = 3) (hphase : (s.scanOf i).phase = 2)
    (hnew : (s.pairInst i).outcome = none) (hboundary : s.boundaryGtc i = some g) (hdue : g ≤ s.gtc + 3000)
    (hagreed : outcomeOf own (s.pairInst i).peer = 0) :
    digestCompare i s =
      ((((s.setPairInst i { s.pairInst i with outcome := some 0, absent := 0, mismatches := 0 }).setNum Od.agreedRun
        (sat32 (s.num Od.agreedRun i + 1)) i).pairAdvance i 0).reviewSuspect) := by
  simp [digestCompare, hown, hpaired, hrun, hphase, hnew, hboundary, hdue, hagreed]

/-! ### Resynchronisation (R459, R460) -/

theorem resyncData_of_unpaired {p q : Nat} {m : ResyncMsg} (htake : s.takePair p q = some t)
    (hunpaired : t.paired (m.inst % 256) = false) : resyncData p q m s = t := by
  simp [resyncData, htake, hunpaired]

/-- The third failure gives up with its event. -/
theorem resyncAbandon_of_third {i : Nat} (hpaired : s.paired i = true) (hasking : (s.pairInst i).asking = true)
    (hrun : s.instState i = 3) (hphase : (s.scanOf i).phase = 0)
    (hsent : (s.pairInst i).sent = some (s.num Od.scanNumber i)) (hlate : s.resyncLate i = true)
    (htries : (s.pairInst i).tries = 2) :
    resyncAbandon i s =
      (s.setPairInst i { s.pairInst i with resync := none, tries := 3, asking := false, sent := none }).raiseOcc
        (pairInstSource i) 0x81 i 3 (s.num Od.scanNumber i) := by
  simp [resyncAbandon, hpaired, hasking, hrun, hphase, hsent, hlate, htries]

theorem pairJoin_of_alone {i : Nat} (hlets : s.lets who Od.pairJoin true i (.num 1) = true)
    (hfits : s.resyncFits i = true) (hreset : s.inReset i = false) (halone : s.instPairState i = 2) :
    pairJoin who i s = .ok (s.setPairInst i { s.pairInst i with asking := true, tries := 0 }) := by
  simp only [pairJoin, lets_ok hlets, hfits, hreset, halone, ok_bind, beq_self_eq_true, Bool.true_or, Bool.not_false,
    need_true]

/-! ### Status (R478) -/

/-- Of the pair, a health word reads whether it is suspect only. -/
theorem localHealth_setPair {x : PairSt} (hx : x.suspect = s.pair.suspect) (k : Nat) :
    (s.setPair x).localHealth k = s.localHealth k := by
  induction k with
  | zero => rfl
  | succ k ih =>
    funext p
    have hsuspect : (s.setPair x).pair.suspect = s.pair.suspect := hx
    rw [State.localHealth, State.localHealth, ih, hsuspect]
    rfl

theorem ownReport_setPair {x : PairSt} (hx : x.suspect = s.pair.suspect) (n : Nat) :
    (s.setPair x).ownReport n = s.ownReport n := by
  have hhealth : (s.setPair x).moduleHealth = s.moduleHealth := congrFun (localHealth_setPair hx 8) 0xF00
  rw [State.ownReport, State.ownReport, hhealth]
  rfl

/-- The state in which a report is sent. -/
def State.statusNoted (t : State) : State :=
  t.setPair { t.pair with statusAt := t.gtc, statusState := hwState t.moduleHealth }

theorem ownReport_statusNoted (n : Nat) : t.statusNoted.ownReport n = t.ownReport n := ownReport_setPair rfl n

theorem statusSend_of_due (ht : t = s.watchHealth) (hon : t.pairOn = true)
    (hdue : t.pair.statusAt + 1000000 * t.num Od.reportInterval90000C ≤ t.gtc) :
    statusSend s = t.statusNoted.sendPair 4 0 (t.statusNoted.ownReport (t.statusNoted.xosynSeq 0xB 0)) := by
  subst ht
  rw [ownReport_statusNoted]
  exact if_pos ⟨hon, .inr hdue⟩

theorem statusReceive_of_fresh {p q : Nat} {m : ReportMsg} (htake : s.takePair p q = some t)
    (hfresh : t.peerStale = false) :
    statusReceive p q m s = t.setPair { t.pair with
      peerStatus := some ⟨m.seq, m.health, m.share, m.used, m.held, m.inUse, s.gtc, false⟩ } := by
  simp [statusReceive, htake, hfresh]

end

/-- Settles O30: each clause is one branch of its command. -/
theorem pairFormingAndBeats : Obligations.PairFormingAndBeats := by
  unfold Obligations.PairFormingAndBeats
  refine ⟨?enable, ?hello, ?conflict, ?formed, ?copy, ?isolated, ?beat, ?heard, ?digests, ?digest, ?agreed, ?resync,
    ?abandon, ?join, ?report, ?status⟩
  case enable =>
    intro s who v hlets hcheck
    rw [exec_pairEnable, execPairEnable, pairEnable_of_checks hlets hcheck, answer_ok]
  case hello =>
    intro s hon hdue
    rw [exec_pairHelloSend, execPairHelloSend, pairHelloSend_of_due hon hdue]
  case conflict =>
    intro s t p q serial role beat dom htake hrole
    rw [exec_pairHello, execPairHello, pairHello_of_same_role htake hrole]
  case formed =>
    intro s t p q serial role beat dom htake hrole hbeat hdom hany hforming
    rw [exec_pairHello, execPairHello, pairHello_of_agreed htake hrole hbeat hdom hany hforming]
  case copy =>
    intro s p q serial pid role beat dom hcopy
    rw [exec_pairHello, execPairHello, pairHello_of_copy hcopy]
  case isolated =>
    intro s hformed hsilent
    rw [exec_pairIsolated, execPairIsolated, pairIsolated_of_silent hformed hsilent]
  case beat =>
    intro s c0 c1 k hk hrun hnew hrenews
    exact ⟨_, exec_beat .., beat_of_renewal hk hrun hnew hrenews⟩
  case heard =>
    intro s t p q m htake hlease hpaddle hformed
    rw [exec_beatReceive, execBeatReceive, beatReceive_of_plain htake hlease hpaddle hformed]
  case digests =>
    intro s hon hdue
    rw [exec_digestSend, execDigestSend, digestSend_of_due hon hdue]
  case digest =>
    intro s t p q l htake
    rw [exec_digest, execDigest, digest_of_taken htake]
  case agreed =>
    intro s i own g hown hpaired hrun hphase hnew hboundary hdue hagreed
    rw [exec_digestCompare, execDigestCompare, digestCompare_of_agreed hown hpaired hrun hphase hnew hboundary hdue hagreed]
  case resync =>
    intro s t p q m htake hunpaired
    rw [exec_resyncData, execResyncData, resyncData_of_unpaired htake hunpaired]
  case abandon =>
    intro s i hpaired hasking hrun hphase hsent hlate htries
    rw [exec_resyncAbandon, execResyncAbandon, resyncAbandon_of_third hpaired hasking hrun hphase hsent hlate htries]
  case join =>
    intro s who i hlets hfits hreset halone
    rw [exec_pairJoin, execPairJoin, pairJoin_of_alone hlets hfits hreset halone, answer_ok]
  case report =>
    intro s t ht hon hdue
    rw [exec_statusSend, execStatusSend, statusSend_of_due ht hon hdue, State.statusNoted]
  case status =>
    intro s t p q m htake hfresh
    rw [exec_status, execStatus, statusReceive_of_fresh htake hfresh]

end Sys2Proof.Machine
end

section
/-! PROOFS. The redundant pair: the paddle, the paired ferry and the paired cold start (Chapter 12). -/

namespace Sys2Proof.Machine

section
variable {s t : State} {who : Caller}

/-! ### Claims and leases (R462, R464, R466 to R468) -/

theorem leaseExpiry_of_expired {e : Int} (hexpires : s.pair.expires = some e) (hgained : s.pair.gained = true)
    (hdead : s.leaseLive = false) : leaseExpiry s = s.endAuthority e := by
  simp [leaseExpiry, hexpires, hgained, hdead]

/-- Where Table 12-7 allows it, the claim is asserted. -/
theorem claim_of_allowed (hpaddle : s.paddle = 0) (hconflict : s.pairState ≠ 3) (hcause : s.hardCause = false)
    (hmay : s.mayClaim = true) (hretry : s.pair.retryAt ≤ s.gtc) (hrun : (s.dom s.pairDom).state ≠ 0) :
    claim false s = (s.setPair { s.pair with
      claimIn := false, claimOut := true, claimAt := s.gtc, claimWaits := false }).setPaddle 1 :=
  if_pos ⟨.inl hpaddle, rfl, hconflict, by simp [hcause], hmay, hretry, hrun⟩

section
variable (hclaims : s.paddle = 1) (hdue : s.pair.claimAt + 200 ≤ s.gtc)
include hclaims hdue

theorem claimSample_of_free : claimSample false s = (s.setPair { s.pair with claimIn := false }).gainClaim := by
  simp [claimSample, hclaims, Nat.not_lt.mpr hdue]

theorem claimSample_of_taken (hrole : s.pair.roleB = false) :
    claimSample true s = s.setPair { s.pair with claimIn := true, claimWaits := true } := by
  simp [claimSample, hclaims, Nat.not_lt.mpr hdue, hrole, State.setPair]

end

/-- A claim of the peer against the holder of role A is a conflict. -/
theorem claimInAsserted_of_holder (hholder : s.isHolder = true) (hrole : s.pair.roleB = false)
    (hpeer : s.peerHolds = false) :
    claimInAsserted s = ((s.setPair { s.pair with claimIn := true }).count32 Od.claimConflicts).raiseOcc 0xB02 0x80 0 1 0 := by
  unfold claimInAsserted
  extract_lets _ t u v
  have hpeer' : t.peerHolds = false := hpeer
  have hu : u = t := if_neg (by simp [hpeer'])
  simp only [hholder, hrole, if_true, Bool.false_eq_true, if_false, v, hu, t]

theorem claimLineFault_of_late {g : Nat} (hstandby : s.paddle = 3) (hmay : s.mayClaim = false)
    (hdue : g + s.beatNs ≤ s.gtc) :
    claimLineFault g s = (s.setPair { s.pair with claimIn := false }).setLineFault true :=
  if_pos ⟨hstandby, by simp [hmay], hdue⟩

/-! ### Releases (R470) -/

/-- The holder announces its release at the beat `x`. -/
theorem releaseCauseCmd_of_cause {c : Nat} {x : Int} (hholder : s.paddle = 2) (hnone : s.pair.release = none)
    (hcause : s.releaseCause = c) (hc : c ≠ 0) (hpeer : s.peerFaultEligible = true) (hformed : s.pairState = 2)
    (hx : x = s.beatFrom (s.pairNow + 10000 * 2 ^ 48) * s.beatUnits) :
    releaseCauseCmd s =
      ((s.setPair { s.pair with release := some (x, c), offer := none, causeHeld := 0 }).setPaddle 4).sendPair 8 0
        (instantBody (timeOfValue x) c) := by
  subst hx
  simp [releaseCauseCmd, hholder, hnone, hcause, hc, hpeer, hformed]

theorem releaseInstant_of_due {x : Int} {c : Nat} (hrelease : s.pair.release = some (x, c)) (hdue : x ≤ s.pairNow)
    (hholder : s.isHolder = true) : releaseInstant s = s.endAuthority x := by
  simp [releaseInstant, hrelease, hdue, hholder]

theorem release_of_standby {p q v c : Nat} (htake : s.takePair p q = some t) (hstandby : s.isHolder = false)
    (hpaddle : t.paddle = 3) :
    release p q v c s = t.setPair { t.pair with taking := some (valueOfTime v, false, c) } := by
  have hpaddle' : (t.setPair { t.pair with taking := some (valueOfTime v, false, c) }).paddle = 3 := hpaddle
  simp [release, htake, hstandby, hpaddle']

/-! ### Planned handover (R472, R475, R476) -/

theorem offerCmd_of_eligible {u : State} {p q v c : Nat} (htake : s.takePair p q = some t)
    (hu : u = t.setPair { t.pair with asked := none }) (helig : u.eligible_ = true) (hstandby : u.isHolder = false) :
    offerCmd p q v c s =
      (u.setPair { u.pair with taking := some (valueOfTime v, true, c) }).sendPair 6 0 (instantBody v c) := by
  simp only [offerCmd, htake, ← hu, helig, hstandby, Bool.not_false, and_self, if_true]

theorem accept_of_early {p q c k : Nat} {h : Int} {b : Bool} (htake : s.takePair p q = some t)
    (hoffer : t.pair.offer = some (h, b, k)) (hearly : t.pairNow < h - 10000 * 2 ^ 48) (hholder : t.paddle = 2) :
    accept p q (timeOfValue h) c s = (t.setPair { t.pair with offer := some (h, true, k) }).setPaddle 4 := by
  simp only [accept, htake, hoffer, hearly, hholder, and_self, if_true]

theorem refuse_of_offer {p q v c : Nat} (htake : s.takePair p q = some t) (hoffer : t.pair.offer.isSome = true) :
    refuse p q v c s = (t.setPair { t.pair with offer := none, asked := none }).raiseOcc 0xB01 0x80 0 5 c := by
  simp only [refuse, htake, hoffer, true_or, if_true]

theorem takeRequest_of_holder {p q v : Nat} (htake : s.takePair p q = some t) (hholder : t.isHolder = true)
    (hoffer : t.pair.offer = none) (hrelease : t.pair.release = none) (hpeer : t.peerEligible = true) :
    takeRequest p q v 1 s = t.makeOffer 2 := by
  simp [takeRequest, htake, hholder, hoffer, hrelease, hpeer]

theorem handoverInstant_of_refused {h : Int} {c : Nat} (hoffer : s.pair.offer = some (h, false, c))
    (hdue : h ≤ s.pairNow) :
    handoverInstant s = (s.setPair { s.pair with offer := none }).raiseOcc 0xB01 0x80 0 6 c := by
  simp [handoverInstant, hoffer, Int.not_lt.mpr hdue]

/-- The preferred standby that has been Eligible for RevertHold asks for the paddle. -/
theorem takeBack_of_held {g : Nat} (hstandby : s.paddle = 3) (hpreferred : s.num Od.pairPreferred = boolNat s.pair.roleB)
    (hsince : s.pair.eligibleSince = some g) (hlong : g + 1000000 * s.num Od.revertHold ≤ s.gtc)
    (helig : s.eligible_ = true) (hrevert : s.pair.revertSuspended = false) (hasked : s.pair.asked = none)
    (hrun : s.pairedRunning = []) :
    takeBack s = ((s.setPair { s.pair with asked := some 2 }).sendPair 9 0 (instantBody 0 2)).raiseOcc 0xB04 0x80 0 5 0 := by
  simp [takeBack, hstandby, hpreferred, hsince, hlong, helig, hrevert, hasked, hrun]

/-! ### Commands of the paddle (Table 12-10) -/

theorem paddleHandOver_of_holder (hlets : s.lets who Od.paddleCommand false 0 (.num 1) = true) (hholder : s.paddle = 2)
    (hpeer : s.peerEligible = true) (hoffer : s.pair.offer = none) (hrelease : s.pair.release = none) :
    paddleHandOver who s = .ok (s.makeOffer 1) := by
  simp only [paddleHandOver, lets_ok hlets, hholder, hpeer, hoffer, hrelease, ok_bind, beq_self_eq_true,
    Option.isNone_none, Bool.and_self, need_true]

theorem paddleTake_of_standby (hlets : s.lets who Od.paddleCommand false 0 (.num 2) = true) (hstandby : s.paddle = 3)
    (helig : s.eligible_ = true) (hasked : s.pair.asked = none) :
    paddleTake who s = .ok ((s.setPair { s.pair with asked := some 1 }).sendPair 9 0 (instantBody 0 1)) := by
  simp only [paddleTake, lets_ok hlets, hstandby, helig, hasked, ok_bind, beq_self_eq_true, Option.isNone_none, need_true]

theorem clearSuspect_of_lets (hlets : s.lets who Od.paddleCommand false 0 (.num 3) = true) :
    clearSuspect who s = .ok (s.setSuspect false) := by
  rw [clearSuspect, lets_ok hlets, ok_bind]

theorem clearRevert_of_lets (hlets : s.lets who Od.paddleCommand false 0 (.num 4) = true) :
    clearRevert who s = .ok (s.setRevert false) := by
  rw [clearRevert, lets_ok hlets, ok_bind]

/-! ### Self-tests (R477) -/

theorem selfTestFail_of_standby {k : Nat} (hnew : tabGet none s.pair.tests k = none) (hgained : s.pair.gained = false)
    (ht : t = s.setPair { s.pair with tests := tabSet none s.pair.tests k (some 0) }) :
    selfTestFail k s = t.raiseFlag 0xB03 0x80 0 true 13 t.pairHealth := by
  subst ht
  simp [selfTestFail, hnew, hgained]

theorem selfTestRecover_of_failing {k v : Nat} (hfails : tabGet none s.pair.tests k = some v)
    (ht : t = s.setPair { s.pair with tests := tabSet none s.pair.tests k none }) :
    selfTestRecover k s = t.raiseFlag 0xB03 0x80 0 false 13 t.pairHealth := by
  subst ht
  simp [selfTestRecover, hfails]

end

/-- Settles O31: each clause is one branch of its command. -/
theorem paddleAndClaims : Obligations.PaddleAndClaims := by
  unfold Obligations.PaddleAndClaims
  refine ⟨?expiry, ?claim, ?free, ?taken, ?asserted, ?line, ?cause, ?instant, ?release, ?offer, ?accept, ?refuse,
    ?request, ?handover, ?takeBack, ?handOver, ?take, ?suspect, ?revert, ?fail, ?recover⟩
  case expiry =>
    intro s e hexpires hgained hdead
    rw [exec_leaseExpiry, execLeaseExpiry, leaseExpiry_of_expired hexpires hgained hdead]
  case claim =>
    intro s hpaddle hconflict hcause hmay hretry hrun
    rw [exec_claim, execClaim, claim_of_allowed hpaddle hconflict hcause hmay hretry hrun]
  case free =>
    intro s hclaims hdue
    rw [exec_claimSample, execClaimSample, claimSample_of_free hclaims hdue]
  case taken =>
    intro s hclaims hdue hrole
    rw [exec_claimSample, execClaimSample, claimSample_of_taken hclaims hdue hrole]
  case asserted =>
    intro s hholder hrole hpeer
    rw [exec_claimInAsserted, execClaimInAsserted, claimInAsserted_of_holder hholder hrole hpeer]
  case line =>
    intro s g hstandby hmay hdue
    rw [exec_claimLineFault, execClaimLineFault, claimLineFault_of_late hstandby hmay hdue]
  case cause =>
    intro s c x hholder hnone hcause hc hpeer hformed hx
    rw [exec_releaseCause, execReleaseCause, releaseCauseCmd_of_cause hholder hnone hcause hc hpeer hformed hx]
  case instant =>
    intro s x c hrelease hdue hholder
    rw [exec_releaseInstant, execReleaseInstant, releaseInstant_of_due hrelease hdue hholder]
  case release =>
    intro s t p q v c htake hstandby hpaddle
    rw [exec_release, execRelease, release_of_standby htake hstandby hpaddle]
  case offer =>
    intro s t u p q v c htake hu helig hstandby
    rw [exec_offer, execOffer, offerCmd_of_eligible htake hu helig hstandby]
  case accept =>
    intro s t p q c k h b htake hoffer hearly hholder
    rw [exec_accept, execAccept, accept_of_early htake hoffer hearly hholder]
  case refuse =>
    intro s t p q v c htake hoffer
    rw [exec_refuse, execRefuse, refuse_of_offer htake hoffer]
  case request =>
    intro s t p q v htake hholder hoffer hrelease hpeer
    rw [exec_takeRequest, execTakeRequest, takeRequest_of_holder htake hholder hoffer hrelease hpeer]
  case handover =>
    intro s h c hoffer hdue
    rw [exec_handoverInstant, execHandoverInstant, handoverInstant_of_refused hoffer hdue]
  case takeBack =>
    intro s g hstandby hpreferred hsince hlong helig hrevert hasked hrun
    rw [exec_takeBack, execTakeBack, takeBack_of_held hstandby hpreferred hsince hlong helig hrevert hasked hrun]
  case handOver =>
    intro s who hlets hholder hpeer hoffer hrelease
    rw [exec_paddleHandOver, execPaddleHandOver, paddleHandOver_of_holder hlets hholder hpeer hoffer hrelease, answer_ok]
  case take =>
    intro s who hlets hstandby helig hasked
    rw [exec_paddleTake, execPaddleTake, paddleTake_of_standby hlets hstandby helig hasked, answer_ok]
  case suspect =>
    intro s who hlets
    rw [exec_clearSuspect, execClearSuspect, clearSuspect_of_lets hlets, answer_ok]
  case revert =>
    intro s who hlets
    rw [exec_clearRevertSuspended, execClearRevertSuspended, clearRevert_of_lets hlets, answer_ok]
  case fail =>
    intro s k t hnew hgained ht
    rw [exec_selfTestFail, execSelfTestFail, selfTestFail_of_standby hnew hgained ht]
  case recover =>
    intro s k t v hfails ht
    rw [exec_selfTestRecover, execSelfTestRecover, selfTestRecover_of_failing hfails ht]

/-! ### The paired ferry (R479, R480) -/

section
variable {s t : State} {p q i n tag : Nat}

/-- A proposal that this module can follow is accepted. -/
theorem ferryPropose_of_able {c : Prog} (htake : s.takePair p q = some t) (hpaired : t.paired i = true)
    (hrun : t.instRunningState i = true) (hswitch : (t.scanOf i).switchAt = none)
    (hferry : (t.pairInst i).ferry = none) (hphase : (t.scanOf i).phase = 1) (hn : (t.scanOf i).scan + 2 ≤ n)
    (hreset : t.inReset i = false) (hcand : (t.scanOf i).cand = some c) (htag : c.tag 8 = tag) :
    ferryPropose p q i n tag s = ((t.setSwitch i n).sendPair 11 0 (ferryBody i n tag)).raiseOcc 0xB06 0x81 i 2 n := by
  simp [ferryPropose, htake, hpaired, hrun, hswitch, hferry, hphase, hn, hreset, hcand, htag]

theorem ferryPropose_of_no_candidate (htake : s.takePair p q = some t) (hcand : (t.scanOf i).cand = none) :
    ferryPropose p q i n tag s = t.sendPair 12 0 (ferryBody i n tag) := by
  simp [ferryPropose, htake, hcand]

theorem ferryAccept_of_proposed (htake : s.takePair p q = some t) (hferry : (t.pairInst i).ferry = some (n, tag)) :
    ferryAccept p q i n tag s = if t.ferryLate i n then t.withdrawFerry i 2 true
      else ((t.setPairInst i { t.pairInst i with ferry := none }).setSwitch i n).raiseOcc 0xB06 0x81 i 2 n := by
  simp [ferryAccept, htake, hferry]

theorem ferryCancelMessage_of_proposed (htake : s.takePair p q = some t) (hpaired : t.paired i = true)
    (hferry : (t.pairInst i).ferry = some (n, tag)) :
    ferryCancelMessage p q i n tag s = t.withdrawFerry i 2 false := by
  simp [ferryCancelMessage, htake, hpaired, hferry]

theorem ferryCancelMessage_of_unpaired (htake : s.takePair p q = some t) (hunpaired : t.paired i = false) :
    ferryCancelMessage p q i n tag s = t := by
  simp [ferryCancelMessage, htake, hunpaired]

theorem ferryTimeout_of_late (hferry : (s.pairInst i).ferry = some (n, tag)) (hlate : s.ferryLate i n = true) :
    ferryTimeout i s = s.withdrawFerry i 2 true := by
  simp only [ferryTimeout, hferry, hlate, if_true]

/-! ### The paired cold start (R461) -/

theorem startPropose_of_able {u : State} {c : Prog} (htake : s.takePair p q = some t) (hpaired : t.paired i = true)
    (hformed : t.pairState = 2) (hstopped : t.instState i = 1) (hreset : t.inReset i = false)
    (hfirst : t.firstBoundary i (t.gtc + 50000) ≤ n) (hscan : t.num Od.scanNumber i < n)
    (hcheck : t.checkStart i false = .ok (c, u)) :
    startPropose p q i 1 n (c.tag 8) s =
      ((u.launch i c false n).sendPair 15 0 (startBody i n (c.tag 8))).raiseOcc 0xB06 0x81 i 5 n := by
  simp [startPropose, htake, hpaired, hformed, hstopped, hreset, hfirst, hscan, hcheck]

theorem startPropose_of_unpaired {m : Nat} (htake : s.takePair p q = some t) (hunpaired : t.paired i = false) :
    startPropose p q i m n tag s = t := by
  simp [startPropose, htake, hunpaired]

theorem startAccept_of_proposed {m : Nat} {c : Prog} (htake : s.takePair p q = some t)
    (hstart : (t.pairInst i).start = some n) (hprog : (t.scanOf i).prog = some c) (htime : t.startLate i = false) :
    startAccept p q i m n (c.tag 8) s = t.setPairInst i { t.pairInst i with start := none } := by
  simp [startAccept, htake, hstart, hprog, htime]

theorem pairedStartTimeout_of_late (hstart : (s.pairInst i).start = some n) (hstarting : s.instState i = 2)
    (hlate : s.startLate i = true) : pairedStartTimeout i s = s.startAlone i :=
  if_pos ⟨by rw [hstart]; rfl, hstarting, hlate⟩

end

/-- Settles O32: each clause is one branch of its command. -/
theorem pairedFerryAndStart : Obligations.PairedFerryAndStart := by
  unfold Obligations.PairedFerryAndStart
  refine ⟨?able, ?unable, ?accepted, ?late, ?cancelled, ?unpaired, ?timeout, ?start, ?startUnpaired, ?confirmed, ?alone⟩
  case able =>
    intro s t p q i n tag c htake hpaired hrun hswitch hferry hphase hn hreset hcand htag
    rw [exec_ferryPropose, execFerryPropose,
      ferryPropose_of_able htake hpaired hrun hswitch hferry hphase hn hreset hcand htag]
  case unable =>
    intro s t p q i n tag htake hcand
    rw [exec_ferryPropose, execFerryPropose, ferryPropose_of_no_candidate htake hcand]
  case accepted =>
    intro s t p q i n tag htake hferry htime
    rw [exec_ferryAccept, execFerryAccept, ferryAccept_of_proposed htake hferry, if_neg (by simp [htime])]
  case late =>
    intro s t p q i n tag htake hferry hlate
    rw [exec_ferryAccept, execFerryAccept, ferryAccept_of_proposed htake hferry, if_pos hlate]
  case cancelled =>
    intro s t p q i n tag htake hpaired hferry
    rw [exec_ferryCancelMessage, execFerryCancelMessage, ferryCancelMessage_of_proposed htake hpaired hferry]
  case unpaired =>
    intro s t p q i n tag htake hunpaired
    rw [exec_ferryCancelMessage, execFerryCancelMessage, ferryCancelMessage_of_unpaired htake hunpaired]
  case timeout =>
    intro s i n tag hferry hlate
    rw [exec_ferryProposeTimeout, execFerryProposeTimeout, ferryTimeout_of_late hferry hlate]
  case start =>
    intro s t u p q i n c htake hpaired hformed hstopped hreset hfirst hscan hcheck
    rw [exec_startPropose, execStartPropose,
      startPropose_of_able htake hpaired hformed hstopped hreset hfirst hscan hcheck]
  case startUnpaired =>
    intro s t p q i m n tag htake hunpaired
    rw [exec_startPropose, execStartPropose, startPropose_of_unpaired htake hunpaired]
  case confirmed =>
    intro s t p q i m n c htake hstart hprog htime
    rw [exec_startAccept, execStartAccept, startAccept_of_proposed htake hstart hprog htime]
  case alone =>
    intro s i n hstart hstarting hlate
    rw [exec_pairedStartTimeout, execPairedStartTimeout, pairedStartTimeout_of_late hstart hstarting hlate]

end Sys2Proof.Machine
end

section
/-! PROOFS. Pins and local sense (Chapter 13): what each command does under its conditions. -/

namespace Sys2Proof.Machine

section
variable {s t : State} {who : Caller} {n : Nat}

/-! ### Queue entries (R494 to R500) -/

section
variable {e : FioEnt} {h : Nat}

/-- A due entry of an Output pin drives it. -/
theorem fioEntryExecute_of_output (hdue : s.dueEntry n = some (e, h, false)) (hopen : e.closing = false)
    (hclass : s.pinClass n = 2) :
    fioEntryExecute n s = ((s.setQueue (s.fio.queue.erase e)).actEntry e
      (if e.fixed.isSome then max h (2 * (s.setQueue (s.fio.queue.erase e)).gtc) else h)).notePins := by
  have hnotTrip : ¬ (s.pinClass n = 1 ∧ ((!s.authority) = true ∨ s.afterRelease e = true)) :=
    fun ⟨htrip, _⟩ => absurd (hclass.symm.trans htrip) (by decide)
  simp only [fioEntryExecute, hdue, hopen, if_neg hnotTrip, Bool.false_eq_true, if_false]
  rfl

/-- A due entry of a Trip pin is Held while this module has no authority. -/
theorem fioEntryExecute_of_held (hdue : s.dueEntry n = some (e, h, false)) (hopen : e.closing = false)
    (hclass : s.pinClass n = 1) (hauth : s.authority = false) :
    fioEntryExecute n s =
      (s.setQueue (s.fio.queue.erase e ++ [{ e with held := true, fixed := some h }])).notePins := by
  simp only [fioEntryExecute, hdue, hopen, hclass, hauth, Bool.not_false, true_or, and_self, if_true, Bool.false_eq_true,
    if_false]
  rfl

theorem fioEntryExecute_of_closing {b : Bool} (hdue : s.dueEntry n = some (e, h, b)) (hclosing : e.closing = true) :
    fioEntryExecute n s = ((s.setQueue (s.fio.queue.erase e)).setLevel n h false).notePins := by
  simp only [fioEntryExecute, hdue, hclosing, if_true]

theorem heldEntryDiscard_of_due (hqueue : s.fio.queue = [e]) (hpin : e.pin = n) (hheld : e.held = true)
    (hrun : (s.dom e.dom).state ≠ 0) (hdue : e.time + 2 * s.leaseTime ≤ (s.dom e.dom).valueAt s.gtc) :
    heldEntryDiscard n s =
      (((s.setQueue []).count32 Od.fioHeldDiscards).raiseOcc 0xBB0 0x06 n 4 e.inst).notePins := by
  simp [heldEntryDiscard, hqueue, hpin, hheld, hrun, hdue]

end

/-! ### Host submissions (R501) -/

section
variable {i : Nat} (hexists : s.instExists i = true) (hidle : (s.fqPage i).busyUntil ≤ s.gtc)
  (hreset : s.inReset i = false)
include hexists hidle hreset

theorem fqSubmit_of_ok (hsubmit : s.submitFio i (s.fqPage i) = .ok t) :
    fqSubmit i s = (t.setFqPage i { s.fqPage i with
      busyUntil := s.gtc + s.free % 1001, ended := true, code := 0 }).tookFree := by
  simp only [fqSubmit, hexists, Nat.not_lt.mpr hidle, hreset, hsubmit, Bool.not_true, Bool.false_eq_true, if_false]

theorem fqSubmit_of_error {c : Code} (hsubmit : s.submitFio i (s.fqPage i) = .error c) :
    fqSubmit i s = (s.setFqPage i { s.fqPage i with
      busyUntil := s.gtc + s.free % 1001, ended := true, code := c.value }).tookFree := by
  simp only [fqSubmit, hexists, Nat.not_lt.mpr hidle, hreset, hsubmit, Bool.not_true, Bool.false_eq_true, if_false]

end

/-! ### Inputs and readback (R502, R503) -/

/-- A stable high level of a low input is accepted with its stamp. -/
theorem fioInputEdge_of_rise {m : Nat} (hclass : s.pinClass n = 3) (hshed : s.shedLevel < 4)
    (hpolarity : s.num (Od.fioPolarity + n) = 0) (hlow : (s.pin n).input = false)
    (hstable : m + 2 * s.num (Od.fioInFilter + n) ≤ 2 * s.gtc) (hlimit : s.num (Od.fioChatterLimit + n) = 0) :
    fioInputEdge n true m s = (State.setNum (State.count48ev (s.setPin n { s.pin n with
      input := true
      edges := (s.edgeStamp n m :: (s.pin n).edges).filter fun e => decide (s.edgeStamp n m < e + 25000000) })
        (Od.fioEdges + n) (pinSource n) 0x06 n) (Od.fioLastEdgeGtc + n) (s.edgeStamp n m)).notePins := by
  simp [fioInputEdge, hclass, Nat.not_le.mpr hshed, hpolarity, hlow, Nat.not_lt.mpr hstable, hlimit]

theorem chatterClear_of_unlimited {g : Nat} (hchatter : (s.pin n).chatterAt = some g)
    (hlimit : s.num (Od.fioChatterLimit + n) = 0) (ht : t = s.setPin n { s.pin n with chatterAt := none }) :
    chatterClear n s = (t.pinFlagEvent n false 2 (t.pinLevelWord n)).notePins := by
  subst ht
  simp [chatterClear, hchatter, hlimit]

theorem readbackFault_of_agreed {b : Bool} (hdriven : s.pinDriven n = some b) (hfault : (s.pin n).readFault = true)
    (ht : t = s.setPin n { s.pin n with readFault := false }) :
    readbackFault n false s = (t.pinFlagEvent n false 2 (t.pinFlags n)).notePins := by
  subst ht
  simp [readbackFault, hdriven, hfault]

/-! ### Classes and polarities (R490) -/

theorem fioClassWrite_of_idle {v : Nat} (hlets : s.lets who (Od.fioClass + n) false 0 (.num v) = true)
    (howner : s.checkPinOwner who n = .ok ()) (hidle : s.pinRunning n = false) :
    fioClassWrite who n false v s = .ok ((s.applyPinClass n false v).bumpVersion (Od.fioClass + n) 0) := by
  simp only [fioClassWrite, Bool.false_eq_true, if_false, lets_ok hlets, howner, hidle, ok_bind, Bool.not_false, need_true]

theorem fioClassWrite_of_running {v : Nat} (hlets : s.lets who (Od.fioPolarity + n) false 0 (.num v) = true)
    (howner : s.checkPinOwner who n = .ok ()) (hrun : s.pinRunning n = true) :
    fioClassWrite who n true v s = .error .busy := by
  simp only [fioClassWrite, if_true, lets_ok hlets, howner, hrun, ok_bind, Bool.not_true, need_false, error_bind]

/-! ### Local sense (R506, R511 to R513) -/

theorem lsConversion_of_due {l : List (Nat × Nat)} (hdue : s.fio.lsAt < s.gtc / 500) (hshed : s.shedLevel < 4) :
    lsConversion l s = (numbersFrom 0 16).foldl (fun u m => match l[m]? with
      | some (a, b) => u.lsConvert m (a % 65536) (b % 65536)
      | none => u) (s.withFio fun x => { x with lsAt := s.gtc / 500 }) :=
  if_neg (not_or.mpr ⟨Nat.not_le.mpr hdue, Nat.not_le.mpr hshed⟩)

/-- A calibration of either kind begins on an idle input. -/
theorem lsCalibrate_of_idle {m kind : Nat} (hlets : s.lets who (Od.lsCalibrate + m) false 0 (.num kind) = true)
    (howner : s.tenantHolds who 0x07 m = true) (hidle : (s.ls m).cal = none) (hread : s.imageReads [17] m = false)
    (hon : s.lsOn m = true) :
    lsCalibrate who m kind s =
      .ok ((s.setLs m { s.ls m with cal := some (kind, 0, false, []) }).setNum (Od.lsCalStatus + m) (2 ^ 24)) := by
  simp only [lsCalibrate, lets_ok hlets, howner, hidle, hread, hon, ok_bind, Option.isNone_none, Bool.not_false, need_true]

theorem calOutcome_of_flagged (kind : Nat) (l : List Nat) (noise e gu ou zeroBound loE hiE : Nat) :
    calOutcome kind true l noise e gu ou zeroBound loE hiE = .error 3 := rfl

/-- A calibration with a flagged conversion ends with reason 3. -/
theorem lsCalibrationDone_of_flagged {m k c : Nat} {l : List Nat} (hcal : (s.ls m).cal = some (k, c, true, l))
    (hdone : 4096 ≤ c) :
    lsCalibrationDone m s = ((s.setLs m { s.ls m with cal := none }).setNum (Od.lsCalStatus + m)
      (3 * 2 ^ 24 + 3 * 2 ^ 16 + Code.precondition.value)).raiseDone 0xBE0 0x07 m (Od.lsCalibrate + m)
        Code.precondition.value := by
  simp only [lsCalibrationDone, hcal, if_neg (Nat.not_lt.mpr hdone), calOutcome_of_flagged]

theorem tcsDelayExpiry_of_set {m : Nat} (hruns : (s.tcs m).runs = true)
    (hdue : 1000000 * leAt (s.tcsConfig m) 12 4 ≤ (s.tcs m).time s.gtc) (hkind : (s.tcs m).kind = 1) :
    tcsDelayExpiry m s = s.setAlarm m true := by
  simp only [tcsDelayExpiry, hruns, hdue, hkind, and_self, if_true]

end

/-- Settles O33: each clause is one branch of its command. -/
theorem localPinsAndSense : Obligations.LocalPinsAndSense := by
  unfold Obligations.LocalPinsAndSense
  refine ⟨?output, ?held, ?closing, ?discard, ?submitted, ?refused, ?collision, ?edge, ?chatter, ?readback, ?classIdle,
    ?running, ?conversion, ?zero, ?span, ?flagged, ?alarm⟩
  case output =>
    intro s n e h hdue hopen hclass
    rw [exec_fioEntryExecute, execFioEntryExecute, fioEntryExecute_of_output hdue hopen hclass]
  case held =>
    intro s n e h hdue hopen hclass hauth
    rw [exec_fioEntryExecute, execFioEntryExecute, fioEntryExecute_of_held hdue hopen hclass hauth]
  case closing =>
    intro s n e h b hdue hclosing
    rw [exec_fioEntryExecute, execFioEntryExecute, fioEntryExecute_of_closing hdue hclosing]
  case discard =>
    intro s n e hqueue hpin hheld hrun hdue
    rw [exec_heldEntryDiscard, execHeldEntryDiscard, heldEntryDiscard_of_due hqueue hpin hheld hrun hdue]
  case submitted =>
    intro s t i hexists hidle hreset hsubmit
    rw [exec_fqSubmit, execFqSubmit, fqSubmit_of_ok hexists hidle hreset hsubmit]
  case refused =>
    intro s i c hexists hidle hreset hsubmit
    rw [exec_fqSubmit, execFqSubmit, fqSubmit_of_error hexists hidle hreset hsubmit]
  case collision =>
    intro s i hbusy
    rw [exec_fqSubmitCollision, execFqSubmitCollision, fqSubmitCollision, if_pos hbusy]
  case edge =>
    intro s n m hclass hshed hpolarity hlow hstable hlimit
    rw [exec_fioInputEdge, execFioInputEdge, fioInputEdge_of_rise hclass hshed hpolarity hlow hstable hlimit]
  case chatter =>
    intro s t n g hchatter hlimit ht
    rw [exec_chatterClear, execChatterClear, chatterClear_of_unlimited hchatter hlimit ht]
  case readback =>
    intro s t n b hdriven hfault ht
    rw [exec_readbackFault, execReadbackFault, readbackFault_of_agreed hdriven hfault ht]
  case classIdle =>
    intro s who n v hlets howner hidle
    rw [exec_fioClassWrite, execFioClassWrite, fioClassWrite_of_idle hlets howner hidle, answer_ok]
  case running =>
    intro s who n v hlets howner hrun
    rw [exec_fioClassWrite, execFioClassWrite, fioClassWrite_of_running hlets howner hrun, answer_error]
  case conversion =>
    intro s l hdue hshed
    rw [exec_lsConversion, execLsConversion, lsConversion_of_due hdue hshed]
    rfl
  case zero =>
    intro s who m hlets howner hidle hread hon
    rw [exec_lsCalibrateZero, execLsCalibrateZero, lsCalibrate_of_idle hlets howner hidle hread hon, answer_ok]
  case span =>
    intro s who m hlets howner hidle hread hon
    rw [exec_lsCalibrateSpan, execLsCalibrateSpan, lsCalibrate_of_idle hlets howner hidle hread hon, answer_ok]
  case flagged =>
    intro s m k n l hcal hdone
    rw [exec_lsCalibrationDone, execLsCalibrationDone, lsCalibrationDone_of_flagged hcal hdone]
  case alarm =>
    intro s m hruns hdue hkind
    rw [exec_tcsDelayExpiry, execTcsDelayExpiry, tcsDelayExpiry_of_set hruns hdue hkind]

end Sys2Proof.Machine
end

section
/-! PROOFS. Keys, vault secrets, attestation and measurement (Chapter 17; R611, R617 to R622, R626, R627). -/

namespace Sys2Proof.Machine

section
variable {s t : State} {who : Caller} {n : Nat} {b : Bytes}

/-! ### Loading and replacing keys (R620 to R622) -/

/-- The record that a load of plain octets `b` stages in slot `n` (Table 17-10). -/
def State.loadRecord (t : State) (n : Nat) (b : Bytes) : KeyRec :=
  { st := 1, algorithm := byteAt b 0, generation := t.generationOf n + 1, chainMask := byteAt b 3, usage := leAt b 8 2,
    keyId := leAt b 4 4, key := b.drop 16, digest := t.keyDigest n (byteAt b 3), crcOk := false, written := 0 }

theorem keyLoad_of_plain (hform : s.letsForm who (Od.keyLoad + n) false 0 (.bytes b) = true)
    (hfields : checkKeyForm b = true) (hplain : byteAt b 1 = 0) (howner : s.tenantHolds who 0x09 n = true)
    (hfree : s.journalFree n = .ok ()) (hsluice : s.sluiceHeld = false) (hshed : s.shedLevel < 3)
    (ht : t = s.repairKey n) (hkcv : leAt b 12 4 = 0 ∨ leAt b 12 4 = keyCheckValue (b.drop 16)) :
    keyLoad who n b s =
      .ok ((t.setKeyRec n ((t.generationOf n + 1) % 2) (some (t.loadRecord n b))).setKeyPend n
        ⟨1, 0, leAt b 4 4, keyCheckValue (b.drop 16), 1⟩) := by
  obtain ⟨row, hgate⟩ := letsForm_ok hform
  have hkey : s.loadedKey b = some (b.drop 16) := by rw [State.loadedKey, if_pos hplain]
  have hgood : (leAt b 12 4 == 0 || leAt b 12 4 == keyCheckValue (b.drop 16)) = true := by simpa using hkcv
  subst ht
  simp only [keyLoad, hgate, hfields, hplain, howner, hfree, hsluice, hshed, hkey, hgood, ok_bind, Option.isSome_some,
    Option.getD_some, beq_self_eq_true, Bool.true_or, Bool.and_self, Bool.not_false, decide_true, need_true, if_true,
    State.loadRecord]

theorem keyLoad_of_bad_form (hform : s.letsForm who (Od.keyLoad + n) false 0 (.bytes b) = true)
    (hfields : checkKeyForm b = false) : keyLoad who n b s = .error .outOfRange := by
  obtain ⟨row, hgate⟩ := letsForm_ok hform
  simp only [keyLoad, hgate, hfields, ok_bind, need_false, error_bind]

theorem keyLoadDone_of_verified {k : Nat} {r : KeyRec} (hact : (s.keyPend n).act = 1) (hcode : (s.keyPend n).code = 0)
    (hbank : s.stagedBank n = some k) (hrec : s.keyRec n k = some r) :
    keyLoadDone n true s = ((s.setKeyRec n k (some { r with crcOk := true })).setKeyPend n
      { s.keyPend n with st := 2, act := 0 }).raiseDone (0xD20 + n) 0x09 n (Od.keyLoad + n) 0 := by
  simp [keyLoadDone, hact, hcode, hbank, hrec]

theorem keyLoadDone_of_failed {k : Nat} (hact : (s.keyPend n).act = 1) (hbank : s.stagedBank n = some k) :
    keyLoadDone n false s = ((s.copyBank n k).setKeyPend n { s.keyPend n with
      st := 3, code := Code.verifyFailed.value, act := 0 }).raiseDone (0xD20 + n) 0x09 n (Od.keyLoad + n)
        Code.verifyFailed.value := by
  have hcode : ¬ Code.verifyFailed.value = 0 := by decide
  have hact' : ¬ (s.keyPend n).act ≠ 1 := fun h => h hact
  simp only [keyLoadDone, if_neg hact', State.dropStaged, hbank, Bool.false_eq_true, if_false, if_neg hcode]

theorem keyCommit_of_staged {a k : Nat} {r : KeyRec} (hcheck : s.checkCommit who n 1 = .ok ())
    (hbank : s.stagedBank n = some k) (hrec : s.keyRec n k = some r) :
    keyCommit who n a s = .ok ((s.setKeyRec n k (some { r with st := 2, written := s.gtc + a })).setKeyPend n
      { s.keyPend n with act := 2 }) := by
  simp only [keyCommit, hcheck, hbank, hrec, ok_bind, Option.map_some]

theorem keyCommit_of_nothing {a : Nat} (hlets : s.lets who (Od.keyCommit + n) false 0 (.num 1) = true)
    (howner : s.tenantHolds who 0x09 n = true) (hfree : s.journalFree n = .ok ()) (hnone : (s.keyPend n).st ≠ 2) :
    keyCommit who n a s = .error .precondition := by
  have hstaged : ((s.keyPend n).st == 2) = false := beq_eq_false_iff_ne.mpr hnone
  simp only [keyCommit, State.checkCommit, lets_ok hlets, howner, hfree, hstaged, ok_bind, need_true, need_false, error_bind]

theorem keyCommitDone_of_committed {r : KeyRec} (hact : (s.keyPend n).act = 2) (hcontent : s.keyContent n = some r)
    (hnewest : s.generationOf n ≤ r.generation) :
    keyCommitDone n s = (((s.setKeyRec n 0 (some { r with written := 0 })).setKeyRec n 1 (some { r with
      written := 0 })).setKeyPend n .init).raiseDone (0xD20 + n) 0x09 n (Od.keyCommit + n) 0 := by
  simp only [keyCommitDone, hact, hcontent, if_neg (Nat.not_lt.mpr hnewest)]

theorem keyDiscard_of_checks (hcheck : s.checkCommit who n 2 = .ok ()) :
    keyDiscard who n s =
      .ok (((s.dropStaged n).setKeyPend n .init).raiseDone (0xD20 + n) 0x09 n (Od.keyCommit + n) 0) := by
  simp only [keyDiscard, hcheck, ok_bind]

theorem keyErase_of_unused (hlets : s.lets who (Od.keyErase + n) false 0 (.num 1) = true)
    (howner : s.tenantHolds who 0x09 n = true) (hunused : s.intake.streams = []) (hfree : s.journalFree n = .ok ()) :
    keyErase who n 1 s = .ok (s.eraseSlot n) := by
  simp only [keyErase, lets_ok hlets, howner, hunused, hfree, ok_bind, List.any_nil, Bool.not_false, need_true]

/-! ### Secrets and challenges (R615, R626) -/

theorem credentialSecret_of_checks (hform : s.letsForm who (Od.credentialSecret + n) false 0 (.bytes b) = true)
    (hcheck : s.checkSecret (64 + n) = .ok ()) : credentialSecret who n b s = .ok (s.storeVault (64 + n) b) := by
  obtain ⟨row, hgate⟩ := letsForm_ok hform
  simp only [credentialSecret, hgate, hcheck, ok_bind]

theorem attestMSecret_of_checks (hform : s.letsForm who Od.attestMSecret false 0 (.bytes b) = true)
    (hcheck : s.checkSecret 96 = .ok ()) : attestMSecret who b s = .ok (s.storeVault 96 b) := by
  obtain ⟨row, hgate⟩ := letsForm_ok hform
  simp only [attestMSecret, hgate, hcheck, ok_bind]

theorem attestChallenge_of_form {id cls : Nat} (hform : s.letsForm who id false 0 (.bytes b) = true) :
    attestChallenge id cls who b s = .ok (s.setNonce who.sess cls b) := by
  obtain ⟨row, hgate⟩ := letsForm_ok hform
  simp only [attestChallenge, hgate, ok_bind]

/-! ### Evidence (R626, R627, Table 17-14) -/

section
variable {id cls : Nat} {r : ObjectRow} {t : State} (haddress : s.checkAddress id false 0 = .ok r)
  (hread : s.checkRead who r 0 = .ok ())
include haddress hread

theorem attestRead_of_evidence (hevidence : s.evidence who.sess cls = (t, .ok b)) :
    attestRead id cls who s = t.emit (.value who.sess b) := by
  simp only [attestRead, haddress, hread, hevidence, ok_bind]

theorem attestRead_of_refusal {c : Code} (hevidence : s.evidence who.sess cls = (t, .error c)) :
    attestRead id cls who s = t.emit (.answer who.sess c.value) := by
  simp only [attestRead, haddress, hread, hevidence, ok_bind]

end

theorem evidence_of_no_key {k cls : Nat} (hkey : s.keyContent (96 + cls) = none) :
    s.evidence k cls =
      (s.raiseLimited 0xD03 (if cls = 1 then 0xA002 else 0xA003) 0x80 0 k, .error .precondition) := by
  simp only [State.evidence, hkey]

/-- The state that counts one evidence of class M. -/
def State.countEvidenceM (s : State) : State := s.withSec fun x => { x with evidenceM := sat32 (x.evidenceM + 1) }

/-- The state that counts one evidence of class P, whose signature takes one draw. -/
def State.countEvidenceP (s : State) : State := s.withSec fun x => { x with
  evidenceP := sat32 (x.evidenceP + 1)
  draws := x.draws + 1 }

theorem evidence_of_m {k : Nat} {r : KeyRec} (hkey : s.keyContent 96 = some r)
    (hnonce : tabGet [] s.sec.nonces (k * 2) ≠ [])
    (hb : b = s.evidenceBody 0x4B41544D (tabGet [] s.sec.nonces (k * 2)) (sat32 (s.sec.evidenceM + 1))) :
    s.evidence k 0 = (s.countEvidenceM, .ok (b ++ hmacSha384 r.key b)) := by
  have hsome : ¬ (tabGet [] s.sec.nonces (k * 2)).isEmpty = true := by simpa using hnonce
  subst hb
  simp only [State.evidence, hkey, Nat.add_zero, if_neg hsome, if_true]
  rfl

theorem evidence_of_p {k : Nat} {r : KeyRec} (hkey : s.keyContent 97 = some r)
    (hnonce : tabGet [] s.sec.nonces (k * 2 + 1) ≠ [])
    (hb : b = s.evidenceBody 0x4B415450 (tabGet [] s.sec.nonces (k * 2 + 1)) (sat32 (s.sec.evidenceP + 1))) :
    s.evidence k 1 = (s.countEvidenceP, .ok (b ++ slice (Config.ecdsaSign r.key b s.sec.draws) 0 96)) := by
  have hsome : ¬ (tabGet [] s.sec.nonces (k * 2 + 1)).isEmpty = true := by simpa using hnonce
  subst hb
  simp only [State.evidence, Nat.reduceAdd, hkey, if_neg hsome, Nat.one_ne_zero, if_false]
  rfl

/-- A new key pair is kept in the vault and its statement signed by the factory identity key. -/
theorem attestPGenerate_of_checks {v g : Nat} {pub : Bytes} (hlets : s.lets who Od.attestPGenerate false 0 (.num v) = true)
    (hcheck : s.checkSecret 97 = .ok ()) (hg : g = sat32 (s.sec.generated + 1))
    (hpub : pub = slice (Config.keyPair s.sec.draws).2 0 97)
    (hb : b = toBE 4 0x4B415453 ++ toBE 2 1 ++ toBE 2 0 ++ toBE 8 (s.num Od.serialNumber) ++ toBE 4 s.epoch ++ toBE 4 g ++ pub
      ++ List.replicate 7 0) :
    attestPGenerate who v s = .ok (((s.storeVault 97 (Config.keyPair s.sec.draws).1).withSec fun x => { x with
      draws := s.sec.draws + 2, generated := g, publicKey := pub
      statement := b ++ slice (Config.ecdsaSign Config.factoryPrivate b (s.sec.draws + 1)) 0 96 }).raiseOcc
        0xD03 0x80 0 1 g) := by
  subst hb hpub hg
  simp only [attestPGenerate, lets_ok hlets, hcheck, ok_bind]
  rfl

/-! ### Measurement (R611) -/

theorem measureExtend_of_open (hform : s.letsForm who Od.measureExtend false 0 (.bytes b) = true) (hlow : 4 ≤ byteAt b 0)
    (hhigh : byteAt b 0 ≤ 7) (hshed : s.shedLevel < 3) :
    measureExtend who b s =
      .ok ((s.noteKeys (s.extendChain (byteAt b 0) (b.drop 1))).raiseOcc 0xD01 0x80 0 1 (byteAt b 0)) := by
  obtain ⟨row, hgate⟩ := letsForm_ok hform
  simp only [measureExtend, hgate, hlow, hhigh, hshed, ok_bind, decide_true, need_true]

theorem measureExtend_of_reserved (hform : s.letsForm who Od.measureExtend false 0 (.bytes b) = true)
    (hlow : byteAt b 0 < 4) : measureExtend who b s = .error .denied := by
  obtain ⟨row, hgate⟩ := letsForm_ok hform
  simp only [measureExtend, hgate, Nat.not_le.mpr hlow, ok_bind, decide_false, need_false, error_bind]

end

/-- Settles O41: each clause is one branch of its command. -/
theorem keysAndSecrets : Obligations.KeysAndSecrets := by
  unfold Obligations.KeysAndSecrets
  refine ⟨?load, ?badForm, ?verified, ?failed, ?commit, ?nothing, ?done, ?discard, ?erase, ?credential, ?secret,
    ?challengeM, ?challengeP, ?response, ?quote, ?noKey, ?generate, ?measure, ?reserved, fun s l => rfl⟩
  case load =>
    intro s t who n b hform hfields hplain howner hfree hsluice hshed ht hkcv
    rw [exec_keyLoad, execKeyLoad, keyLoad_of_plain hform hfields hplain howner hfree hsluice hshed ht hkcv, answer_ok,
      State.loadRecord]
  case badForm =>
    intro s who n b hform hfields
    rw [exec_keyLoad, execKeyLoad, keyLoad_of_bad_form hform hfields, answer_error]
  case verified =>
    intro s n k r hact hcode hbank hrec
    rw [exec_keyLoadDone, execKeyLoadDone, keyLoadDone_of_verified hact hcode hbank hrec]
  case failed =>
    intro s n k hact hbank
    rw [exec_keyLoadDone, execKeyLoadDone, keyLoadDone_of_failed hact hbank]
  case commit =>
    intro s who n a k r hcheck hbank hrec
    rw [exec_keyCommit, execKeyCommit, keyCommit_of_staged hcheck hbank hrec, answer_ok]
  case nothing =>
    intro s who n a hlets howner hfree hnone
    rw [exec_keyCommit, execKeyCommit, keyCommit_of_nothing hlets howner hfree hnone, answer_error]
  case done =>
    intro s n r hact hcontent hnewest
    rw [exec_keyCommitDone, execKeyCommitDone, keyCommitDone_of_committed hact hcontent hnewest]
  case discard =>
    intro s who n hcheck
    rw [exec_keyDiscard, execKeyDiscard, keyDiscard_of_checks hcheck, answer_ok]
  case erase =>
    intro s who n hlets howner hunused hfree
    rw [exec_keyErase, execKeyErase, keyErase_of_unused hlets howner hunused hfree, answer_ok]
  case credential =>
    intro s who n b hform hcheck
    rw [exec_credentialSecret, execCredentialSecret, credentialSecret_of_checks hform hcheck, answer_ok]
  case secret =>
    intro s who b hform hcheck
    rw [exec_attestMSecret, execAttestMSecret, attestMSecret_of_checks hform hcheck, answer_ok]
  case challengeM =>
    intro s who b hform
    rw [exec_attestMChallenge, execAttestMChallenge, attestChallenge_of_form hform, answer_ok]
    rfl
  case challengeP =>
    intro s who b hform
    rw [exec_attestPChallenge, execAttestPChallenge, attestChallenge_of_form hform, answer_ok]
    rfl
  case response =>
    intro s who r b k haddress hread hkey hnonce hb
    rw [exec_attestMResponse, execAttestMResponse, attestRead_of_evidence haddress hread (evidence_of_m hkey hnonce hb),
      State.countEvidenceM]
  case quote =>
    intro s who r b k haddress hread hkey hnonce hb
    rw [exec_attestPQuote, execAttestPQuote, attestRead_of_evidence haddress hread (evidence_of_p hkey hnonce hb),
      State.countEvidenceP]
  case noKey =>
    intro s who r haddress hread hkey
    rw [exec_attestPQuote, execAttestPQuote, attestRead_of_refusal haddress hread (evidence_of_no_key (cls := 1) hkey)]
    rfl
  case generate =>
    intro s who v g b pub hlets hcheck hg hpub hb
    rw [exec_attestPGenerate, execAttestPGenerate, attestPGenerate_of_checks hlets hcheck hg hpub hb, answer_ok]
  case measure =>
    intro s who b hform hlow hhigh hshed
    rw [exec_measureExtend, execMeasureExtend, measureExtend_of_open hform hlow hhigh hshed, answer_ok]
  case reserved =>
    intro s who b hform hlow
    rw [exec_measureExtend, execMeasureExtend, measureExtend_of_reserved hform hlow, answer_error]

end Sys2Proof.Machine
end

section
/-! PROOFS. Ownership, boot images, the sluice and tamper causes (Chapter 17; R606 to R616, R623 to R625, R672). -/

namespace Sys2Proof.Machine

section
variable {s t : State} {who : Caller} {b : Bytes}

/-! ### Ownership and credentials (R613 to R616) -/

section
variable {k : Bytes} (hform : s.letsForm who Od.ownerClaim false 0 (.bytes b) = true)
  (hclient : s.clientOf who.sess = .cert k)
include hform hclient

theorem ownerClaim_of_owned (howned : s.ownership.owned = true) :
    ownerClaim who b s = (s, Code.precondition.value) := by
  obtain ⟨row, hgate⟩ := letsForm_ok hform
  simp only [ownerClaim, hgate, hclient, howned, ok_bind, need_true, Bool.not_true, Bool.false_and, need_false]

section
variable (hunowned : s.ownership.owned = false) (hfew : s.sec.wrongClaims < 8) (hsluice : s.sluiceHeld = false)
include hunowned hfew hsluice

theorem ownerClaim_of_right_code (hcode : b = s.claimCode) :
    ownerClaim who b s =
      ((s.setOwnership ⟨true, tabSet [] s.ownership.entries 0 ([1, 1, 0, 0, 1, 0, 0] ++ List.replicate 9 0 ++ slice k 0 48)⟩).raiseOcc
        0xD02 0x80 0 1 who.sess, 0) := by
  obtain ⟨row, hgate⟩ := letsForm_ok hform
  simp only [ownerClaim, hgate, hclient, hunowned, hfew, hsluice, ← hcode, ok_bind, need_true, Bool.not_false, decide_true,
    Bool.and_self, if_true]

theorem ownerClaim_of_wrong_code (hcode : b ≠ s.claimCode) :
    ownerClaim who b s =
      ((s.withSec fun x => { x with wrongClaims := x.wrongClaims + 1 }).raiseLimited 0xD02 0xA002 0x80 0 who.sess,
        Code.verifyFailed.value) := by
  obtain ⟨row, hgate⟩ := letsForm_ok hform
  simp only [ownerClaim, hgate, hclient, hunowned, hfew, hsluice, if_neg hcode, ok_bind, need_true, Bool.not_false,
    decide_true, Bool.and_self]
  rfl

end

end

/-- A write of an entry that is itself an enabled Owner entry leaves one. -/
theorem credentialEntry_of_owner {n : Nat} (hn : n < 32)
    (hform : s.letsForm who (Od.credentialEntry + n) false 0 (.bytes b) = true) (hrole : who.role = .owner)
    (hroles : (s.credentialRoles n b).all (fun r => r == 1 || r == 2) = true) (hfields : checkCredentialFields b = .ok ())
    (hon : crEnabled (splice b 6 [0]) = true) (howner : crRole (splice b 6 [0]) = 1) :
    credentialEntry who n b s =
      .ok ((s.setCredential n (splice b 6 [0])).bumpVersion (Od.credentialEntry + n) 0) := by
  obtain ⟨row, hgate⟩ := letsForm_ok hform
  have hleft : ((numbersFrom 0 32).any fun k => crEnabled (if k = n then splice b 6 [0] else s.credential k)
      && crRole (if k = n then splice b 6 [0] else s.credential k) == 1) = true :=
    List.any_eq_true.mpr ⟨n, mem_numbersFrom.mpr ⟨Nat.zero_le n, by omega⟩, by
      simp only [if_true, hon, howner, beq_self_eq_true, Bool.and_self]⟩
  simp only [credentialEntry, hgate, hrole, hroles, hfields, hleft, ok_bind, if_true, need_true]

/-! ### Boot images and security versions (R606, R608 to R610) -/

theorem bootConfirm_of_booted {v : Nat} (hlets : s.lets who Od.bootConfirm false 0 (.num v) = true)
    (hbooted : s.sec.booted < 2) :
    bootConfirm who v s =
      .ok ((s.setBootRec (s.bootRec.setUnconfirmed s.sec.booted 0)).raiseOcc 0xD00 0x80 0 4 s.sec.booted) := by
  simp only [bootConfirm, lets_ok hlets, hbooted, ok_bind, if_true]

/-- Both images are valid and allow version `v`. -/
def State.imagesAllow (s : State) (v : Nat) : Prop :=
  s.imageCheck 0 = 1 ∧ s.imageCheck 1 = 1 ∧ v ≤ imSecurity (s.imageHead 0) ∧ v ≤ imSecurity (s.imageHead 1)

theorem all_images_iff (v : Nat) :
    ([0, 1].all fun d => s.imageCheck d == 1 && decide (v ≤ imSecurity (s.imageHead d))) = true ↔ s.imagesAllow v := by
  simp only [List.all_cons, List.all_nil, Bool.and_true, Bool.and_eq_true, beq_iff_eq, decide_eq_true_eq,
    State.imagesAllow]
  exact ⟨fun ⟨⟨a, c⟩, b, d⟩ => ⟨a, b, c, d⟩, fun ⟨a, b, c, d⟩ => ⟨⟨a, c⟩, b, d⟩⟩

section
variable {v : Nat} (hform : s.letsForm who Od.securityVersionAdvance false 0 (.num v) = true)
include hform

theorem securityVersionAdvance_of_outside (hout : v ≤ s.sec.minVersion ∨ 64 < v) :
    securityVersionAdvance who v s = .error .outOfRange := by
  obtain ⟨row, hgate⟩ := letsForm_ok hform
  have hrange : (decide (s.sec.minVersion < v) && decide (v ≤ 64)) = false := by
    simp only [Bool.and_eq_false_iff, decide_eq_false_iff_not]
    omega
  simp only [securityVersionAdvance, hgate, hrange, ok_bind, need_false, error_bind]

section
variable (hmore : s.sec.minVersion < v) (hmax : v ≤ 64) (hbooted : s.sec.booted < 2)
  (hconfirmed : s.bootRec.unconfirmed s.sec.booted = 0)
include hmore hmax hbooted hconfirmed

theorem securityVersionAdvance_of_allowed (hshed : s.shedLevel < 3) (hallow : s.imagesAllow v) :
    securityVersionAdvance who v s =
      .ok ((s.withSec fun x => { x with minVersion := v }).raiseOcc 0xD00 0x80 0 5 v) := by
  obtain ⟨row, hgate⟩ := letsForm_ok hform
  simp only [securityVersionAdvance, hgate, hmore, hmax, hbooted, hconfirmed, (all_images_iff v).mpr hallow, hshed, ok_bind,
    decide_true, Bool.and_self, beq_self_eq_true, need_true]
  rfl

theorem securityVersionAdvance_of_refused (hrefuse : ¬ s.imagesAllow v) :
    securityVersionAdvance who v s = .error .precondition := by
  obtain ⟨row, hgate⟩ := letsForm_ok hform
  have hall := Bool.eq_false_iff.mpr (mt (all_images_iff v).mp hrefuse)
  simp only [securityVersionAdvance, hgate, hmore, hmax, hbooted, hconfirmed, hall, ok_bind, decide_true, Bool.and_self,
    beq_self_eq_true, need_true, Bool.and_false, need_false, error_bind]

end

end

section
variable (hform : s.letsForm who Od.ownerBootKeyProgram false 0 (.bytes b) = true) (hshed : s.shedLevel < 3)
include hform hshed

theorem ownerBootKeyProgram_of_free (hfree : (tabGet (0, []) s.sec.banks 0).1 = 0) :
    ownerBootKeyProgram who b s =
      .ok ((s.withSec fun x => { x with banks := tabSet (0, []) x.banks 0 (1, b) }).raiseOcc 0xD00 0x80 0 6 0) := by
  obtain ⟨row, hgate⟩ := letsForm_ok hform
  have hfind : [0, 1, 2, 3].find? (fun k => (tabGet (0, []) s.sec.banks k).1 == 0) = some 0 := by simp [hfree]
  simp only [ownerBootKeyProgram, hgate, hshed, hfind, ok_bind, decide_true, need_true]
  rfl

theorem ownerBootKeyProgram_of_full (hfull : ∀ k, k < 4 → (tabGet (0, []) s.sec.banks k).1 ≠ 0) :
    ownerBootKeyProgram who b s = .error .noResource := by
  obtain ⟨row, hgate⟩ := letsForm_ok hform
  have hfind : [0, 1, 2, 3].find? (fun k => (tabGet (0, []) s.sec.banks k).1 == 0) = none := by simp [hfull]
  simp only [ownerBootKeyProgram, hgate, hshed, hfind, ok_bind, decide_true, need_true]

end

theorem ownerBootKeyRevoke_of_lets {k : Nat} (hlets : s.lets who Od.ownerBootKeyRevoke false 0 (.num k) = true) :
    ownerBootKeyRevoke who k s = .ok ((s.withSec fun x => { x with
      banks := tabSet (0, []) x.banks k (2, (tabGet (0, []) x.banks k).2) }).raiseOcc 0xD00 0x80 0 7 k) := by
  rw [ownerBootKeyRevoke, lets_ok hlets, ok_bind]
  rfl

theorem recoveryBlock_of_form {n : Nat} (hform : s.letsForm who (Od.recoveryBlock + n) false 0 (.bytes b) = true) :
    recoveryBlock who n b s =
      if s.inRecovery then .ok (s.writeFlash (s.num Od.recoveryTarget) n b) else .error .precondition := by
  obtain ⟨row, hgate⟩ := letsForm_ok hform
  cases h : s.inRecovery <;>
    simp only [recoveryBlock, hgate, h, ok_bind, need_true, need_false, error_bind, if_true, if_false, Bool.false_eq_true]

/-! ### Booting (R606) -/

/-- An event changes nothing of the security state. -/
@[simp] theorem sec_raiseIn {d : Die} {src code kind num detail : Nat} :
    (s.raiseIn d src code kind num detail).sec = s.sec := by
  dsimp only [State.raiseIn, State.count32]
  split_ifs <;> cases d <;> rfl

theorem sec_noteFlash : s.noteFlash.sec = s.sec := by
  simp only [State.noteFlash, List.foldl_cons, List.foldl_nil, State.raiseOcc, State.raise]
  split_ifs <;> simp only [sec_raiseIn]

theorem imageOrder_of_sec (h : t.sec = s.sec) : t.imageOrder = s.imageOrder := by
  rw [State.imageOrder, State.imageOrder, State.bootRec, State.bootRec, h]

theorem tryImage_of_valid {d : Nat} (h : s.imageCheck d = 1) :
    s.tryImage d = ((s.setImageStatus d 1).startImage d, true) := by
  simp only [State.tryImage, h, if_true]

theorem tryImage_of_invalid {d : Nat} (h : s.imageCheck d ≠ 1) : (s.tryImage d).2 = false := by
  simp only [State.tryImage, if_neg h]

/-- With no valid image the module enters Recovery (R608). -/
def State.enterRecovery (v : State) : State :=
  ((v.withStart fun x => { x with flow := 0 }).setNum Od.bootState 2).raiseOcc 0xD00 0x80 0 3 0

/-- IMAGE_BOOT from milestone 1 tries image 0 and then image 1. -/
theorem imageBoot_of_order (hheld : s.start.held = none) (hflow : s.start.flow = 1) (hmile : s.start.milestone = 1)
    (horder : s.imageOrder = [0, 1]) (ht : t = s.noteFlash) :
    imageBoot s = if t.imageCheck 0 = 1 then (t.setImageStatus 0 1).startImage 0
      else match (t.tryImage 0).1.tryImage 1 with
        | (v, true) => v
        | (v, false) => v.enterRecovery := by
  have horder' : t.imageOrder = [0, 1] := (imageOrder_of_sec (ht ▸ sec_noteFlash)).trans horder
  have hgo : ¬ (s.start.held.isSome = true ∨ s.start.flow ≠ 1 ∨ 2 ≤ s.start.milestone) := by
    simp [hheld, hflow, hmile]
  have hup : ¬ s.start.milestone = 0 := by simp [hmile]
  simp only [imageBoot, if_neg hgo, if_neg hup, ← ht, horder']
  by_cases hvalid : t.imageCheck 0 = 1
  · rw [if_pos hvalid, tryImage_of_valid hvalid]
  · rw [if_neg hvalid]
    have hfailed := tryImage_of_invalid hvalid
    generalize t.tryImage 0 = attempt at hfailed ⊢
    obtain ⟨u, valid⟩ := attempt
    obtain rfl : valid = false := hfailed
    dsimp only
    rcases u.tryImage 1 with ⟨v, _ | _⟩ <;> rfl

theorem imageBoot_of_later (h : 2 ≤ s.start.milestone) : imageBoot s = s := if_pos (.inr (.inr h))

/-! ### The sluice and tamper causes (R623 to R625) -/

/-- Cause `c` is noted as present in TamperStatus. -/
def State.notePresent (s : State) (c : Nat) : State := s.setNum Od.tamperStatus (setField (s.num Od.tamperStatus) c 1 1)

theorem sluiceCause_of_present {c : Nat} (h : (s.num Od.tamperStatus).testBit c = true) : sluiceCause c s = s := if_pos h

theorem sluiceCause_of_new {c : Nat} (h : (s.num Od.tamperStatus).testBit c = false) :
    sluiceCause c s = if (c = 2 ∨ c = 3) ∧ ¬ (s.num Od.tamperEnableMask).testBit c then s.notePresent c
      else (s.notePresent c).sluice c :=
  if_neg (by simp [h])

theorem sluiceCommand_of_lets {v : Nat} (hlets : s.lets who Od.sluiceCommand false 0 (.num v) = true) :
    sluiceCommand who v s = .ok (s.sluice 5) := by
  rw [sluiceCommand, lets_ok hlets, ok_bind]

theorem ownerRelease_of_lets {v : Nat} (hlets : s.lets who Od.ownerRelease false 0 (.num v) = true) :
    ownerRelease who v s = .ok (((s.sluice 6).setOwnership ⟨false, []⟩).drawClaim.raiseOcc 0xD02 0x80 0 3 0) := by
  rw [ownerRelease, lets_ok hlets, ok_bind]

/-- A knock of no latched bit changes nothing. -/
theorem tamperKnock_of_none {v : Nat} (hform : s.letsForm who Od.tamperStatus false 0 (.num v) = true)
    (hnone : ∀ c, c < 7 → v.testBit (8 + c) = false) : tamperKnock who v s = .ok s := by
  obtain ⟨row, hgate⟩ := letsForm_ok hform
  rw [tamperKnock, hgate, ok_bind]
  refine congrArg _ ((List.foldl_ext _ (fun t _ => t) s fun t c hc => ?_).trans (List.foldl_fixed _))
  have hbit : v.testBit (8 + c) = false := hnone c (by simpa using (mem_numbersFrom.mp hc).2)
  simp only [hbit, Bool.not_false, Bool.true_or, if_true]

theorem recoveryRestart_of_lets {v : Nat} (hlets : s.lets who Od.recoveryRestart false 0 (.num v) = true) :
    recoveryRestart who v s = .ok (s.powerOnReset 3) := by
  rw [recoveryRestart, lets_ok hlets, ok_bind]

end

/-- Settles O42: each clause is one branch of its command. -/
theorem ownershipBootAndSluice : Obligations.OwnershipBootAndSluice := by
  unfold Obligations.OwnershipBootAndSluice
  refine ⟨?right, ?wrong, ?owned, ?credential, ?confirm, ?advance, ?outside, ?program, ?full, ?revoke, ?block, ?boot,
    ?later, ?present, ?trips, ?disabled, ?command, ?release, fun s c => rfl, ?knock, ?restart⟩
  case right =>
    intro s who b k hform hclient hunowned hfew hsluice hcode
    rw [exec_ownerClaim, execOwnerClaim, ownerClaim_of_right_code hform hclient hunowned hfew hsluice hcode]
    rfl
  case wrong =>
    intro s who b k hform hclient hunowned hfew hsluice hcode
    rw [exec_ownerClaim, execOwnerClaim, ownerClaim_of_wrong_code hform hclient hunowned hfew hsluice hcode]
    rfl
  case owned =>
    intro s who b k hform hclient howned
    rw [exec_ownerClaim, execOwnerClaim, ownerClaim_of_owned hform hclient howned]
    rfl
  case credential =>
    intro s who n b hform hrole hroles hfields hon howner
    rw [exec_credentialEntry, execCredentialEntry,
      credentialEntry_of_owner n.isLt hform hrole hroles hfields hon howner, answer_ok]
  case confirm =>
    intro s who v hlets hbooted
    rw [exec_bootConfirm, execBootConfirm, bootConfirm_of_booted hlets hbooted, answer_ok]
  case advance =>
    intro s who v hform hmore hmax hbooted hconfirmed hshed
    rw [exec_securityVersionAdvance, execSecurityVersionAdvance]
    by_cases hallow : s.imagesAllow v
    · rw [securityVersionAdvance_of_allowed hform hmore hmax hbooted hconfirmed hshed hallow, answer_ok]
      exact congrArg _ (if_pos hallow).symm
    · rw [securityVersionAdvance_of_refused hform hmore hmax hbooted hconfirmed hallow, answer_error]
      exact congrArg _ (if_neg hallow).symm
  case outside =>
    intro s who v hform hout
    rw [exec_securityVersionAdvance, execSecurityVersionAdvance, securityVersionAdvance_of_outside hform hout,
      answer_error]
  case program =>
    intro s who b hform hshed hfree
    rw [exec_ownerBootKeyProgram, execOwnerBootKeyProgram, ownerBootKeyProgram_of_free hform hshed hfree, answer_ok]
  case full =>
    intro s who b hform hshed hfull
    rw [exec_ownerBootKeyProgram, execOwnerBootKeyProgram, ownerBootKeyProgram_of_full hform hshed hfull, answer_error]
  case revoke =>
    intro s who k hlets
    rw [exec_ownerBootKeyRevoke, execOwnerBootKeyRevoke, ownerBootKeyRevoke_of_lets hlets, answer_ok]
  case block =>
    intro s who n b hform
    rw [exec_recoveryBlock, execRecoveryBlock, recoveryBlock_of_form hform]
    exact ⟨fun h => by rw [if_pos h]; rfl, fun h => by rw [if_neg (by simp [h])]; rfl⟩
  case boot =>
    intro s t hheld hflow hmile horder ht
    rw [exec_imageBoot, execImageBoot, imageBoot_of_order hheld hflow hmile horder ht]
    generalize (t.tryImage 0).1.tryImage 1 = second
    rcases second with ⟨v, _ | _⟩ <;> rfl
  case later =>
    intro s h
    rw [exec_imageBoot, execImageBoot, imageBoot_of_later h]
  case present =>
    intro s c h
    rw [exec_sluice, execSluice, sluiceCause_of_present h]
  case trips =>
    intro s c h htwo hthree
    rw [exec_sluice, execSluice, sluiceCause_of_new h, if_neg fun ⟨heither, _⟩ => heither.elim htwo hthree,
      State.notePresent]
  case disabled =>
    intro s c h heither hmask
    rw [exec_sluice, execSluice, sluiceCause_of_new h, if_pos ⟨heither, by simp [hmask]⟩, State.notePresent]
  case command =>
    intro s who v hlets
    rw [exec_sluiceCommand, execSluiceCommand, sluiceCommand_of_lets hlets, answer_ok]
  case release =>
    intro s who v hlets
    refine ⟨_, ?_, rfl⟩
    rw [exec_ownerRelease, execOwnerRelease, ownerRelease_of_lets hlets, answer_ok]
  case knock =>
    intro s who v hform hnone
    rw [exec_tamperStatusKnock, execTamperStatusKnock, tamperKnock_of_none hform hnone, answer_ok]
  case restart =>
    intro s who v hlets
    rw [exec_recoveryRestart, execRecoveryRestart, recoveryRestart_of_lets hlets, answer_ok]

end Sys2Proof.Machine
end

section
/-! PROOFS. The hamper (Chapter 18): the hold-up bank, shed levels, sleep and heat. -/

namespace Sys2Proof.Machine

section
variable {s t : State} {who : Caller}

/-! ### The hold-up bank (R640 to R643) -/

theorem hamperTick_eq {u : State} {rails : List Nat} (ht : t = ((s.ledgerTick rails).drainTick).judgeReturn)
    (hu : u = (t.setNum Od.holdupEnergy (fracFloor t.bankEnergy)).setBlob Od.shedThresholds (toLE 8 (fracFloor t.thresholds.1)
      ++ toLE 8 (fracFloor t.thresholds.2.1) ++ toLE 8 (fracFloor t.thresholds.2.2))) :
    hamperTick rails s = u.judgeMargin.shedTick := by
  subst hu ht
  rfl

/-- A flagged conversion is counted; the fourth in a row sets the fault flag. -/
theorem holdupConversion_of_flagged {c : Nat} (hcode : c < 64 ∨ 65471 < c) (hcal : s.energy.cal = none) :
    holdupConversion c s = if 3 ≤ s.energy.flaggedRun then
        (s.withEnergy fun x => { x with flaggedRun := x.flaggedRun + 1 }).setHamper 0xD82 22 true
      else s.withEnergy fun x => { x with flaggedRun := x.flaggedRun + 1 } := by
  have hflagged : (decide (c < 64) || decide (65471 < c)) = true := by simpa using hcode
  have hcount : (4 ≤ s.energy.flaggedRun + 1) = (3 ≤ s.energy.flaggedRun) := by simp
  simp only [holdupConversion, hflagged, hcal, Option.map_none, if_true, hcount]
  simp only [← hcal]
  rfl

/-- A calibration of either kind begins at shed level 0. -/
theorem holdupCalibrate_of_idle {kind : Nat} (hlets : s.lets who Od.holdupCalibrate false 0 (.num kind) = true)
    (hidle : s.energy.cal = none) (hshed : s.shedLevel = 0) :
    holdupCalibrate who kind s = .ok (((s.withEnergy fun x => { x with cal := some ⟨kind, [], false⟩ }).setNum
      Od.holdupCalStatus (2 ^ 24)).setNum Od.hamperStatus (setField (s.num Od.hamperStatus) 15 1 1)) := by
  simp only [holdupCalibrate, lets_ok hlets, hidle, hshed, ok_bind, Option.isNone_none, beq_self_eq_true, need_true]
  rfl

theorem holdupCalibrate_of_running {kind : Nat} {c : HoldupCal}
    (hlets : s.lets who Od.holdupCalibrate false 0 (.num kind) = true) (hcal : s.energy.cal = some c) :
    holdupCalibrate who kind s = .error .inProgress := by
  simp only [holdupCalibrate, lets_ok hlets, hcal, ok_bind, Option.isNone_some, need_false, error_bind]

theorem holdupCalibrationDone_of_early {c : HoldupCal} (hcal : s.energy.cal = some c) (hfew : c.codes.length < 4096) :
    holdupCalibrationDone s = s := by
  simp only [holdupCalibrationDone, hcal, if_pos hfew]

theorem holdupCalibrationDone_of_flagged {c : HoldupCal} {r : Nat} (hcal : s.energy.cal = some c)
    (hall : 4096 ≤ c.codes.length) (hflagged : c.flagged = true)
    (ht : t = (s.withEnergy fun x => { x with cal := none }).setNum Od.hamperStatus
      (setField (s.num Od.hamperStatus) 15 1 0))
    (hreason : calOutcome c.kind true (c.codes.reverse.map s.holdupPin) (widen (s.num Od.holdupCalNoiseMax))
      (fdiv (widen (s.num Od.holdupCalReference)) (widen (s.num Od.holdupDivider))) (widen (s.num Od.userHoldupGain))
      (widen (s.num Od.userHoldupOffset)) (ratio 1 50) (ratio 3 10) (ratio 5 4) = .error r) :
    holdupCalibrationDone s =
      (t.setNum Od.holdupCalStatus (3 * 2 ^ 24 + r * 2 ^ 16 + Code.precondition.value)).raiseDone
        0xD83 0x80 0 Od.holdupCalibrate Code.precondition.value := by
  subst ht
  simp only [holdupCalibrationDone, hcal, if_neg (Nat.not_lt.mpr hall), hflagged, hreason]
  rfl

/-! ### Shed levels and notices (R643, R645, R652) -/

theorem shedCoreGate_of_none (h : s.energy.gateAt = none) : shedCoreGate s = s := by
  simp only [shedCoreGate, h]

/-- With no core valid, the gate of shed level 2 gates none. -/
theorem shedCoreGate_of_due {g : Nat} (hgate : s.energy.gateAt = some g) (hdue : g + 5000000 ≤ s.gtc)
    (hkinst : s.mem.kinst = []) : shedCoreGate s = s.withEnergy fun x => { x with gateAt := none } := by
  have hnone (c : Nat) : (s.kinstOf c).isSome = false := by simp [State.kinstOf, hkinst]
  have hfold : ∀ l : List Nat, l.foldl (fun (u : State) c =>
      if (u.kinstOf c).isSome then (u.emptyCore c).setEnergy { (u.emptyCore c).energy with
        gated := tabSet false (u.emptyCore c).energy.gated c true } else u) s = s :=
    List.foldl_fixed' fun c => by rw [hnone]; rfl
  simp only [shedCoreGate, hgate, if_neg (Nat.not_lt.mpr hdue), hfold]
  rfl

theorem powerFail_zero_of_none (h : s.hamper 23 = false) : powerFail 0 s = s := by
  simp [powerFail, h]

/-! ### Sleep (R650 to R652) -/

section
variable (hlets : s.lets who Od.moduleSleep false 0 (.num 1) = true)
include hlets

theorem moduleSleepEnter_of_stopped (hstopped : s.inst.present.any s.instRunning = false)
    (hports : ((numbersFrom 0 256).any fun n => s.pnum Od.portProtection n == 1 && s.portUp n) = false) :
    moduleSleepEnter who s = .ok s.flushRecorder.fastDiesOff := by
  simp only [moduleSleepEnter, lets_ok hlets, hstopped, hports, ok_bind, Bool.not_false, Bool.and_self, need_true]

theorem moduleSleepEnter_of_running (hrun : s.inst.present.any s.instRunning = true) :
    moduleSleepEnter who s = .error .busy := by
  simp only [moduleSleepEnter, lets_ok hlets, hrun, ok_bind, Bool.not_true, Bool.false_and, need_false, error_bind]

end

theorem moduleSleepLeave_of_writer {r : ObjectRow} (haddress : s.checkAddress Od.moduleSleep false 0 = .ok r)
    (hwriter : s.checkWriter who r Od.moduleSleep 0 = .ok ()) : moduleSleepLeave who s = .ok s.wantWake := by
  simp only [moduleSleepLeave, haddress, hwriter, ok_bind]

theorem wake_of_shoreOnly (hshore : s.num Od.bootState = 3) (hsupply : s.supplyLost = false) :
    wake 1 s = s.withEnergy fun x => { x with wake := some 9 } :=
  (if_pos rfl).trans (if_pos ⟨hshore, by simp [hsupply]⟩)

theorem wake_of_other {v : Nat} (h : v ≠ 1) : wake v s = s := if_neg h

/-- The units that sleep during a scan as well. -/
theorem unitSleepEntry_of_free {u : SleepUnit} {n : Nat} (hu : u = .pipeline ∨ u = .l3Bank) (hn : n < 65536) :
    unitSleepEntry u n s = s.setAsleep u n true := by
  have hmod : n % 2 ^ 16 = n := Nat.mod_eq_of_lt hn
  rcases hu with rfl | rfl <;> simp only [unitSleepEntry, hmod]

/-- Link groups and HBM stacks stay awake during a scan (R651). -/
theorem unitSleepEntry_of_held {u : SleepUnit} {n : Nat} (hu : u = .hbmStack ∨ u = .linkGroup) (hn : n < 65536) :
    unitSleepEntry u n s = if s.scansNow then s else s.setAsleep u n true := by
  have hmod : n % 2 ^ 16 = n := Nat.mod_eq_of_lt hn
  rcases hu with rfl | rfl <;> simp only [unitSleepEntry, hmod]

theorem preFreezeWake_of_stopped {i : Nat} (h : s.instRunning i = false) : preFreezeWake i s = s := by
  simp [preFreezeWake, h]

theorem preFreezeWake_of_running {i : Nat} (hrun : s.instRunning i = true) (hdie : s.instDie i = .c0) :
    preFreezeWake i s = (numbersFrom 0 4).foldl (fun (u : State) k => u.setAsleep .hbmStack k false)
      (((s.setAsleep .linkGroup 0 false).setAsleep .linkGroup 2 false).setAsleep .linkGroup 3 false) := by
  simp only [preFreezeWake, hrun, hdie, Bool.not_true, Bool.false_eq_true, if_false, if_true, Nat.add_zero,
    List.foldl_cons, List.foldl_nil]

end

/-- Settles O43: each clause is one branch of its command. -/
theorem holdupShedAndSleep : Obligations.HoldupShedAndSleep := by
  unfold Obligations.HoldupShedAndSleep
  refine ⟨?tick, ?flagged, ?fourth, ?zero, ?span, ?running, ?early, ?done, ?noGate, ?gate, fun s => rfl, ?noNotice, ?sleep,
    ?busy, ?leave, ?wake, ?other, ?units, ?stopped, ?preFreeze⟩
  case tick =>
    intro s t u rails ht hu
    rw [exec_hamperTick, execHamperTick, hamperTick_eq ht hu]
  case flagged =>
    intro s c hcode hcal hrun
    rw [exec_holdupConversion, execHoldupConversion, holdupConversion_of_flagged (.inl hcode) hcal,
      if_neg (Nat.not_le.mpr hrun)]
  case fourth =>
    intro s c hcode hcal hrun
    rw [exec_holdupConversion, execHoldupConversion, holdupConversion_of_flagged (.inr hcode) hcal, if_pos hrun]
  case zero =>
    intro s who hlets hidle hshed
    rw [exec_holdupCalibrateZero, execHoldupCalibrateZero, holdupCalibrate_of_idle hlets hidle hshed, answer_ok]
  case span =>
    intro s who hlets hidle hshed
    rw [exec_holdupCalibrateSpan, execHoldupCalibrateSpan, holdupCalibrate_of_idle hlets hidle hshed, answer_ok]
  case running =>
    intro s who c hlets hcal
    rw [exec_holdupCalibrateSpan, execHoldupCalibrateSpan, holdupCalibrate_of_running hlets hcal, answer_error]
  case early =>
    intro s c hcal hfew
    rw [exec_holdupCalibrationDone, execHoldupCalibrationDone, holdupCalibrationDone_of_early hcal hfew]
  case done =>
    intro s t c r hcal hall hflagged ht hreason
    rw [exec_holdupCalibrationDone, execHoldupCalibrationDone,
      holdupCalibrationDone_of_flagged hcal hall hflagged ht hreason]
  case noGate =>
    intro s h
    rw [exec_shedCoreGate, execShedCoreGate, shedCoreGate_of_none h]
  case gate =>
    intro s g hgate hdue hkinst
    rw [exec_shedCoreGate, execShedCoreGate, shedCoreGate_of_due hgate hdue hkinst]
  case noNotice =>
    intro s h
    rw [exec_powerFail, execPowerFail, powerFail_zero_of_none h]
  case sleep =>
    intro s who hlets hstopped hports
    rw [exec_moduleSleepEnter, execModuleSleepEnter, moduleSleepEnter_of_stopped hlets hstopped hports, answer_ok]
  case busy =>
    intro s who hlets hrun
    rw [exec_moduleSleepEnter, execModuleSleepEnter, moduleSleepEnter_of_running hlets hrun, answer_error]
  case leave =>
    intro s who r haddress hwriter
    rw [exec_moduleSleepLeave, execModuleSleepLeave, moduleSleepLeave_of_writer haddress hwriter, answer_ok]
  case wake =>
    intro s hshore hsupply
    rw [exec_wake, execWake, wake_of_shoreOnly hshore hsupply]
  case other =>
    intro s v hv
    rw [exec_wake, execWake, wake_of_other hv]
  case units =>
    intro s n hn
    simp only [exec_unitSleepEntry, execUnitSleepEntry, unitSleepEntry_of_free (.inl rfl) hn,
      unitSleepEntry_of_free (.inr rfl) hn, unitSleepEntry_of_held (.inl rfl) hn, unitSleepEntry_of_held (.inr rfl) hn]
    exact ⟨trivial, trivial, fun h => by simp [h], fun h => by simp [h]⟩
  case stopped =>
    intro s i h
    rw [exec_preFreezeWake, execPreFreezeWake, preFreezeWake_of_stopped h]
  case preFreeze =>
    intro s i hrun hdie
    rw [exec_preFreezeWake, execPreFreezeWake, preFreezeWake_of_running hrun hdie]

/-! ### Heat (R653, R654, Table 18-7) -/

section
variable {s t : State}

/-- Out of specification is reported once a second. -/
def State.reportOutOfSpec (s : State) : State :=
  if s.thermalState = 3 ∧ s.energy.outOfSpecAt ≤ s.gtc then
    (s.withEnergy fun x => { x with outOfSpecAt := s.gtc + 1000000000 }).raiseOcc 0xD85 0x80 0 2 0
  else s

/-- A sample with no reading keeps the readings and judges the thermal state. -/
theorem thermalSample_nil (hmax : s.junction ≤ toInt 32 (s.num Od.tjMax)) :
    thermalSample [] s = s.judgeHeat.reportOutOfSpec := by
  unfold thermalSample
  extract_lets t u v
  have ht : t = s := List.foldl_fixed' (fun _ => rfl) _
  have hu : u = s := by simp only [u, ht, if_neg (Int.not_lt.mpr hmax)]
  exact congrArg (fun u : State => u.judgeHeat.reportOutOfSpec) hu

theorem throttleStep_of_due (hdue : s.energy.throttleAt + 1000000 ≤ s.gtc) (hhot : 1 ≤ s.thermalState)
    (hledger : s.hamper 20 = false) :
    throttleStep s = s.withEnergy fun x => { x with
      throttleAt := s.gtc
      heatFrequency := max (s.num Od.hostMinFrequency) (x.heatFrequency - 200) } := by
  simp only [throttleStep, if_neg (Nat.not_lt.mpr hdue), if_pos hhot, hledger, Bool.false_eq_true, if_false]
  rfl

theorem throttleStep_of_early (h : s.gtc < s.energy.throttleAt + 1000000) : throttleStep s = s := if_pos h

theorem thermalDownshift_of_cool (htwo : s.thermalState ≠ 2) (hthree : s.thermalState ≠ 3) : thermalDownshift s = s :=
  if_pos (.inl ⟨htwo, hthree⟩)

/-- The next port at 100 Gbit/s that can still be asked to shift down. -/
def State.nextDownshift (t : State) : Option Nat :=
  (numbersFrom 0 256).find? fun n => t.mayAsk n && t.pnum Od.portRate n == 1 && !tabGet false t.energy.declined n

theorem thermalDownshift_of_due (hstate : s.thermalState = 2) (hdue : s.energy.downshiftAt + 10000000 ≤ s.gtc)
    (ht : t = s.withEnergy fun x => { x with downshiftAt := s.gtc }) :
    thermalDownshift s = match t.nextDownshift with
      | none => t
      | some n => downshiftRequest n true (t.withEnergy fun x => { x with declined := tabSet false x.declined n true }) := by
  have hgo : ¬ ((s.thermalState ≠ 2 ∧ s.thermalState ≠ 3) ∨ s.gtc < s.energy.downshiftAt + 10000000) := by
    rw [not_or, Nat.not_lt]
    exact ⟨fun h => h.1 hstate, hdue⟩
  subst ht
  exact if_neg hgo

/-- The trip is noted: the Trip state, its time, THERMTRIP_N and its event. -/
def State.tripped (s : State) : State :=
  let t := (s.setThermal 4).withEnergy fun x => { x with tripAt := some (s.setThermal 4).gtc }
  (t.setNum Od.hamperStatus (setField (t.num Od.hamperStatus) 19 1 1)).raiseOcc 0xD86 0x80 0 1 0

/-- A trip enters every shed level up to 3. -/
theorem thermalTrip_of_hot (hhot : 155000 ≤ s.junction) (hnew : s.energy.tripAt = none) :
    thermalTrip s =
      (numbersFrom (s.shedLevel + 1) (3 - s.shedLevel)).foldl (fun (u : State) l => u.enterShed l 2) s.tripped := by
  have hgo : ¬ (s.junction < 155000 ∨ s.energy.tripAt.isSome = true) := by
    rw [not_or, Int.not_lt]
    exact ⟨hhot, by simp [hnew]⟩
  exact if_neg hgo

theorem thermalTrip_of_cool (h : s.junction < 155000) : thermalTrip s = s := if_pos (.inl h)

theorem thermalTripShore_of_trip {g : Nat} (htrip : s.energy.tripAt = some g) :
    thermalTripShore s = if s.shedLevel = 3 ∧ g + 20000000 ≤ s.gtc then s.enterShed 4 2 else s := by
  simp only [thermalTripShore, htrip]

end

/-- Settles O44: each clause is one branch of its command. -/
theorem heatPolicy : Obligations.HeatPolicy := by
  unfold Obligations.HeatPolicy
  refine ⟨?sample, ?outOfSpec, ?throttle, ?early, ?cool, ?noPort, ?port, ?shed, ?levels, ?below, ?shore, ?soon⟩
  case sample =>
    intro s hmax hstate
    rw [exec_thermalSample, execThermalSample, thermalSample_nil hmax, State.reportOutOfSpec,
      if_neg fun ⟨hthree, _⟩ => hstate hthree]
  case outOfSpec =>
    intro s hmax hstate hdue
    rw [exec_thermalSample, execThermalSample, thermalSample_nil hmax, State.reportOutOfSpec, if_pos ⟨hstate, hdue⟩]
  case throttle =>
    intro s hdue hhot hledger
    rw [exec_throttleStep, execThrottleStep, throttleStep_of_due hdue hhot hledger]
  case early =>
    intro s h
    rw [exec_throttleStep, execThrottleStep, throttleStep_of_early h]
  case cool =>
    intro s htwo hthree
    rw [exec_thermalDownshiftStep, execThermalDownshiftStep, thermalDownshift_of_cool htwo hthree]
  case noPort =>
    intro s t hstate hdue ht hnone
    have hnone' : t.nextDownshift = none := hnone
    rw [exec_thermalDownshiftStep, execThermalDownshiftStep, thermalDownshift_of_due hstate hdue ht, hnone']
  case port =>
    intro s t n hstate hdue ht hsome
    have hsome' : t.nextDownshift = some n := hsome
    rw [exec_thermalDownshiftStep, execThermalDownshiftStep, thermalDownshift_of_due hstate hdue ht, hsome']
  case shed =>
    rintro s t hhot hnew rfl hshed
    have hlevels : numbersFrom (s.shedLevel + 1) (3 - s.shedLevel) = [] := by rw [Nat.sub_eq_zero_of_le hshed]; rfl
    rw [exec_thermalTrip, execThermalTrip, thermalTrip_of_hot hhot hnew, hlevels, List.foldl_nil, State.tripped]
  case levels =>
    rintro s t hhot hnew rfl hshed
    have hlevels : numbersFrom (s.shedLevel + 1) (3 - s.shedLevel) = [1, 2, 3] := by rw [hshed]; rfl
    rw [exec_thermalTrip, execThermalTrip, thermalTrip_of_hot hhot hnew, hlevels, List.foldl_cons, List.foldl_cons,
      List.foldl_cons, List.foldl_nil, State.tripped]
  case below =>
    intro s h
    rw [exec_thermalTrip, execThermalTrip, thermalTrip_of_cool h]
  case shore =>
    intro s g htrip hshed hdue
    rw [exec_thermalTripShore, execThermalTripShore, thermalTripShore_of_trip htrip, if_pos ⟨hshed, hdue⟩]
  case soon =>
    intro s g htrip hsoon
    rw [exec_thermalTripShore, execThermalTripShore, thermalTripShore_of_trip htrip,
      if_neg fun ⟨_, hdue⟩ => Nat.not_le.mpr hsoon hdue]

end Sys2Proof.Machine
end

section
/-! PROOFS. Module resets and the start-up flow (R606, R660 to R674, Table 19-2). -/

namespace Sys2Proof.Machine

section
variable {s t : State} {who : Caller}

/-! ### The end of a power-on reset (R661) -/

theorem powerOnResetEnd_of_none {b : Bool} {l : List MramPlace} (h : s.start.held = none) :
    powerOnResetEnd b l s = s := by
  simp only [powerOnResetEnd, h]

/-- ROLE_SEL is latched at GTC 0; a cause other than PORST_N raises no event of its own. -/
theorem powerOnResetEnd_of_held {b : Bool} {l : List MramPlace} {c : Nat} (h : s.start.held = some c) (hc : c ≠ 1)
    (ht : t = ({ s with gtc := 0 }.withPair fun x => { x with roleB := b }).withStart (fun x => { x with held := none })) :
    powerOnResetEnd b l s = ((l.foldl State.damage t).noteReset 1 c).shoreUp := by
  subst ht
  simp only [powerOnResetEnd, h, if_neg hc]
  rfl

/-! ### Milestones 3 to 8 (R664, R666, R669) -/

theorem railCheck_of_waiting {o : Nat} (hwait : s.beforeFastDies = true)
    (ht : t = s.withStart fun x => { x with railsOut := o &&& 0x7E }) :
    railCheck o s = if o &&& 0x7E = 0 then t else t.raiseOcc 0xE08 0x80 0 4 (o &&& 0x7E) := by
  subst ht
  exact if_pos hwait

theorem fastDiesUp_of_not_due (h : s.beforeFastDies = false ∨ s.start.railsOut ≠ 0) : fastDiesUp s = s :=
  if_pos (h.imp_left fun hearly => by rw [hearly]; rfl)

/-- With no saved configuration and the fast dies not reported off, they come up with the default Manager pages. -/
theorem fastDiesUp_of_due (hwait : s.beforeFastDies = true) (hrails : s.start.railsOut = 0) (hcopy : s.configCopy = none)
    (hpowered : (s.num Od.hamperStatus).testBit 14 = false)
    (ht : t = (s.withTime fun x => { x with fineN := true, fineC0 := true, fineC1 := true }).withMem fun x =>
      { x with managerPages := (objDefault Od.managerPages).nat }) :
    fastDiesUp s = (t.setNum Od.hamperStatus (setField (t.num Od.hamperStatus) 14 1 0)).reach [4, 5, 6] := by
  have hgo : ¬ ((!s.beforeFastDies) = true ∨ s.start.railsOut ≠ 0) := by simp [hwait, hrails]
  have hbit : ¬ (s.num Od.hamperStatus).testBit 14 = true := by rw [hpowered]; exact Bool.false_ne_true
  subst ht
  unfold fastDiesUp
  rw [if_neg hgo, hcopy]
  extract_lets v time mem u h w x
  have hx : x = w := if_neg hbit
  exact congrArg (State.reach · [4, 5, 6]) hx

theorem managerStarted_of_other (h : s.start.flow = 0 ∨ s.start.milestone ≠ 6) : managerStarted s = s := if_pos h

/-- In the power-on flow MC_3 is extended as well. -/
theorem managerStarted_of_powerOn (hflow : s.start.flow = 1) (hmilestone : s.start.milestone = 6)
    (ht : t = (s.measureStages 1 fun k => k == 4).measureStages 2 fun k => k == 2 || k == 3) :
    managerStarted s = (s.noteKeys ((numbersFrom 0 98).foldl State.repairKey
      (t.extendChain 3 (sha384 t.securityRecord)))).reach [7] := by
  have hgo : ¬ (s.start.flow = 0 ∨ s.start.milestone ≠ 6) := by simp [hflow, hmilestone]
  unfold managerStarted
  rw [if_neg hgo]
  extract_lets u v w x
  have hu : u = s := if_neg (by simp [hflow])
  have hw : w = t := ht ▸ congrArg (fun u : State =>
    (u.measureStages 1 fun k => k == 4).measureStages 2 fun k => k == 2 || k == 3) hu
  have hx : x = t.extendChain 3 (sha384 t.securityRecord) := hw ▸ if_pos hflow
  rw [hx]

theorem configLoad_of_other (h : s.start.flow = 0 ∨ s.start.milestone ≠ 7) : configLoad s = s := if_pos h

/-- Milestone 8 is reached: the module operates, and the load's counters start at 0. -/
def State.operating (s : State) : State :=
  let t := ((s.reach [8]).withStart fun x => { x with flow := 0 }).setNum Od.bootState 1
  ((t.setNum Od.configLoadRefusals 0).setNum Od.configLoadLastRefused 0).setNum Od.configLoadGtc s.gtc

/-- With no configuration saved, nothing is loaded. -/
theorem configLoad_of_empty (hflow : s.start.flow = 1) (hmilestone : s.start.milestone = 7)
    (hzero : s.dict.copy0 = .none_) (hone : s.dict.copy1 = .none_) (hdefaults : s.dict.restoreDefaults = false) :
    configLoad s = s.operating.setNum Od.configLoadedFrom 0 := by
  have hgo : ¬ (s.start.flow = 0 ∨ s.start.milestone ≠ 7) := by simp [hflow, hmilestone]
  have hcopy : s.configCopy = none := by
    simp only [State.configCopy, hdefaults, hzero, hone, ConfigCopy.none_, Bool.false_eq_true, if_false]
  have hquiet : ¬ ((!ConfigCopy.none_.valid && ConfigCopy.none_.sequence != 0) = true) := by decide
  have hpowerOn : ¬ s.start.flow = 4 := by simp [hflow]
  rw [configLoad, if_neg hgo]
  simp only [hcopy, hzero, hone, hdefaults, List.foldl_cons, List.foldl_nil, if_neg hquiet, if_neg hpowerOn,
    Bool.false_eq_true, if_false]
  rfl

/-! ### Resets on request (R671, R673) -/

theorem wrst_of_ignored (ht : t = s.raiseOcc 0xE08 0x80 0 2 0)
    (h : s.start.flow ≠ 0 ∨ s.start.warm.isSome = true ∨ 2 ≤ s.shedLevel ∨ s.num Od.bootState ≠ 1) :
    wrst s = t.raiseOcc 0xE08 0x80 0 3 0 := by
  subst ht
  exact if_pos h

theorem wrst_of_operating (ht : t = s.raiseOcc 0xE08 0x80 0 2 0) (hflow : s.start.flow = 0) (hwarm : s.start.warm = none)
    (hshed : s.shedLevel < 2) (hboot : s.num Od.bootState = 1) : wrst s = t.beginWarm 2 5 := by
  subst ht
  exact if_neg (by simp [hflow, hwarm, hboot, Nat.not_le.mpr hshed])

section
variable (hlets : s.lets who Od.moduleReset false 0 (.num 1) = true)
include hlets

theorem moduleResetWarm_of_idle (hwarm : s.start.warm = none) (hshed : s.shedLevel < 2) :
    moduleResetWarm who s = .ok (s.beginWarm 2 6) := by
  simp only [moduleResetWarm, lets_ok hlets, hwarm, hshed, Option.isNone_none, ok_bind, decide_true, need_true]

theorem moduleResetWarm_of_running (hwarm : s.start.warm.isSome = true) :
    moduleResetWarm who s = .error .inProgress := by
  have hsome : s.start.warm.isNone = false := by rw [← Option.not_isSome, hwarm]; rfl
  simp only [moduleResetWarm, lets_ok hlets, hsome, ok_bind, need_false, error_bind]

theorem moduleResetWarm_of_shed (hwarm : s.start.warm = none) (hshed : 2 ≤ s.shedLevel) :
    moduleResetWarm who s = .error .shedLevel := by
  simp only [moduleResetWarm, lets_ok hlets, hwarm, Nat.not_lt.mpr hshed, Option.isNone_none, ok_bind, decide_false,
    need_true, need_false, error_bind]

end

section
variable (hlets : s.lets who Od.moduleReset false 0 (.num 2) = true)
include hlets

theorem moduleResetPowerOn_of_quiet (hstopped : s.inst.present.any s.instRunning = false) (hpaddle : s.authority = false) :
    moduleResetPowerOn who s = .ok (s.powerOnReset 4) := by
  simp only [moduleResetPowerOn, lets_ok hlets, hstopped, hpaddle, ok_bind, Bool.not_false, Bool.and_self, need_true]

theorem moduleResetPowerOn_of_busy (hbusy : s.inst.present.any s.instRunning = true ∨ s.authority = true) :
    moduleResetPowerOn who s = .error .precondition := by
  have hnot : (!s.inst.present.any s.instRunning && !s.authority) = false := by
    rcases hbusy with h | h
    · rw [h, Bool.not_true, Bool.false_and]
    · rw [h, Bool.not_true, Bool.and_false]
  simp only [moduleResetPowerOn, lets_ok hlets, hnot, ok_bind, need_false, error_bind]

end

theorem moduleResetForced_of_lets (hlets : s.lets who Od.moduleReset false 0 (.num 3) = true) :
    moduleResetForced who s = .ok (s.powerOnReset 4) := by
  simp only [moduleResetForced, lets_ok hlets, ok_bind]

/-! ### The end of a warm reset (R607) and shore wake (R674) -/

theorem warmResetDone_of_none (h : s.start.warm = none) : warmResetDone s = s := by
  simp only [warmResetDone, h]

/-- The booted image, checked once more, is valid: its manager is measured and starts. -/
def State.restartManager (s t : State) (k : Nat) : State :=
  (s.noteKeys (((t.setImageStatus t.sec.booted 1).zeroChains [1, 4, 5, 6, 7]).measureStages 1 fun n => n == 4)).raisePowerOn k

/-- It fails with status `t.imageCheck t.sec.booted`, and the host complex stops in Recovery. -/
def State.stopInRecovery (t : State) : State :=
  (((t.setImageStatus t.sec.booted (t.imageCheck t.sec.booted)).raise 0xD00 (0x2000 + t.imageCheck t.sec.booted) 0x80 0
    (payFault t.sec.booted 1)).setNum Od.bootState 2).raiseOcc 0xD00 0x80 0 3 0

theorem warmResetDone_of_some {k : Nat} (h : s.start.warm = some k) (ht : t = s.withStart fun x => { x with warm := none }) :
    warmResetDone s = if t.imageCheck t.sec.booted = 1 then s.restartManager t k else t.stopInRecovery := by
  subst ht
  unfold warmResetDone
  rw [h]
  extract_lets start t u v
  dsimp only
  by_cases hcheck : u = 1
  · have hv : v = t.setImageStatus t.sec.booted 1 := congrArg (t.setImageStatus t.sec.booted) hcheck
    rw [if_pos hcheck, hv]
    exact (if_pos hcheck).symm
  · rw [if_neg hcheck]
    exact (if_neg hcheck).symm

theorem shoreWake_of_not_asleep (h : s.energy.wake = none ∨ s.num Od.bootState ≠ 3 ∨ s.energy.tripAt.isSome = true) :
    shoreWake s = s := by
  unfold shoreWake
  split
  · rfl
  · rename_i hwake
    exact if_pos (h.resolve_left (by simp [hwake]))

/-- A wake at shed level 0 raises no event of the shed level. -/
theorem shoreWake_of_asked {c : Nat} (hwake : s.energy.wake = some c) (hboot : s.num Od.bootState = 3)
    (htrip : s.energy.tripAt = none) (hshed : field (s.num Od.hamperStatus) 25 3 = 0)
    (ht : t = ((s.withEnergy fun x => { x with wake := none, gated := [], asleep := [] }).setNum Od.hamperStatus
      (setField (s.num Od.hamperStatus) 25 3 0)).withPair (fun x => { x with retryAt := 0 })) :
    shoreWake s = (((((t.noteReset 4 c).count32 Od.shoreWakes).setBlob Od.bootTimeline (List.replicate 64 0)).setNum
      Od.bootState 0).withStart (fun x => { x with flow := 4, milestone := 3, railsOut := 0 })).raisePowerOn 4 := by
  have hgo : ¬ (s.num Od.bootState ≠ 3 ∨ s.energy.tripAt.isSome = true) := by simp [hboot, htrip]
  subst ht
  unfold shoreWake
  rw [hwake]
  simp only [if_neg hgo, if_pos hshed]
  rfl

end

/-- Settles O45: each clause is one branch of its command. -/
theorem resetsAndStartUp : Obligations.ResetsAndStartUp := by
  unfold Obligations.ResetsAndStartUp
  refine ⟨fun s => ⟨rfl, rfl⟩, fun s c => ⟨rfl, rfl, rfl, rfl, rfl, rfl⟩, ?notHeld, ?held, ?rails, ?outside, ?notDue, ?dies,
    ?manager, ?managerOther, ?configOther, ?config, ?wrst, ?warm, ?powerOn, ?forced, ?notWarm, ?warmDone, ?noWake, ?wake⟩
  case notHeld =>
    intro s b l h
    rw [exec_powerOnResetEnd, execPowerOnResetEnd, powerOnResetEnd_of_none h]
  case held =>
    intro s t b l h ht
    rw [exec_powerOnResetEnd, execPowerOnResetEnd, powerOnResetEnd_of_held h (by decide) ht]
  case rails =>
    intro s o hwait ho
    rw [exec_railCheckRetry, execRailCheckRetry, railCheck_of_waiting hwait rfl, if_pos ho, ho]
  case outside =>
    intro s o hwait ho
    rw [exec_railCheckRetry, execRailCheckRetry, railCheck_of_waiting hwait rfl, if_neg ho]
  case notDue =>
    intro s h
    rw [exec_fastDiesUp, execFastDiesUp, fastDiesUp_of_not_due h]
  case dies =>
    intro s t hwait hrails hcopy hpowered ht
    rw [exec_fastDiesUp, execFastDiesUp, fastDiesUp_of_due hwait hrails hcopy hpowered ht]
  case manager =>
    intro s t hflow hmilestone ht
    rw [exec_managerStarted, execManagerStarted, managerStarted_of_powerOn hflow hmilestone ht]
  case managerOther =>
    intro s h
    rw [exec_managerStarted, execManagerStarted, managerStarted_of_other h]
  case configOther =>
    intro s h
    rw [exec_configLoad, execConfigLoad, configLoad_of_other h]
  case config =>
    rintro s t hflow hmilestone hzero hone hdefaults rfl
    rw [exec_configLoad, execConfigLoad, configLoad_of_empty hflow hmilestone hzero hone hdefaults, State.operating]
  case wrst =>
    intro s t ht
    simp only [exec_wrstN, execWrstN]
    exact ⟨fun h => by rw [wrst_of_ignored ht h], fun hflow hwarm hshed hboot => by
      rw [wrst_of_operating ht hflow hwarm hshed hboot]⟩
  case warm =>
    intro s who hlets
    simp only [exec_moduleResetWarm, execModuleResetWarm]
    refine ⟨fun hwarm hshed => ⟨_, ?_, rfl⟩, fun hwarm => ?_, fun hwarm hshed => ?_⟩
    · rw [moduleResetWarm_of_idle hlets hwarm hshed, answer_ok]
    · rw [moduleResetWarm_of_running hlets hwarm, answer_error]
    · rw [moduleResetWarm_of_shed hlets hwarm hshed, answer_error]
  case powerOn =>
    intro s who hlets
    simp only [exec_moduleResetPowerOn, execModuleResetPowerOn]
    refine ⟨fun hstopped hpaddle => ?_, fun hrun => ?_, fun hpaddle => ?_⟩
    · rw [moduleResetPowerOn_of_quiet hlets hstopped hpaddle, answer_ok]
    · rw [moduleResetPowerOn_of_busy hlets (.inl hrun), answer_error]
    · rw [moduleResetPowerOn_of_busy hlets (.inr hpaddle), answer_error]
  case forced =>
    intro s who hlets
    rw [exec_moduleResetForced, execModuleResetForced, moduleResetForced_of_lets hlets, answer_ok]
  case notWarm =>
    intro s h
    rw [exec_warmResetDone, execWarmResetDone, warmResetDone_of_none h]
  case warmDone =>
    intro s t k h ht
    rw [exec_warmResetDone, execWarmResetDone, warmResetDone_of_some h ht, State.restartManager,
      State.stopInRecovery]
  case noWake =>
    intro s h
    rw [exec_shoreWake, execShoreWake, shoreWake_of_not_asleep h]
  case wake =>
    intro s t c hwake hboot htrip hshed ht
    rw [exec_shoreWake, execShoreWake, shoreWake_of_asked hwake hboot htrip hshed ht]

end Sys2Proof.Machine
end

section
/-! PROOFS. Board interfaces: reference clock, links, boot flash and management buses (Chapter 20). -/

namespace Sys2Proof.Machine

section
variable {s t : State} {who : Caller}

/-! ### Links and the reference clock (R693 to R696) -/

theorem mgmtLinkChange_of_no_reference {x : Nat} (hx : x ≠ 0) (href : s.num Od.srefState = 0) : mgmtLinkChange x s = s :=
  if_pos ⟨hx, href⟩

theorem mgmtLinkChange_of_reference {x : Nat} (href : s.num Od.srefState ≠ 0) (hnew : s.num Od.mgmtLinkState ≠ x) :
    mgmtLinkChange x s = (s.setNum Od.mgmtLinkState x).raiseState 0xE04 0x80 0 (s.num Od.mgmtLinkState) x 0 0 :=
  (if_neg fun h => href h.2).trans (if_neg hnew)

section
variable {w r : Nat} (hw : w = 1 ∨ w = 2 ∨ w = 4 ∨ w = 8 ∨ w = 16) (hlow : 1 ≤ r) (hhigh : r ≤ 5)
include hw hlow hhigh

theorem pcieLinkChange_of_valid : pcieLinkChange w r s =
    if (s.num Od.srefState != 0 && !(s.num Od.pcieLinkState).testBit 16) = true then s.setPcie w r else s := by
  have hvalid : ([1, 2, 4, 8, 16].contains w && decide (1 ≤ r) && decide (r ≤ 5)) = true := by
    simp [hw, hlow, hhigh]
  simp only [pcieLinkChange, hvalid, Bool.true_and, if_true]

theorem pcieLinkChange_of_reference (href : s.num Od.srefState ≠ 0) (hperst : (s.num Od.pcieLinkState).testBit 16 = false) :
    pcieLinkChange w r s = s.setPcie w r := by
  rw [pcieLinkChange_of_valid hw hlow hhigh]
  exact if_pos (by simp [href, hperst])

theorem pcieLinkChange_of_no_reference (href : s.num Od.srefState = 0) : pcieLinkChange w r s = s := by
  rw [pcieLinkChange_of_valid hw hlow hhigh]
  exact if_neg (by simp [href])

end

theorem srefCheck_of_good {p : Int} (hp : p.natAbs ≤ 100) (hstate : s.num Od.srefState = 1) : srefCheck true p s = s := by
  simp only [srefCheck, Bool.not_true, Bool.false_eq_true, if_false, if_neg (Nat.not_lt.mpr hp), hstate, if_true]

theorem srefCheck_of_deviating {p : Int} (hp : 100 < p.natAbs) (hstate : s.num Od.srefState ≠ 2) :
    srefCheck true p s = (s.setNum Od.srefState 2).raiseState 0xE04 0x80 0 (s.num Od.srefState) 2 0 0 := by
  simp only [srefCheck, Bool.not_true, Bool.false_eq_true, if_false, if_pos hp, if_neg hstate.symm,
    if_neg (show ¬ 2 = 0 by decide)]

/-- A lost reference takes the PLLs, the management link and PCIe down. -/
theorem srefCheck_of_lost {p : Int} (hstate : s.num Od.srefState ≠ 0)
    (ht : t = (s.setNum Od.srefState 0).raiseState 0xE04 0x80 0 (s.num Od.srefState) 0 0 0) :
    srefCheck false p s =
      (((numbersFrom 0 32).foldl (fun (u : State) k => octetPllLockLoss k u) t).setMgmtLink 0).setPcie 0 0 := by
  subst ht
  simp only [srefCheck, Bool.not_false, if_true, if_neg hstate.symm]

theorem pePerst_of_same {a : Bool} (h : (s.num Od.pcieLinkState).testBit 16 = a) : pePerst a s = s := if_pos h

section
variable {w : Nat} (hbit : (s.num Od.pcieLinkState).testBit 16 = false) (hw : w = setField (s.num Od.pcieLinkState) 16 1 1)
  (ht : t = (functionLevelReset 0 ((s.setNum Od.pcieLinkState w).raiseFlag 0xE00 0x80 0 true 16 w)).setPcie 0 0)
include hbit hw ht

theorem pePerst_eq_of_asserted :
    pePerst true s = { t with
      inst := { t.inst with numVfs := 0 }
      ev := { t.ev with msixMasked := [], msixPending := [] } } := by
  have hgo : ¬ (s.num Od.pcieLinkState).testBit 16 = true := by rw [hbit]; exact Bool.false_ne_true
  rw [ht, hw, pePerst]
  simp only [if_neg hgo, if_true]

/-- The physical function and the link are reset, and with them the other functions and the vectors. -/
theorem pePerst_of_asserted : pePerst true s = (t.withInst fun x => { x with numVfs := 0 }).withEv fun x =>
    { x with msixMasked := [], msixPending := [] } :=
  (pePerst_eq_of_asserted hbit hw ht).trans rfl

end

/-! ### Boot flash (R698, R699) -/

/-- Block `b` of the image that does not run is erased, and `v` is to be written to it. -/
def State.eraseBlock (s : State) (b : Nat) (v : Bytes) : State :=
  ((s.withSec fun x => { x with
    flash := tabSet none x.flash (s.otherFlash * 3072 + b) (some (List.replicate 32768 0xFF)) }).withSec fun x =>
      { x with imageStatus := tabSet 0 x.imageStatus s.otherFlash 0 }).withBoard fun x =>
        { x with flashWrite := some ⟨s.otherFlash, some (b, v)⟩ }

section
variable {b : Nat} {v : Bytes} (hform : s.letsForm who (Od.bootFlashBlock + b) false 0 (.bytes v) = true)
include hform

theorem bootFlashBlock_of_free (hfree : s.board.flashWrite = none) (hsaving : s.dict.saving = none) (hshed : s.shedLevel < 2) :
    bootFlashBlock who b v s = .ok (s.eraseBlock b v) := by
  obtain ⟨row, hgate⟩ := letsForm_ok hform
  simp only [bootFlashBlock, hgate, hfree, hsaving, hshed, Option.isNone_none, Bool.and_self, decide_true, ok_bind, need_true]
  rfl

theorem bootFlashBlock_of_running {j : FlashJob} (hjob : s.board.flashWrite = some j) :
    bootFlashBlock who b v s = .error .inProgress := by
  obtain ⟨row, hgate⟩ := letsForm_ok hform
  simp only [bootFlashBlock, hgate, hjob, Option.isNone_some, Bool.false_and, ok_bind, need_false, error_bind]

end

section
variable {d b : Nat} {v : Bytes} (hjob : s.board.flashWrite = some ⟨d, some (b, v)⟩)
include hjob

theorem bootFlashBlockDone_of_programmed : bootFlashBlockDone true s =
    (((s.withBoard fun x => { x with flashWrite := none }).withSec fun x => { x with
      flash := tabSet none x.flash (d * 3072 + b) (some v) }).setLastCode d 0).raiseDone
        0xE07 0x80 0 (Od.bootFlashBlock + b) 0 := by
  simp only [bootFlashBlockDone, hjob]
  rfl

theorem bootFlashBlockDone_of_failed : bootFlashBlockDone false s =
    ((s.withBoard fun x => { x with flashWrite := none }).setLastCode d Code.verifyFailed.value).raiseDone
      0xE07 0x80 0 (Od.bootFlashBlock + b) Code.verifyFailed.value := by
  simp only [bootFlashBlockDone, hjob]
  rfl

end

theorem bootFlashVerify_of_idle {v : Nat} (hlets : s.lets who Od.bootFlashVerify false 0 (.num v) = true)
    (hidle : s.board.flashVerify = none) : bootFlashVerify who v s =
      .ok (s.withBoard fun x => { x with flashVerify := some ⟨s.otherFlash, none⟩ }) := by
  simp only [bootFlashVerify, lets_ok hlets, hidle, Option.isNone_none, ok_bind, need_true]
  rfl

theorem bootFlashVerifyDone_of_running {j : FlashJob} (hjob : s.board.flashVerify = some j) : bootFlashVerifyDone s =
    (((s.withBoard fun x => { x with flashVerify := none }).setImageStatus j.device (s.imageCheck j.device)).setLastCode
      j.device 0).raiseDone 0xE07 0x80 0 Od.bootFlashVerify 0 := by
  simp only [bootFlashVerifyDone, hjob]
  rfl

/-! ### MB_0 and MB_1 as targets (R702, R704) -/

section
variable (hbuses : s.busesRun = false)
include hbuses

theorem mb0TargetWrite_of_stopped {p : Nat} {b : Bytes} : mb0TargetWrite p b s = s := if_pos (by rw [hbuses]; rfl)

theorem mb1RecordReceive_of_stopped {p : Nat} {b : Bytes} : mb1RecordReceive p b s = s := if_pos (by rw [hbuses]; rfl)

end

section
variable (hbuses : s.busesRun = true)
include hbuses

theorem mb0TargetWrite_of_octet {p : Nat} {o : Byte} (ht : t = s.mb0Write p o.toNat) :
    mb0TargetWrite p [o] s = t.withBoard fun x => { x with pointer0 := (p + 1) % 256 } := by
  subst ht
  exact if_neg (by simp [hbuses])

/-- The peer's record is kept with the time of its receipt, and the pointer moves past it. -/
theorem mb1RecordReceive_of_record {b : Bytes} (hlength : b.length = 8) : mb1RecordReceive 0x40 b s =
    (s.withBoard fun x => { x with pointer1 := 0x48 }).setBlob Od.mb1PeerRecord (b ++ toLE 8 s.gtc) := by
  have hgo : ¬ (!s.busesRun) = true := by simp [hbuses]
  rw [mb1RecordReceive, if_neg hgo]
  simp only [List.take_of_length_le hlength.le, hlength]
  rfl

end

/-! ### The module as a controller (R703 to R707) -/

theorem boardControllerWrite_of_due {a : Bool} {m : MbMsg} (h : s.boardDue = some m) :
    boardControllerWrite a s = s.boardStarted.mbAttempt 0 m a := by
  simp only [boardControllerWrite, h]

theorem boardControllerWrite_of_none {a : Bool} (h : s.boardDue = none) : boardControllerWrite a s = s := by
  simp only [boardControllerWrite, h]

theorem mb1RecordSend_of_due {k a : Bool} {m : MbMsg} (h : s.recordDue k = some m) :
    mb1RecordSend k a s = (s.recordStarted k).mbAttempt 1 m a := by
  simp only [mb1RecordSend, h]

theorem mb1RecordSend_of_none {k a : Bool} (h : s.recordDue k = none) : mb1RecordSend k a s = s := by
  simp only [mb1RecordSend, h]

theorem mbRetry_of_due {n : Nat} {a : Bool} {m : MbMsg} (h : s.retryDue n = some m) :
    mbRetry n a s = s.mbAttempt n m a := by
  simp only [mbRetry, h]

theorem mbRetry_of_none {n : Nat} {a : Bool} (h : s.retryDue n = none) : mbRetry n a s = s := by
  simp only [mbRetry, h]

theorem arbitrationLost_of_retry {n : Nat} {k : Bool} {m : MbMsg} (h : s.retryDue n = some m) :
    arbitrationLost n k none s = ((s.setBusLost n true).count32 (Od.mbArbitrationLost + n)).mbFail n m := by
  simp only [arbitrationLost, h]

end

/-- Settles O46: each clause is one branch of its command. -/
theorem boardLinksFlashAndBuses : Obligations.BoardLinksFlashAndBuses := by
  unfold Obligations.BoardLinksFlashAndBuses
  refine ⟨?noLink, ?link, ?pcie, fun s => rfl, ?good, ?deviating, ?lost, ?same, ?perst, ?block, ?blockRunning, ?blockDone,
    ?verify, ?verifyDone, ?stopped, ?octet, ?record, ?board, ?noBoard, ?send, ?noSend, ?retry, ?noRetry, ?arbitration,
    fun s n b => rfl⟩
  case noLink =>
    intro s x hx href
    rw [exec_mgmtLinkChange, execMgmtLinkChange, mgmtLinkChange_of_no_reference hx href]
  case link =>
    intro s x href hnew
    rw [exec_mgmtLinkChange, execMgmtLinkChange, mgmtLinkChange_of_reference href hnew]
  case pcie =>
    intro s w r hw hlow hhigh
    rw [exec_pcieLinkChange, execPcieLinkChange]
    exact ⟨fun href hperst => by rw [pcieLinkChange_of_reference hw hlow hhigh href hperst],
      fun href => by rw [pcieLinkChange_of_no_reference hw hlow hhigh href]⟩
  case good =>
    intro s p hp hstate
    rw [exec_srefCheck, execSrefCheck, srefCheck_of_good hp hstate]
  case deviating =>
    intro s p hp hstate
    rw [exec_srefCheck, execSrefCheck, srefCheck_of_deviating hp hstate]
  case lost =>
    intro s t p hstate ht
    rw [exec_srefCheck, execSrefCheck, srefCheck_of_lost hstate ht]
  case same =>
    intro s a h
    rw [exec_pePerstN, execPePerstN, pePerst_of_same h]
  case perst =>
    intro s t w hbit hw ht
    rw [exec_pePerstN, execPePerstN, pePerst_of_asserted hbit hw ht]
  case block =>
    intro s who b v hform hfree hsaving hshed
    rw [exec_bootFlashBlock, execBootFlashBlock, bootFlashBlock_of_free hform hfree hsaving hshed, answer_ok, State.eraseBlock]
  case blockRunning =>
    intro s who b v j hform hjob
    rw [exec_bootFlashBlock, execBootFlashBlock, bootFlashBlock_of_running hform hjob, answer_error]
  case blockDone =>
    intro s d b v hjob
    rw [exec_bootFlashBlockDone, execBootFlashBlockDone, exec_bootFlashBlockDone, execBootFlashBlockDone,
      bootFlashBlockDone_of_programmed hjob, bootFlashBlockDone_of_failed hjob]
    exact ⟨rfl, rfl⟩
  case verify =>
    intro s who v hlets hidle
    rw [exec_bootFlashVerify, execBootFlashVerify, bootFlashVerify_of_idle hlets hidle, answer_ok]
  case verifyDone =>
    intro s j hjob
    rw [exec_bootFlashVerifyDone, execBootFlashVerifyDone, bootFlashVerifyDone_of_running hjob]
  case stopped =>
    intro s p b hbuses
    rw [exec_mb0TargetWrite, execMb0TargetWrite, exec_mb1RecordReceive, execMb1RecordReceive,
      mb0TargetWrite_of_stopped hbuses, mb1RecordReceive_of_stopped hbuses]
    exact ⟨rfl, rfl⟩
  case octet =>
    intro s t p o hbuses ht
    rw [exec_mb0TargetWrite, execMb0TargetWrite, mb0TargetWrite_of_octet hbuses ht]
  case record =>
    intro s b hbuses hlength
    rw [exec_mb1RecordReceive, execMb1RecordReceive]
    exact congrArg Host.Outcome.next (mb1RecordReceive_of_record hbuses hlength)
  case board =>
    intro s a m h
    rw [exec_boardControllerWrite, execBoardControllerWrite, boardControllerWrite_of_due h]
  case noBoard =>
    intro s a h
    rw [exec_boardControllerWrite, execBoardControllerWrite, boardControllerWrite_of_none h]
  case send =>
    intro s k a m h
    rw [exec_mb1RecordSend, execMb1RecordSend, mb1RecordSend_of_due h]
  case noSend =>
    intro s k a h
    rw [exec_mb1RecordSend, execMb1RecordSend, mb1RecordSend_of_none h]
  case retry =>
    intro s n a m h
    rw [exec_mbRetry, execMbRetry, mbRetry_of_due h]
  case noRetry =>
    intro s n a h
    rw [exec_mbRetry, execMbRetry, mbRetry_of_none h]
  case arbitration =>
    intro s n k m h
    rw [exec_arbitrationLost, execArbitrationLost, arbitrationLost_of_retry h]

end Sys2Proof.Machine
end
